-- ==== Sys2Proof/Word.lean ====
section
/-! DEFINITION. The word types of the window and the sizes that number the hub's parts: mailboxes, links, ports. -/
namespace Sys2Proof

/-- One byte of a payload, a buffer or a memory. -/
abbrev Byte := BitVec 8

/-- One 32-bit word of the host register window (R14, R57). -/
abbrev Word := BitVec 32

/-- A mailbox, MB0 to MB3 (Table 2.1). -/
abbrev MbNo := Fin 4

/-- A lane pair of a link, 0 to 3 (R96). -/
abbrev PairNo := Fin 4

/-- A display output, 0 to 3 (Table 0.1). -/
abbrev OutNo := Fin 4

/-- A host A to D by its uplink number (R93, R385). -/
abbrev HostNo := Fin 4

/-- An uplink of this chip: 0 is A, 1 is B. -/
abbrev Up := Fin 2

/-- A link of this chip: 0 is uplink A, 1 is uplink B, 2 is the bond link. -/
abbrev LinkNo := Fin 3

/-- A downstream PCIe port (Table 0.1). -/
abbrev PciePort := Fin 2

/-- A physical Ethernet port, ETH0 or ETH1. -/
abbrev EthPort := Fin 2

/-- A CAN port, CAN0 or CAN1. -/
abbrev CanPort := Fin 2

/-- A port of the network switch core (Table 8.1). -/
abbrev SwPort := Fin 18

/-- A port of the fabric crossbar (R28). -/
abbrev FabPort := Fin 20

/-- A clocked island, numbered from 0: the value i is island i + 1 of Table 1.6. -/
abbrev Island := Fin 12

/-- A 16-bit field of a header or a counter. -/
abbrev Half := BitVec 16

/-- A 64-bit value: a time, a counter, a register pair. -/
abbrev Dword := BitVec 64

end Sys2Proof
end

