-- ==== Sys2Proof/Config.lean ====
section
/-! DEFINITION. Constants of the part and the free values: what the spec leaves open or takes from another standard. Nothing in the model can see their values. -/
namespace Sys2Proof.Config

/-- A fresh unconstrained value of `w` bits; the state's counter of free values is the argument (log entry 2). -/
opaque freeValue (w : Nat) : Nat → BitVec w

/-- A fresh unconstrained truth value (log entry 2). -/
opaque freeBool : Nat → Bool

/-- Whether EFU_VIN is above 4.40 V when the channels are settled (R428): an input of the board, free, by the number of free
values drawn so far and the hub time (log entry 51). -/
opaque efuVinOk : Nat → BitVec 64 → Bool

/-- The 16-byte serial number in the identity store (R504), as its byte k. -/
opaque serialByte : Nat → Byte

/-- The Ethernet source address of ETH0 and ETH1 in the identity store, in wire order, as its byte k (R321, R504). -/
opaque ethAddrByte : Nat → Nat → Byte

/-- Byte k of the SHA-384 digest of a byte string (FIPS 180-4; log entry 3). -/
opaque sha384Byte : List Byte → Nat → Byte

/-- Whether an ECDSA P-384 signature (r then s) over a message verifies with a public key (FIPS 186-5; log entry 3). -/
opaque ecdsaVerify : (key msg sig : List Byte) → Bool

/-- Byte k of the public key of Dvornex held in the identity store (R506). -/
opaque dvornexKeyByte : Nat → Byte

/-- Byte k of the attestation key's signature over a message (R515; log entry 3). -/
opaque attestSigByte : List Byte → Nat → Byte

/-- Byte k of the attestation certificate chain (R515). -/
opaque certByte : Nat → Byte

/-- The length in bytes of the attestation certificate chain (R515). -/
opaque certLength : Nat

/-- Byte k of the n-th nonce LC_STATUS issues (R526; log entry 3). -/
opaque nonceByte : Nat → Nat → Byte

/-- The version word of the Karxo image in a part's flash as it leaves the factory (log entry 13). -/
opaque imageVersion : Word

/-- Byte k of the digest in that image's header (log entry 13). -/
opaque imageDigestByte : Nat → Byte

/-- The words of on-die SRAM that a scrub sweep reads, and whether a macro and row exist; the spec states neither (R480,
R492). -/
opaque sramWords : Nat
opaque sramExists : (macroNo row : Nat) → Bool

/-- The bucket of the address table that an address and VID fall in; the spec does not state the hash (R323). -/
opaque addressBucket : BitVec 48 → BitVec 12 → Fin 4096

/-- Fields of the hub descriptors that the spec leaves open: byte k of the USB 2.0 and of the SuperSpeedPlus one (R283). -/
opaque hubDescriptorByte : Bool → Nat → Byte

/-- Byte k of a configuration, string or other descriptor of a USB function, beyond what R279 and R303 state. -/
opaque descriptorByte : (function index : Nat) → Nat → Byte

/-- The size in bytes of a block of a namespace, by port and namespace (R306). -/
opaque nvmeBlock : Nat → Nat → Nat

/-- Whether the board wires PCIEn_CLKREQ_N of a port, which L1 substates need (R246). -/
opaque clkreqWired : Nat → Bool

/-- The partner's performance level at a hub time; no row reports its changes (R395). -/
opaque partnerPl : Dword → Fin 4

/-- The bytes of a message on the bond link's own tunnels, whose form the spec does not give: forwarded commands and accesses,
relayed events, pair control, and the replication of state (R376). -/
opaque bondText : Nat → List Byte

end Sys2Proof.Config
end

