-- ==== Sys2Proof/Names.lean ====
section
/-! DEFINITION. The types that the commands and the state of the block share: requesters, commands of Karxo, frames, and what comes in at the balls. -/
namespace Sys2Proof

/-- A requester of the window or of a command, with the codes of Table 14.1. -/
inductive Requester where
  | hostA | hostB | owner | partner | hostC | hostD | engine
deriving DecidableEq, Repr

/-- Where a Karxo command comes from: one of the hub's own mailboxes, the partner over bond TID 0 (R385), with the
rights it runs with and the number its response is returned under; or, on Night, a change that Day forwards (R391). -/
inductive CmdSrc where
  | mailbox (m : MbNo)
  | forwarded (req : Requester) (id : Nat)
  | mirror (req : Requester)
deriving DecidableEq, Repr

/-- A Karxo command as taken from its slot (Table 2.9). `rsvd` says that a reserved header bit was set. The opcode is
the row's own; the length is the payload's. -/
structure Cmd where
  src : CmdSrc
  seq : Half
  tag : Half
  flags : BitVec 8
  rsvd : Bool
  target : Word
  payload : List Byte
deriving DecidableEq, Repr

/-- What the partner's chip reports of itself when it holds a matching join (R381, R384). -/
structure PartnerJoin where
  mode : BitVec 8
  wantsDay : Bool
  stepping : Byte
  level : Byte
  pl : Fin 4
  nightBusy : Bool
  admits : Bool
  profile : Fin 4
deriving DecidableEq, Repr

/-- A 66-bit block on a lane (R110): its sync header, whose bit 0 is the first on the wire, and its 64 payload bits in
transmission order from bit 0. -/
structure Block where
  sync : BitVec 2
  word : BitVec 64
deriving DecidableEq, Repr

/-- A link frame once descrambled: its 8-byte header word, 496 payload bytes, and its 8-byte trailer word (Table 3.10). -/
structure RawFrame where
  hdr : BitVec 64
  payload : List Byte
  trl : BitVec 64
deriving DecidableEq, Repr

/-- A sleep state of a lane (Table 3.13). -/
inductive Sleep where
  | quiet | doze | deep
deriving DecidableEq, Repr

/-- A converter on the PMBus: the one of VDD_FAB, or the VBUS converter of an uplink. -/
inductive Converter where
  | vddFab
  | vbus (u : Up)
deriving DecidableEq, Repr

/-- What happens on a display output's hot-plug input (R215). `caps` is the sink's receiver capability: the highest
lane rate code and the lane count; `edid` is what AUX reads of it. -/
inductive HpdEvent where
  | plug (rate : BitVec 3) (lanes : BitVec 3) (edid : List Byte)
  | unplug
  | irq (lostLock : Bool)
deriving DecidableEq, Repr

/-- A slot input of a PCIe port that changes (R267). -/
inductive SlotInput where
  | presence (present : Bool)
  | attention
  | powerFault (fault : Bool)
deriving DecidableEq, Repr

/-- A CAN or CAN FD frame. -/
structure CanFrame where
  id : BitVec 29
  ide : Bool
  fd : Bool
  brs : Bool
  remote : Bool
  data : List Byte
deriving DecidableEq, Repr

/-- The bus state of a CAN port, coded as event 50 (R355). -/
inductive BusState where
  | errorActive | errorPassive | busOff
deriving DecidableEq, Repr

/-- The timing of one of Day's outputs (R394): its frame count, the time in ns since its vertical blanking began, and the
state, lane rate and drive settings of its DisplayPort link as Day trained it. -/
structure OutTiming where
  frame : Word
  age : Dword
  link : Fin 4
  rate : BitVec 3
  drive : Word
deriving DecidableEq, Repr

/-- Traffic Day replicates to Night (R392). -/
inductive Replica where
  | packet (u : Up) (hdr : BitVec 64) (payload : List Byte)
  | eth (p : EthPort) (frame : List Byte) (fcsOk : Bool)
  | can (p : CanPort) (f : CanFrame)
deriving DecidableEq, Repr

/-- A signature boundary (Table 10.4): its kind, the region, queue or uplink in it, and the port or output. -/
structure SigKey where
  kind : Fin 8
  sub : Nat
  port : Nat
deriving DecidableEq, Repr

/-- A supply feed (R414). -/
inductive Feed where
  | a | b
deriving DecidableEq, Repr

/-- The cable found on an uplink (R100, R431): its current in mA, whether an e-marker answers, the signalling field the
e-marker gives, and whether it permits EPR. -/
structure Cable where
  maxMa : Nat
  emarker : Bool
  speed : BitVec 3
  epr : Bool
deriving DecidableEq, Repr

/-- A sink's Request (R433): the object position, the voltage and current asked for, and whether it is an EPR request. -/
structure PdRequest where
  idx : Nat
  mv : Nat
  ma : Nat
  epr : Bool
deriving DecidableEq, Repr

/-- PD messages other than Request (R431). -/
inductive PdOther where
  | getSourceCap
  | getStatus
  | getPpsStatus
  | softReset
  | eprEnter (sinkPdp : Nat)
  | eprKeepAlive
  | eprExit
  | drSwap
  | prSwap
  | vconnSwap
  | other (code : Byte)
deriving DecidableEq, Repr

/-- What a word with a memory error held (R479), or that no engine stores data there (R53). -/
inductive Content where
  | buffer | table | frameStore | overflow | staging | processor | unused
deriving DecidableEq, Repr

/-- A memory error met by an access (R478): an SRAM word by its macro (`sram`), row and word, or a DRAM word by its address; whether
it is uncorrectable; the syndrome; and what the word held. -/
structure EccError where
  dram : Bool
  sram : Half
  row : Half
  word : Half
  addr : BitVec 64
  double : Bool
  syndrome : Word
  content : Content
deriving DecidableEq, Repr

/-- A monitored supply rail (R576). -/
inductive Rail where
  | vddFab | vddIo | vddSerdes | vddDram | other
deriving DecidableEq, Repr

/-- A wake source, by the code PM_STATUS reports (Table 12.4). -/
structure WakeSource where
  code : BitVec 8
deriving DecidableEq, Repr

end Sys2Proof
end

