-- ==== Sys2Proof/Machine/Parts.lean ====
section
/-! DEFINITION. The parts of the state of the block: every register, buffer, table, counter and timer the spec names, by the unit that holds it. -/
namespace Sys2Proof.Machine

/-- Data held by number, sorted by number, with no entry equal to what an unlisted number reads as. -/
abbrev Sparse (β : Type) := List (Nat × β)

/-- A byte memory: the cells that differ from what an unlisted address reads as. -/
abbrev Memory := List Host.Cell

/-- The variants of Table 0.1. -/
inductive Variant where
  | qt9840 | qt9824 | qt9812
deriving DecidableEq, Repr

/-- The operating profiles of Table 0.2. -/
inductive Profile where
  | morning | noon | dusk | midnight
deriving DecidableEq, Repr

/-- The life-cycle states of Table 14.5. -/
inductive Lc where
  | blank | provisioned | deployed | returned | scrapped
deriving DecidableEq, Repr

/-! ### Identity, firmware and the persistent bank (14) -/

/-- A retired DRAM page and the spare page it is remapped to (R482). -/
structure Retire where
  page : Dword
  spare : Dword
deriving DecidableEq, Repr

/-- An SRAM row repaired with a spare row (R481). -/
structure RowRepair where
  sram : Half
  row : Half
deriving DecidableEq, Repr

/-- The identity store: what R504 keeps outside the persistent bank and can change. The serial number, the keys of the
part and its Ethernet addresses never change and are constants of `Config`. -/
structure Identity where
  lc : Lc
  ownerKey : Option (List Byte)
  secVersion : Word
  wipePending : Bool
  rows : List RowRepair
  retired : List Retire
deriving DecidableEq, Repr

/-- What the hub knows of an image in a flash slot: the fields of its header (Table 11), and whether the header is well
formed and the digest and signature verify. -/
structure Image where
  formatOk : Bool
  digestOk : Bool
  sigOk : Bool
  version : Word
  stepping : Byte
  lowest : Byte
  highest : Byte
  kind : Byte
  secVersion : Word
  variants : Word
  digest : List Byte
deriving DecidableEq, Repr

/-- A firmware flash slot: its state code (Table 14.10) and its image. -/
structure Slot where
  state : Fin 5
  image : Option Image
deriving DecidableEq, Repr

/-- A life-cycle change between its identity write and step 7 (R507): until then GLB_STATE shows the state left (R556). -/
structure LcChange where
  old : Lc
deriving DecidableEq, Repr

/-- Firmware flash, the running image, and what is in progress on them (R509 to R514); `bootFail` says that neither slot
held an acceptable image at the last reset. -/
structure Firmware where
  active : Fin 2
  slots : Vector Slot 2
  stageLen : Nat
  stageData : List Byte
  staging : Bool
  running : Image
  level : BitVec 3
  nonce : Option Nat
  lcChange : Option LcChange
  bootFail : Bool
deriving DecidableEq, Repr

/-- The persistent register bank: its 1,024 words and their wear counters (R516, R517). -/
structure Persist where
  words : Sparse Word
  wear : Sparse (BitVec 48)
deriving DecidableEq, Repr

/-- The two world tables (R497, R501). `region` holds, for each 64 MiB entry, its purpose, its secure bit and its
assignee (a requester code, 7 for none). -/
structure RegionEntry where
  purpose : Fin 6
  secure : Bool
  assignee : Fin 8
deriving DecidableEq, Repr

structure Worlds where
  block : Vector Word 32
  region : Vector RegionEntry 128
deriving DecidableEq, Repr

/-! ### Profile, performance level and time (00, 01) -/

/-- Why a change of performance level was started (R36 to R40, R593, R575). -/
inductive PlCause where
  | start
  | profile (p : Profile)
  | forRequest
  | auto
  | restore
deriving DecidableEq, Repr

/-- A change of performance level in progress (R35): the level it leaves and the level it goes to. -/
structure PlChange where
  fromPl : Fin 4
  toPl : Fin 4
  cause : PlCause
deriving DecidableEq, Repr

/-- A command held during a change of performance level (R39, R40): its opcode and the command. -/
structure HeldCmd where
  opcode : Half
  cmd : Cmd
deriving DecidableEq, Repr

/-- The profile, the level whose guarantees apply, the change in progress and the commands
held for it; the DRAM map in force in MiB (R51); and the transactions in a row that each converter left
incomplete (R585). -/
structure Perf where
  profile : Profile
  pl : Fin 4
  change : Option PlChange
  held : List HeldCmd
  lastRaise : Option Dword
  fabConv : Bool
  fabAddr : BitVec 7
  convAbsent : Bool
  frameMiB : Nat
  overflowMiB : Nat
  stagingMiB : Nat
  abandoned : Vector Nat 3
deriving DecidableEq, Repr

/-- Hub time (R16), whether it is unreliable (R46), whether REFCLK runs, and the power state of the chip: held in reset
(RST_N low), whether the start that ends that reset is a cold one, and whether VIN_AON supplies it. -/
structure Clock where
  hubTime : Dword
  untimed : Bool
  refclk : Bool
  inReset : Bool
  coldNext : Bool
  powered : Bool
deriving DecidableEq, Repr

/-! ### Mailboxes, events, the SPI target and the management function's window endpoints (02) -/

/-- A response as Karxo composes it, before it has a slot of the ring (Table 2.10). -/
structure Response where
  tag : Half
  status : Half
  flags : BitVec 8
  seq : Half
  opcode : Half
  payload : List Byte
  ring : Bool
deriving DecidableEq, Repr

/-- One mailbox: its indices, MB_STATUS and MB_CTRL fields, its event mask, the mark for the next event entry (R92),
the responses that wait for a free slot, the sequence numbers queued through the management function, those of them an
upstream bus reset has aborted, and those whose responses carry flag bit 17 (R69); and the in-tunnel interrupt
spacing: a hold-off that runs and an index that advanced during it (R95). -/
structure Mailbox where
  cmdPi : Half
  cmdCi : Half
  rspPi : Half
  rspCi : Half
  evtPi : Half
  evtCi : Half
  evtLost : Half
  fmtErr : Bool
  rstAbort : Bool
  idxErr : Bool
  evtOvf : Bool
  holdoff : Byte
  tunIntEn : Bool
  mask : Dword
  lostMark : Bool
  waiting : List Response
  viaMgmt : List Half
  aborted : List Half
  flag17 : List Half
  intRunning : Bool
  intOwed : Bool
deriving DecidableEq, Repr

/-- What a command that has been taken and not finished waits for. -/
inductive PendKind where
  | held
  | profile (p : Profile)
  | fwErase
  | fwCheck
  | fwActivate
  | allot (u : Up)
  | retrain (l : LinkNo)
  | retrainFull (l : LinkNo)
  | retrainLanes (l : LinkNo)
  | tunClose (h : HostNo) (tid : Byte)
  | displayMode (o : OutNo)
  | layer (o : OutNo) (k : Fin 4)
  | region (o : OutNo)
  | pciePort (p : PciePort)
  | usbOwner
  | netShrink
  | pairJoin
  | pairLeave
  | handover
  | lcTransition
  | partner (id : Nat)
  | security
  | restart (committed : Bool)
deriving DecidableEq, Repr

/-- A command taken whose final response is owed. `posted` says that its PENDING response has been posted; a command
whose first response is still owed has it clear. -/
structure Pending where
  src : CmdSrc
  tag : Half
  seq : Half
  flags : BitVec 8
  opcode : Half
  kind : PendKind
  posted : Bool
deriving DecidableEq, Repr

/-- The event banks (one per requester code 0 to 3), INT_EN0/1, INT_CTRL and the pin (R94). -/
structure Events where
  pend : Vector Dword 4
  intEn : Dword
  holdoff : Byte
  active : Bool
  holdoffRunning : Bool
deriving DecidableEq, Repr

/-- The owner's SPI target: status bits 3 to 1, and the write buffer of R72 with the offset of each word. -/
structure Spi where
  denied : Bool
  format : Bool
  overrun : Bool
  buffer : List (Nat × Word)
deriving DecidableEq, Repr

/-! ### Telemetry and temperature (12, 15) -/

/-- Telemetry: TEL_CFG, TEL_SEQ, the latest sample and the extremes (R550 to R552); the thermal thresholds and the
temperature (R462, R553). -/
structure Telemetry where
  select : Half
  interval : Half
  seq : Word
  time : Dword
  latest : Vector Word 16
  shown : Vector Word 16
  minima : Vector Word 16
  maxima : Vector Word 16
  sampled : Bool
  warnC : Byte
  highC : Byte
  tj : Half
  tjMax : Half
  tjSeen : Bool
  overWarn : Bool
  overHigh : Bool
  overCrit : Bool
deriving DecidableEq, Repr

/-! ### Faults, integrity and self-repair (13) -/

/-- A fault-log entry (Table 13.3), with its 16-bit index. `since` is its time on the clock that runs on through a warm reset,
from which the second of R473 is counted (log entry 83). -/
structure FaultEntry where
  index : Half
  cls : Byte
  reaction : Byte
  boot : Bool
  scrub : Bool
  injected : Bool
  untimed : Bool
  loc : Word
  time : Dword
  since : Dword
  count : Word
  detail : Word
  addr : Dword
deriving DecidableEq, Repr

/-- A fault that FLT_INJECT keeps in force (R492). -/
structure Injection where
  cls : Byte
  loc : Word
  detail : Dword
deriving DecidableEq, Repr

/-- Why the hub is in the safe state (R476). -/
inductive SafeCause where
  | refclk | critical | other | scrapped
deriving DecidableEq, Repr

/-- A check-value channel (R486, R487). `width` 0 is unconfigured; `assign` is a requester code, 7 for none. -/
structure CheckChannel where
  width : Byte
  poly : Dword
  init : Dword
  refIn : Bool
  refOut : Bool
  finalInv : Bool
  assign : Fin 8
deriving DecidableEq, Repr

/-- The scrub engine: the periods stored by SCRUB_CFG, its two positions, the sweeps completed, and the words found with
a corrected error in the sweep that runs and in the one before (R480 to R482, R494). A word is (SRAM macro, row, word)
or a DRAM address; DRAM errors carry their hub time for the 24 h rule. -/
structure Scrub where
  sramMs : Byte
  dramDeciH : Half
  sramPos : Nat
  dramPos : Nat
  sramSweeps : Word
  dramSweeps : Word
  sramNow : List (Half × Half × Half)
  sramLast : List (Half × Half × Half)
  dramNow : List Dword
  dramLast : List Dword
  dramSeen : List (Dword × Dword)
deriving DecidableEq, Repr

/-- The fault log and every detector's state (R472 to R485), the injections (R492), the check-value channels. `poison`
lists the frame-store words that read as poisoned until they are next written, and `secWait` the commands that wait for the
self-test of port 15. -/
structure Faults where
  log : List FaultEntry
  next : Half
  written : Word
  lastEvent : Vector (Option Dword) 24
  disabled : BitVec 24
  counts : Vector Word 24
  isolated : BitVec 20
  testing : BitVec 20
  failed : BitVec 20
  safe : Option SafeCause
  safeTimes : List Dword
  safeStays : Bool
  injections : List Injection
  mismatchOnce : List Word
  restarting : Bool
  lastRestart : Option Dword
  channels : Vector CheckChannel 16
  scrub : Scrub
  poison : List Nat
  secWait : List HeldCmd
deriving DecidableEq, Repr

/-! ### The Xansa link and the bond link (03) -/

/-- The equaliser record of one receiver: CTLE, gain, the twelve taps, the eye margins and the
taps counted in counter 15 (R127, R130, R543). -/
structure EqRecord where
  ctle : BitVec 5
  gain : Byte
  taps : Vector Byte 12
  vEye : Half
  hEye : Byte
  satBits : BitVec 12
deriving DecidableEq, Repr

/-- A data frame of a stream: its sequence number, its MSTREAM bit, FIRST, FILL and the bytes in use. -/
structure LinkFrame where
  seq : BitVec 12
  mstream : Bool
  first : BitVec 6
  fill : BitVec 6
  payload : List Byte
deriving DecidableEq, Repr

/-- A frame kept in the retry buffer, with the number of times it has been replayed (R121, R126). -/
structure RetryFrame where
  frame : LinkFrame
  replays : Nat
deriving DecidableEq, Repr

/-- A packet as the depacker cut it from a stream: its header, the payload and trailer bytes that arrived, and whether
all of them and all of the header did (R156). -/
structure RxPacket where
  hdr : Dword
  body : List Byte
  hdrWhole : Bool
  whole : Bool
  badHdr : Bool
deriving DecidableEq, Repr

/-- Packet bytes waiting to go into frames: the bytes still to send and whether the packet's header is still among
them (R117). -/
structure TxChunk where
  bytes : List Byte
  head : Bool
deriving DecidableEq, Repr

/-- The host's CAP as capability exchange accepted it (Table 3.9). -/
structure HostCap where
  turning : Bool
  retryUnits : BitVec 5
  canSleep : BitVec 3
  permits : BitVec 3
  level : Byte
deriving DecidableEq, Repr

/-- Where a lane turn stands: ALLOT sent, the pair turning, ALLOT_DONE sent and the first frame awaited (R141). -/
inductive TurnPhase where
  | awaitAck | turning | awaitFrame
deriving DecidableEq, Repr

/-- A lane turn in progress (R141): the pair, its new direction, the allotment in force when it ends, the transaction
number, whether a second turn follows, and whether it is a spare turn (R146). -/
structure Turn where
  phase : TurnPhase
  pair : PairNo
  toHub : Bool
  target : Fin 3
  final : Fin 3
  trans : Byte
  spare : Bool
deriving DecidableEq, Repr

/-- A counter's threshold and window (R148): its threshold (0 is off), its window in ms, the count in this window, and
whether the event has been raised in it. -/
structure Threshold where
  threshold : Word
  window : Word
  count : Word
  raised : Bool
deriving DecidableEq, Repr

/-- LINK_SLEEP_POLICY as stored (R544). -/
structure SleepPolicy where
  permitted : BitVec 3
  quietUs : Half
  dozeUs : Half
  deepMs : Half
deriving DecidableEq, Repr

/-- One link: uplink A, uplink B, or the bond link. `state` is the code of Table 3.4; `phase` is the bring-up state a
retrain has reached while `state` shows 8. `cc` is 0 for nothing attached, 1 or 2 for the CC pin found. A pair's
direction follows `allot` (R139), but for `crossed`: pair 2 toward the hub and pair 3 toward the host, which a spare turn can
reach and Table 3.16 has no code for (log entry 23). `admHost` and `admHub` count the lanes last admitted, and `neither`
maps the pairs lost while turning (R142). `txScr` and `rxScr` are the scramblers and descramblers of the lanes (R111).
`fromDeep` maps the lanes that a wake brings back and `deepWake` says that it runs (R136); `retraining` says that the Active
state in progress ends a retrain (R108); `owedSets` and `turnWait` wait for the transmit primary to leave Deep (R131, R140);
`eqSince` is when the adaptation of each receiver last began, and `eqTill` the time its record was brought up to (R127);
`wakeStart` is when the wake pattern began (R137); `due` is what the link owes until the core runs: 1 to fall back (R101), 2
a new bring-up (R109). -/
structure Link where
  cc : Fin 3
  qualified : Bool
  suppressed : Bool
  exitWait : Bool
  usbTerm : Bool
  state : Fin 10
  phase : Fin 10
  reversed : Bool
  attempts : Nat
  failed : Nat
  retryWait : Bool
  deepWake : Bool
  fromDeep : BitVec 4
  retraining : Bool
  txScr : Vector (BitVec 58) 4
  rxScr : Vector (BitVec 58) 4
  owedSets : List (Byte × List Byte)
  lost : BitVec 4
  leftOut : BitVec 4
  revFailed : BitVec 4
  cap : Option HostCap
  txSeq : BitVec 12
  retry : List RetryFrame
  replayQ : List (BitVec 12)
  resend : Bool
  rxSeq : BitVec 12
  rxAny : Bool
  reorder : List LinkFrame
  laneSeq : Vector (Option (BitVec 12)) 4
  naked : List (BitVec 12)
  crcSeen : Bool
  rxMain : List Byte
  rxMgmt : List Byte
  rxHunt : Bool
  rxPackets : List RxPacket
  txMain : List TxChunk
  txMgmt : List TxChunk
  slotTx : Vector (BitVec 6) 4
  crcTimes : Vector (List Dword) 4
  eqHub : Vector EqRecord 4
  eqSince : Vector Dword 4
  eqTill : Vector Dword 4
  txSleep : Vector (Option Sleep) 4
  rxSleep : Vector (Option Sleep) 4
  policy : SleepPolicy
  wakeReason : Option Byte
  waking : Bool
  wakeStart : Dword
  due : Fin 3
  allot : Fin 3
  crossed : Bool
  admHost : Nat
  admHub : Nat
  neither : BitVec 4
  turn : Option Turn
  turnWait : Option (Fin 3)
  trans : Byte
  sparing : Bool
  lossTimes : Vector (List Dword) 4
  noRestore : BitVec 4
  restoring : BitVec 4
  counters : Vector Word 16
  thresholds : Vector Threshold 16
  fired : Half
deriving DecidableEq, Repr

/-! ### Tunnels, classes and sampling (04) -/

/-- A shaper block (R161): rates in Mbit/s, bursts in bytes. -/
structure Shaper where
  cir : Word
  cbs : Word
  eir : Word
  ebs : Word
deriving DecidableEq, Repr

/-- A policer (R175). -/
structure Policer where
  enabled : Bool
  rate : Word
  burst : Word
deriving DecidableEq, Repr

/-- A packet queued toward the host: whether it ends a message, its payload, and when it was queued. -/
structure TxPacket where
  last : Bool
  payload : List Byte
  time : Dword
deriving DecidableEq, Repr

/-- A complete message toward the hub that its endpoint has not yet taken, and the charge units it holds. -/
structure Message where
  bytes : List Byte
  units : Nat
  time : Dword
  broken : Bool
deriving DecidableEq, Repr

/-- The 64-bit counters of a tunnel (R182). -/
structure TunCounters where
  pktTx : Dword
  byteTx : Dword
  pktRx : Dword
  byteRx : Dword
  gaps : Dword
  violations : Dword
  drops : Dword
  oversize : Dword
  trailers : Dword
deriving DecidableEq, Repr

/-- A tunnel that is not Closed (R161 to R171), named by its host and TID. A tunnel that is not in the table is Closed.
`cross` is the bond TID of a Span cross tunnel, which this
chip's host terminates on the partner's engine, and `far` that of one which the partner's host terminates on this chip's (R388). `snap` is the TUN_QUERY report as of the latest refill (R182), and `held` what the engine
holds back beyond the queue's limit (R179). -/
structure Tunnel where
  host : HostNo
  tid : Byte
  cross : Option Byte
  far : Option Byte
  cls : BitVec 3
  guarded : Bool
  pinned : Bool
  channel : BitVec 4
  endpoint : Half
  maxPl : Nat
  keepalive : Half
  hubBuf : Nat
  hostBuf : Nat
  closing : Bool
  standby : Bool
  silent : Bool
  shHost : Shaper
  shHub : Shaper
  police : Policer
  cbHost : Nat
  ebHost : Nat
  cbHub : Nat
  ebHub : Nat
  polBits : Nat
  txSeq : Half
  rxSeq : Half
  peerCredit : Nat
  granted : Nat
  freed : Nat
  release : Nat
  owed : Option Dword
  queue : List TxPacket
  held : List (Bool × List Byte)
  msg : List Byte
  msgUnits : Nat
  msgTime : Dword
  inMsg : Bool
  msgBroken : Bool
  inbox : List Message
  stalled : Bool
  lastState : Fin 8
  counters : TunCounters
  snap : List Byte
deriving DecidableEq, Repr

/-- One class on one uplink direction (R173, R177). -/
structure ClassDir where
  weight : Byte
  rate : Word
  burst : Word
  lb : Nat
  deficit : Nat
  lastTid : Byte
deriving DecidableEq, Repr

/-- The scheduler of one local uplink: its class settings in each direction, the class whose excess turn it is, the
reduction factors in 1/256 (R145), and the uplink counters with their values at the latest refill (R156). -/
structure Sched where
  toHost : Vector ClassDir 8
  toHub : Vector ClassDir 8
  excHost : Option (Fin 8)
  redHost : Nat
  redHub : Nat
  malformed : Dword
  strays : Dword
  snapMalformed : Dword
  snapStrays : Dword
deriving DecidableEq, Repr

/-- What a waiting commit writes at the next refill (R174): the shaper blocks of a tunnel, its policer, or one class of an
uplink direction. -/
inductive CommitSet where
  | shape (h : HostNo) (tid : Byte) (toHost toHub : Option Shaper)
  | police (h : HostNo) (tid : Byte) (p : Policer)
  | cls (u : Up) (toHub : Bool) (c : Fin 8) (weight : Byte) (rate burst : Word)
deriving DecidableEq, Repr

/-- A commit that waits for a refill, with the command whose response waits for it. -/
structure Commit where
  set : CommitSet
  src : CmdSrc
  seq : Half
  tag : Half
  flags : BitVec 8
  opcode : Half
deriving DecidableEq, Repr

/-- The sampling session of SCHED_SAMPLE and its registers (R183, R184, R558). A buffer state is 0 released, 1 filling,
2 closed. -/
structure Sampling where
  running : Bool
  issuer : Fin 8
  mailbox : MbNo
  interval : Half
  count : Fin 17
  elapsed : Nat
  selectors : List Word
  buf0 : Fin 3
  buf1 : Fin 3
  cur : Bool
  fill : Nat
  skipped : Word
deriving DecidableEq, Repr

/-! ### Display (05) -/

/-- A region of the frame store (R186 to R190). `offset` and `units` count allocation units of 2 MiB from the start of
the frame store; `owner` is the host's number A to D; `leaving` marks a deferred release (R208). -/
structure Region where
  handle : Half
  width : Nat
  height : Nat
  format : Fin 4
  offset : Nat
  units : Nat
  owner : HostNo
  orphan : Bool
  leaving : Bool
deriving DecidableEq, Repr

/-- The four registers of a layer (R202). -/
structure LayerRegs where
  src : Word
  srcXy : Word
  size : Word
  dstXy : Word
deriving DecidableEq, Repr

/-- A layer: its shadow and in-force registers, its owner (a requester code, 7 for free) and its orphan bit. -/
structure Layer where
  shadow : LayerRegs
  force : LayerRegs
  owner : Fin 8
  orphan : Bool
deriving DecidableEq, Repr

/-- The registers of a check-value region (R219). -/
structure CheckRegs where
  ctrl : Word
  xy : Word
  size : Word
  expLo : Word
  expHi : Word
deriving DecidableEq, Repr

/-- A check-value region: its registers, the result of the last frame and the value final in this frame, its mismatch
count and flag, and the hosts it is granted to. -/
structure CheckRegion where
  shadow : CheckRegs
  force : CheckRegs
  result : Dword
  newest : Dword
  count : Half
  mismatch : Bool
  grants : BitVec 4
deriving DecidableEq, Repr

/-- The pending set of a commit group (R203): its snapshot, the owner the layer takes when it applies, whether it frees
the layer (operation 2 of DISP_LAYER_BIND), and whether it was made after the cut-off (R204). -/
structure PendSet where
  bg : Word
  layer : LayerRegs
  checks : List CheckRegs
  claim : Option (Fin 8)
  release : Bool
  late : Bool
deriving DecidableEq, Repr

/-- Where a mode change stands (R214). -/
inductive ModePhase where
  | awaitBlank | awaitPll | awaitFrame
deriving DecidableEq, Repr

/-- A mode change in progress. -/
structure ModeChange where
  mode : Fin 21
  bpc10 : Bool
  phase : ModePhase
deriving DecidableEq, Repr

/-- The placement of the hold image on an output (R234). -/
structure Placement where
  width : Nat
  height : Nat
  x : Nat
  y : Nat
  bg : Word
deriving DecidableEq, Repr

/-- A hold policy (R233). -/
structure HoldPolicy where
  action : Fin 4
  takeover : Bool
  adoption : Bool
  timeoutMs : Half
deriving DecidableEq, Repr

/-- What an output shows (R223): its layers, the hold screen, or the background colour only. -/
inductive Shown where
  | layers | holdScreen | background
deriving DecidableEq, Repr

/-- A display output (R210 to R236). `link` is DISP_STATUS.LINK; `blankAt` is the hub time of the latest start of
vertical blanking, from which DISP_LINE runs; `place` is the placement of the hold image in force, none before the
first; `drive` is the drive settings of its four lanes that training left (R394); `flipRefused` counts each host's FLIP messages refused on this output
(R235); `mirror` holds the sets of Day that wait for their frame count (R393). -/
structure Output where
  mode : Fin 21
  bpc10 : Bool
  rate : BitVec 3
  link : Fin 4
  sink : Bool
  sinkChg : Bool
  sinkRate : BitVec 3
  sinkLanes : BitVec 3
  edid : List Byte
  frame : Word
  commitFrame : Word
  superseded : BitVec 6
  rejected : BitVec 6
  sets : Vector (Option PendSet) 6
  bgShadow : Word
  bg : Word
  layers : Vector Layer 4
  checks : Vector CheckRegion 8
  change : Option ModeChange
  blankAt : Dword
  hold : Bool
  holdCause : Fin 4
  holdTimer : Bool
  holdExpired : Bool
  ownerHold : Bool
  shown : Shown
  policy : HoldPolicy
  place : Option Placement
  newPlace : Option Placement
  underruns : Word
  retrains : Word
  drive : Word
  flipRefused : Vector Word 4
  mirror : List (Fin 6 × List Word × Word)
deriving DecidableEq, Repr

/-- The hold-image assembly buffer (R226, R234). -/
structure Assembly where
  total : Nat
  bytes : List Byte
deriving DecidableEq, Repr

/-- A tile written into the frame store while a frame was being scanned: the hub time at which it landed, and the frame
store's bytes before it, which the lines sent earlier were composed from (R197). -/
structure Landing where
  at_ : Dword
  before : Memory
deriving DecidableEq, Repr

/-- The display engines: the outputs, the live regions, the next handle, the quotas in MiB, the frame store's bytes
(addressed from its start), the assembly buffer, the tile counters of each host (R235), and the tiles that landed while an
output's frame was under way, oldest first. -/
structure Display where
  outs : Vector Output 4
  regions : List Region
  nextHandle : Half
  quotas : Vector Nat 4
  mem : Memory
  assembly : Option Assembly
  tileBad : Vector Word 4
  tileDropped : Vector Word 4
  landed : List Landing
deriving DecidableEq, Repr

/-! ### Pairing (10) -/

/-- A command forwarded to the partner whose response is awaited (R385); or a forwarded window access, whose `opcode` is
the type of its completion packet, with its request ID in `seq`, its count in `tag`, and its offset. -/
structure Forwarded where
  id : Nat
  src : CmdSrc
  seq : Half
  tag : Half
  opcode : Half
  off : BitVec 18
deriving DecidableEq, Repr

/-- A PAIR_JOIN held: its mode (1 Span, 2 Mirror) and whether this chip is to be Day (R381, R408). -/
structure JoinReq where
  mode : Fin 3
  day : Bool
deriving DecidableEq, Repr

/-- A signature record of one side of a boundary, awaiting the other side's (R400). For the chip's own: whether its boundary is
compared (R401, R410), and the bytes it covers. -/
structure SigRecord where
  key : SigKey
  seq : Word
  own : Bool
  value : Dword
  counts : Bool
  len : Nat
deriving DecidableEq, Repr

/-- The egress of one instance of Table 10.4 since its last boundary, and the blocks signed so far (R399, R400). -/
structure SigStream where
  key : SigKey
  blocks : Word
  bytes : List Byte
deriving DecidableEq, Repr

/-- A command that the partner has carried into MB3, with the length its header gave, not yet taken (R385). -/
structure FwdCmd where
  opcode : Half
  length : Nat
  cmd : Cmd
deriving DecidableEq, Repr

/-- A packet of an internal tunnel of the bond link that waits to be sent (R376): its bond TID and class, LAST, its payload, and
whether it is of the replication queue (R392). -/
structure BondPacket where
  tid : Byte
  cls : BitVec 3
  last : Bool
  payload : List Byte
  repl : Bool
deriving DecidableEq, Repr

/-- A command that Day has carried out and Night has not yet applied (R391): the number it was forwarded under, its mailbox and
its sequence number. -/
structure Awaited where
  id : Nat
  mb : MbNo
  seq : Half
deriving DecidableEq, Repr

/-- Pairing: the straps and sideband lines, the pair state (Table 10.2), joins and leaves in progress, what is known of
the partner, forwarding (`held` numbers the partner's commands not yet answered, `fwd` holds those not yet taken), the
interlock, signatures and the handover: the layer owners the new Day still awaits, whether the last release was planned, the
state a leave left, and the status of the command Day or Night runs. `bond` holds the internal tunnels of the bond link,
`bondTx` their packets, and `bondSeen` how much of the output log has been turned into them; `opening` the cross tunnels that
the partner's engine is asked for; `running` that a command of Day is being carried out, `awaiting` those that Night has yet to
apply, and `deferred` the responses held till then. -/
structure Pair where
  pos : Bool
  bndPres : Bool
  ilkLow : Bool
  ilkDrive : Bool
  bndDay : Bool
  state : Fin 12
  autoRejoin : Bool
  join : Option JoinReq
  partnerPl : Fin 4
  timeOffset : Dword
  held : List Nat
  fwd : List FwdCmd
  forwarded : List Forwarded
  nextId : Nat
  replBytes : Nat
  replHold : Bool
  claimWait : Bool
  confirming : Bool
  ilkFault : Bool
  records : List SigRecord
  compareCfg : List Byte
  mismatches : Word
  transients : Word
  selfFails : Word
  handovers : Word
  handoverTime : Dword
  selfTest : Option SigKey
  transientTimes : List Dword
  gap : BitVec 4
  takeover : Bool
  silent : BitVec 4
  planned : Bool
  leftFrom : Fin 12
  lastStatus : Option Half
  streams : List SigStream
  bond : List Tunnel
  bondSeen : Nat
  bondTx : List BondPacket
  opening : List (Nat × Tunnel)
  running : Bool
  deferred : List (MbNo × Response)
  awaiting : List Awaited
deriving DecidableEq, Repr

/-! ### PCIe storage bridge (06) -/

/-- One side's prefetch window setting (R254): no-prefetch override, depth in 64-byte units, holes of base and size. -/
structure WindowSetting where
  override : Bool
  depth : Fin 9
  holes : List (Dword × Dword)
deriving DecidableEq, Repr

/-- A prefetch window: both settings, its counters, and when event 35 was last raised for it (R257, R275). -/
structure PrefetchWindow where
  owner : WindowSetting
  host : WindowSetting
  issued : Word
  hits : Word
  discards : Word
  lastEvent : Option Dword
deriving DecidableEq, Repr

/-- A memory read that waits for prefetch data: its TLP bytes. `slot` names the prefetch entry of a port (R256). -/
structure PrefetchEntry where
  slot : Fin 16
  rid : Half
  window : Fin 8
  base : Nat
  len : Nat
  data : List Byte
  arrived : Bool
  arrivedAt : Dword
  lastUse : Dword
  consumed : List (Nat × Nat)
  demand : List (List Byte)
deriving DecidableEq, Repr

/-- An open or held non-posted request of a port and direction (R249): the requester and tag, its TLP, the host it
belongs to, whether it came as a locked read. -/
structure NpRequest where
  port : PciePort
  toHost : Bool
  rid : Half
  tag : BitVec 10
  host : HostNo
  tid : Byte
  locked : Bool
  tlp : List Byte
deriving DecidableEq, Repr

/-- A TLP in a queue toward a device while its link cannot send: its host, tunnel and bytes. -/
structure QueuedTlp where
  host : HostNo
  tid : Byte
  tlp : List Byte
deriving DecidableEq, Repr

/-- An entry of a bridge log (Table 6.5). -/
structure BridgeEntry where
  addr : Dword
  rid : Half
  tag : BitVec 10
  uplink : HostNo
  port : PciePort
  kind : Fin 8
  tid : Byte
  status : Byte
  length : BitVec 10
  time : Dword
  count : Word
deriving DecidableEq, Repr

/-- A bridge log: 32 places, the place of the newest entry, entries written and overwritten (R261, R262). -/
structure BridgeLog where
  entries : Vector (Option BridgeEntry) 32
  newest : Option (Fin 32)
  written : Word
  overwritten : Word
deriving DecidableEq, Repr

/-- The lock semaphore (R263, R264, R277). `blocked` holds requests of others toward the locked port. -/
structure LockState where
  holder : Option (HostNo × PciePort)
  since : Dword
  waiting : List NpRequest
  blocked : List QueuedTlp
  granted : Word
  timeouts : Word
  others : Word
deriving DecidableEq, Repr

/-- Where a reassignment, a give-back of a fall-back port, or a power-up stands (R268, R270, R272). -/
inductive PortPhase where
  | idle | shutdown | reset | training
deriving DecidableEq, Repr

/-- A downstream port (R250, R251, R267, R268): state code, assignment, settings, link, slot signals, the queues toward
the device, and the sequence it is in. `pin` is PCIEn_PRSNT_N as last seen, and `present` what the owner's choice of source
makes of it (R267); `shown` is false from the moment a port leaves its uplink until its link is up for the next one, which
sees no presence before (Table 6.8); `karxo` says that Karxo holds the port in fall-back (R271); `compared` counts the bytes of
the oldest write that Night holds uncompared (R405). -/
structure PciePortState where
  state : Fin 9
  assigned : Option HostNo
  maxRate : BitVec 3
  flags : BitVec 5
  rate : BitVec 3
  width : BitVec 4
  perst : Bool
  pwren : Bool
  powerGood : Bool
  pin : Bool
  present : Bool
  shown : Bool
  slotNo : BitVec 13
  phase : PortPhase
  karxo : Bool
  namespaces : Fin 9
  posted : List QueuedTlp
  nonPosted : List QueuedTlp
  completions : List QueuedTlp
  prefetch : List PrefetchEntry
  compared : Nat
deriving DecidableEq, Repr

/-- The bridge: the configuration registers of each host's upstream port and two downstream ports, as differences from
their defaults; the ports; tracking and overflow (R249); windows; logs; the lock; the lane split. -/
structure Pcie where
  cfg : Vector (Vector (Sparse Word) 3) 4
  ports : Vector PciePortState 2
  tracked : List NpRequest
  overflow : List NpRequest
  windows : Vector PrefetchWindow 8
  logs : Vector BridgeLog 3
  lock : LockState
  split : Bool
  splitNext : Bool
deriving DecidableEq, Repr

/-! ### USB hub and management function (07) -/

/-- One half of a port as its hub reports it: wPortStatus and wPortChange, and the change bits already reported by a
HUB_CHANGE (R291). -/
structure UsbHalf where
  status : Half
  change : Half
  reported : Half
deriving DecidableEq, Repr

/-- An external port (R308 to R314): its flags as written (R312) and the Type-C and removable flags in force, VBUS, the
speed reported, BESL and the U1 and U2 timeouts, the latched wake (R302), over-current, Type-C
attachment, charging, and its counters. `swap` is the role that follows the 500 ms VBUS removal (R308). -/
structure UsbPort where
  flags : BitVec 6
  typeC : Bool
  removable : Bool
  vbus : Bool
  speed : Fin 6
  besl : BitVec 4
  u1 : Byte
  u2 : Byte
  wake : Bool
  wakeChange2 : Bool
  wakeChangeS : Bool
  overCurrent : Bool
  attached : Bool
  cc2 : Bool
  detected : BitVec 4
  mode : Fin 4
  rpReq : Fin 3
  role : Fin 3
  swap : Option (Fin 3)
  txErrors : Word
  missed : Word
deriving DecidableEq, Repr

/-- Where a request stands (R289, R299): in its port's schedule, waiting for the port to resume, or with its bus
transactions under way. -/
inductive UsbPhase where
  | scheduled | resuming | onBus
deriving DecidableEq, Repr

/-- An outstanding transfer request: its tunnel, its 24-byte header, its data, and for a periodic request the microframe
it is scheduled for and the bus time it takes there, in ps. -/
structure UsbRequest where
  host : HostNo
  tid : Byte
  hdr : List Byte
  data : List Byte
  phase : UsbPhase
  target : Option Nat
  load : Nat
deriving DecidableEq, Repr

/-- The USB block: the stored owner and policy and the owner in force (R280), whether the hub is presented (R281), the
ports, the outstanding requests, the upstream port in fall-back with its U1 and U2 enables, whether the USB 2.0 hub runs
its multi-TT setting and the ports whose TT is stopped (R282), the management function, the carve in force and stored, and
the loopback buffers. `seen` holds the latest event 43 of each endpoint; `waiting` the packets in each endpoint's buffer, in
the order of Table 7.8; `botSkip` the bytes of a Bulk-Only OUT stage still to be discarded, and `sense` the sense key and
code of each storage interface's last command (R306). -/
structure Usb where
  named : HostNo
  policy : Fin 2
  owner : HostNo
  presented : Bool
  halves2 : Vector UsbHalf 8
  halvesS : Vector UsbHalf 8
  ports : Vector UsbPort 8
  requests : List UsbRequest
  discarded : Word
  hubConfig2 : Bool
  hubConfigS : Bool
  depth : Byte
  upSuspended : Bool
  upL1 : Bool
  upU1 : Bool
  upU2 : Bool
  multiTt : Bool
  ttStopped : BitVec 8
  mgmtConfig : Bool
  mgmtAddr : Vector (BitVec 7) 2
  altStorage : Vector (Fin 2) 2
  carve : List Byte
  carveNext : List Byte
  loopIso : List (Nat × List Byte)
  seen : Vector (Option Dword) 16
  waiting : Vector (List (List Byte)) 16
  botSkip : Vector Nat 2
  sense : Vector (Byte × Byte) 2
deriving DecidableEq, Repr

/-! ### Network switch core (08) -/

/-- A frame in the buffer (R331): its number, its bytes without VLAN tag and FCS, the tag control it had (priority, VID
and drop-eligible bit), its ingress port, its length with FCS as counted on ingress, and whether
it took headroom cells (R332). -/
structure NetFrame where
  id : Nat
  data : List Byte
  prio : Fin 8
  vid : BitVec 12
  dei : Bool
  ingress : SwPort
  len : Nat
  headroom : Bool
deriving DecidableEq, Repr

/-- Where a queued frame is: on-die, in DRAM, or being read back (R335, R337). -/
inductive NetPlace where
  | onDie | dram | reading
deriving DecidableEq, Repr

/-- A frame in an egress queue, with its sequence number (R337). -/
structure NetEntry where
  seq : Half
  frame : Nat
  place : NetPlace
deriving DecidableEq, Repr

/-- An egress queue (R329, R337, R340, R348): its marking and limit, the next number to give and the next to release, its
entries in sequence order, its deficit, and when it last marked a frame. -/
structure NetQueue where
  mark : Bool
  k : Nat
  limit : Nat
  nextSeq : Half
  nextRel : Half
  entries : List NetEntry
  deficit : Nat
  lastMark : Option Dword
deriving DecidableEq, Repr

/-- A switch port: its 32-byte setting (Table 8.7), its queues and the weighted queue whose turn it is, the storm-control
buckets in bits (R327), what is paused on it by received pauses, the counted units above XOFF (R334), counters,
thresholds and the fired bitmap (R343). A tunnel carries a virtual port by `carrier`. -/
structure NetPort where
  cfg : List Byte
  queues : Vector NetQueue 8
  turn : Fin 8
  storm : Vector Nat 3
  paused : Byte
  xoff : Byte
  counters : Vector Dword 24
  thresholds : Vector Threshold 24
  fired : Word
deriving DecidableEq, Repr

/-- A physical port's link (R321), overflow (R335) and resequencer (R338) settings, and when event 48 was last raised. -/
structure EthState where
  up : Bool
  speed : Fin 6
  pauseTx : Bool
  pauseRx : Bool
  overflow : Bool
  limitMiB : Nat
  staged : Nat
  stagedAt : Dword
  reseq : Bool
  reseqW : Half
  reseqUs : Word
  lastEvent : Option Dword
deriving DecidableEq, Repr

/-- An address-table entry (R323): `port` 0xFF discards; `spill` says it is one of the 64 spill entries. -/
structure NetAddr where
  addr : BitVec 48
  vid : BitVec 12
  port : Byte
  fixed : Bool
  spill : Bool
  seen : Dword
deriving DecidableEq, Repr

/-- The member and untagged bitmaps of a VLAN (R322). -/
structure Vlan where
  members : BitVec 18
  untagged : BitVec 18
deriving DecidableEq, Repr

/-- The switch core. `vlans` lists the VIDs that have members; `shrink` is the region size being shrunk to (R336). -/
structure Net where
  ports : Vector NetPort 18
  eth : Vector EthState 2
  vlans : Sparse Vlan
  addrs : List NetAddr
  aging : Word
  frames : List NetFrame
  nextId : Nat
  shrink : Option Nat
deriving DecidableEq, Repr

/-! ### CAN signal bridge (09) -/

/-- A CAN port: its 16-byte setting (Table 9.6), bus state, error counts, counters, the transmit frames queued,
and the one offered to the bus, with the data it took (R362). -/
structure CanPortState where
  setting : List Byte
  bus : BusState
  tecCount : Byte
  recCount : Byte
  counters : Vector Word 7
  queue : List (Fin 256)
  buffer : Option (Fin 256 × List Byte)
deriving DecidableEq, Repr

/-- A signal map: 16-byte frame and signal entries by index (Tables 9.3 and 9.4); an unlisted index has no entry. -/
structure CanMap where
  frames : Sparse (List Byte)
  signals : Sparse (List Byte)
deriving DecidableEq, Repr

/-- Delivery of a received signal to one host (R360): due, replaced since it became due, and the value and hub time last
delivered. -/
structure CanDelivery where
  due : Bool
  overwritten : Bool
  value : Option Dword
  time : Dword
deriving DecidableEq, Repr

/-- The value of a signal, the hub time of its last reception, whether it is stale, whether LOSS 2 stops
its frame, and its deliveries (R359 to R363). -/
structure CanSignal where
  value : Dword
  time : Dword
  stale : Bool
  stopped : Bool
  hosts : Vector CanDelivery 4
deriving DecidableEq, Repr

/-- A transmitted frame's sending state (R362): whether its GAP runs, and whether a change waits for the GAP. -/
structure CanTx where
  gap : Bool
  held : Bool
deriving DecidableEq, Repr

/-- The bridge: ports, the staging map, the map in force, the map and routes stored in flash, the generation, the values,
the hub time of its commit (R361), the routes in force, and bridge counters 1 and 2. -/
structure Can where
  ports : Vector CanPortState 2
  staging : CanMap
  map : CanMap
  stored : Option CanMap
  storedRoutes : Sparse (List Byte)
  mapIsStored : Bool
  generation : Word
  commitTime : Dword
  signals : Sparse CanSignal
  tx : Sparse CanTx
  routes : Sparse (List Byte)
  badMessages : Word
  badEntries : Word
deriving DecidableEq, Repr

/-! ### Power states and waking (12) -/

/-- Where the chip is between Run and Stop: Run; entry into Stop accepted; past the point of no return; in Stop; or
waking (R454, R458). -/
inductive PowerPhase where
  | run | entering | committed | stop | waking
deriving DecidableEq, Repr

/-- The power controller and the wake registers (R447 to R468). `setting` is a requested island state (0 automatic,
1 park, 2 keep awake from S1); `usbSlept` lists the halves of USB ports (true: SuperSpeedPlus) that entry into Stop suspended, with the power state each
had; a wake source is a code of Table 12.4. `brownNote` marks the next start
as a brown-out start (R576), and `brownEvent` that event 63 is owed at READY (R455). -/
structure Pm where
  phase : PowerPhase
  retain : Bool
  twilight : Bool
  resumed : Bool
  island : Vector (Fin 3) 12
  setting : Vector (Fin 4) 12
  wakeCfg : List Byte
  pinActive : BitVec 4
  usbSlept : List (Fin 8 × Bool × Fin 5)
  sources : BitVec 13
  lastSource : Byte
  wakeTime : Dword
  noRetention : Bool
  wakeOwed : Option Byte
  heldBack : List (Fin 64 × Word)
  brownOut : Bool
  brownNote : Bool
  brownEvent : Bool
  stops : Word
  brownOuts : Word
deriving DecidableEq, Repr

/-! ### Power path (11) -/

/-- A feed input: in its window, and qualified (R414); the voltage last reported, in mV, and the output of its over-voltage
comparator, which falls 2 % below OV (R414, R440). -/
structure FeedState where
  inWindow : Bool
  qualified : Bool
  mv : Nat
  high : Bool
deriving DecidableEq, Repr

/-- An eFuse channel (R428, R429): its 8-byte setting, conducting, tripped, kept off by a trip until it is armed again, within its
100 ms off time, and its trips. -/
structure Efuse where
  setting : List Byte
  on : Bool
  tripped : Bool
  held : Bool
  offTime : Bool
  trips : Word
deriving DecidableEq, Repr

/-- A contract: its PDO index, voltage and current, whether it is the PPS APDO, and its sink's EPR mode. -/
structure Contract where
  idx : Byte
  mv : Nat
  ma : Nat
  pps : Bool
deriving DecidableEq, Repr

/-- The PD source of an uplink (R431 to R437): its 8-byte policy, cable, VBUS switch, the offer last sent, the contract,
the request accepted and not yet in force, EPR mode, whether new capabilities await a Request, converter faults and
lockout. -/
structure PdSource where
  policy : List Byte
  cable : Option Cable
  vbus : Bool
  offer : List Word
  contract : Option Contract
  accepted : Option Contract
  epr : Bool
  newCaps : Bool
  convAbsent : Bool
  faultTimes : List Dword
  lockedOut : Bool
deriving DecidableEq, Repr

/-- A power-path fault entry (PWR_FLOG, R446). -/
structure PowerFault where
  value : Half
  source : Byte
  cause : Byte
  count : Word
  time : Dword
deriving DecidableEq, Repr

/-- The power path: the shell, its settings, feeds and gates, hot swap (R418 to R426), eFuse channels, PD sources, the
TRIP flags and the ring of its fault entries. `toFeed` is the feed a break-before-make gap leads to. -/
structure Power where
  shell : Bool
  feedCfg : List Byte
  hswCfg : List Byte
  feedA : FeedState
  feedB : FeedState
  inUse : Option Feed
  toFeed : Option Feed
  seated : Bool
  hsw : Fin 7
  gate : Bool
  inserted : Bool
  ramping : Bool
  inserting : Bool
  pg : Bool
  vbusGate : Bool
  count : Fin 16
  retryMs : Nat
  latched : Bool
  efuses : Vector Efuse 6
  pd : Vector PdSource 2
  trip : Byte
  flog : Vector (Option PowerFault) 16
  newest : Option (Fin 16)
  total : Half
deriving DecidableEq, Repr

end Sys2Proof.Machine
end

