-- ==== Sys2Proof/Syntax.lean ====
section
/-! DEFINITION. The commands of the block: one constructor of `Instr` for each row of the opcode table, and what Day forwards to Night. -/
namespace Sys2Proof

/-- What Day copies to a Night that joins (R382 step 3): its configuration in force with the pixels of its frame store, the
check-value channels, and the generation of its CAN map within the bridge. -/
structure MirrorCopy where
  tunnels : List Machine.Tunnel
  scheds : Vector Machine.Sched 2
  disp : Machine.Display
  pcie : Machine.Pcie
  usb : Machine.Usb
  net : Machine.Net
  can : Machine.Can
  channels : Vector Machine.CheckChannel 16
deriving DecidableEq, Repr

/-- A state change Day forwards to Night (R382, R391, R393, R394): a command to carry out, by the number under which its answer
returns, an applied display set, the timing of an output, or the copy of a join. -/
inductive MirrorChange where
  | command (id : Nat) (opcode : Half) (c : Cmd) (dayStatus : Half)
  | displaySet (o : OutNo) (group : Fin 6) (words : List Word) (frame : Word)
  | timing (o : OutNo) (t : OutTiming)
  | copy (c : MirrorCopy)
deriving DecidableEq, Repr

/-- The commands of the block, one constructor for each row of the opcode table, in the table's order. A constructor
that carries a `Cmd` is a Karxo mailbox command at the moment Karxo carries it out; every other constructor is an
access, a received item, or the end of a timer or phase, at the moment it occurs. -/
inductive Instr where
  /-- SYS_NOP (R535). Echoes the command payload and changes nothing. -/
  | sysNop (c : Cmd)
  /-- SYS_INFO (R536). Returns the 64-byte identity and state report. -/
  | sysInfo (c : Cmd)
  /-- SYS_PROFILE_SET (R12). Reads, or changes the operating profile after the admission check at the new performance level. -/
  | sysProfileSet (c : Cmd)
  /-- SYS_RESET_WARM (R508). Owner command that starts a warm reset within 1 ms and posts no response. -/
  | sysResetWarm (c : Cmd)
  /-- SYS_RESET_COLD (R508). Owner command that starts a cold reset within 1 ms and posts no response. -/
  | sysResetCold (c : Cmd)
  /-- SYS_BEHAVIOUR_PIN (R521). Reads or stores the pinned behaviour level and lock for the next reset. -/
  | sysBehaviourPin (c : Cmd)
  /-- SYS_TIME_GET (R538). Returns hub time, its reliability flag and the pair time offset. -/
  | sysTimeGet (c : Cmd)
  /-- SYS_FW_STAGE_BEGIN (R512). Starts erasing the inactive slot and marks it staging, posting PENDING. -/
  | sysFwStageBegin (c : Cmd)
  /-- FW_SLOT_ERASE_DONE (R512). The slot erase ends and the Begin operation completes with OK. -/
  | fwSlotEraseDone
  /-- SYS_FW_STAGE_DATA (R512). Writes image bytes at the next offset into the staging slot. -/
  | sysFwStageData (c : Cmd)
  /-- SYS_FW_STAGE_FINISH (R512). Starts checking the staged image for acceptability, posting PENDING. -/
  | sysFwStageFinish (c : Cmd)
  /-- FW_STAGE_CHECK_DONE (R511). The image check ends; the slot is marked staged or failed and Finish completes. -/
  | fwStageCheckDone
  /-- SYS_FW_STAGE_STATUS (R512). Reports state, version and security version of each slot. -/
  | sysFwStageStatus (c : Cmd)
  /-- SYS_FW_ACTIVATE (R513). Accepts a hitless activation of the staged slot and waits for other pending commands. -/
  | sysFwActivate (c : Cmd)
  /-- FW_ACTIVATE_WAIT_TIMEOUT (R513). Another command still holds PENDING 100 ms after the activation was taken, so it completes with BUSY. -/
  | fwActivateWaitTimeout
  /-- FW_ACTIVATION_START (R513). Every other command has posted its final response, so Karxo saves state, clears READY and sets ACTIVATING. -/
  | fwActivationStart
  /-- FW_ACTIVATION_DONE (R513). The new image restores state, READY is set and SYS_FW_ACTIVATE completes with OK. -/
  | fwActivationDone
  /-- FW_ACTIVATION_FAIL (R514). A digest mismatch, or READY not set within 400 ms, restarts the previous image and fails the activation. -/
  | fwActivationFail
  /-- SYS_EVENT_MASK (R539). Reads or writes the event mask of the issuing mailbox. -/
  | sysEventMask (c : Cmd)
  /-- LINK_STATUS (R540). Returns the link state, allotment, lane and sleep report. -/
  | linkStatus (c : Cmd)
  /-- LINK_ALLOT (R140). Reads the allotment, or checks and starts a lane turn to a new allotment. -/
  | linkAllot (c : Cmd)
  /-- ALLOT_ACK_RECEIVED (R141). The host's accepting or refusing ALLOT_ACK ordered set arrives for a lane turn. -/
  | allotAckReceived (u : Up) (b2 b3 : Byte) (refuse : Bool)
  /-- ALLOT_ACK_TIMEOUT (R142). No ALLOT_ACK within 10 µs returns the pair and fails LINK_ALLOT with NO_RESOURCE. -/
  | allotAckTimeout (u : Up)
  /-- TURN_BLOCK_LOCK (R141). The turned pair reaches block lock and 16 good TS1, so the hub sends ALLOT_DONE. -/
  | turnBlockLock (u : Up)
  /-- TURN_BLOCK_LOCK_TIMEOUT (R142). The turned pair has no block lock within 20 µs, so it is lost and LINK_ALLOT fails. -/
  | turnBlockLockTimeout (u : Up)
  /-- TURN_FIRST_FRAME (R141). The first good frame on the turned pair adds it to capacity at the next refill and completes LINK_ALLOT. -/
  | turnFirstFrame (u : Up)
  /-- LINK_RETRAIN_RETRAIN (R542). Option 0 starts or joins a retrain of the link. -/
  | linkRetrainRetrain (c : Cmd)
  /-- LINK_RETRAIN_FULL (R542). Option 1 ends the link, clears suppression and lane limits, and starts bring-up from Detect. -/
  | linkRetrainFull (c : Cmd)
  /-- LINK_RETRAIN_LANES (R542). Option 2 clears the lane-loss limit and retries every lost lane. -/
  | linkRetrainLanes (c : Cmd)
  /-- LINK_EQ_REPORT (R543). Returns the equaliser records of each pair in its direction in force. -/
  | linkEqReport (c : Cmd)
  /-- LINK_EQ_REPORT_STORED (R543). Returns the stored equaliser sets of pairs 2 and 3 for the direction not in force. -/
  | linkEqReportStored (c : Cmd)
  /-- LINK_SLEEP_POLICY (R544). Reads or sets the permitted lane sleep states and idle periods. -/
  | linkSleepPolicy (c : Cmd)
  /-- LINK_LANE_SPARE (R545). Reads or sets the lane sparing policy. -/
  | linkLaneSpare (c : Cmd)
  /-- LINK_COUNTERS_READ (R546). Returns the link counters and the fired bitmap, clearing the bitmap. -/
  | linkCountersRead (c : Cmd)
  /-- LINK_COUNTERS_CLEAR (R546). Returns the link counters, then clears them. -/
  | linkCountersClear (c : Cmd)
  /-- LINK_COUNTERS_THRESHOLD (R546). Sets the threshold and window of one link counter. -/
  | linkCountersThreshold (c : Cmd)
  /-- TUN_OPEN (R162). Checks and opens a tunnel with its buffers, shapers and endpoint. -/
  | tunOpen (c : Cmd)
  /-- TUN_CLOSE (R164). Starts draining a tunnel toward Closed, posting PENDING. -/
  | tunClose (c : Cmd)
  /-- TUN_CLOSE_DRAINED (R164). The queue is empty and the endpoint has released its buffers, so the tunnel is Closed. -/
  | tunCloseDrained (h : HostNo) (tid : Byte)
  /-- TUN_CLOSE_TIMEOUT (R164). After 10 ms the rest of the queue is discarded and the tunnel is Closed. -/
  | tunCloseTimeout (h : HostNo) (tid : Byte)
  /-- TUN_SHAPE (R172). Admits and writes shaper shadows of one or both directions for commit at the next refill. -/
  | tunShape (c : Cmd)
  /-- TUN_POLICE (R175). Sets the policer of a class 4 or 7 tunnel toward the hub. -/
  | tunPolice (c : Cmd)
  /-- TUN_QUERY (R547). Returns the tunnel report as at the most recent refill. -/
  | tunQuery (c : Cmd)
  /-- TUN_QUERY_CLEAR (R547). Returns the tunnel report, then clears its counters. -/
  | tunQueryClear (c : Cmd)
  /-- CLASS_SET (R173). Reads or sets the weight and ceiling bucket of one class on one uplink direction. -/
  | classSet (c : Cmd)
  /-- SCHED_SAMPLE_START (R183). Starts a scheduler sampling session with its selectors and interval. -/
  | schedSampleStart (c : Cmd)
  /-- SCHED_SAMPLE_STOP (R183). Stops the sampling session and closes the buffer being filled. -/
  | schedSampleStop (c : Cmd)
  /-- SCHED_SAMPLE_RELEASE (R183). Releases a sample buffer and reports skipped refills. -/
  | schedSampleRelease (c : Cmd)
  /-- DISP_MODE_SET (R214). Checks a display mode and starts the change at the next vertical blanking, posting PENDING. -/
  | dispModeSet (c : Cmd)
  /-- DISP_PLL_LOCKED (R214). The island PLL locks to the new rate and the new timing starts at line 0. -/
  | dispPllLocked (o : OutNo)
  /-- DISP_REGION_ALLOC_ALLOCATE (R189). Allocates a frame-store region within quota. -/
  | dispRegionAllocAllocate (c : Cmd)
  /-- DISP_REGION_ALLOC_ADOPT (R224). Adopts an orphaned region and its bound layers for the host. -/
  | dispRegionAllocAdopt (c : Cmd)
  /-- DISP_REGION_ALLOC_QUOTA (R188). Owner sets a host's frame-store quota. -/
  | dispRegionAllocQuota (c : Cmd)
  /-- DISP_REGION_RELEASE (R208). Frees a region at once, or defers its release until its lease ends. -/
  | dispRegionRelease (c : Cmd)
  /-- DISP_LAYER_BIND_CLAIM (R231). Claims a layer, writes its shadows and requests a commit. -/
  | dispLayerBindClaim (c : Cmd)
  /-- DISP_LAYER_BIND_SHADOW (R231). Writes a layer's shadow registers only. -/
  | dispLayerBindShadow (c : Cmd)
  /-- DISP_LAYER_BIND_RELEASE (R231). Disables a layer at the safe point and gives up its ownership. -/
  | dispLayerBindRelease (c : Cmd)
  /-- DISP_CRC_REGION_WRITE (R232). Writes the shadows of a check-value region. -/
  | dispCrcRegionWrite (c : Cmd)
  /-- DISP_CRC_REGION_COMMIT (R232). Writes region shadows and requests a commit of group 5. -/
  | dispCrcRegionCommit (c : Cmd)
  /-- DISP_CRC_REGION_GRANT (R232). Grants a check-value region's registers to a host. -/
  | dispCrcRegionGrant (c : Cmd)
  /-- DISP_CRC_REGION_REVOKE (R232). Revokes a host's grant of a check-value region. -/
  | dispCrcRegionRevoke (c : Cmd)
  /-- DISP_HOLD_POLICY (R233). Sets the hold action, timeout, takeover and adoption permissions. -/
  | dispHoldPolicy (c : Cmd)
  /-- DISP_OUTPUT_STATUS_READ (R549). Returns the 88-byte output status report. -/
  | dispOutputStatusRead (c : Cmd)
  /-- DISP_OUTPUT_STATUS_EDID (R235). Reads a 128-byte EDID or DisplayID block of the sink through AUX. -/
  | dispOutputStatusEdid (c : Cmd)
  /-- DISP_OUTPUT_STATUS_CLEAR (R549). Returns the status report, then clears its counters. -/
  | dispOutputStatusClear (c : Cmd)
  /-- DISP_HOLD_SCREEN_LOAD (R234). Adds one part of a hold-image tile message and decodes it when complete. -/
  | dispHoldScreenLoad (c : Cmd)
  /-- DISP_HOLD_SCREEN_PLACE (R234). Places the hold image and background on an output at the next blanking. -/
  | dispHoldScreenPlace (c : Cmd)
  /-- DISP_HOLD_SCREEN_ENTER (R225). Owner puts outputs into hold with cause 2. -/
  | dispHoldScreenEnter (c : Cmd)
  /-- DISP_HOLD_SCREEN_LEAVE (R225). Owner ends an owner-requested hold. -/
  | dispHoldScreenLeave (c : Cmd)
  /-- PCIE_PORT_CFG_SET (R274). Reads, or stores and applies a port's assignment, rate and flags. -/
  | pciePortCfgSet (c : Cmd)
  /-- PCIE_PORT_CFG_SPLIT (R274). Stores the lane split for the next reset. -/
  | pciePortCfgSplit (c : Cmd)
  /-- PCIE_REASSIGN_PERST_DONE (R270). After 100 ms of reset the port's PERST is released and training begins for the new uplink. -/
  | pcieReassignPerstDone (p : PciePort)
  /-- PCIE_WINDOW_SET (R275). Reads or replaces the requester's prefetch window setting. -/
  | pcieWindowSet (c : Cmd)
  /-- PCIE_ERRLOG_READ (R262). Reads entries of a bridge error log. -/
  | pcieErrlogRead (c : Cmd)
  /-- PCIE_ERRLOG_READ_EMPTY (R262). Reads entries of a bridge error log, then empties it. -/
  | pcieErrlogReadEmpty (c : Cmd)
  /-- PCIE_HOTPLUG_READ (R276). Reads the slot status. -/
  | pcieHotplugRead (c : Cmd)
  /-- PCIE_HOTPLUG_REMOVE (R276). Requests orderly removal through the attention button of the owning host. -/
  | pcieHotplugRemove (c : Cmd)
  /-- PCIE_HOTPLUG_POWER_OFF (R276). Powers the slot off and handles its traffic as for a lost host. -/
  | pcieHotplugPowerOff (c : Cmd)
  /-- PCIE_HOTPLUG_POWER_ON (R268). Powers the slot on and starts the PERST sequence. -/
  | pcieHotplugPowerOn (c : Cmd)
  /-- PCIE_HOTPLUG_SLOT_NUMBER (R276). Stores the Physical Slot Number. -/
  | pcieHotplugSlotNumber (c : Cmd)
  /-- PCIE_LOCK_STATUS (R277). Reports the lock semaphore. -/
  | pcieLockStatus (c : Cmd)
  /-- PCIE_LOCK_FORCE_RELEASE (R264). Owner forces release of the lock semaphore. -/
  | pcieLockForceRelease (c : Cmd)
  /-- USB_PORT_CFG (R312). Reads or stores the USB owner, policy or a port's flags. -/
  | usbPortCfg (c : Cmd)
  /-- USB_EP_CARVE (R313). Reads or stores the endpoint buffer carve. -/
  | usbEpCarve (c : Cmd)
  /-- USB_PORT_STATUS (R314). Reports a port's status and clears its latched wake. -/
  | usbPortStatus (c : Cmd)
  /-- USB_PORT_STATUS_CLEAR (R314). Reports a port's status, then clears its counters. -/
  | usbPortStatusClear (c : Cmd)
  /-- USB_CHARGE_CFG (R315). Reads or stores a port's charging mode and Rp request. -/
  | usbChargeCfg (c : Cmd)
  /-- NET_PORT_CFG (R346). Reads or sets a switch port's configuration. -/
  | netPortCfg (c : Cmd)
  /-- NET_VLAN_SET_VLAN (R347). Replaces a VLAN's member and untagged bitmaps. -/
  | netVlanSetVlan (c : Cmd)
  /-- NET_VLAN_ADD_STATIC (R347). Adds a static address entry. -/
  | netVlanAddStatic (c : Cmd)
  /-- NET_VLAN_REMOVE_STATIC (R347). Removes a static address entry. -/
  | netVlanRemoveStatic (c : Cmd)
  /-- NET_VLAN_FLUSH (R347). Removes the dynamic address entries named. -/
  | netVlanFlush (c : Cmd)
  /-- NET_VLAN_AGING (R347). Sets the address aging time. -/
  | netVlanAging (c : Cmd)
  /-- NET_VLAN_READ (R347). Returns a VLAN's bitmaps. -/
  | netVlanRead (c : Cmd)
  /-- NET_MARK_CFG (R348). Reads or sets a queue's ECN marking and limit. -/
  | netMarkCfg (c : Cmd)
  /-- NET_OVERFLOW_CFG_PORT (R349). Reads or sets a physical port's DRAM overflow enable and limit. -/
  | netOverflowCfgPort (c : Cmd)
  /-- NET_OVERFLOW_CFG_SHRINK (R336). Starts shrinking the network overflow region, posting PENDING. -/
  | netOverflowCfgShrink (c : Cmd)
  /-- OVERFLOW_SHRINK_DRAINED (R336). The area given up is empty, so the shrink completes and PB_DRAM_MAP is written. -/
  | overflowShrinkDrained
  /-- OVERFLOW_SHRINK_TIMEOUT (R336). After 100 ms frames still in the area are discarded and the shrink completes. -/
  | overflowShrinkTimeout
  /-- NET_RESEQ_CFG (R350). Reads or sets a resequencer's enable, window and timeout. -/
  | netReseqCfg (c : Cmd)
  /-- NET_COUNTERS_READ (R351). Reads a switch port's counters and fired bitmap. -/
  | netCountersRead (c : Cmd)
  /-- NET_COUNTERS_CLEAR (R351). Reads, then clears, a switch port's counters. -/
  | netCountersClear (c : Cmd)
  /-- NET_COUNTERS_THRESHOLD (R351). Sets a counter threshold and window. -/
  | netCountersThreshold (c : Cmd)
  /-- CAN_PORT_CFG (R370). Reads, or stores and applies a CAN port's mode and bit timing. -/
  | canPortCfg (c : Cmd)
  /-- CAN_MAP_BEGIN (R371). Empties the staging map. -/
  | canMapBegin (c : Cmd)
  /-- CAN_MAP_FRAMES (R371). Writes frame entries into the staging map. -/
  | canMapFrames (c : Cmd)
  /-- CAN_MAP_SIGNALS (R371). Writes signal entries into the staging map. -/
  | canMapSignals (c : Cmd)
  /-- CAN_MAP_COMMIT (R371). Checks and commits the staging map, optionally storing it in flash. -/
  | canMapCommit (c : Cmd)
  /-- CAN_MAP_STATUS (R371). Reports the map generation, sizes and bridge counters. -/
  | canMapStatus (c : Cmd)
  /-- CAN_SIGNAL_READ (R372). Returns the current values of signals. -/
  | canSignalRead (c : Cmd)
  /-- CAN_SIGNAL_WRITE (R373). Writes transmitted signal values all or nothing. -/
  | canSignalWrite (c : Cmd)
  /-- CAN_LEGACY_ROUTE_CLEAR (R374). Removes every legacy route. -/
  | canLegacyRouteClear (c : Cmd)
  /-- CAN_LEGACY_ROUTE_LOAD (R374). Adds legacy routes, effective at once. -/
  | canLegacyRouteLoad (c : Cmd)
  /-- CAN_LEGACY_ROUTE_STORE (R374). Writes the routes in force into the stored-map area. -/
  | canLegacyRouteStore (c : Cmd)
  /-- CAN_LEGACY_ROUTE_READ (R374). Returns legacy routes. -/
  | canLegacyRouteRead (c : Cmd)
  /-- PAIR_JOIN (R381). Requests a Span or Mirror join with the partner, posting PENDING. -/
  | pairJoin (c : Cmd)
  /-- PAIR_JOIN_TIMEOUT (R381). No matching join on the partner within 10 s completes the join with NO_RESOURCE. -/
  | pairJoinTimeout
  /-- PAIR_JOIN_MATCHED (R382). Both chips hold matching joins, so checks run and the pair forms or the Mirror copy starts. -/
  | pairJoinMatched (j : PartnerJoin)
  /-- MIRROR_SYNC_DONE (R382). Night's copy and timing are aligned, so both chips enter states 7 and 8 and the join completes. -/
  | mirrorSyncDone
  /-- PAIR_LEAVE (R383). Starts leaving the pair, posting PENDING. -/
  | pairLeave (c : Cmd)
  /-- PAIR_LEAVE_DONE (R383). Both chips are Unpaired, so PAIR_LEAVE completes with OK. -/
  | pairLeaveDone
  /-- PAIR_STATUS (R411). Returns the pair status report. -/
  | pairStatus (c : Cmd)
  /-- PAIR_STATUS_CLEAR (R411). Returns the pair status report, then clears its counters. -/
  | pairStatusClear (c : Cmd)
  /-- PAIR_HANDOVER_PLANNED (R403). Requests a handover at the next safe vertical blanking. -/
  | pairHandoverPlanned (c : Cmd)
  /-- PAIR_HANDOVER_IMMEDIATE (R403). Requests an immediate handover. -/
  | pairHandoverImmediate (c : Cmd)
  /-- PAIR_COMPARE_CFG (R410). Reads or stores the compared boundaries and transient limit. -/
  | pairCompareCfg (c : Cmd)
  /-- PWR_FEED_CFG (R440). Reads or stores the feed preference, windows, gap and return delay. -/
  | pwrFeedCfg (c : Cmd)
  /-- PWR_HOTSWAP_CFG (R441). Reads or stores the hot-swap limits and timers. -/
  | pwrHotswapCfg (c : Cmd)
  /-- PWR_EFUSE_CFG (R442). Reads or stores an eFuse channel's limit, sense resistor and blanking. -/
  | pwrEfuseCfg (c : Cmd)
  /-- PWR_STATUS (R444). Returns the power-path status report. -/
  | pwrStatus (c : Cmd)
  /-- PWR_STATUS_CLEAR (R444). Returns the power-path status report, then clears PWR_STS flags. -/
  | pwrStatusClear (c : Cmd)
  /-- PWR_PD_POLICY (R443). Reads or stores an uplink's PDO enables, limits and converter address. -/
  | pwrPdPolicy (c : Cmd)
  /-- PWR_FAULT_CLEAR (R426). Clears latched hot-swap, eFuse or uplink lockout faults. -/
  | pwrFaultClear (c : Cmd)
  /-- PM_ISLAND_SET (R465). Reads or sets an island's sleep setting or park. -/
  | pmIslandSet (c : Cmd)
  /-- PM_STOP (R453). Checks and accepts entry into Stop, with or without retention. -/
  | pmStop (c : Cmd)
  /-- PM_WAKE_CFG (R467). Reads or stores the wake source enables, polarities and debounces. -/
  | pmWakeCfg (c : Cmd)
  /-- PM_STATUS (R468). Returns the wake and brown-out report. -/
  | pmStatus (c : Cmd)
  /-- PM_STATUS_CLEAR (R468). Returns the report, then clears the brown-out flag and source bitmap. -/
  | pmStatusClear (c : Cmd)
  /-- FLT_STATUS (R490). Returns the fault status report. -/
  | fltStatus (c : Cmd)
  /-- FLT_STATUS_CLEAR (R490). Returns the fault status report, then clears its counters. -/
  | fltStatusClear (c : Cmd)
  /-- FLT_STATUS_DISABLE (R490). Sets the bitmap of fault classes whose detection is disabled. -/
  | fltStatusDisable (c : Cmd)
  /-- FLT_LOG_READ (R491). Returns fault-log entries. -/
  | fltLogRead (c : Cmd)
  /-- FLT_INJECT_TRANSIENT (R492). Causes one transient fault occurrence after posting OK. -/
  | fltInjectTransient (c : Cmd)
  /-- FLT_INJECT_PERSISTENT (R492). Causes a persistent fault until cleared or reset. -/
  | fltInjectPersistent (c : Cmd)
  /-- FLT_INJECT_CLEAR (R492). Ends every persistent injection. -/
  | fltInjectClear (c : Cmd)
  /-- CRC_CHANNEL_CONFIGURE (R493). Configures a check-value channel's width, polynomial, initial value and flags. -/
  | crcChannelConfigure (c : Cmd)
  /-- CRC_CHANNEL_ASSIGN (R493). Assigns a check-value channel to a host or to none. -/
  | crcChannelAssign (c : Cmd)
  /-- CRC_CHANNEL_READ (R493). Returns a check-value channel's configuration. -/
  | crcChannelRead (c : Cmd)
  /-- SCRUB_CFG (R494). Reads or stores the SRAM and DRAM sweep periods. -/
  | scrubCfg (c : Cmd)
  /-- REPAIR_STATUS (R495). Reports repairs and optionally page retirement records. -/
  | repairStatus (c : Cmd)
  /-- SEC_BLOCK_WORLD (R500). Reads or sets Block World Table entries. -/
  | secBlockWorld (c : Cmd)
  /-- SEC_REGION_WORLD (R503). Reads or sets remainder entries of the Region World Table. -/
  | secRegionWorld (c : Cmd)
  /-- LC_TRANSITION (R506). Checks a signed life-cycle transition and starts it, posting PENDING. -/
  | lcTransition (c : Cmd)
  /-- LC_STATUS (R526). Returns the life-cycle status and issues a new nonce to the owner. -/
  | lcStatus (c : Cmd)
  /-- NV_WEAR_READ (R527). Returns wear counters of persistent words. -/
  | nvWearRead (c : Cmd)
  /-- SEC_ATTEST_REPORT (R515). Returns a signed attestation report over a nonce. -/
  | secAttestReport (c : Cmd)
  /-- SEC_ATTEST_CERTIFICATE (R515). Returns part of the attestation certificate chain. -/
  | secAttestCertificate (c : Cmd)
  /-- TEL_SAMPLE_CFG (R551). Reads or sets the telemetry selection and interval. -/
  | telSampleCfg (c : Cmd)
  /-- TEL_READ (R552). Returns the latest telemetry sample. -/
  | telRead (c : Cmd)
  /-- TEL_READ_EXTREMES (R552). Returns minima and maxima, then restarts them. -/
  | telReadExtremes (c : Cmd)
  /-- TEL_THERMAL (R553). Reads or sets the warning and high temperature thresholds. -/
  | telThermal (c : Cmd)
  /-- KARXO_TAKE_COMMAND (R79). Karxo takes the next queued command of a mailbox once response slots allow and copies its slot. -/
  | karxoTakeCommand
  /-- MB_CMD_PI_WRITE (R75). A write to the command producer index queues commands as the doorbell. -/
  | mbCmdPiWrite (req : Requester) (m : MbNo) (v : Word)
  /-- MB_RSP_CI_WRITE (R75). A write to the response consumer index frees response slots. -/
  | mbRspCiWrite (req : Requester) (m : MbNo) (v : Word)
  /-- MB_EVT_CI_WRITE (R75). A write to the event consumer index frees event entries. -/
  | mbEvtCiWrite (req : Requester) (m : MbNo) (v : Word)
  /-- MB_CTRL_LOST_CLR (R92). Writing LOST_CLR sets EVT_LOST to 0. -/
  | mbCtrlLostClr (req : Requester) (m : MbNo) (v : Word)
  /-- EVT_PEND_CLEAR (R94). A W1C write to EVT_PEND clears pending bits and may release INT_N. -/
  | evtPendClear (req : Requester) (hi : Bool) (v : Word)
  /-- INT_EN_WRITE (R94). A write to INT_EN0/1 changes which pending bits drive INT_N. -/
  | intEnWrite (req : Requester) (hi : Bool) (v : Word)
  /-- DISP_COMMIT_WRITE (R203). Writing a DISP_COMMIT bit snapshots a group's shadows as its pending set. -/
  | dispCommitWrite (req : Requester) (o : OutNo) (v : Word)
  /-- PB_WORD_WRITE (R517). A write to a persistent word completes when persistent and advances its wear counter. -/
  | pbWordWrite (req : Requester) (w : Fin 1024) (v : Word)
  /-- REGISTER_WRITE (R18). A write to any other register applies its access codes, refusals and reserved-space rules. -/
  | registerWrite (req : Requester) (off : BitVec 18) (v : Word)
  /-- READ_REQ (R62). A management READ_REQ is executed and answered with READ_CPL. -/
  | readReq (u : Up)
  /-- WRITE_REQ (R62). A management WRITE_REQ is executed word by word and answered with WRITE_ACK. -/
  | writeReq (u : Up)
  /-- MGMT_OTHER_TYPE (R61). A management request of another type is answered as malformed with status 1. -/
  | mgmtOtherType (u : Up)
  /-- TUN_INT_HOLDOFF_EXPIRY (R95). The interrupt holdoff ends and a further INTERRUPT packet is sent if an index advanced. -/
  | tunIntHoldoffExpiry (u : Up)
  /-- EP0_VENDOR_READ (R65). A vendor READ control transfer reads window words. -/
  | ep0VendorRead (wValue wIndex wLength : BitVec 16)
  /-- EP0_VENDOR_WRITE (R65). A vendor WRITE control transfer writes window words after its data stage. -/
  | ep0VendorWrite (wValue wIndex wLength : BitVec 16) (data : List Byte)
  /-- EP1_OUT_TRANSFER (R66). A bulk OUT transfer writes command slot images and advances MB_CMD_PI. -/
  | ep1OutTransfer (data : List Byte)
  /-- EP1_IN_ACKNOWLEDGED (R67). The host acknowledges a response transfer in fall-back and MB_RSP_CI advances. -/
  | ep1InAcknowledged
  /-- EP2_IN_ACKNOWLEDGED (R68). The host acknowledges an event entry transfer in fall-back and MB_EVT_CI advances. -/
  | ep2InAcknowledged
  /-- UPSTREAM_BUS_RESET (R69). An upstream USB reset disables ports, resets the management function and aborts queued commands. -/
  | upstreamBusReset (partialTransfer : Bool)
  /-- SPI_WRITE (R70). An SPI WRITE transaction writes data words through the 64-word buffer. -/
  | spiWrite (off : BitVec 24) (words : List Word) (cut : Bool)
  /-- SPI_READ (R70). An SPI READ transaction returns words from the offset onward. -/
  | spiRead (off : BitVec 24) (count : Nat)
  /-- SPI_STATUS (R73). An SPI STATUS transaction returns the status byte and clears bits 3 to 1. -/
  | spiStatus
  /-- SPI_BAD_TRANSACTION (R71). An unknown command byte or a transaction cut short records FORMAT and accesses nothing. -/
  | spiBadTransaction (raw : List Byte)
  /-- INT_HOLDOFF_EXPIRY (R94). INT_HOLDOFF runs out and INT_N asserts if an enabled bit is pending. -/
  | intHoldoffExpiry
  /-- KARXO_READY (R84). Karxo finishes start-up, fills its registers, sets INIT and READY. -/
  | karxoReady
  /-- VDM_DISCOVER_IDENTITY (R98). Answers Discover Identity with vendor and product. -/
  | vdmDiscoverIdentity (u : Up)
  /-- VDM_DISCOVER_SVIDS (R98). Answers Discover SVIDs, offering 0x3A71 when the cable qualifies. -/
  | vdmDiscoverSvids (u : Up)
  /-- VDM_DISCOVER_MODES (R98). Answers Discover Modes with the Xansa mode VDO. -/
  | vdmDiscoverModes (u : Up) (svid : BitVec 16)
  /-- ENTER_MODE (R99). Answers Enter Mode and starts bring-up at Detect, or NAKs it. -/
  | enterMode (u : Up) (svid : BitVec 16)
  /-- EXIT_MODE (R101). Ends the Xansa link and falls back to USB. -/
  | exitMode (u : Up)
  /-- NO_CONTRACT_TIMEOUT (R101). No explicit contract within 1 s of attach makes the uplink fall back. -/
  | noContractTimeout (u : Up)
  /-- NO_ENTER_MODE_TIMEOUT (R101). No Enter Mode within 1 s of the contract makes the uplink fall back. -/
  | noEnterModeTimeout (u : Up)
  /-- EXIT_MODE_WAIT_TIMEOUT (R101). No Exit Mode within 500 ms after training failed, so the hub issues Hard Reset. -/
  | exitModeWaitTimeout (u : Up)
  /-- BRINGUP_STATE_EXIT (R104). A bring-up state's exit condition holds and the next state begins. -/
  | bringupStateExit (l : LinkNo) (ok : BitVec 4)
  /-- BRINGUP_STATE_TIMEOUT (R104). A bring-up state's timeout expires and the attempt fails. -/
  | bringupStateTimeout (l : LinkNo) (ok : BitVec 4)
  /-- BRINGUP_RETRY_WAIT (R106). The 10 ms wait after a failed attempt ends and a new attempt starts at Detect. -/
  | bringupRetryWait (l : LinkNo)
  /-- CAP_RECEIVED (R114). The host's CAP ordered sets are checked during capability exchange. -/
  | capReceived (l : LinkNo) (cap : BitVec 64)
  /-- RETRAIN_RECEIVED (R108). RETRAIN ordered sets from the peer start a retrain. -/
  | retrainReceived (l : LinkNo)
  /-- RETRAIN_TIMEOUT (R109). The link has not returned to Active within 100 ms of a retrain, so the host is lost. -/
  | retrainTimeout (l : LinkNo)
  /-- LINK_FRAME_RECEIVE (R116). A link frame is received, CRC-checked, acknowledged, reordered and depacked. -/
  | linkFrameReceive (l : LinkNo) (p : PairNo) (bs : List Block)
  /-- NAK_RECEIVED (R125). A received NAK makes the sender replay the named frame. -/
  | nakReceived (l : LinkNo) (block : BitVec 64)
  /-- REPLAY_TIMEOUT (R125). No acknowledgement of the oldest frame for 4 µs replays every unacknowledged frame. -/
  | replayTimeout (l : LinkNo)
  /-- LINK_FRAME_SEND (R120). A lane can begin a frame and the sender assigns the next data, idle or reserved frame. -/
  | linkFrameSend (l : LinkNo) (p : PairNo)
  /-- LANE_LOST (R144). A lane loss is detected and the direction carries on with its remaining lanes. -/
  | laneLost (l : LinkNo) (p : PairNo) (blockLock : Bool)
  /-- LANE_DOWN_RECEIVED (R144). A LANE_DOWN ordered set reports lanes lost, restored or turned as spares. -/
  | laneDownReceived (l : LinkNo) (lost restored spare : BitVec 4)
  /-- SPARE_TURN_TIMEOUT (R146). The spare pair has no block lock within 20 µs, so it is lost and a retrain starts. -/
  | spareTurnTimeout (u : Up)
  /-- LANE_RESTORE_ATTEMPT (R147). At 100 ms after loss, then every 1 s, the hub retrains a lost lane. -/
  | laneRestoreAttempt (l : LinkNo) (p : PairNo)
  /-- LANE_RESTORED (R147). A lost lane's retrain succeeds and it rejoins at a frame boundary. -/
  | laneRestored (l : LinkNo) (p : PairNo)
  /-- LANE_IDLE_TIMEOUT (R133). A lane's idle period expires and it enters a permitted sleep state after EIOS. -/
  | laneIdleTimeout (l : LinkNo) (p : PairNo) (target : Sleep)
  /-- EIOS_RECEIVED (R132). The peer's EIOS puts a lane into a sleep state or starts a turn. -/
  | eiosReceived (l : LinkNo) (p : PairNo) (target : Byte)
  /-- LANE_WAKE (R132). Queued data exceeds the awake lanes' capacity, so the sender leaves a sleeping lane. -/
  | laneWake (l : LinkNo) (p : PairNo)
  /-- WAKE_BURST_RECEIVED (R136). A wake burst on a direction in Deep is answered and the link re-enters Active. -/
  | wakeBurstReceived (u : Up)
  /-- WAKE_PATTERN_TIMEOUT (R136). No answer after 32 wake bursts starts a retrain. -/
  | wakePatternTimeout (u : Up)
  /-- TAP_SATURATION_TIMEOUT (R130). A tap stays at the end of its range for 100 ms and is counted. -/
  | tapSaturationTimeout (l : LinkNo) (p : PairNo) (tap : Fin 12)
  /-- LINK_COUNTER_WINDOW (R148). A link counter's window ends and its threshold count restarts. -/
  | linkCounterWindow (u : Up) (k : Fin 16)
  /-- TUNNEL_PACKET_RECEIVE (R156). A tunnel packet from the link is checked, policed, credited and passed to its endpoint. -/
  | tunnelPacketReceive (u : Up)
  /-- SCHED_SELECT (R177). The link layer can begin a packet and the scheduler chooses the next one toward the host. -/
  | schedSelect (u : Up)
  /-- SCHED_REFILL (R177). The 1 µs refill tick commits shadows and refills tunnel, class and policer buckets. -/
  | schedRefill
  /-- CREDIT_RETURN_TIMEOUT (R167). Freed units not returned within 2 µs are sent in a zero-length packet. -/
  | creditReturnTimeout (u : Up) (tid : Byte)
  /-- KEEPALIVE_SEND_TIMEOUT (R166). Nothing sent for the keepalive interval, so a zero-length packet is sent. -/
  | keepaliveSendTimeout (u : Up) (tid : Byte)
  /-- TUNNEL_SILENT_TIMEOUT (R166). Nothing received for three keepalive intervals makes the tunnel Silent. -/
  | tunnelSilentTimeout (u : Up) (tid : Byte)
  /-- CREDIT_STALL_TIMEOUT (R169). The head packet has waited 10 ms without credit, raising event 17. -/
  | creditStallTimeout (u : Up) (tid : Byte)
  /-- PL_CHANGE_CONFIRMED (R35). READ_VOUT has been within 2 % of the new point for 100 µs and the level change completes. -/
  | plChangeConfirmed
  /-- PL_CHANGE_TIMEOUT (R37). READ_VOUT has not reached the new point within 1 ms, so the change fails. -/
  | plChangeTimeout
  /-- PL_AUTO_LOWER (R593). In Dusk Karxo starts a lowering to PL3 once every admitted configuration passes at PL3. -/
  | plAutoLower
  /-- PMBUS_TRANSACTION_TIMEOUT (R585). A PMBus transaction not complete after 35 ms is abandoned. -/
  | pmbusTransactionTimeout (cv : Converter)
  /-- PMBUS_ALERT (R435). A VBUS converter fault on PMB_ALERT_N or STATUS_WORD opens the VBUS switch and issues Hard Reset. -/
  | pmbusAlert (u : Up)
  /-- PMBUS_STATUS_POLL (R435). The 10 ms poll reads converter status when PMB_ALERT_N is not wired. -/
  | pmbusStatusPoll (u : Up) (faulted : Bool)
  /-- TILE_MESSAGE (R194). A complete TILE message is decoded and written into its region. -/
  | tileMessage (h : HostNo) (tid : Byte)
  /-- FLIP_MESSAGE (R206). A FLIP message writes layer shadows and requests their commit. -/
  | flipMessage (h : HostNo) (tid : Byte)
  /-- VBLANK_START (R202). Vertical blanking begins: frame count advances and pending sets are checked and applied. -/
  | vblankStart (o : OutNo)
  /-- CRC_REGION_FINAL (R220). A region's check value is final and is compared, raising a mismatch if it differs. -/
  | crcRegionFinal (o : OutNo) (r : Option (Fin 8)) (pathDiffers : Bool)
  /-- SCANOUT_UNDERRUN (R218). A line's data is missing as it is sent, so background is sent and event 4 raised. -/
  | scanoutUnderrun (o : OutNo)
  /-- DP_HPD_CHANGE (R215). A sink attaches, detaches or signals IRQ_HPD, setting SINK_CHG and training the link. -/
  | dpHpdChange (o : OutNo) (e : HpdEvent)
  /-- DP_LINK_TRAINING_DONE (R215). Link training ends as trained or failed. -/
  | dpLinkTrainingDone (o : OutNo) (trained : Bool)
  /-- DP_LINK_RETRY_TIMEOUT (R215). Every 1 s the hub retries training a sink that failed. -/
  | dpLinkRetryTimeout (o : OutNo)
  /-- HOLD_TIMEOUT (R223). The hold action 1 timeout ends and the hold screen is shown from the next blanking. -/
  | holdTimeout (o : OutNo)
  /-- PCIE_TLP_FROM_HOST (R248). A TLP from a storage tunnel is routed and queued toward a port. -/
  | pcieTlpFromHost (h : HostNo) (tid : Byte)
  /-- PCIE_TLP_FROM_DEVICE (R248). A TLP from a downstream link is routed toward its host or peer. -/
  | pcieTlpFromDevice (p : PciePort) (tlp : List Byte)
  /-- PCIE_COMPLETION_TIMEOUT (R260). No completion within 50 ms, so the bridge completes with Completer Abort and logs it. -/
  | pcieCompletionTimeout (p : PciePort) (towardHost : Bool) (rid : BitVec 16) (tag : BitVec 10)
  /-- PCIE_NP_OVERFLOW_FORWARD (R249). A tracking entry frees and the oldest held non-posted request is forwarded. -/
  | pcieNpOverflowForward (p : PciePort) (towardHost : Bool)
  /-- PREFETCH_EXPIRY (R256). A prefetch entry unhit 10 µs after its data arrived is discarded. -/
  | prefetchExpiry (p : PciePort) (k : Fin 16)
  /-- PREFETCH_DATA_ARRIVED (R256). Prefetch data arrives and completes any waiting demand read. -/
  | prefetchDataArrived (p : PciePort) (k : Fin 16) (data : Option (List Byte))
  /-- LOCK_WAIT_TIMEOUT (R263). A locked read waiting 10 ms completes with Completer Abort. -/
  | lockWaitTimeout
  /-- LOCK_IDLE_TIMEOUT (R264). The lock holder sends nothing toward the locked port for 100 ms, so the lock is released. -/
  | lockIdleTimeout
  /-- PCIE_SLOT_INPUT_CHANGE (R267). Presence, attention button or power fault input changes a slot's status. -/
  | pcieSlotInputChange (p : PciePort) (e : SlotInput)
  /-- PCIE_SLOT_POWER_GOOD (R268). 100 ms after power good PERST is released and training begins. -/
  | pcieSlotPowerGood (p : PciePort)
  /-- PCIE_LINK_STATE_CHANGE (R251). A downstream port changes link state, raising event 32. -/
  | pcieLinkStateChange (p : PciePort) (st : BitVec 4) (rate : BitVec 3) (width : BitVec 4)
  /-- NVME_SHUTDOWN_DONE (R272). The controller completes its shutdown, or the wait ends, and the port is presented to the host. -/
  | nvmeShutdownDone (p : PciePort)
  /-- USB_REQUEST (R289). A REQUEST message is scheduled as bus transactions at its port. -/
  | usbRequest (h : HostNo) (tid : Byte)
  /-- USB_HUB_REQUEST (R291). A HUB_REQUEST message is answered as the hub answers the class request. -/
  | usbHubRequest (h : HostNo) (tid : Byte)
  /-- USB_CANCEL (R290). A CANCEL message ends the named request with status 6. -/
  | usbCancel (h : HostNo) (tid : Byte)
  /-- USB_MALFORMED_MESSAGE (R288). A malformed USB message is completed with status 7 or discarded. -/
  | usbMalformedMessage (h : HostNo) (tid : Byte)
  /-- USB_TRANSFER_DONE (R289). A request's bus transactions end and its COMPLETION is queued. -/
  | usbTransferDone (h : HostNo) (tid : Byte) (xid : BitVec 16) (status : Byte) (actual : Nat) (data : List Byte)
  /-- USB_MICROFRAME_BOUNDARY (R292). A microframe boundary sends SOF and ITP and, each millisecond, a TIME message. -/
  | usbMicroframeBoundary
  /-- USB_PORT_CHANGE (R291). A port change bit is set and HUB_CHANGE is sent with event 40. -/
  | usbPortChange (ss : Bool) (port : Fin 8) (status change : BitVec 16)
  /-- USB_REMOTE_WAKE (R301). A device signals remote wake, which is latched and propagated. -/
  | usbRemoteWake (ss : Bool) (port : Fin 8)
  /-- USB_UPSTREAM_SUSPEND (R301). The upstream port in fall-back suspends or resumes, raising event 39. -/
  | usbUpstreamSuspend (resume : Bool)
  /-- USB_LPM_TOKEN (R300). An LPM token to the hub is answered ACK or NYET. -/
  | usbLpmToken
  /-- USB_RESUME_DONE (R299). A port's resume drive and BESL wait end and the request is issued. -/
  | usbResumeDone (port : Fin 8)
  /-- BC12_DETECTION (R308). A device performs BC1.2 detection, raising event 42. -/
  | bc12Detection (port : Fin 8) (kind : BitVec 4)
  /-- CHARGE_ROLE_CHANGE_DONE (R308). The 500 ms VBUS removal of a role change ends and the new role applies. -/
  | chargeRoleChangeDone (port : Fin 8)
  /-- TYPEC_RD_ATTACH (R310). Rd on one CC pin for 150 ms switches VBUS on and sets orientation. -/
  | typecRdAttach (port : Fin 8) (cc2 : Bool)
  /-- TYPEC_RD_ABSENT (R310). Rd absent for 10 ms removes VBUS. -/
  | typecRdAbsent (port : Fin 8)
  /-- USB_STORAGE_COMMAND (R306). A SCSI command on a storage interface is carried out as NVMe. -/
  | usbStorageCommand (p : PciePort) (lun : Byte) (cdb : List Byte) (data : List Byte)
  /-- USB_LOOPBACK_PACKET (R307). A loopback packet is returned on its IN endpoint. -/
  | usbLoopbackPacket (iso : Bool) (data : List Byte)
  /-- ETH_FRAME_RECEIVE (R324). A frame received on a physical port is filtered, learned and forwarded. -/
  | ethFrameReceive (p : EthPort) (frame : List Byte) (fcsOk : Bool)
  /-- NET_MESSAGE_RECEIVE (R318). A frame message from a virtual port's tunnel is filtered and forwarded. -/
  | netMessageReceive (h : HostNo) (tid : Byte)
  /-- ETH_LINK_CHANGE (R321). A physical link goes up or down, raising event 44 or 45. -/
  | ethLinkChange (p : EthPort) (up : Bool) (speed : BitVec 3) (pauseTx pauseRx : Bool)
  /-- NET_EGRESS_SELECT (R329). A port can send and its scheduler chooses the next frame, marking ECN. -/
  | netEgressSelect (sp : SwPort)
  /-- PAUSE_REFRESH_TIMEOUT (R334). Half the sent pause quanta have passed above XON, so the pause frame is repeated. -/
  | pauseRefreshTimeout (p : EthPort)
  /-- PAUSE_QUANTA_EXPIRY (R333). Received pause quanta run out and paused priorities resume. -/
  | pauseQuantaExpiry (p : EthPort) (prios : Byte)
  /-- ADDRESS_AGING_TIMEOUT (R323). An unrefreshed dynamic address entry is removed. -/
  | addressAgingTimeout (addr : BitVec 48) (vid : BitVec 12)
  /-- OVERFLOW_READBACK_DONE (R337). A DRAM read-back completes and the resequencer releases frames in order. -/
  | overflowReadbackDone (p : EthPort) (q : Fin 8) (seq : BitVec 16) (ok : Bool)
  /-- RESEQ_TIMEOUT (R338). A missing number is given up after τ, releasing held frames and raising event 48. -/
  | reseqTimeout (p : EthPort) (q : Fin 8)
  /-- NET_COUNTER_WINDOW (R343). A switch counter's threshold window ends and its count restarts. -/
  | netCounterWindow (sp : SwPort) (k : Fin 24)
  /-- CAN_FRAME_RECEIVE (R359). A received CAN frame updates its signals and runs legacy routes. -/
  | canFrameReceive (p : CanPort) (f : CanFrame)
  /-- CAN_BUS_STATE_CHANGE (R355). A port's bus state changes, raising event 50 or 51. -/
  | canBusStateChange (p : CanPort) (st : BusState) (tec : BitVec 8) (rec : BitVec 8)
  /-- CAN_BUS_OFF_RECOVERED (R355). Automatic recovery ends bus-off after 128 idle sequences. -/
  | canBusOffRecovered (p : CanPort)
  /-- CAN_PERIOD_DUE (R362). A transmitted frame's period boundary queues it. -/
  | canPeriodDue (f : Fin 256)
  /-- CAN_GAP_EXPIRY (R362). A frame's GAP ends and a held change is sent. -/
  | canGapExpiry (f : Fin 256)
  /-- CAN_FRAME_SENT (R362). A frame is sent and the next queued frame is offered by lowest identifier. -/
  | canFrameSent (p : CanPort)
  /-- CAN_DELIVERY_DUE (R360). A due signal's PERIOD elapses and its UPDATE is queued to the host. -/
  | canDeliveryDue (h : HostNo) (sig : Fin 1024)
  /-- CAN_SIGNAL_STALE (R361). A received signal's TIMEOUT expires, making it stale with event 52. -/
  | canSignalStale (sig : Fin 1024)
  /-- CAN_WRITE_MESSAGE (R365). A WRITE message from a host's signal tunnel applies its entries. -/
  | canWriteMessage (h : HostNo) (tid : Byte)
  /-- CAN_WAKE (R368). A CAN wake is recognised on a port in standby or Stop, raising event 53. -/
  | canWake (p : CanPort)
  /-- BND_PRES_LOW (R375). BND_PRES_N low for 10 ms starts bond link bring-up. -/
  | bndPresLow
  /-- PARTNER_LOST (R380). BND_PRES_N high or the bond link absent 100 ms makes the partner lost. -/
  | partnerLost (presHigh : Bool)
  /-- AUTO_REJOIN (R384). A chip in state 9 with auto-rejoin starts a Mirror join with a new partner. -/
  | autoRejoin (j : PartnerJoin)
  /-- FORWARDED_COMMAND (R385). A command arrives over bond TID 0 into MB3 and its responses are relayed back. -/
  | forwardedCommand (req : Requester) (id : Nat) (w0 w1 w2 w3 : Word) (payload : List Byte)
  /-- FORWARDED_WINDOW_ACCESS (R385). A window access forwarded to the partner is carried out and completed. -/
  | forwardedWindowAccess (req : Requester) (id : Nat) (off : BitVec 18) (count : Nat) (writes : Option (List Word))
  /-- RELAYED_EVENT (R386). An event from the partner is delivered into a host's mailbox with flag 18. -/
  | relayedEvent (ev : Fin 64) (hosts : Option (BitVec 2)) (time : BitVec 64) (arg : Word)
  /-- PAIR_TIME_MEASURE (R387). Every 1 ms the lead measures the pair time offset. -/
  | pairTimeMeasure (offset : BitVec 64)
  /-- MIRROR_STATE_FORWARD (R391). Night applies a state change forwarded by Day. -/
  | mirrorStateForward (ch : MirrorChange)
  /-- MIRROR_FORWARD_TIMEOUT (R391). A forwarded change not applied within 10 ms puts Night in state 10. -/
  | mirrorForwardTimeout
  /-- REPLICATED_TRAFFIC (R392). Night processes traffic replicated by Day as if received at its own balls. -/
  | replicatedTraffic (t : Replica)
  /-- ILK_RISE_SEEN (R396). A chip in state 8 sees ILK_N high and starts its claim wait. -/
  | ilkRiseSeen (planned : Bool)
  /-- ILK_CLAIM_WAIT_EXPIRY (R396). The claim wait ends with ILK_N high, so the chip pulls ILK_N low and becomes Day. -/
  | ilkClaimWaitExpiry
  /-- ILK_CLAIM_CONFIRM (R396). 3 ref cycles after claiming the chip reads ILK_N and confirms or abandons. -/
  | ilkClaimConfirm (low : Bool)
  /-- ILK_HIGH_WHILE_DAY (R397). Day reads ILK_N high, stops driving and enters state 10. -/
  | ilkHighWhileDay
  /-- ILK_NO_HOLDER_TIMEOUT (R397). ILK_N is low with no holder for 1 ms, an interlock fault. -/
  | ilkNoHolderTimeout
  /-- PAIR_WATCHDOG_EXPIRY (R398). The pair watchdog is not refreshed for 10 ms, so Day releases ILK_N. -/
  | pairWatchdogExpiry
  /-- SIGNATURE_BOUNDARY (R400). A signature boundary sends a record on bond TID 1. -/
  | signatureBoundary (k : SigKey)
  /-- SIGNATURE_RECORD_RECEIVED (R400). The partner's signature record arrives and the boundary is compared. -/
  | signatureRecordReceived (k : SigKey) (seq : Word) (sig : BitVec 64)
  /-- SIGNATURE_RECORD_TIMEOUT (R400). A partner record absent 100 µs after the own record counts as a mismatch. -/
  | signatureRecordTimeout (k : SigKey) (seq : Word)
  /-- PAIR_SELFTEST_DONE (R402). Both self-test results are in and the verdict of Table 10.5 is applied. -/
  | pairSelftestDone (own partner : Bool)
  /-- HANDOVER_PLANNED_START (R403). The planned handover's vertical blanking arrives with no CAN frame sending, so the handover starts. -/
  | handoverPlannedStart
  /-- DAY_PRSNT_RISE (R403). PRSNT_N rises on Day's card and an immediate handover starts. -/
  | dayPrsntRise
  /-- NEW_DAY_TAKEOVER (R405). After the claim the new Day opens tunnels, enters hold and brings ports up. -/
  | newDayTakeover
  /-- LAYER_OWNER_SILENT_TIMEOUT (R405). A layer owner sends nothing to the new Day within 100 ms and is handled as lost. -/
  | layerOwnerSilentTimeout (h : HostNo)
  /-- SHELL_START (R413). VIN_AON reaches 3.0 V and the power-path shell starts and reads its settings. -/
  | shellStart
  /-- FEED_WINDOW_LEAVE (R415). A feed leaves its window after the 2 µs filter and the feed in use may change. -/
  | feedWindowLeave (f : Feed) (mv : BitVec 16)
  /-- FEED_QUALIFIED (R414). A feed has been in window for 10 ms and is qualified. -/
  | feedQualified (f : Feed)
  /-- FEED_RETURN_DELAY_EXPIRY (R415). The preferred feed has been qualified for the return delay, so the shell reverts to it. -/
  | feedReturnDelayExpiry
  /-- FEED_GAP_EXPIRY (R416). The break-before-make gap ends and the incoming feed gate is driven. -/
  | feedGapExpiry
  /-- NO_FEED_TIMEOUT (R417). No feed in use for 1 ms pulls HSW_GATE low. -/
  | noFeedTimeout
  /-- INSERTION_DELAY_EXPIRY (R418). The insertion delay ends and the hot-swap ramp starts. -/
  | insertionDelayExpiry
  /-- POWER_GOOD (R420). VGS and VDS reach power-good, PG_OUT rises and the ramp timer stops. -/
  | powerGood
  /-- VBUS_GATE_DELAY_EXPIRY (R412). 10 ms after PG_OUT rises VBUS_GATE goes high. -/
  | vbusGateDelayExpiry
  /-- POWER_FAIL (R420). HSW_SNS below the power-fail threshold for 10 µs drops PG_OUT. -/
  | powerFail
  /-- FAST_TRIP (R421). The companion die's severe-current comparator cuts HSW_GATE. -/
  | fastTrip (vds : BitVec 16)
  /-- RAMP_TIMER_EXPIRY (R421). The ramp timer expires before power-good and HSW_GATE is pulled down. -/
  | rampTimerExpiry (vds : BitVec 16)
  /-- HOTSWAP_REGULATION (R421). A gate that is on enters or leaves regulation, restarting or stopping the ramp timer. -/
  | hotswapRegulation (enter : Bool) (vds : BitVec 16)
  /-- RETRY_TIMER_EXPIRY (R423). The retry timer ends and the shell returns to insertion. -/
  | retryTimerExpiry
  /-- RETRY_STATE_CHECKPOINT (R424). Every 1 ms the shell writes the retry state word. -/
  | retryStateCheckpoint
  /-- RETRY_COUNT_RESET (R423). PG_OUT high for 10 s returns the retry count to 0. -/
  | retryCountReset
  /-- PRSNT_REMOVED (R425). PRSNT_N high for 100 µs pulls HSW_GATE low and drops PG_OUT. -/
  | prsntRemoved
  /-- PRSNT_INSERTED (R418). PRSNT_N goes low and the insertion conditions begin to be timed. -/
  | prsntInserted
  /-- EFUSE_OVERLOAD_TRIP (R429). Channel current above the limit for the blanking time trips the channel. -/
  | efuseOverloadTrip (ch : Fin 6) (ma : BitVec 16)
  /-- EFUSE_SEVERE_TRIP (R429). Channel current at the severe threshold trips the channel at once. -/
  | efuseSevereTrip (ch : Fin 6) (ma : BitVec 16)
  /-- EFUSE_OFF_TIME_EXPIRY (R429). A tripped channel's 100 ms off time ends. -/
  | efuseOffTimeExpiry (ch : Fin 6)
  /-- PD_ATTACH (R433). Rd on one uplink CC pin for 150 ms sets VBUS to 5 V. -/
  | pdAttach (u : Up) (cc2 : Bool) (cable : Cable)
  /-- PD_VBUS_READY (R433). VBUS is in range and Source_Capabilities are sent. -/
  | pdVbusReady (u : Up)
  /-- PD_REQUEST (R433). A sink's Request is evaluated and Accepted or rejected. -/
  | pdRequest (u : Up) (rq : PdRequest)
  /-- PD_TRANSITION_START (R433). 30 ms after Accept the shell commands the new VBUS voltage. -/
  | pdTransitionStart (u : Up)
  /-- PD_TRANSITION_DONE (R433). READ_VOUT is within 5 % of the new voltage, so PS_RDY is sent and event 61 raised. -/
  | pdTransitionDone (u : Up)
  /-- PD_PS_RDY_TIMEOUT (R433). PS_RDY not sent within 275 ms or 700 ms of Accept issues Hard Reset. -/
  | pdPsRdyTimeout (u : Up)
  /-- PD_DETACH (R433). Detach opens the VBUS switch, discharges VBUS and loses the contract. -/
  | pdDetach (u : Up)
  /-- PD_HARD_RESET (R433). A Hard Reset is received or issued, ending the contract and the Xansa mode. -/
  | pdHardReset (u : Up)
  /-- PD_PPS_REQUEST_TIMEOUT (R434). A PPS sink sends no Request for 15 s and receives Hard Reset. -/
  | pdPpsRequestTimeout (u : Up)
  /-- PD_NEW_CAPS_TIMEOUT (R436). A sink does not request within 30 ms of new capabilities and receives Hard Reset. -/
  | pdNewCapsTimeout (u : Up)
  /-- PD_OTHER_MESSAGE (R431). Another PD message is answered, or answered Not_Supported. -/
  | pdOtherMessage (u : Up) (msg : PdOther)
  /-- ISLAND_SLEEP_ENTRY (R449). An island whose sleep condition holds enters S1 or S2 on its own. -/
  | islandSleepEntry (i : Island) (off : Bool)
  /-- ISLAND_SLEEP_EXIT (R448). A request or event needs a sleeping island and it leaves within its exit time. -/
  | islandSleepExit (i : Island)
  /-- STOP_POINT_OF_NO_RETURN (R454). Island 12 sends OPERATION off to the VDD_FAB converter. -/
  | stopPointOfNoReturn
  /-- WAKE_PIN_DEBOUNCED (R457). A WAKE pin has been active for its debounce time and is recognised. -/
  | wakePinDebounced (pin : Fin 4) (active : Bool)
  /-- WAKE_SOURCE_RECOGNISED (R456). An enabled wake source is recognised, aborting entry or starting the wake sequence. -/
  | wakeSourceRecognised (src : WakeSource)
  /-- WAKE_VDD_FAB_READY (R458). READ_VOUT confirms VDD_FAB and the core is released during a wake. -/
  | wakeVddFabReady
  /-- WAKE_COMPLETE (R458). The wake sequence ends with READY set on every mailbox. -/
  | wakeComplete
  /-- WAKE_EVENT_TIMEOUT (R459). 100 ms after recognition event 62 is registered if not yet. -/
  | wakeEventTimeout
  /-- TWILIGHT_BROWNOUT (R455). The Twilight branch collapses and every part but the shell restarts as a brown-out start. -/
  | twilightBrownout
  /-- THERMAL_SAMPLE (R462). Every 1 ms Tj is sampled and threshold crossings raise event 7. -/
  | thermalSample (t : Vector (BitVec 16) 4)
  /-- TELEMETRY_SAMPLE (R551). At each interval the selected telemetry quantities are written. -/
  | telemetrySample (q : Vector Word 16)
  /-- FABRIC_INVALID_CODE (R26). A completion check finds the invalid code, logging a fault and isolating the port. -/
  | fabricInvalidCode (p : FabPort) (fromXbar : Bool) (bit : BitVec 9) (falseRail : Bool)
  /-- FABRIC_STALL (R27). A handshake phase lasts 50 µs and the stall watchdog isolates the port. -/
  | fabricStall (p : FabPort) (fromXbar : Bool) (phase : BitVec 2)
  /-- PORT_SELFTEST_DONE (R474). A port's 2 ms self-test ends and the port rejoins or stays isolated. -/
  | portSelftestDone (p : FabPort) (pass : Bool)
  /-- REFCLK_LOSS (R46). No REFCLK edge for 10 µs moves island 12 to the ring oscillator and enters the safe state. -/
  | refclkLoss
  /-- SAFE_STATE_EXIT (R476). The exit condition's time passes and a warm reset is taken, unless a third entry holds. -/
  | safeStateExit
  /-- MEMORY_ECC_ERROR (R478). An SRAM or DRAM access meets a corrected or uncorrectable error. -/
  | memoryEccError (e : EccError)
  /-- SCRUB_READ (R480). The scrub engine reads the next word and writes corrected data back. -/
  | scrubRead (dram : Bool) (e : Option EccError)
  /-- LOCKSTEP_MISMATCH (R484). The cores' results differ and a processor restart begins. -/
  | lockstepMismatch (stage : BitVec 4)
  /-- PROCESSOR_WATCHDOG_EXPIRY (R484). The processor watchdog is not refreshed for 100 ms and a restart begins. -/
  | processorWatchdogExpiry
  /-- PROCESSOR_RESTART_DONE (R485). Karxo is reloaded, READY is set and interrupted commands receive final responses. -/
  | processorRestartDone
  /-- RESET_PIN (R586). RST_N low for at least 1 µs resets the hub. -/
  | resetPin (lowNs : Nat)
  /-- RESET_RELEASE (R575). RST_N is released as power-good and the hub commands VDD_FAB to the starting level. -/
  | resetRelease
  /-- RAIL_UNDERVOLTAGE (R576). A monitored rail below 95 % for 10 µs holds the hub in reset and marks a brown-out start. -/
  | railUndervoltage (rail : Rail)
  /-- HUB_CLASS_REQUEST (R283). In USB fall-back the host sends a standard or hub class control request, such as SetPortFeature(PORT_POWER) or a configuration of the management function, to the hub on its upstream port. -/
  | hubClassRequest (ss : Bool) (setup : BitVec 64) (data : List Byte)
  /-- ALLOT_DONE_RECEIVED (R141). The host's ALLOT_DONE ordered set arrives after a turn or spare turn in which the hub transmits on the turned pair, so the hub begins frames on it. -/
  | allotDoneReceived (u : Up) (b2 b3 : Byte)
  /-- RESUME_RECEIVED (R131). The peer leaves Quiet or Doze on a lane with signal and RESUME blocks, and the hub's receiver on that lane resumes before the first frame. -/
  | resumeReceived (l : LinkNo) (p : PairNo)
  /-- FEED_WINDOW_ENTER (R414). A feed's SNS voltage comes into its window, which sets A_WIN or B_WIN and starts its 10 ms qualification. -/
  | feedWindowEnter (f : Feed) (mv : BitVec 16)
  /-- REFCLK_RETURN (R476). REFCLK edges arrive again after a loss, starting the 10 ms of presence after which the safe state is left by a warm reset. -/
  | refclkReturn
  /-- POWER_LOSS (R413). VIN_AON falls below its threshold, so the power-path shell and the whole hub stop, leaving each persistent word with its old or its new value. -/
  | powerLoss
  /-- RELAYED_RESPONSE (R385). A response to a forwarded command arrives from the partner over bond TID 0 and is posted into the originating mailbox with its original tag and sequence number. -/
  | relayedResponse (id : Nat) (final : Bool) (status : BitVec 16) (payload : List Byte)
  /-- TWILIGHT_ENTRY (R454). VDD_FAB falls below 0.1 V after the converter is turned off, the always-on regulator enters Twilight and the hub is in Stop. -/
  | twilightEntry
  /-- SPI_WRITE_BUFFER_DRAINED (R72). The last word of the 64-word SPI write buffer has been carried out, so BUSY clears in the SPI status byte. -/
  | spiWriteBufferDrained
deriving DecidableEq, Repr

end Sys2Proof
end

