-- ==== Sys2Proof/Decode.lean ====
section
/-! DEFINITION. The command a table word spells. The opcode table gives no row any bits: the block is commanded by accesses, packets and events, not by encoded words. -/
namespace Sys2Proof

/-- The command that a word spells by the bits of the table: no row gives bits, so no word spells one. -/
def decodeTableWord (_nbits _w : Nat) : Option Instr := none

end Sys2Proof
end

