-- ==== Sys2Proof/Machine/State.lean ====
section
/-! DEFINITION. The state of the block: its parts and pins, what has left it, the queue of waiting commands, the faults and refusals, and the state right after reset. -/
namespace Sys2Proof.Machine

/-- Why a step could stop with a fault. No meaning of this model answers one: the spec gives every command an effect. -/
inductive Fault where
  /-- Kept for an access to an address that the spec says does not exist; no meaning raises it, since R20 and R21 give
  such accesses an effect. Safe. -/
  | noSuchAddress
deriving DecidableEq, Repr

/-- Why a step could refuse. -/
inductive Refusal where
  /-- Raised by an arm of `exec` whose command has no meaning yet. Safe. -/
  | notModelled (mnemonic : String)
deriving DecidableEq, Repr

/-! ### What leaves the chip -/

/-- The NVMe commands of the storage interfaces (R306). -/
inductive NvmeOp where
  | read | write | flush | deallocate
deriving DecidableEq, Repr

/-- One thing the hub sends or drives, in the order it does so. Of the log of them only
what goes over the bond link is read again, as its packets (R376; log entry 6). -/
inductive Emit where
  /-- An ordered set on a pair (R113): code, bytes 2 to 7, and the blocks of its run as scrambled on the wire (R111). -/
  | orderedSet (l : LinkNo) (p : PairNo) (code : Byte) (content : List Byte) (wire : List Block)
  /-- A NAK block on a pair (R124), with its block on the wire. -/
  | nak (l : LinkNo) (p : PairNo) (seq : BitVec 12) (reason : Byte) (wire : List Block)
  /-- A link frame on a pair (R115), with its 64 blocks on the wire. -/
  | frame (l : LinkNo) (p : PairNo) (hdr : Dword) (payload : List Byte) (trl : Dword) (wire : List Block)
  /-- A Fill block (Table 3.7). -/
  | fill (l : LinkNo) (p : PairNo) (wire : List Block)
  /-- Receiver-detect pulses, and PRBS31 without sync headers, begin on a pair (Table 3.5). -/
  | detect (l : LinkNo) (p : PairNo)
  | prbs (l : LinkNo) (p : PairNo)
  /-- A burst of the wake pattern on the transmit primary (R135). -/
  | wakeBurst (l : LinkNo) (p : PairNo)
  /-- An answer to a Structured VDM: 0 NAK, 1 ACK, 2 BUSY; the command, and its data objects (R98, R452). -/
  | vdm (u : Up) (answer : Fin 3) (command : Byte) (objects : List Word)
  /-- Attention with the given VDO (R101). -/
  | attention (u : Up) (vdo : Word)
  /-- A PD Hard Reset (R433). -/
  | hardReset (u : Up)
  /-- Bytes an SPI READ returns, and the status byte of an SPI STATUS (R70). -/
  | spiData (bytes : List Byte)
  | spiStatus (status : Byte)
  /-- The management function's answers: data of an EP0 READ, completion of an EP0 WRITE, STALL, a transfer offered on
  EP1 IN or EP2 IN (R65 to R68). -/
  | ep0Data (u : Up) (data : List Byte)
  | ep0Done (u : Up)
  | ep0Stall (u : Up)
  | epIn (u : Up) (ep : Byte) (data : List Byte)
  /-- NAK on an endpoint. -/
  | epNak (u : Up) (ep : Byte)
  /-- An event carried to the partner (R386). -/
  | relayedEvent (ev : Fin 64) (hosts : Option (BitVec 2)) (time : Dword) (arg : Word)
  /-- A response to a forwarded command, over bond TID 0 (R385). -/
  | forwardedResponse (id : Nat) (r : Response)
  /-- A command or a window access forwarded to the partner (R385). -/
  | forwardedCommand (id : Nat) (req : Requester) (opcode : Half) (c : Cmd)
  | forwardedAccess (req : Requester) (id : Nat) (off : BitVec 18) (count : Nat) (writes : Option (List Word))
  /-- The completion of a window access the partner forwarded. -/
  | accessCompletion (req : Requester) (id : Nat) (count : Nat) (data : List Word)
  /-- A PMBus command to a converter with its value in mV, mA or mV/µs (R34, R585). -/
  | pmbus (cv : Converter) (command : Byte) (value : Nat)
  /-- A state change Day forwards to Night, or a message on bond TIDs 1 and 2 (R376, R391). -/
  | mirrorChange (ch : MirrorChange)
  | replicated (t : Replica)
  | signature (k : SigKey) (seq : Word) (sig : Dword)
  | pairControl (code : Nat) (value : Dword)
  /-- An output's DisplayPort transmitters, with their lane rate and drive settings, carry the mode's symbol stream, or are in
  electrical idle (R394, R404). -/
  | displayLink (o : OutNo) (rate : BitVec 3) (drive : Word) (on : Bool)
  /-- A packet of a host's tunnel carried over the bond link to the partner's engine, by its bond TID (R388). -/
  | bondPacket (tid : Byte) (cls : BitVec 3) (last : Bool) (payload : List Byte)
  /-- A TLP sent on a downstream link (R248), a prefetch read included (R255). -/
  | tlp (p : PciePort) (bytes : List Byte)
  /-- The header and data credits a downstream link is advertised: posted, non-posted, completion (R247). -/
  | pcieCredits (p : PciePort) (posted nonPosted completion : Nat × Nat)
  /-- A reset, retrain or disable of a downstream link, by its state code (R251), and an NVMe shutdown request (R272). -/
  | pcieLink (p : PciePort) (code : Fin 9)
  | nvmeShutdown (p : PciePort)
  /-- An NVMe command Karxo carries out for a storage interface in fall-back (R306). -/
  | nvme (p : PciePort) (ns : Byte) (op : NvmeOp) (lba blocks : Nat) (data : List Byte)
  /-- USB bus transactions of a request begin at a port, or an interrupt one is retried (R289, R295); the order in which a
  port's bulk and control endpoints are served in a microframe (R289); the ports that take a high-speed SOF, a full-speed
  SOF and an ITP of a microframe index (R292); a resume driven on a port, or upstream (R299, R301); the answer to an LPM
  token (R300). -/
  | usbIssue (ss : Bool) (port : Byte) (hdr data : List Byte)
  | usbRound (ss : Bool) (port : Byte) (xids : List Nat)
  | usbSof (index high full itp : Nat)
  | usbResume (port : Byte)
  | usbUpResume
  | usbLpm (ack : Bool)
  /-- A packet or status of the management function's storage and loopback interfaces (R306, R307). -/
  | usbStorage (p : PciePort) (key asc : Byte) (data : List Byte)
  | usbLoop (iso : Bool) (data : List Byte)
  /-- A frame sent on a physical Ethernet port, with a good or an inverted FCS (R318, R330). -/
  | ethFrame (p : EthPort) (frame : List Byte) (goodFcs : Bool)
  /-- A CAN frame sent (R362). -/
  | canFrame (p : CanPort) (f : CanFrame)
  /-- A PD message by its name and its data objects (R431, R433). -/
  | pd (u : Up) (name : String) (objects : List Word)
deriving DecidableEq, Repr

/-! ### The whole state -/

/-- The state of the block. `pending` is the queue of waiting commands, first in, first out; `out` is the log of what
has left the chip; `freeCtr` counts the free values taken (the model's own fields, log entries 1, 2 and 6). -/
structure State where
  variant : Variant
  ident : Identity
  fw : Firmware
  persist : Persist
  worlds : Worlds
  perf : Perf
  clock : Clock
  ready : Bool
  activating : Bool
  init : Bool
  scratch : Word
  mb : Vector Mailbox 4
  window : Memory
  nextMb : MbNo
  pend : List Pending
  ev : Events
  spi : Spi
  tel : Telemetry
  flt : Faults
  links : Vector Link 3
  tunnels : List Tunnel
  scheds : Vector Sched 2
  commits : List Commit
  sampling : Sampling
  disp : Display
  pcie : Pcie
  usb : Usb
  net : Net
  can : Can
  pair : Pair
  power : Power
  pm : Pm
  out : List Emit
  freeCtr : Nat
  pending : List Instr
deriving DecidableEq, Repr
/-! ### Reset -/

/-- A mailbox after reset (R84, R91): indices 0, READY clear, every event enabled but 18 and 20 to 23. -/
def Mailbox.reset : Mailbox :=
  { cmdPi := 0, cmdCi := 0, rspPi := 0, rspCi := 0, evtPi := 0, evtCi := 0, evtLost := 0, fmtErr := false,
    rstAbort := false, idxErr := false, evtOvf := false, holdoff := 0, tunIntEn := false,
    mask := 0xFFFFFFFFFF0BFFFF, lostMark := false, waiting := [], viaMgmt := [], aborted := [], flag17 := [],
    intRunning := false, intOwed := false }

/-- An equaliser record before training (log entry 12). -/
def EqRecord.reset : EqRecord :=
  { ctle := 0, gain := 0, taps := Vector.replicate 12 0, vEye := 0, hEye := 0, satBits := 0 }

/-- A counter whose threshold event is off. -/
def Threshold.reset : Threshold := ⟨0, 0, 0, false⟩

/-- A link after reset: Off, 2:2, no fault (R103, R139); LINK_SLEEP_POLICY as R544 states. -/
def Link.reset : Link :=
  { cc := 0, qualified := false, suppressed := false, exitWait := false, usbTerm := false, state := 0, phase := 0,
    reversed := false, attempts := 0, failed := 0, retryWait := false, deepWake := false,
    fromDeep := 0, retraining := false, txScr := Vector.replicate 4 0, rxScr := Vector.replicate 4 0, owedSets := [],
    eqSince := Vector.replicate 4 0, eqTill := Vector.replicate 4 0, turnWait := none, lost := 0, leftOut := 0, revFailed := 0,
    cap := none, txSeq := 0, retry := [], replayQ := [], resend := false, rxSeq := 0, rxAny := false,
    reorder := [], laneSeq := Vector.replicate 4 none, naked := [], crcSeen := false, rxMain := [], rxMgmt := [],
    rxHunt := false, rxPackets := [], txMain := [], txMgmt := [], slotTx := Vector.replicate 4 0,
    crcTimes := Vector.replicate 4 [],
    eqHub := Vector.replicate 4 EqRecord.reset, txSleep := Vector.replicate 4 none,
    rxSleep := Vector.replicate 4 none, policy := ⟨1, 4, 50, 10⟩, wakeReason := none, waking := false, wakeStart := 0, due := 0, allot := 0,
    crossed := false, admHost := 2, admHub := 2, neither := 0, turn := none, trans := 0, sparing := false, lossTimes := Vector.replicate 4 [], noRestore := 0,
    restoring := 0, counters := Vector.replicate 16 0, thresholds := Vector.replicate 16 Threshold.reset, fired := 0 }

/-- A class setting after reset (Table 4.6), its ceiling bucket empty. -/
def ClassDir.reset (weight : Byte) : ClassDir :=
  { weight := weight, rate := 200000, burst := 1048576, lb := 0, deficit := 0, lastTid := 0 }

/-- The class settings after reset; class 0 has none. -/
def classesReset : Vector ClassDir 8 :=
  #v[{ ClassDir.reset 0 with rate := 0, burst := 0 }, ClassDir.reset 32, ClassDir.reset 32, ClassDir.reset 16,
     ClassDir.reset 16, ClassDir.reset 8, ClassDir.reset 32, ClassDir.reset 1]

/-- A scheduler after reset: the excess turn is class 1's with its first quantum (R177). -/
def Sched.reset : Sched :=
  { toHost := classesReset.set 1 { ClassDir.reset 32 with deficit := 32 * 33280 }, toHub := classesReset,
    excHost := some 1, redHost := 256, redHub := 256, malformed := 0, strays := 0, snapMalformed := 0, snapStrays := 0 }

/-- No sampling session (SCHED_STS, SCHED_CFG, SCHED_SKIP). -/
def Sampling.reset : Sampling :=
  { running := false, issuer := 7, mailbox := 0, interval := 0, count := 0, elapsed := 0, selectors := [], buf0 := 0,
    buf1 := 0, cur := false, fill := 0, skipped := 0 }

/-- A layer after reset: disabled and free. -/
def Layer.reset : Layer := { shadow := ⟨0, 0, 0, 0⟩, force := ⟨0, 0, 0, 0⟩, owner := 7, orphan := false }

/-- A check-value region after reset. -/
def CheckRegion.reset : CheckRegion :=
  { shadow := ⟨0, 0, 0, 0, 0⟩, force := ⟨0, 0, 0, 0, 0⟩, result := 0, newest := 0, count := 0, mismatch := false,
    grants := 0 }

/-- An output after reset: mode 0, no sink, hold action 0 with takeover and adoption permitted (R223, R236). -/
def Output.reset : Output :=
  { mode := 0, bpc10 := false, rate := 0, link := 0, sink := false, sinkChg := false, sinkRate := 0, sinkLanes := 0,
    edid := [], frame := 0, commitFrame := 0, superseded := 0, rejected := 0, sets := Vector.replicate 6 none,
    bgShadow := 0, bg := 0, layers := Vector.replicate 4 Layer.reset, checks := Vector.replicate 8 CheckRegion.reset,
    change := none, blankAt := 0, hold := false, holdCause := 0, holdTimer := false, holdExpired := false,
    ownerHold := false, shown := .layers, policy := ⟨0, true, true, 0⟩, place := none, newPlace := none,
    underruns := 0, retrains := 0, drive := 0, flipRefused := Vector.replicate 4 0, mirror := [] }

/-- The display engines after reset: no region, and each uplink's equal share of the frame store (R188). -/
def Display.reset (quota : Nat) : Display :=
  { outs := Vector.replicate 4 Output.reset, regions := [], nextHandle := 1, quotas := Vector.replicate 4 quota,
    mem := [], assembly := none, tileBad := Vector.replicate 4 0, tileDropped := Vector.replicate 4 0,
    landed := [] }

/-- A downstream PCIe port after reset: disabled, assigned to uplink A, 16 GT/s (R250, Table 6.3). -/
def PciePortState.reset : PciePortState :=
  { state := 0, assigned := some 0, maxRate := 4, flags := 0, rate := 0, width := 0, perst := true, pwren := false,
    powerGood := false, pin := false, present := false, shown := true, slotNo := 0, phase := .idle, karxo := false, namespaces := 0, posted := [], nonPosted := [],
    completions := [], prefetch := [], compared := 0 }

/-- A prefetch window after reset (R254). -/
def PrefetchWindow.reset : PrefetchWindow :=
  { owner := ⟨false, 8, []⟩, host := ⟨false, 8, []⟩, issued := 0, hits := 0, discards := 0, lastEvent := none }

/-- An empty bridge log. -/
def BridgeLog.reset : BridgeLog :=
  { entries := Vector.replicate 32 none, newest := none, written := 0, overwritten := 0 }

/-- The bridge after reset. -/
def Pcie.reset : Pcie :=
  { cfg := Vector.replicate 4 (Vector.replicate 3 []), ports := Vector.replicate 2 PciePortState.reset, tracked := [],
    overflow := [], windows := Vector.replicate 8 PrefetchWindow.reset, logs := Vector.replicate 3 BridgeLog.reset,
    lock := ⟨none, 0, [], [], 0, 0, 0⟩, split := false, splitNext := false }

/-- A USB port after reset: powered off, flags 0x39 (R284, R312). -/
def UsbPort.reset : UsbPort :=
  { flags := 0x39, typeC := false, removable := true, vbus := false, speed := 0, besl := 0, u1 := 0,
    u2 := 0, wake := false, wakeChange2 := false, wakeChangeS := false, overCurrent := false, attached := false,
    cc2 := false, detected := 0, mode := 0, rpReq := 0, role := 0, swap := none, txErrors := 0, missed := 0 }

/-- The endpoint buffer sizes after reset, in KiB (Table 7.8). -/
def carveReset : List Byte := [1, 8, 4, 1, 1, 1, 8, 8, 1, 1, 8, 8, 4, 4, 3, 3]

/-- The USB block after reset: uplink A the owner, policy 0, nothing presented (R280). -/
def Usb.reset : Usb :=
  { named := 0, policy := 0, owner := 0, presented := false,
    halves2 := Vector.replicate 8 ⟨0, 0, 0⟩, halvesS := Vector.replicate 8 ⟨0, 0, 0⟩,
    ports := Vector.replicate 8 UsbPort.reset, requests := [], discarded := 0, hubConfig2 := false,
    hubConfigS := false, depth := 0, upSuspended := false, upL1 := false, upU1 := false, upU2 := false,
    multiTt := false, ttStopped := 0, mgmtConfig := false, mgmtAddr := #v[0, 0],
    altStorage := #v[0, 0], carve := carveReset, carveNext := carveReset, loopIso := [],
    seen := Vector.replicate 16 none, waiting := Vector.replicate 16 [], botSkip := #v[0, 0], sense := #v[(0, 0), (0, 0)] }

/-- The reset setting of a switch port (Table 8.7): interface, flags, cable length,
recipient and learning limit differ by its kind; what does not apply to a virtual port is 0 (log entry 60). -/
def netCfgReset (iface : Byte) (physical : Bool) : List Byte :=
  [iface, if physical then 1 else 0, 0, 0, 0xEE, 0x05, if physical then 100 else 0, 0, 0, if physical then 0xFF else 0, 1, 0, 0, if physical then 0x40 else 0x04, 0, 0,
   1, 1, 1, 1, 1, 1, 0, 0, 0, 0, 0, 0, 0, 0, 0, 0]

/-- An empty egress queue (R332, R340). -/
def NetQueue.reset (limit : Nat) : NetQueue :=
  { mark := false, k := 256, limit := limit, nextSeq := 0, nextRel := 0, entries := [], deficit := 0, lastMark := none }

/-- A switch port after reset. -/
def NetPort.reset (iface : Byte) (physical : Bool) : NetPort :=
  { cfg := netCfgReset iface physical, queues := Vector.replicate 8 (NetQueue.reset (if physical then 1024 else 256)),
    turn := 0, storm := Vector.replicate 3 0, paused := 0, xoff := 0, counters := Vector.replicate 24 0,
    thresholds := Vector.replicate 24 Threshold.reset, fired := 0 }

/-- A physical port's link and overflow after reset (R335, R338). -/
def EthState.reset : EthState :=
  { up := false, speed := 0, pauseTx := false, pauseRx := false, overflow := true, limitMiB := 512,
    staged := 0, stagedAt := 0, reseq := true,
    reseqW := 256, reseqUs := 20, lastEvent := none }

/-- The switch core after reset: VLAN 1 with every port an untagged member (R322), T 300 s (R323). -/
def Net.reset (iface : Byte) : Net :=
  { ports := ((Vector.replicate 18 (NetPort.reset 0 false)).set 0 (NetPort.reset iface true)).set 1
      (NetPort.reset iface true),
    eth := Vector.replicate 2 EthState.reset, vlans := [(1, ⟨0x3FFFF, 0x3FFFF⟩)], addrs := [], aging := 300,
    frames := [], nextId := 0, shrink := none }

/-- A CAN port after reset: disabled, every setting 0 (R370). -/
def CanPortState.reset : CanPortState :=
  { setting := List.replicate 16 0, bus := .errorActive, tecCount := 0, recCount := 0,
    counters := Vector.replicate 7 0, queue := [], buffer := none }

/-- The bridge after reset with nothing stored (R356, R371). -/
def Can.reset : Can :=
  { ports := Vector.replicate 2 CanPortState.reset, staging := ⟨[], []⟩, map := ⟨[], []⟩, stored := none,
    storedRoutes := [], mapIsStored := false, generation := 0, commitTime := 0, signals := [], tx := [], routes := [], badMessages := 0,
    badEntries := 0 }

/-- Pairing after reset: Unpaired (R379); kind 1 on all outputs, limit 16 (R410). -/
def Pair.reset : Pair :=
  { pos := false, bndPres := false, ilkLow := false, ilkDrive := false, bndDay := false, state := 0,
    autoRejoin := false, join := none, partnerPl := 0, timeOffset := 0, held := [], fwd := [], forwarded := [],
    nextId := 0, replBytes := 0, replHold := false, claimWait := false, confirming := false,
    ilkFault := false, records := [], compareCfg := [1, 15, 0, 0, 0, 0, 16, 0], mismatches := 0,
    transients := 0, selfFails := 0, handovers := 0, handoverTime := 0, selfTest := none, transientTimes := [],
    gap := 0, takeover := false, silent := 0, planned := false, leftFrom := 0, lastStatus := none, streams := [], bond := [],
    bondSeen := 0, bondTx := [], opening := [], running := false, deferred := [], awaiting := [] }

/-- The default PD policy of an uplink (R443), by its converter address. -/
def pdPolicyReset (addr : Byte) : List Byte := [0x1F, 0, 100, 0, 200, 0, addr, 0]

/-- A PD source with nothing attached. -/
def PdSource.reset (addr : Byte) : PdSource :=
  { policy := pdPolicyReset addr, cable := none, vbus := false, offer := [], contract := none, accepted := none,
    epr := false, newCaps := false, convAbsent := false, faultTimes := [], lockedOut := false }

/-- The power path as the shell finds it when it starts (Tables of R440 to R443, Table 11.3 state 0). -/
def Power.reset : Power :=
  { shell := true, feedCfg := [0, 1, 5, 0, 0x52, 0x03, 0x38, 0x18, 0xE8, 0x03, 0, 0, 0, 0, 0, 0],
    hswCfg := [200, 0, 25, 8, 50, 0, 100, 0, 20, 0, 100, 0, 3, 0, 0x20, 0x03],
    feedA := ⟨false, false, 0, false⟩, feedB := ⟨false, false, 0, false⟩, inUse := none, toFeed := none, seated := false, hsw := 0,
    gate := false, inserted := false, ramping := false, inserting := false, pg := false, vbusGate := false, count := 0, retryMs := 0, latched := false,
    efuses := Vector.replicate 6 ⟨[0, 0, 100, 0, 5, 0, 0, 0], false, false, false, false, 0⟩,
    pd := #v[PdSource.reset 0x41, PdSource.reset 0x42], trip := 0, flog := Vector.replicate 16 none, newest := none,
    total := 0 }

/-- Power states after reset: Run, every island active and automatic, islands 4 to 10 kept awake from S1 (R449). -/
def Pm.reset : Pm :=
  { phase := .run, retain := false, twilight := false, resumed := false, island := Vector.replicate 12 0,
    setting := #v[0, 0, 0, 2, 2, 2, 2, 2, 2, 2, 0, 0], wakeCfg := [0x70, 0, 20, 20, 20, 20, 0, 0], pinActive := 0,
    usbSlept := [], sources := 0, lastSource := 0, wakeTime := 0, noRetention := false,
    wakeOwed := none, heldBack := [], brownOut := false, brownNote := false, brownEvent := false, stops := 0, brownOuts := 0 }

/-- The scrub engine after reset (R480, R494). -/
def Scrub.reset : Scrub :=
  { sramMs := 10, dramDeciH := 240, sramPos := 0, dramPos := 0, sramSweeps := 0, dramSweeps := 0, sramNow := [],
    sramLast := [], dramNow := [], dramLast := [], dramSeen := [] }

/-- An unconfigured check-value channel. -/
def CheckChannel.reset : CheckChannel :=
  { width := 0, poly := 0, init := 0, refIn := false, refOut := false, finalInv := false, assign := 7 }

/-- Faults after a cold reset: an empty log (R508). -/
def Faults.reset : Faults :=
  { log := [], next := 0, written := 0, lastEvent := Vector.replicate 24 none, disabled := 0,
    counts := Vector.replicate 24 0, isolated := 0, testing := 0, failed := 0, safe := none, safeTimes := [],
    safeStays := false, injections := [], mismatchOnce := [], restarting := false, lastRestart := none,
    channels := Vector.replicate 16 CheckChannel.reset, scrub := Scrub.reset, poison := [], secWait := [] }

/-- Telemetry after reset (TEL_CFG; thresholds of R553). -/
def Telemetry.reset : Telemetry :=
  { select := 0xFFFF, interval := 100, seq := 0, time := 0, latest := Vector.replicate 16 0,
    shown := Vector.replicate 16 0, minima := Vector.replicate 16 0, maxima := Vector.replicate 16 0, sampled := false,
    warnC := 110, highC := 120, tj := 0, tjMax := 0, tjSeen := false, overWarn := false, overHigh := false, overCrit := false }

/-- The Block World Table after the first reset in BLANK (R498). -/
def blocksReset : Vector Word 32 := Vector.ofFn (fun i => if i.val < 16 then 0x0001FF00 else 0)

/-- The Region World Table of a DRAM map (R51, R501): sizes in 64 MiB entries; secure firmware first, then the frame
store, overflow, staging, and the remainder up to the capacity. -/
def regionsOf (frame overflow staging capacity : Nat) : Vector RegionEntry 128 :=
  Vector.ofFn (fun i =>
    let e := i.val
    if capacity ≤ e then ⟨5, false, 7⟩ else if e < 4 then ⟨0, true, 7⟩ else if e < 4 + frame then ⟨1, false, 7⟩
    else if e < 4 + frame + overflow then ⟨2, false, 7⟩
    else if e < 4 + frame + overflow + staging then ⟨3, false, 7⟩ else ⟨4, false, 7⟩)

/-- The image in flash slot 0 of a part as it leaves the factory: acceptable, levels 1 to 4; its version and digest are
constants of `Config` (log entry 13). -/
def factoryImage : Image :=
  { formatOk := true, digestOk := true, sigOk := true, version := Config.imageVersion, stepping := 0xB0, lowest := 1,
    highest := 4, kind := 0, secVersion := 0, variants := 7, digest := (List.range 48).map Config.imageDigestByte }

/-- The machine right after reset: a QT9840 in BLANK at the release of RST_N after power-up. Karxo has not started, so
READY and INIT are clear, and the starting level, PL0 of Noon, is still being reached (R11, R84, R508, R556, R575). -/
def State.reset : State :=
  { variant := .qt9840,
    ident := ⟨.blank, none, 0, false, [], []⟩,
    fw := ⟨0, #v[⟨3, some factoryImage⟩, ⟨0, none⟩], 0, [], false, factoryImage, 4, none, none, false⟩,
    persist := ⟨[], []⟩,
    worlds := ⟨blocksReset, regionsOf 64 16 8 128⟩,
    perf := { profile := .noon, pl := 0, change := some ⟨0, 0, .start⟩, held := [], lastRaise := none,
              fabConv := true, fabAddr := 0x40, convAbsent := false, frameMiB := 4096, overflowMiB := 1024,
              stagingMiB := 512, abandoned := Vector.replicate 3 0 },
    clock := ⟨0, false, true, false, false, true⟩,
    ready := false, activating := false, init := false, scratch := 0,
    mb := Vector.replicate 4 Mailbox.reset, window := [], nextMb := 0, pend := [],
    ev := ⟨Vector.replicate 4 0, 0, 0, false, false⟩, spi := ⟨false, false, false, []⟩, tel := Telemetry.reset,
    flt := Faults.reset, links := Vector.replicate 3 Link.reset, tunnels := [], scheds := Vector.replicate 2 Sched.reset,
    commits := [], sampling := Sampling.reset, disp := Display.reset 2047, pcie := Pcie.reset, usb := Usb.reset,
    net := Net.reset 1, can := Can.reset, pair := Pair.reset, power := Power.reset, pm := Pm.reset, out := [],
    freeCtr := 0, pending := [] }

end Sys2Proof.Machine
end

