-- ==== Sys2Proof/Machine/Operands.lean ====
section
/-! DEFINITION. Reading and building payloads, bit fields and check values: little-endian fields (R15), saturating counters, the CRC of R486, and the canonical sparse store. -/
namespace Sys2Proof.Machine

/-- The number whose least significant byte comes first (R15). -/
def leNat : List Byte → Nat
  | [] => 0
  | b :: r => b.toNat + 256 * leNat r

/-- `n` bytes of a number, least significant byte first (R15). -/
def leBytes : Nat → Nat → List Byte
  | 0, _ => []
  | n + 1, v => BitVec.ofNat 8 v :: leBytes n (v / 256)

/-- The `n`-byte field at byte `i` of a payload. -/
def fieldAt (p : List Byte) (i n : Nat) : Nat := leNat ((p.drop i).take n)

/-- Byte `i` of a payload. -/
def byteAt (p : List Byte) (i : Nat) : Nat := fieldAt p i 1

/-- Whether the `n` bytes at byte `i` of a payload are 0. -/
def zeroAt (p : List Byte) (i n : Nat) : Bool := ((p.drop i).take n).all (· == 0)

/-- Bits `lo` up to `lo + n - 1` of a number (R14). -/
def bitsOf (v lo n : Nat) : Nat := v / 2 ^ lo % 2 ^ n

/-- One bit as a number. -/
def bitNat (b : Bool) : Nat := if b then 1 else 0

/-- `n` bytes of 0. -/
def zeros (n : Nat) : List Byte := List.replicate n 0

/-- A list cut or padded with 0 to exactly `n` bytes. -/
def padTo (n : Nat) (p : List Byte) : List Byte := p.take n ++ zeros (n - p.length)

/-- The 4 bytes of a word. -/
def wordBytes (w : Word) : List Byte := leBytes 4 w.toNat

/-- The words of a byte string, the last one padded with 0. -/
def bytesToWords : Nat → List Byte → List Word
  | 0, _ => []
  | n + 1, p => BitVec.ofNat 32 (leNat (p.take 4)) :: bytesToWords n (p.drop 4)

/-- A counter of `w` bits advanced by `n`, saturating (R148, R182, R235). -/
def satAdd {w : Nat} (c : BitVec w) (n : Nat) : BitVec w :=
  if c.toNat + n < 2 ^ w then BitVec.ofNat w (c.toNat + n) else BitVec.ofNat w (2 ^ w - 1)

/-- A counter advanced by one, saturating. -/
def satInc {w : Nat} (c : BitVec w) : BitVec w := satAdd c 1

/-- A fixed table with one entry changed by a function. -/
def upd {α : Type} {n : Nat} (v : Vector α n) (i : Fin n) (f : α → α) : Vector α n := v.set i (f v[i])

/-- A 4-bit or wider map with one bit set to a value. -/
def setBit {w : Nat} (v : BitVec w) (k : Nat) (b : Bool) : BitVec w :=
  if b then v ||| BitVec.ofNat w (2 ^ k) else v &&& ~~~ BitVec.ofNat w (2 ^ k)

/-- The entry of a sparse store at a number; `d` is what an unlisted number reads as. -/
def sparseGet {β : Type} (d : β) : Sparse β → Nat → β
  | [], _ => d
  | (k, v) :: r, a => if k = a then v else sparseGet d r a

/-- A sparse store with the entry at a number replaced, kept in canonical form. -/
def sparsePut {β : Type} [DecidableEq β] (d : β) : Sparse β → Nat → β → Sparse β
  | [], a, v => if v = d then [] else [(a, v)]
  | (k, w) :: r, a, v =>
    if a < k then (if v = d then (k, w) :: r else (a, v) :: (k, w) :: r)
    else if a = k then (if v = d then r else (a, v) :: r)
    else (k, w) :: sparsePut d r a v

/-- The canonical form of a sparse store: numbers strictly rising, and no entry equal to `d`. -/
def sparseWf {β : Type} [DecidableEq β] (d : β) : Sparse β → Bool
  | [] => true
  | (k, v) :: r => decide (v ≠ d) && (match r with | [] => true | (k', _) :: _ => decide (k < k')) && sparseWf d r

/-- The same contents, put together entry by entry, so that they stand in canonical form. -/
def sparseCopy {β : Type} [DecidableEq β] (d : β) (m : Sparse β) : Sparse β := m.foldr (fun e a => sparsePut d a e.1 e.2) []

/-- `Memory.wf`: a byte memory is in canonical form. Unlisted bytes read 0: every reset zeroes the memories (R508). -/
def memWf (m : Memory) : Bool := sparseWf (0 : Byte) m

/-- One byte of a memory. -/
def memByte (m : Memory) (a : Nat) : Byte := sparseGet (0 : Byte) m a

/-- `n` bytes of a memory from an address. -/
def memRead (m : Memory) : Nat → Nat → List Byte
  | _, 0 => []
  | a, n + 1 => memByte m a :: memRead m (a + 1) n

/-- A memory with bytes stored from an address on. -/
def memWrite (m : Memory) : Nat → List Byte → Memory
  | _, [] => m
  | a, b :: r => memWrite (sparsePut (0 : Byte) m a b) (a + 1) r

/-- A memory with every listed byte of the range `[a, a + n)` removed, so that the range reads 0. -/
def memClear (m : Memory) (a n : Nat) : Memory := m.filter (fun c => !(decide (a ≤ c.1) && decide (c.1 < a + n)))

/-- The `w` low bits of a number in reverse order. -/
def bitReverse : Nat → Nat → Nat
  | 0, _ => 0
  | w + 1, v => (v % 2) * 2 ^ w + bitReverse w (v / 2)

/-- One bit step of R486. -/
def crcStep (w poly acc : Nat) : Nat :=
  if acc.testBit (w - 1) then ((acc <<< 1) ^^^ poly) % 2 ^ w else (acc <<< 1) % 2 ^ w

/-- A function of a number, which is evaluated first. -/
def forced {α : Type} (n : Nat) (f : Nat → α) : α := match n with | 0 => f 0 | k + 1 => f (k + 1)

/-- `k` bit steps of R486. -/
def crcSteps (w poly : Nat) : Nat → Nat → Nat
  | 0, acc => acc
  | k + 1, acc => forced (crcStep w poly acc) (fun a => crcSteps w poly k a)

/-- The accumulator of R486 after a byte string. -/
def crcBytes (w poly : Nat) (refIn : Bool) : Nat → List Byte → Nat
  | acc, [] => acc
  | acc, b :: r =>
    let v := if refIn then bitReverse 8 b.toNat else b.toNat
    forced (crcSteps w poly 8 (acc ^^^ (v <<< (w - 8)))) (fun a => crcBytes w poly refIn a r)

/-- The last two lines of R486. -/
def crcFinish (w : Nat) (refOut finalInv : Bool) (acc : Nat) : Nat :=
  let v := if refOut then bitReverse w acc else acc
  if finalInv then v ^^^ (2 ^ w - 1) else v

/-- The value a configured check-value channel gives over a byte string (R486). -/
def checkValue (c : CheckChannel) (p : List Byte) : Nat :=
  crcFinish c.width.toNat c.refOut c.finalInv (crcBytes c.width.toNat c.poly.toNat c.refIn c.init.toNat p)

/-- The CRC-32 of R116. -/
def crc32 (p : List Byte) : Nat := crcFinish 32 true true (crcBytes 32 0x04C11DB7 true 0xFFFFFFFF p)

end Sys2Proof.Machine
end

