-- ==== Sys2Proof/Machine/Ops.lean ====
section
/-! DEFINITION. The shared operations of every family: requesters, event delivery and INT_N, responses, commands holding PENDING, the fault log, the persistent bank, free values and the output log. -/
namespace Sys2Proof.Machine

/-! ### Status codes (Table 15.1) -/

def stOk : Half := 0x0000
def stDeferred : Half := 0x0001
def stPending : Half := 0x0002
def stBadOpcode : Half := 0x0010
def stBadLength : Half := 0x0011
def stBadArg : Half := 0x0012
def stWorldDenied : Half := 0x0013
def stBusy : Half := 0x0014
def stGroupMismatch : Half := 0x0015
def stNoResource : Half := 0x0016
def stAdmission : Half := 0x0017
def stNotInVariant : Half := 0x0018
def stLifecycle : Half := 0x0019
def stAborted : Half := 0x001A
def stPairRole : Half := 0x001B

/-! ### Requesters, hosts and variants -/

/-- The code of a requester (Table 14.1). -/
def requesterCode : Requester → Fin 8
  | .hostA => 0 | .hostB => 1 | .owner => 2 | .partner => 3 | .hostC => 4 | .hostD => 5 | .engine => 6

/-- The requester that is a host. -/
def hostRequester (h : HostNo) : Requester :=
  if h = 0 then .hostA else if h = 1 then .hostB else if h = 2 then .hostC else .hostD

/-- The host a requester is, if it is one. -/
def hostOfRequester : Requester → Option HostNo
  | .hostA => some 0 | .hostB => some 1 | .hostC => some 2 | .hostD => some 3
  | .owner => none | .partner => none | .engine => none

/-- The host whose requester code is `n`: 0, 1, 4 and 5 stand for A to D. -/
def hostOfCode (n : Nat) : Option HostNo :=
  if n = 0 then some 0 else if n = 1 then some 1 else if n = 4 then some 2 else if n = 5 then some 3 else none

/-- The number of host uplinks of the variant (Table 0.1). -/
def uplinks (s : State) : Nat := match s.variant with | .qt9840 => 2 | .qt9824 => 1 | .qt9812 => 1

/-- Whether a requester code names a host that the variant has no uplink for: host B with one uplink, and hosts C and D of
a pair that it cannot form (R2). -/
def hostAbsent (s : State) (code : Nat) : Bool :=
  (code == 1 && decide (uplinks s < 2)) || ((code == 4 || code == 5) && s.variant != .qt9840)

/-- The number of display outputs of the variant (Table 0.1). -/
def outputs (s : State) : Nat := match s.variant with | .qt9840 => 4 | .qt9824 => 2 | .qt9812 => 0

/-- The DRAM capacity in MiB (R23, Table 0.1). -/
def capacityMiB (s : State) : Nat := match s.variant with | .qt9840 => 8192 | .qt9824 => 4096 | .qt9812 => 2048

/-- The events of the functions the variant has. Those of absent functions only read as 0 and keep no bit: MB1's responses,
uplink B, the outputs and the frame store, ETH1, CAN1 and pairing (R3, Table 2.15). -/
def eventsPresent (s : State) : Dword :=
  match s.variant with
  | .qt9840 => 0xFFFFFFFFFFFFFFFF
  | .qt9824 => 0xFC37DFFFF33F0FFD
  | .qt9812 => 0xFC3FFFFF000F0FFD

/-- The code of the variant (Table 15.4). -/
def variantCode (s : State) : Nat := match s.variant with | .qt9840 => 0 | .qt9824 => 1 | .qt9812 => 2

/-- The code of a profile (Table 15.4). -/
def profileCode : Profile → Nat | .morning => 0 | .noon => 1 | .dusk => 2 | .midnight => 3

/-- The profile a code names. -/
def profileOfCode (n : Nat) : Option Profile :=
  if n = 0 then some .morning else if n = 1 then some .noon else if n = 2 then some .dusk
  else if n = 3 then some .midnight else none

/-- The code of a life-cycle state (Table 14.5). -/
def lcCode : Lc → Nat | .blank => 0 | .provisioned => 1 | .deployed => 2 | .returned => 3 | .scrapped => 4

/-- The life-cycle state a code names. -/
def lcOfCode (n : Nat) : Option Lc :=
  if n = 0 then some .blank else if n = 1 then some .provisioned else if n = 2 then some .deployed
  else if n = 3 then some .returned else if n = 4 then some .scrapped else none

/-- Whether the hub is paired: MB3 then belongs to the partner (Table 2.1, Table 10.2; log entry 9). -/
def paired (s : State) : Bool := s.pair.state != 0 && s.pair.state != 1

/-- Whether a Span pair is in force (Table 10.2). -/
def inSpan (s : State) : Bool := s.pair.state == 2 || s.pair.state == 3

/-- Whether a Span pair is in force or was formed and lost its partner. -/
def spanFormed (s : State) : Bool := inSpan s || s.pair.state == 4

/-- The state whose roles hold: while leaving, the state that was left. -/
def pairMode (s : State) : Fin 12 := if s.pair.state = 11 then s.pair.leftFrom else s.pair.state

/-- Whether this chip is Night in Mirror. -/
def isNight (s : State) : Bool := pairMode s == 6 || pairMode s == 8 || pairMode s == 10

/-- Whether this chip is Day in Mirror. -/
def isDay (s : State) : Bool := pairMode s == 5 || pairMode s == 7 || pairMode s == 9

/-- Whether this chip's own hosts are C and D (R385). -/
def isFollower (s : State) : Bool := pairMode s == 3 || (pairMode s == 4 && s.pair.pos)

/-- The host on an uplink of this chip (R385). -/
def hostOnUp (s : State) (u : Up) : HostNo := if isFollower s then ⟨u.val + 2, by omega⟩ else ⟨u.val, by omega⟩

/-- The uplink of this chip that a host is on, if it is on one. -/
def upOfHost (s : State) (h : HostNo) : Option Up :=
  if isFollower s then (if h = 2 then some 0 else if h = 3 then some 1 else none)
  else if h = 0 then some 0 else if h = 1 then some 1 else none

/-- The requester of a mailbox (Table 2.1, R5, R385). -/
def mailboxRequester (s : State) (m : MbNo) : Requester :=
  if m = 0 then hostRequester (hostOnUp s 0)
  else if m = 1 then hostRequester (hostOnUp s 1)
  else if m = 2 then .owner
  else if paired s then .partner else .owner

/-- The mailbox of a host, if the host is on this chip (R385). -/
def mailboxOfHost (s : State) (h : HostNo) : Option MbNo :=
  match upOfHost s h with
  | some u => some ⟨u.val, by omega⟩
  | none => none

/-- Whether a mailbox has a requester (R5). -/
def mailboxExists (s : State) (m : MbNo) : Bool := if m = 1 then decide (uplinks s = 2) else true

/-- The bank of EVT_PEND0/1 that a mailbox's requester holds: one each, the owner's shared by MB2 and MB3 (R91). -/
def bankOf (s : State) (m : MbNo) : Fin 4 := if m = 3 then (if paired s then 3 else 2) else m

/-- The bank of a requester. -/
def bankOfRequester (s : State) (r : Requester) : Option (Fin 4) :=
  match r with
  | .owner => some 2
  | .partner => some 3
  | .engine => none
  | .hostA => if isFollower s then none else some 0
  | .hostB => if isFollower s then none else some 1
  | .hostC => if isFollower s then some 0 else none
  | .hostD => if isFollower s then some 1 else none

/-- The owner is secure from PROVISIONED on (R496). -/
def secureWorld (s : State) (r : Requester) : Bool := r == .owner && s.ident.lc != .blank

/-- The requester of a command. -/
def cmdRequester (s : State) (c : Cmd) : Requester :=
  match c.src with
  | .mailbox m => mailboxRequester s m
  | .forwarded r _ => r
  | .mirror r => r

/-! ### Output log and free values -/

/-- The state after something has left the chip. -/
def emit (e : Emit) (s : State) : State := { s with out := s.out ++ [e] }

/-- The state after several things have left the chip, in order. -/
def emits (es : List Emit) (s : State) : State := { s with out := s.out ++ es }

/-- A fresh free value of `w` bits, and the state that has used it up (log entry 2). -/
def takeFree (w : Nat) (s : State) : BitVec w × State :=
  (Config.freeValue w s.freeCtr, { s with freeCtr := s.freeCtr + 1 })

/-! ### Small updates -/

def updMb (m : MbNo) (f : Mailbox → Mailbox) (s : State) : State := { s with mb := upd s.mb m f }
def updLink (l : LinkNo) (f : Link → Link) (s : State) : State := { s with links := upd s.links l f }
def updOut (o : OutNo) (f : Output → Output) (s : State) : State :=
  { s with disp := { s.disp with outs := upd s.disp.outs o f } }
def updFlt (f : Faults → Faults) (s : State) : State := { s with flt := f s.flt }
def updPerf (f : Perf → Perf) (s : State) : State := { s with perf := f s.perf }
def updPair (f : Pair → Pair) (s : State) : State := { s with pair := f s.pair }

/-- Whether a row names a given tunnel. -/
def isTunnel (h : HostNo) (tid : Byte) (t : Tunnel) : Bool := t.host == h && t.tid == tid

/-- The tunnel of a host and TID, if it is not Closed. -/
def findTunnel (s : State) (h : HostNo) (tid : Byte) : Option Tunnel := s.tunnels.find? (isTunnel h tid)

/-- The state with one tunnel's record changed. -/
def updTunnel (h : HostNo) (tid : Byte) (f : Tunnel → Tunnel) (s : State) : State :=
  { s with tunnels := s.tunnels.map (fun t => if isTunnel h tid t then f t else t) }

/-- The hub has a wake reason of its own for an uplink whose link is in Deep: 0x30 a packet, 0x31 USB remote wake, 0x32 an
INTERRUPT packet (Table 12.4, R138). -/
def noteReason (h : HostNo) (code : Byte) (s : State) : State :=
  match upOfHost s h with
  | some u => updLink ⟨u.val, by omega⟩ (fun k =>
      if k.state = 9 && !k.deepWake && k.wakeReason.isNone && s.pm.phase == .run then { k with wakeReason := some code } else k) s
  | none => s

/-- A packet queued on a tunnel toward the host (R179). -/
def queuePacket (h : HostNo) (tid : Byte) (last : Bool) (payload : List Byte) (s : State) : State :=
  noteReason h 0x30
    (updTunnel h tid (fun t => { t with queue := t.queue ++ [⟨last, payload, s.clock.hubTime⟩] }) s)

/-! ### Charges (R151) and the transmit queue (R179) -/

/-- The charge of a packet in 64-byte units. -/
def unitsOf (len : Nat) (trl : Bool) : Nat := (8 + len + 4 * bitNat trl + 63) / 64

/-- M, the charge in bytes of a packet of the tunnel's maximum payload (R161). -/
def tunM (t : Tunnel) : Nat := 64 * unitsOf t.maxPl t.guarded

/-- The limit of a tunnel's transmit queue in bytes (R179), and whether n more fit. -/
def txLimit (s : State) (t : Tunnel) : Nat := if s.perf.profile = .morning then 2 * tunM t else t.hostBuf + 65536
def txFits (s : State) (t : Tunnel) (n : Nat) : Bool := decide ((t.queue.map (fun p => p.payload.length)).sum + n ≤ txLimit s t)

/-- The packets an engine holds back enter the queue as far as it has room (R179). -/
def admitHeld (h : HostNo) (tid : Byte) : Nat → State → State
  | 0, s => s
  | n + 1, s =>
    match findTunnel s h tid with
    | none => s
    | some t =>
      match t.held with
      | [] => s
      | p :: r =>
        if txFits s t p.2.length then
          admitHeld h tid n (queuePacket h tid p.1 p.2 (updTunnel h tid (fun t => { t with held := r }) s))
        else s

/-- A management packet on tunnel 0 of a host, held back behind those that its queue has no room for (R179). -/
def sendZero (h : HostNo) (b : List Byte) (s : State) : State :=
  match findTunnel s h 0 with
  | none => s
  | some t => admitHeld h 0 (t.held.length + 1) (updTunnel h 0 (fun t => { t with held := t.held ++ [(true, b)] }) s)

/-! ### Events (R89 to R95) -/

/-- The mailboxes an event is delivered to (Table 14 of chapter 02). -/
inductive Scope where
  | own (m : MbNo)
  | all
  | uplink (h : HostNo)
  | hosts (map : BitVec 4)
  | issuer (m : MbNo)
  | denied (r : Requester)
deriving DecidableEq, Repr

/-- INT_N follows the owner's enabled pending bits, the hold-off and the safe state (R94, R476); from the entry into Stop
until READY it is released (R452, R458). -/
def updateInt (s : State) : State :=
  let want := s.ev.pend[2] &&& s.ev.intEn != 0
  if s.pm.phase != .run then { s with ev := { s.ev with active := false, holdoffRunning := false } }
  else if want then
    if s.ev.active || s.ev.holdoffRunning then s else { s with ev := { s.ev with active := true } }
  else if s.ev.active && s.flt.safe.isNone then
    { s with ev := { s.ev with active := false, holdoffRunning := s.ev.holdoff != 0 } }
  else s

/-- The management header of a packet (Table 2.3). -/
def mgmtHeader (status count id typ : Nat) (partner : Bool) (off : Nat) : List Byte :=
  leBytes 4 (typ + 256 * id + 65536 * count + 2 ^ 28 * status) ++ leBytes 4 (off + 2 ^ 31 * bitNat partner)

/-- The INTERRUPT packet of a mailbox (R95). -/
def interruptPacket (s : State) (m : MbNo) : List Byte :=
  mgmtHeader 0 2 0 0x85 false 0 ++ leBytes 2 s.mb[m].evtPi.toNat ++ leBytes 2 s.mb[m].rspPi.toNat ++ leBytes 4 m.val

/-- Sends an INTERRUPT packet on the tunnel 0 of a host's mailbox, and starts the hold-off (R95). -/
def sendInterrupt (m : MbNo) (s : State) : State :=
  if h : m.val < 2 then
    updMb m (fun mb => { mb with intRunning := mb.holdoff != 0, intOwed := false })
      (sendZero (hostOnUp s ⟨m.val, h⟩) (interruptPacket s m) (noteReason (hostOnUp s ⟨m.val, h⟩) 0x32 s))
  else s

/-- MB_EVT_PI or MB_RSP_PI of a mailbox has advanced: an INTERRUPT packet, or one owed while the hold-off runs (R95). -/
def noteAdvance (m : MbNo) (s : State) : State :=
  if 2 ≤ m.val then s
  else if s.mb[m].intRunning then updMb m (fun mb => { mb with intOwed := true }) s
  else if s.mb[m].tunIntEn then sendInterrupt m s
  else s

/-- The base of a mailbox's buffer in the window (R74). -/
def mbBase (m : MbNo) : Nat := 0x10000 + 0x4000 * m.val

/-- An event entry (Table 2.13). -/
def eventEntry (lost untimed partner : Bool) (ev : Fin 64) (time : Dword) (arg : Word) : List Byte :=
  leBytes 4 (ev.val + 2 ^ 16 * bitNat lost + 2 ^ 17 * bitNat untimed + 2 ^ 18 * bitNat partner)
    ++ leBytes 8 time.toNat ++ leBytes 4 arg.toNat

/-- Writes an entry into a mailbox's event ring, or counts it lost when the ring is full (R90, R92). -/
def ringEvent (m : MbNo) (ev : Fin 64) (partner : Bool) (time : Dword) (arg : Word) (s : State) : State :=
  if (s.mb[m].evtPi - s.mb[m].evtCi).toNat < 64 then
    let a := mbBase m + 0x2000 + 16 * (s.mb[m].evtPi.toNat % 64)
    let e := eventEntry s.mb[m].lostMark s.clock.untimed partner ev time arg
    noteAdvance m (updMb m (fun mb => { mb with evtPi := mb.evtPi + 1, lostMark := false })
      { s with window := memWrite s.window a e })
  else updMb m (fun mb => { mb with evtLost := satInc mb.evtLost, evtOvf := true, lostMark := true }) s

/-- Delivers an event to one mailbox: its pending bit, and its ring when the mask enables it or `force` is set (R90,
R91). -/
def deliver (ev : Fin 64) (force partner : Bool) (time : Dword) (arg : Word) (s : State) (m : MbNo) : State :=
  let b := bankOf s m
  let s := { s with ev := { s.ev with pend := upd s.ev.pend b (fun w => setBit w ev.val true) } }
  let s := if force || s.mb[m].mask.getLsbD ev.val then ringEvent m ev partner time arg s else s
  updateInt s

/-- The mailboxes of this chip within a scope. For a refusal of the owner the scope is MB2 alone, also where the access came
through MB3; the spec does not say which of its mailboxes is meant (log entry 97). -/
def scopeMailboxes (s : State) : Scope → List MbNo
  | .own m => [m]
  | .issuer m => [m]
  | .all => ([0, 1, 2, 3] : List MbNo).filter (mailboxExists s)
  | .uplink h => 2 :: (match mailboxOfHost s h with | some m => [m] | none => [])
  | .hosts map =>
    2 :: (([0, 1] : List Up).filter (fun u => map.getLsbD (hostOnUp s u).val)).map (fun u => (⟨u.val, by omega⟩ : MbNo))
  | .denied r =>
    match r with
    | .owner => [2]
    | .partner => [2, 3]
    | .engine => [2]
    | r => 2 :: (match hostOfRequester r with
        | some h => (match mailboxOfHost s h with | some m => [m] | none => [])
        | none => [])

/-- The hosts of the partner that a scope names, as a map of its two uplinks (R386). -/
def scopeRemote (s : State) (sc : Scope) : BitVec 2 :=
  let far (h : HostNo) : Bool := (upOfHost s h).isNone
  let named (h : HostNo) : Bool := match sc with
    | .uplink g => g == h
    | .hosts map => map.getLsbD h.val
    | .denied r => hostOfRequester r == some h
    | .own _ => false
    | .issuer _ => false
    | .all => false
  let a := if isFollower s then (0 : HostNo) else 2
  let b := if isFollower s then (1 : HostNo) else 3
  setBit (setBit 0 0 (far a && named a)) 1 (far b && named b)

/-- The relaying of an event to the partner in Span (R386). -/
def relayEvent (sc : Scope) (ev : Fin 64) (arg : Word) (s : State) : State :=
  if inSpan s then
    if sc = .all then emit (.relayedEvent ev none s.clock.hubTime arg) s
    else if scopeRemote s sc != 0 then emit (.relayedEvent ev (some (scopeRemote s sc)) s.clock.hubTime arg) s
    else s
  else s

/-- Registers an event: every mailbox in its scope gets it with the same time and argument (R90). -/
def raise (sc : Scope) (ev : Fin 64) (arg : Nat) (s : State) : State :=
  let w := BitVec.ofNat 32 arg
  relayEvent sc ev w ((scopeMailboxes s sc).foldl (deliver ev false false s.clock.hubTime w) s)

/-- The event that depends on the uplink: `base` for the link of host A and C, `base + 4` for B and D (Table 2.15). -/
def linkEvent (base : Fin 60) (u : Up) : Fin 64 := ⟨base.val + 4 * u.val, by omega⟩

/-- The argument of event 6 for a window access (Table 2.15). -/
def violationWindow (r : Requester) (write : Bool) (off : Nat) : Nat :=
  2 ^ 31 * bitNat write + 2 ^ 28 * (requesterCode r).val + off

/-- The argument of event 6 for a command or a TUN_OPEN refused by its block (R499). -/
def violationCommand (r : Requester) (write : Bool) (opcode : Nat) : Nat :=
  2 ^ 31 * bitNat write + 2 ^ 28 * (requesterCode r).val + 2 ^ 26 + opcode

/-- The argument of event 6 for a DRAM access (R502). -/
def violationDram (r : Requester) (write : Bool) (entry : Nat) : Nat :=
  2 ^ 31 * bitNat write + 2 ^ 28 * (requesterCode r).val + 2 ^ 27 + entry

/-! ### Responses (R77 to R81) -/

/-- The bytes of a response slot (Table 2.10). -/
def responseBytes (r : Response) (time : Dword) : List Byte :=
  leBytes 2 r.status.toNat ++ leBytes 2 r.tag.toNat ++ leBytes 2 r.payload.length ++ leBytes 1 r.flags.toNat ++ [0]
    ++ leBytes 2 r.opcode.toNat ++ leBytes 2 r.seq.toNat ++ leBytes 4 (time.toNat % 2 ^ 32) ++ r.payload

/-- The free response slots of a mailbox. -/
def freeSlots (mb : Mailbox) : Nat := 8 - (mb.rspPi - mb.rspCi).toNat

/-- Writes a response into the slot at MB_RSP_PI, advances the index and registers the response-ready event (R77,
R91). -/
def postSlot (m : MbNo) (r : Response) (s : State) : State :=
  let a := mbBase m + 0x1000 + 512 * (s.mb[m].rspPi.toNat % 8)
  let s := noteAdvance m (updMb m (fun mb => { mb with rspPi := mb.rspPi + 1 })
    { s with window := memWrite s.window a (responseBytes r s.clock.hubTime) })
  deliver ⟨m.val, by omega⟩ r.ring false s.clock.hubTime (BitVec.ofNat 32 (r.seq.toNat + 65536 * r.tag.toNat)) s m

/-- Posts a response, or lets it wait, in order, while no slot is free (log entry 10). -/
def postResponse (m : MbNo) (r : Response) (s : State) : State :=
  if s.mb[m].waiting.isEmpty && decide (0 < freeSlots s.mb[m]) then postSlot m r s
  else updMb m (fun mb => { mb with waiting := mb.waiting ++ [r] }) s

/-- Posts up to `n` responses that were waiting, as slots are free. -/
def postWaiting (m : MbNo) : Nat → State → State
  | 0, s => s
  | n + 1, s =>
    match s.mb[m].waiting with
    | [] => s
    | r :: rest =>
      if 0 < freeSlots s.mb[m] then
        postWaiting m n (postSlot m r (updMb m (fun mb => { mb with waiting := rest }) s))
      else s

/-- Bit 17 of a response's flags: queued or taken before an upstream bus reset (R69). -/
def flag17 (s : State) (m : MbNo) (seq : Half) : Bool := s.mb[m].flag17.contains seq

/-- In Mirror, the status of the command being carried out is kept for its forwarding (R391). -/
def noteStatus (status : Half) (s : State) : State :=
  if isDay s || isNight s then updPair (fun p => { p with lastStatus := some status }) s else s

/-- Whether Day with a Night holds a final response back: its command is still being carried out, and its forwarding is not yet decided, or
Night has yet to apply it (R391). -/
def holdsBack (s : State) (m : MbNo) (seq : Half) : Bool :=
  (s.pair.state == 5 || s.pair.state == 7) && (s.pair.running || s.pair.awaiting.any (fun a => a.mb == m && a.seq == seq))

/-- The responses held back that wait for Night no longer are posted, in order. -/
def releaseDeferred (s : State) : State :=
  let waits (d : MbNo × Response) : Bool := s.pair.awaiting.any (fun a => a.mb == d.1 && a.seq == d.2.seq)
  (s.pair.deferred.filter (fun d => !waits d)).foldl (fun s d => postResponse d.1 d.2 s)
    (updPair (fun p => { p with deferred := p.deferred.filter waits }) s)

/-- Night has applied the change forwarded under a number, or is not waited for any longer. -/
def nightApplied (id : Nat) (s : State) : State :=
  releaseDeferred (updPair (fun p => { p with awaiting := p.awaiting.filter (fun a => a.id != id) }) s)

/-- A response to a command given by its source, sequence number, tag and flags. -/
def respondTo (src : CmdSrc) (seq tag : Half) (flags : BitVec 8) (opcode status : Half) (interim : Bool)
    (payload : List Byte) (s : State) : State :=
  let s := noteStatus status s
  match src with
  | .mailbox m =>
    let f := BitVec.ofNat 8 (bitNat interim + 2 * bitNat (flag17 s m seq))
    let r : Response := ⟨tag, status, f, seq, opcode, payload.take 496, flags.getLsbD 0⟩
    if interim then postResponse m r s
    else
      let s := updMb m (fun mb => { mb with flag17 := mb.flag17.filter (· != seq) }) s
      if holdsBack s m seq then updPair (fun p => { p with deferred := p.deferred ++ [(m, r)] }) s else postResponse m r s
  | .forwarded _ id =>
    emit (.forwardedResponse id ⟨tag, status, BitVec.ofNat 8 (bitNat interim), seq, opcode, payload.take 496, false⟩)
      { s with pair := { s.pair with held := if interim then s.pair.held else s.pair.held.filter (· != id) } }
  | .mirror _ => s

/-- The one final response of a command. -/
def respond (op : Half) (c : Cmd) (status : Half) (payload : List Byte) (s : State) : State :=
  respondTo c.src c.seq c.tag c.flags op status false payload s

/-- Completion with OK. -/
def ok (op : Half) (c : Cmd) (payload : List Byte) (s : State) : State := respond op c stOk payload s

/-- Completion with a refusal: a payload of length 0 and no effect (R528). -/
def fail (op : Half) (c : Cmd) (status : Half) (s : State) : State := respond op c status [] s

/-- The commands of a source's mailbox that hold PENDING (R81). Forwarded commands count toward no limit (R385). -/
def holding (s : State) (m : MbNo) : Nat := (s.pend.filter (fun p => p.src == .mailbox m && p.posted)).length

/-- Whether four commands of the mailbox already hold PENDING (R81). -/
def pendingFull (s : State) (c : Cmd) : Bool :=
  match c.src with
  | .mailbox m => decide (4 ≤ holding s m)
  | .forwarded _ _ => false
  | .mirror _ => false

/-- The record of a command that has been taken and is not finished. -/
def pendOf (op : Half) (c : Cmd) (k : PendKind) (posted : Bool) : Pending :=
  ⟨c.src, c.tag, c.seq, c.flags, op, k, posted⟩

/-- Adds a command whose first response is still owed (R79). -/
def await (op : Half) (c : Cmd) (k : PendKind) (s : State) : State :=
  { s with pend := s.pend ++ [pendOf op c k false] }

/-- Whether the command has posted PENDING before, held for a change of level (R531). -/
def heldBefore (s : State) (c : Cmd) : Bool := s.pend.any (fun p => p.kind == .held && p.src == c.src && p.seq == c.seq)

/-- Posts PENDING and holds the command, then runs its effect; BUSY with no effect when four commands of the mailbox
hold PENDING (R80, R81). A command that was held has posted PENDING already. -/
def startPending (op : Half) (c : Cmd) (k : PendKind) (effect : State → State) (s : State) : State :=
  if heldBefore s c then effect { s with pend := s.pend ++ [pendOf op c k true] }
  else if pendingFull s c then fail op c stBusy s
  else
    effect { respondTo c.src c.seq c.tag c.flags op stPending true [] s with
      pend := s.pend ++ [pendOf op c k true] }

/-- Posts the final response of a held command. -/
def finishOne (status : Half) (payload : List Byte) (s : State) (p : Pending) : State :=
  respondTo p.src p.seq p.tag p.flags p.opcode status false payload s

/-- Posts the final response of every command that waits for `k`, in the order they were taken, and releases them. -/
def finish (k : PendKind) (status : Half) (payload : List Byte) (s : State) : State :=
  let ps := s.pend.filter (fun p => p.kind == k)
  ps.foldl (finishOne status payload) { s with pend := s.pend.filter (fun p => p.kind != k) }

/-- Whether a command waits for `k`. -/
def waitsFor (s : State) (k : PendKind) : Bool := s.pend.any (fun p => p.kind == k)

/-! ### Signature streams (R399) -/

/-- In Mirror, bytes that leave through an instance of Table 10.4 join its block. -/
def feedSig (k : SigKey) (b : List Byte) (s : State) : State :=
  if isDay s || isNight s then
    let had := s.pair.streams.any (fun x => x.key == k)
    let add (x : SigStream) : SigStream := if x.key == k then { x with bytes := x.bytes ++ b } else x
    updPair (fun p => { p with streams := if had then p.streams.map add else p.streams ++ [⟨k, 0, b⟩] }) s
  else s

/-! ### The fault log (R472, R473) -/

/-- Whether a class is reported by event 4 (R473). -/
def classRaises (cls : Fin 24) : Bool := !(cls == 3 || cls == 5 || (decide (16 ≤ cls.val) && decide (cls.val ≤ 19)))

/-- What a new entry of the fault log says beside its class and location. -/
structure FaultInfo where
  reaction : Byte := 0
  boot : Bool := false
  scrub : Bool := false
  injected : Bool := false
  detail : Word := 0
  addr : Dword := 0
deriving DecidableEq, Repr

/-- The newest entry of a class. -/
def newestOf (s : State) (cls : Fin 24) : Option FaultEntry := s.flt.log.find? (fun e => e.cls.toNat == cls.val)

/-- Whether a fault coalesces with the newest entry of its class (R473). -/
def coalesces (s : State) (cls : Fin 24) (loc : Word) : Bool :=
  match newestOf s cls with
  | some e => e.loc == loc && decide ((s.clock.hubTime - e.since).toNat < 1000000000)
  | none => false

/-- Whether event 4 of a class was raised within the last 1 ms (R473). -/
def recentEvent (s : State) (cls : Fin 24) : Bool :=
  match s.flt.lastEvent[cls] with
  | some t => decide ((s.clock.hubTime - t).toNat < 1000000)
  | none => false

/-- Event 4 for an entry of a class, once per class in any 1 ms (R473, R490). -/
def faultEvent (cls : Fin 24) (index : Half) (s : State) : State :=
  if classRaises cls && !s.flt.disabled.getLsbD cls.val && !recentEvent s cls then
    raise .all 4 (65536 * index.toNat + cls.val)
      (updFlt (fun f => { f with lastEvent := f.lastEvent.set cls (some s.clock.hubTime) }) s)
  else s

/-- Writes a fault into the log: a further occurrence of the newest entry of its class, or a new entry and event 4
(R473). A class whose detection is disabled gets reaction 9 (R490). -/
def logFault (cls : Fin 24) (loc : Nat) (i : FaultInfo) (s : State) : State :=
  let w := BitVec.ofNat 32 loc
  let s := updFlt (fun f => { f with counts := upd f.counts cls satInc }) s
  if coalesces s cls w then
    match newestOf s cls with
    | some e => updFlt (fun f => { f with log := f.log.map (fun x =>
        if x.index == e.index then { x with count := satInc x.count } else x) }) s
    | none => s
  else
    let e : FaultEntry :=
      { index := s.flt.next, cls := BitVec.ofNat 8 cls.val,
        reaction := if s.flt.disabled.getLsbD cls.val then 9 else i.reaction,
        boot := i.boot, scrub := i.scrub, injected := i.injected, untimed := s.clock.untimed, loc := w,
        time := s.clock.hubTime, since := s.clock.hubTime, count := 1, detail := i.detail, addr := i.addr }
    faultEvent cls e.index (updFlt (fun f =>
      { f with log := (e :: f.log).take 256, next := f.next + 1, written := satInc f.written }) s)

/-- Sets the reaction byte of the newest entry of a class and location in place (R473). -/
def setReaction (cls : Fin 24) (loc : Nat) (r : Byte) (s : State) : State :=
  match s.flt.log.find? (fun e => e.cls.toNat == cls.val && e.loc == BitVec.ofNat 32 loc) with
  | some e => updFlt (fun f => { f with log := f.log.map (fun x =>
      if x.index == e.index then { x with reaction := r } else x) }) s
  | none => s

/-- Whether an injection of a class and location is in force (R492). -/
def injectedAt (s : State) (cls : Nat) (loc : Nat) : Bool :=
  s.flt.injections.any (fun j => j.cls.toNat == cls && j.loc.toNat == loc)

/-! ### The persistent bank (R516 to R519) -/

/-- The value of a persistent word. -/
def pbWord (s : State) (w : Nat) : Word := sparseGet 0 s.persist.words w

/-- Completes a write of a persistent word: the value, and one count of wear (R517). -/
def pbWrite (s : State) (w : Nat) (v : Word) : State :=
  { s with persist :=
    { words := sparsePut 0 s.persist.words w v
      wear := sparsePut 0 s.persist.wear w (satInc (sparseGet 0 s.persist.wear w)) } }

/-- The first word and the number of words of a setting, its check word included (Table 14.14). -/
def settingPlace (n : Nat) : Nat × Nat :=
  match n with
  | 1 => (4, 1) | 4 => (5, 33) | 5 => (38, 17) | 6 => (55, 8) | 7 => (63, 4) | 8 => (67, 5) | 9 => (72, 4)
  | 10 => (76, 17) | 11 => (93, 33) | 12 => (126, 3) | 13 => (129, 5) | 14 => (134, 9) | 15 => (143, 4)
  | 16 => (147, 5) | 17 => (152, 5) | 18 => (157, 13) | 19 => (170, 5) | 20 => (175, 1) | 21 => (177, 3)
  | 22 => (180, 2) | 23 => (182, 3) | 24 => (185, 1) | _ => (186, 0)

/-- The check word of a record (R519). -/
def checkWord (n : Nat) (body : List Byte) : Word := BitVec.ofNat 32 (2 ^ 24 * n + 2 ^ 16 * 0xA5 + crc32 body % 65536)

/-- Writes words into the bank in ascending order. -/
def pbWriteAll (s : State) (w : Nat) : List Word → State
  | [] => s
  | v :: r => pbWriteAll (pbWrite s w v) (w + 1) r

/-- Stores a setting of several words: its bytes packed in order, then its check word (R519; log entry 11). -/
def storeSetting (n : Nat) (body : List Byte) (s : State) : State :=
  let (first, count) := settingPlace n
  let b := padTo (4 * (count - 1)) body
  pbWriteAll s first (bytesToWords (count - 1) b ++ [checkWord n b])

/-- Stores a setting of one word (R519). -/
def storeWord (n : Nat) (v : Word) (s : State) : State := pbWrite s (settingPlace n).1 v

/-- The bytes of a stored record. -/
def recordBytes (s : State) (n : Nat) : List Byte :=
  (List.range (4 * ((settingPlace n).2 - 1))).map (fun i =>
    BitVec.ofNat 8 ((pbWord s ((settingPlace n).1 + i / 4)).toNat / 256 ^ (i % 4)))

/-- What a reset finds of a setting of several words (R519): unset, rejected, or its bytes. -/
inductive Setting where
  | unset
  | rejected
  | bytes (b : List Byte)
deriving DecidableEq, Repr

/-- Reads a setting of several words as a reset does (R519). -/
def loadSetting (s : State) (n : Nat) : Setting :=
  let w := pbWord s ((settingPlace n).1 + (settingPlace n).2 - 1)
  if w = 0 then .unset
  else if w = checkWord n (recordBytes s n) then .bytes (recordBytes s n) else .rejected

/-! ### The whole map of host flags -/

/-- The map of one host. -/
def hostBit (h : HostNo) : BitVec 4 := setBit 0 h.val true

end Sys2Proof.Machine
end

