-- ==== Sys2Proof/Machine/Command.lean ====
section
/-! DEFINITION. How Karxo checks and runs one command: Table 2.11, R530, the Block World Table's narrowing, and the forwarding of a command to the partner. -/
namespace Sys2Proof.Machine

/-- The answer of every meaning: a next state. -/
abbrev Answer := Host.Outcome State Fault Refusal

/-- Whether the chip's core acts: powered, out of reset and not in Stop (R11, R451). -/
def coreOn (s : State) : Bool :=
  s.clock.powered && !s.clock.inReset && s.pm.phase != .stop && (s.pm.phase != .waking || s.pm.resumed)

/-- Whether the data path runs: the core acts, and the hub is not in the safe state (R476). -/
def dataOn (s : State) : Bool := coreOn s && s.flt.safe.isNone

/-- What reaches the core from its links, engines and timers has its effect while the data path runs, and none
otherwise. -/
def runCore (f : State → State) (s : State) : Answer := .next (if dataOn s then f s else s)

/-- What reaches the power-path shell or the PD protocol has its effect while the shell runs (R413). -/
def runShell (f : State → State) (s : State) : Answer := .next (if s.power.shell then f s else s)

/-- What Table 15.3 and a command's own permission table say of an opcode: its number, the lengths it allows, when its
function is absent from the variant, who may issue it, the block it belongs to, whether a form changes state, the
life-cycle states that refuse a form, and the bits of its target word that it defines. -/
structure OpSpec where
  op : Half
  lens : Nat → Bool
  absent : State → Cmd → Bool := fun _ _ => false
  perm : State → Cmd → Requester → Bool
  partnerReads : Bool := false
  block : State → Cmd → Option (Fin 32) := fun _ _ => none
  write : Cmd → Bool
  lifecycle : State → Cmd → Bool := fun _ _ => false
  target : Nat := 0
  scrappedOk : Bool := false

/-- Whether a Block World Table entry refuses a requester a right (R498, R499). Owner and engine are not affected. -/
def blockRefuses (s : State) (b : Fin 32) (r : Requester) (write : Bool) : Bool :=
  let e := s.worlds.block[b]
  match r with
  | .owner => false
  | .engine => false
  | .partner => e.getLsbD 31 || write || !e.getLsbD 16
  | r => match hostOfRequester r with
    | some h => e.getLsbD 31 || !(if write then e.getLsbD (12 + h.val) else e.getLsbD (8 + h.val))
    | none => true

/-- A host. -/
def isHost (r : Requester) : Bool := (hostOfRequester r).isSome

/-- Codes of Table 15.2: H, Hr, O, P. -/
def permH (r : Requester) : Bool := isHost r
def permO (r : Requester) : Bool := r == .owner
def permP (c : Cmd) (r : Requester) : Bool := r == .partner && c.payload.isEmpty

/-- Whether a command form only reads: it has length 0 and changes nothing (R529). -/
def readsOnly (sp : OpSpec) (c : Cmd) : Bool := c.payload.isEmpty && !sp.write c

/-- Whether a requester may issue a command: by its permission table, or, where that table says nothing of the partner, as a
partner whose command of length 0 reads (R385; log entry 119). -/
def permitted (sp : OpSpec) (s : State) (c : Cmd) (r : Requester) : Bool :=
  sp.perm s c r || (sp.partnerReads && r == .partner && readsOnly sp c)

/-- Entry into Stop accepted and not yet left (R453). -/
def stopAccepted (s : State) : Bool := s.pm.phase != .run

/-- Whether Night may carry out the command (R391): a form of length 0 that reads, or PAIR_STATUS. -/
def nightPermits (sp : OpSpec) (c : Cmd) : Bool := readsOnly sp c || sp.op == 0x0903

/-- Whether Night carries the command out for Day (R391). -/
def ofDay (c : Cmd) : Bool := match c.src with | .mirror _ => true | .mailbox _ => false | .forwarded _ _ => false

/-- Checks 2 to 7c of Table 2.11 and R530, in order: the status of the first that fails. -/
def checkCmd (sp : OpSpec) (s : State) (c : Cmd) : Option Half :=
  let r := cmdRequester s c
  if 496 < c.payload.length || !sp.lens c.payload.length then some stBadLength
  else if c.rsvd then some stBadArg
  else if sp.absent s c then some stNotInVariant
  else if !permitted sp s c r then some stWorldDenied
  else if (match sp.block s c with | some b => blockRefuses s b r (sp.write c) | none => false) then some stWorldDenied
  else if (s.ident.lc == .scrapped && !sp.scrappedOk) || sp.lifecycle s c then some stLifecycle
  else if stopAccepted s then some stBusy
  else if isNight s && !ofDay c && !nightPermits sp c then some stPairRole
  else if c.target.toNat % 2 ^ 31 &&& (2 ^ 31 - 1 - sp.target) != 0 then some stBadArg
  else none

/-- Whether it is its block that refuses a command (R499). -/
def blockDenied (sp : OpSpec) (s : State) (c : Cmd) : Bool :=
  let r := cmdRequester s c
  permitted sp s c r && (match sp.block s c with | some b => blockRefuses s b r (sp.write c) | none => false)

/-- Carries a command over bond TID 0 to the partner (R385). -/
def forwardCmd (op : Half) (c : Cmd) (s : State) : State :=
  let id := s.pair.nextId
  await op c (.partner id)
    (emit (.forwardedCommand id (cmdRequester s c) op c)
      (updPair (fun p => { p with nextId := id + 1, forwarded := p.forwarded ++ [⟨id, c.src, c.seq, c.tag, op, 0⟩] }) s))

/-- Whether Day forwards a command to Night: one that changes the state the two chips share, the settings of the power path
among it (R430). Pairing, links, the report of PWR_STATUS, resets and diagnostics belong to each chip (log entry 33). -/
def sharedOpcode (op : Half) : Bool :=
  let g := op.toNat / 256
  op == 0x0102 || g == 3 || g == 4 || g == 5 || g == 6 || g == 7 || g == 8 || (g == 10 && op != 0x0A04)

/-- Day sends a command that it has carried out, and that changes shared state, to Night, and holds its response back till Night
has applied it (R391). One that has no response yet, since it waits for a refill, is sent as one that goes well. -/
def forwardChange (sp : OpSpec) (c : Cmd) (s : State) : State :=
  let s := updPair (fun p => { p with running := false }) s
  let st := s.pair.lastStatus.getD stOk
  let id := s.pair.nextId
  releaseDeferred (
    if isDay s && s.pair.state != 9 && !ofDay c && sharedOpcode sp.op && sp.write c && (st == stOk || st == stPending) then
      updPair (fun p => { p with
        nextId := id + 1
        awaiting := match c.src with | .mailbox m => p.awaiting ++ [⟨id, m, c.seq⟩] | .forwarded _ _ => p.awaiting | .mirror _ => p.awaiting })
        (emit (.mirrorChange (.command id sp.op { c with src := .mirror (cmdRequester s c) } st)) s)
    else s)

/-- Whether a command addresses the partner, which then makes every check of it but that of its length (R385). -/
def forPartner (s : State) (c : Cmd) : Bool := c.target.getLsbD 31 && inSpan s && !stopAccepted s && decide (c.payload.length ≤ 496)

/-- Runs a command: the forwarding of R385, or the checks and the command's own checks and effect. -/
def runCmd (sp : OpSpec) (body : Cmd → State → State) (c : Cmd) (s : State) : State :=
  if forPartner s c then forwardCmd sp.op c s
  else match checkCmd sp s c with
  | some st =>
    if st = stWorldDenied && blockDenied sp s c then
      fail sp.op c st (raise (.denied (cmdRequester s c)) 6
        (violationCommand (cmdRequester s c) (sp.write c) sp.op.toNat) s)
    else fail sp.op c st s
  | none =>
    if c.target.getLsbD 31 then fail sp.op c stPairRole s
    else forwardChange sp c (body c (updPair (fun p => { p with lastStatus := none, running := true }) s))

/-- One operation of a command that has several: its effect on a payload that names it, and BAD_ARG on any other
(R529). -/
def onlyWhen (p : Cmd → Bool) (op : Half) (f : Cmd → State → State) (c : Cmd) (s : State) : State :=
  if p c then f c s else fail op c stBadArg s

/-- The lengths of a list. -/
def lenIn (ls : List Nat) (n : Nat) : Bool := ls.contains n

end Sys2Proof.Machine
end

