-- ==== Sys2Proof/Machine/LinkOps.lean ====
section
/-! DEFINITION. Operations of the Xansa link and the bond link (03, 10 R375): lanes and directions, counters, states, frames, acknowledgement and retry, depacking, sleep, lane loss. -/
namespace Sys2Proof.Machine

/-! ### Lanes and directions (R96, R97, R139) -/

/-- The uplink a link is, or none for the bond link. -/
def upOfLink (l : LinkNo) : Option Up := if h : l.val < 2 then some ⟨l.val, h⟩ else none

/-- The link of an uplink. -/
def linkOfUp (u : Up) : LinkNo := ⟨u.val, by omega⟩

/-- Whether a pair runs toward the hub under an allotment (Table 3.16). -/
def pairToHub (allot : Fin 3) (p : PairNo) : Bool :=
  p == 1 || (p == 2 && allot == 1) || (p == 3 && allot != 2)

/-- Whether a pair runs toward the hub on a link (R139; log entry 23). -/
def runsToHub (k : Link) (p : PairNo) : Bool := if k.crossed then p == 1 || p == 2 else pairToHub k.allot p

/-- Whether a pair is turning, and so belongs to neither direction (R140). -/
def turning (k : Link) (p : PairNo) : Bool := match k.turn with | some t => t.pair == p | none => false

/-- Whether a pair carries the direction the hub sends in, or receives in. Every lane of the bond link does both. -/
def laneSends (l : LinkNo) (k : Link) (p : PairNo) : Bool := l == 2 || !runsToHub k p
def laneReceives (l : LinkNo) (k : Link) (p : PairNo) : Bool := l == 2 || runsToHub k p

def allPairs : List PairNo := [0, 1, 2, 3]

/-- The lanes of a direction that are neither lost nor turning. -/
def sendLanes (l : LinkNo) (k : Link) : List PairNo :=
  allPairs.filter (fun p => laneSends l k p && !k.lost.getLsbD p.val && !turning k p)
def receiveLanes (l : LinkNo) (k : Link) : List PairNo :=
  allPairs.filter (fun p => laneReceives l k p && !k.lost.getLsbD p.val && !turning k p)

/-- The primary lane the hub sends on (R97). -/
def sendPrimary (l : LinkNo) (k : Link) : PairNo := (sendLanes l k).headD 0

/-- The number of lanes an allotment gives each direction (Table 3.16). -/
def allotToHub (a : Fin 3) : Nat := if a = 0 then 2 else if a = 1 then 3 else 1
def allotToHost (a : Fin 3) : Nat := if a = 0 then 2 else if a = 1 then 1 else 3

/-- The primary lane the hub receives on (R97). -/
def receivePrimary (l : LinkNo) (k : Link) : PairNo := (receiveLanes l k).headD (if l = 2 then 0 else 1)

/-- The lanes of a direction that a bring-up, a retrain or a wake trains: not those left out of it, not those at the limit
of R147, and in a wake only those that were in Deep (R107, R136, R147). -/
def candidates (l : LinkNo) (k : Link) (toHub : Bool) : List PairNo :=
  allPairs.filter (fun p => (if toHub then laneReceives l k p else laneSends l k p) && !k.leftOut.getLsbD p.val
    && !(k.lost.getLsbD p.val && (k.noRestore.getLsbD p.val || k.deepWake))
    && (!k.deepWake || k.fromDeep.getLsbD p.val))

/-! ### Blocks and scrambling (R110 to R112) -/

/-- 64 payload bits through a scrambler x^58 + x^39 + 1 in transmission order: the bits on the wire, and the 58 bits last
sent, the latest in bit 57 (R111). -/
def scramble (st : BitVec 58) (d : Dword) : Dword × BitVec 58 :=
  let lo : BitVec 39 := d.setWidth 39 ^^^ st.extractLsb' 19 39 ^^^ st.setWidth 39
  let full : BitVec 97 := lo ++ st
  let hi : BitVec 25 := d.extractLsb' 39 25 ^^^ full.extractLsb' 58 25 ^^^ full.extractLsb' 39 25
  let w : Dword := hi ++ lo
  (w, w.extractLsb' 6 58)

/-- 64 bits from the wire through the descrambler, whose state is the 58 bits last received (R111). -/
def descramble (st : BitVec 58) (w : Dword) : Dword × BitVec 58 :=
  let full : BitVec 122 := w ++ st
  (w ^^^ full.extractLsb' 19 64 ^^^ full.setWidth 64, w.extractLsb' 6 58)

/-- Blocks through a scrambler or a descrambler in order; sync headers stay as they are (R110). -/
def mapBlocks (f : BitVec 58 → Dword → Dword × BitVec 58) : BitVec 58 → List Block → List Block × BitVec 58
  | st, [] => ([], st)
  | st, b :: bs =>
    let r := f st b.word
    let t := mapBlocks f r.2 bs
    (⟨b.sync, r.1⟩ :: t.1, t.2)

/-- A control block and a data block: the sync header's first bit is bit 0 (R110). -/
def controlBlock (w : Dword) : Block := ⟨1, w⟩
def dataBlock (w : Dword) : Block := ⟨2, w⟩

/-- The type of a control block (R112). -/
def blockType (w : Dword) : Nat := w.toNat % 256

/-- Whether a control block's type stands in Table 3.7. -/
def knownBlock (w : Dword) : Bool := [0x78, 0x87, 0x4B, 0x2D, 0x1E].contains (blockType w)

/-- Whether a received block is kept: a valid sync header and, of a control block, a known type (R110, R112). -/
def blockKept (b : Block) : Bool := b.sync == 2 || (b.sync == 1 && knownBlock b.word)

/-- Blocks go out on a lane through its scrambler: what is on the wire, and the state after. -/
def sendBlocks (l : LinkNo) (p : PairNo) (bs : List Block) (s : State) : List Block × State :=
  let r := mapBlocks scramble s.links[l].txScr[p] bs
  (r.1, updLink l (fun k => { k with txScr := k.txScr.set p r.2 }) s)

/-- Patterns that carry no blocks begin on lanes (Table 3.5). -/
def sendDetect (l : LinkNo) (s : State) : State := emits ((candidates l s.links[l] false).map (fun p => .detect l p)) s
def sendPrbs (l : LinkNo) (s : State) : State := emits ((candidates l s.links[l] false).map (fun p => .prbs l p)) s

/-! ### Counters (R148) -/

/-- Advances a link counter by `n`; its threshold event is raised once in a window, and never for the bond link. -/
def linkCount (l : LinkNo) (k : Fin 16) (n : Nat) (s : State) : State :=
  let t := s.links[l].thresholds[k]
  let c := satAdd t.count n
  let s := updLink l (fun x => { x with
    counters := upd x.counters k (fun v => satAdd v n)
    thresholds := x.thresholds.set k { t with count := c } }) s
  match upOfLink l with
  | none => s
  | some u =>
    if t.threshold != 0 && !t.raised && decide (t.threshold.toNat ≤ c.toNat) then
      raise (.uplink (hostOnUp s u)) (linkEvent 11 u) k.val
        (updLink l (fun x => { x with
          thresholds := upd x.thresholds k (fun y => { y with raised := true })
          fired := setBit x.fired k.val true }) s)
    else s

/-! ### Ordered sets (R113, R131) -/

/-- The blocks in a run of an ordered set (Table 3.8). -/
def setRun (code : Byte) : Nat := if code = 0x30 then 2 else if code = 0x60 then 8 else 4

/-- The block of an ordered set: code and content, padded with 0 (R113). -/
def setBlock (code : Byte) (content : List Byte) : Block :=
  controlBlock (BitVec.ofNat 64 (leNat (0x4B :: code :: padTo 6 content)))

/-- An ordered set on one pair: a run of its block. -/
def sendSetOn (l : LinkNo) (p : PairNo) (code : Byte) (content : List Byte) (s : State) : State :=
  let r := sendBlocks l p (List.replicate (setRun code) (setBlock code content)) s
  emit (.orderedSet l p code (padTo 6 content) r.1) r.2

/-- A sleeping lane the hub sends on is left: counter 12 and RESUME before its first frame; from Deep, the wake pattern on
the transmit primary (R131, R132, R135). -/
def wakeLane (l : LinkNo) (p : PairNo) (s : State) : State :=
  let k := s.links[l]
  match k.txSleep[p] with
  | none => s
  | some .deep =>
    if k.waking || k.deepWake then s
    else updLink l (fun k => { k with waking := true, wakeStart := s.clock.hubTime }) (emit (.wakeBurst l (sendPrimary l k)) s)
  | some _ =>
    sendSetOn l p 0x31 [] (linkCount l 12 1 (updLink l (fun k => { k with txSleep := k.txSleep.set p none }) s))

/-- Whether the transmit primary is in Deep. -/
def primaryDeep (l : LinkNo) (k : Link) : Bool := k.txSleep[sendPrimary l k] == some .deep

/-- An ordered set on the transmit primary, which leaves its sleep first; from Deep, the set goes out once the wake has
ended (R97, R131). -/
def sendSet (l : LinkNo) (code : Byte) (content : List Byte) (s : State) : State :=
  let k := s.links[l]
  let p := sendPrimary l k
  if primaryDeep l k then wakeLane l p (updLink l (fun k => { k with owedSets := k.owedSets ++ [(code, content)] }) s)
  else sendSetOn l p code content (wakeLane l p s)

/-- The ordered sets owed go out. -/
def sendOwed (l : LinkNo) (s : State) : State :=
  s.links[l].owedSets.foldl (fun s x => sendSet l x.1 x.2 s) (updLink l (fun k => { k with owedSets := [] }) s)

/-! ### States and their events (R102, R103, R138, R375) -/

/-- The event a new link state raises: 8 or 12 for an uplink; 55 for the bond link when it reaches or leaves Active. -/
def linkStateEvent (l : LinkNo) (old new : Fin 10) (s : State) : State :=
  match upOfLink l with
  | some u => raise (.uplink (hostOnUp s u)) (linkEvent 8 u) new.val s
  | none =>
    if new = 6 && old != 6 then raise .all 55 1 s
    else if old = 6 && new != 6 then raise .all 55 0 s else s

/-- Sets the state of a link and reports the change once. -/
def setLinkState (l : LinkNo) (st : Fin 10) (s : State) : State :=
  if s.links[l].state = st then s
  else linkStateEvent l s.links[l].state st (updLink l (fun k => { k with state := st }) s)

/-- Event 62 for a wake reason of the hub's own, on the uplink that left Deep (R138). -/
def wakeReasonEvent (l : LinkNo) (s : State) : State :=
  match s.links[l].wakeReason with
  | some c => raise .all 62 c.toNat (updLink l (fun k => { k with wakeReason := none }) s)
  | none => s

/-- Active reached from Deep: event 62 first and the state event after it, in the other order at behaviour levels 1 and
2 (R138, Table 14.15). -/
def activeFromDeep (l : LinkNo) (s : State) : State :=
  if s.fw.level.toNat ≤ 2 then wakeReasonEvent l (setLinkState l 6 s)
  else
    let old := s.links[l].state
    let s := wakeReasonEvent l (updLink l (fun k => { k with state := 6 }) s)
    if old = 6 then s else linkStateEvent l old 6 s

/-- Whether a link carries tunnels: Active or Retrain (R158). -/
def carries (k : Link) : Bool := k.state == 6 || k.state == 8

/-! ### Sleep permissions (R133, R134) -/

/-- The sleep states the profile and the policy permit, as a map of Quiet, Doze and Deep. The bond link has Quiet in
every profile (R375). -/
def sleepPermitted (s : State) (l : LinkNo) : BitVec 3 :=
  if l = 2 then 1
  else match s.perf.profile with
    | .morning => 0
    | .dusk => 7
    | .noon => s.links[l].policy.permitted
    | .midnight => s.links[l].policy.permitted

/-- The POLICY ordered set, on the transmit primary (R97, R113, R134, R146). -/
def sendPolicy (l : LinkNo) (s : State) : State :=
  sendSet l 0x12 [BitVec.ofNat 8 (sleepPermitted s l).toNat, BitVec.ofNat 8 (bitNat s.links[l].sparing)] s

/-- POLICY after a change of the permission or the sparing policy: at once while the link is Active, after a wake from Deep,
or once a retrain has reached Active (R131, R134, R146). -/
def announce (l : LinkNo) (s : State) : State :=
  let k := s.links[l]
  if k.state = 6 || k.state = 9 then sendPolicy l s
  else if k.state = 8 then
    updLink l (fun k => { k with owedSets := k.owedSets ++
      [(0x12, [BitVec.ofNat 8 (sleepPermitted s l).toNat, BitVec.ofNat 8 (bitNat k.sparing)])] }) s
  else s

/-- The code of a sleep state in EIOS and in LINK_STATUS. -/
def sleepCode : Sleep → Nat | .quiet => 1 | .doze => 2 | .deep => 3

/-- A lane's sleep field in LINK_STATUS: 0 is awake. -/
def sleepField : Option Sleep → Nat | none => 0 | some x => sleepCode x

/-- Whether a sleep state is permitted by a map. -/
def sleepAllowed (m : BitVec 3) (x : Sleep) : Bool := m.getLsbD (sleepCode x - 1)

/-! ### Bring-up (R104 to R109) -/

/-- The hub's CAP (Table 3.9): the pairs on which its receivers have block lock in byte 2; in byte 6 the POS and in byte 7 the variant on the
bond link (R375). -/
def hubCap (s : State) (l : LinkNo) (locked : BitVec 4) : List Byte :=
  let own : Nat := (sleepPermitted s l).toNat
  [BitVec.ofNat 8 (16 + locked.toNat),
   BitVec.ofNat 8 (128 + (if l = 2 then 0 else 64) + 32 + 16),
   BitVec.ofNat 8 (7 + 8 * own),
   BitVec.ofNat 8 s.fw.level.toNat,
   BitVec.ofNat 8 (if l = 2 then bitNat s.pair.pos else 0),
   BitVec.ofNat 8 (if l = 2 then variantCode s else 0)]

/-- What a link loses when it ends: streams, retry and reorder buffers, sequence numbers, lanes and the turn (R108). -/
def clearLink (k : Link) : Link :=
  { k with
    phase := 0, reversed := false, retryWait := false, deepWake := false, fromDeep := 0, retraining := false,
    owedSets := [], turnWait := none, leftOut := 0, lost := 0, revFailed := 0,
    cap := none, txSeq := 0, retry := [], replayQ := [], resend := false, rxSeq := 0, rxAny := false, reorder := [],
    laneSeq := Vector.replicate 4 none, naked := [], crcSeen := false, rxMain := [], rxMgmt := [], rxHunt := false,
    rxPackets := [], txMain := [], txMgmt := [], slotTx := Vector.replicate 4 0,
    crcTimes := Vector.replicate 4 [], txSleep := Vector.replicate 4 none, rxSleep := Vector.replicate 4 none,
    waking := false, allot := 0, crossed := false, admHost := 2, admHub := 2,
    neither := 0, turn := none, restoring := 0 }

/-- Starts bring-up at Detect, with sequence numbers 0, empty retry buffers and allotment 2:2 (R99, R108, R109). -/
def startBringUp (l : LinkNo) (s : State) : State :=
  sendDetect l (setLinkState l 1 (updLink l (fun k => { clearLink k with phase := 1, attempts := 0, usbTerm := false }) s))

/-- The bond link trains while a partner is present, the hub is in Run and island 3 is not parked (R375, R450). -/
def startBond (s : State) : State :=
  if s.variant == .qt9840 && s.pair.bndPres && s.pm.phase == .run && s.pm.setting[(2 : Fin 12)] != 1
      && s.links[(2 : LinkNo)].state == 0 then startBringUp 2 s else s

/-- Starts one more attempt after a failed one (R106). -/
def nextAttempt (l : LinkNo) (s : State) : State :=
  sendDetect l (setLinkState l 1 (updLink l (fun k => { clearLink k with phase := 1 }) s))

/-! ### Adaptation (R127 to R129) -/

/-- How many updates of a kind fall into a receiver's interval (`till`, `now`], counted from where its adaptation began: one
at the end of each period (R127; log entry 125). -/
def updatesIn (since till now : Dword) (num den : Nat) : Nat :=
  (now - since).toNat * num / den - (till - since).toNat * num / den

/-- A free value at most `n` from `old`, within `lo` to `hi`. -/
def movedBy (old : Int) (n : Nat) (lo hi : Int) (s : State) : Int × State :=
  let (v, s) := takeFree 8 s
  let a := max lo (old - n)
  let b := min hi (old + n)
  (a + (v.toNat : Int) % (b - a + 1), s)

/-- The range of a tap in steps of 2.5 mV (Table 3.14). -/
def tapRange (t : Nat) : Nat := if t = 0 then 64 else if t < 4 then 32 else 16

/-- The taps after at most `n` updates of one LSB each (R128). -/
def movedTaps (n : Nat) : List (Nat × Byte) → State → List Byte × State
  | [], s => ([], s)
  | (t, v) :: r, s =>
    let (v, s) := movedBy v.toInt n (-(tapRange t : Int)) (tapRange t) s
    let (vs, s) := movedTaps n r s
    (BitVec.ofInt 8 v :: vs, s)

/-- Whether the receiver of a pair adapts: Active, awake, of the direction in force and not turning (R128). -/
def adapting (l : LinkNo) (k : Link) (p : PairNo) : Bool :=
  k.state == 6 && (receiveLanes l k).contains p && k.rxSleep[p].isNone

/-- Continuous adaptation of a receiver up to now: at most one CTLE step per 1 ms, one gain step per 100 µs and one tap LSB
per 2^16 UI, with the margins measured afresh; a frozen one holds its values (R127, R128). -/
def adaptTo (l : LinkNo) (s : State) (p : PairNo) : State :=
  let k := s.links[l]
  if adapting l k p then
    let n (num den : Nat) : Nat := updatesIn k.eqSince[p] k.eqTill[p] s.clock.hubTime num den
    let e := k.eqHub[p]
    let (ctle, s) := movedBy e.ctle.toNat (n 1 1000000) 0 31 s
    let (gain, s) := movedBy e.gain.toInt (n 1 100000) (-12) 12 s
    let (taps, s) := movedTaps (n 515625 655360000) ((List.finRange 12).map (fun i => (i.val, e.taps[i]))) s
    let (v, s) := takeFree 16 s
    let (h, s) := takeFree 8 s
    updLink l (fun k => { k with
      eqTill := k.eqTill.set p s.clock.hubTime
      eqHub := upd k.eqHub p (fun e => { e with
        ctle := BitVec.ofInt 5 ctle, gain := BitVec.ofInt 8 gain, vEye := v, hEye := h,
        taps := Vector.ofFn (fun i => taps.getD i.val 0) }) }) s
  else s

/-- Every receiver of a link up to now. -/
def adaptAll (l : LinkNo) (s : State) : State := allPairs.foldl (adaptTo l) s

/-- The adaptation of a receiver goes on from the values held (R128). -/
def adaptFrom (l : LinkNo) (p : PairNo) (s : State) : State :=
  updLink l (fun k => { k with
    eqSince := k.eqSince.set p s.clock.hubTime, eqTill := k.eqTill.set p s.clock.hubTime }) s

/-! ### Retrain (R108) -/

/-- Whether the bytes of a management packet are an INTERRUPT. -/
def isInterrupt (b : List Byte) : Bool := byteAt b 0 == 0x85

/-- Data that waits for the host when its link leaves Deep is a wake reason of the hub's own: 0x32 where INTERRUPT packets
alone wait, and 0x30 otherwise (Table 12.4, R138). -/
def noteQueued (l : LinkNo) (s : State) : State :=
  match upOfLink l with
  | some u =>
    let k := s.links[l]
    let h := hostOnUp s u
    let mgmt := k.txMgmt.filter (fun c => c.head) |>.map (fun c => c.bytes.drop 8)
    let zero := (s.tunnels.filter (fun t => t.host == h && t.tid == 0)).flatMap (fun t => t.queue.map (fun p => p.payload))
    let data := !k.txMain.isEmpty || s.tunnels.any (fun t => t.host == h && t.tid != 0 && !t.queue.isEmpty)
      || !(mgmt ++ zero).all isInterrupt
    if data then noteReason h 0x30 s else if mgmt ++ zero != [] then noteReason h 0x32 s else s
  | none => s

/-- The lanes the hub sends on that sleep, but for those that a wake has counted already. -/
def sleepers (l : LinkNo) (k : Link) : Nat :=
  ((sendLanes l k).filter (fun p => k.txSleep[p].isSome && !(k.deepWake && k.fromDeep.getLsbD p.val))).length

/-- Starts a retrain: from Training with the stored taps, keeping tunnels, numbers, buffers and the allotment (R108). The
turn that was running is abandoned (log entry 21). The peer is told by RETRAIN unless the lane that would carry it is in
Deep. -/
def startRetrain (l : LinkNo) (own : Bool) (s : State) : State :=
  let k := s.links[l]
  if k.state = 6 || k.state = 9 then
    let s := adaptAll l (noteQueued l s)
    let s := if own && !primaryDeep l k then sendSet l 0x60 [] s else s
    let s := linkCount l 12 (sleepers l s.links[l]) s
    let s := match upOfLink l with
      | some u => finish (.allot u) stNoResource [] s
      | none => s
    let s := updLink l (fun k => { k with
      phase := 2, reversed := false, resend := true, waking := false, deepWake := false, fromDeep := 0,
      retraining := false, turn := none, turnWait := none, leftOut := 0, laneSeq := Vector.replicate 4 none,
      txSleep := Vector.replicate 4 none, rxSleep := Vector.replicate 4 none }) s
    sendPrbs l (linkCount l 7 1 (setLinkState l 8 s))
  else s

/-! ### Lane loss and restoration (R143 to R147) -/

/-- Event 10 or 14 for a pair (Table 2.15). -/
def laneEvent (l : LinkNo) (p : PairNo) (restored : Bool) (s : State) : State :=
  match upOfLink l with
  | some u => raise (.uplink (hostOnUp s u)) (linkEvent 10 u) (256 * bitNat restored + p.val) s
  | none => s

/-- LANE_DOWN: pairs lost, restored, and turned as spares (Table 3.8). -/
def sendLaneDown (l : LinkNo) (lost restored spare : BitVec 4) (s : State) : State :=
  sendSet l 0x50 [BitVec.ofNat 8 lost.toNat, BitVec.ofNat 8 restored.toNat, BitVec.ofNat 8 spare.toNat] s

/-- Records a lane as lost: the bit, counter 8, the loss times of the last hour and the limit of R147. -/
def markLost (l : LinkNo) (p : PairNo) (s : State) : State :=
  let now := s.clock.hubTime
  let s := adaptTo l s p
  let s := updLink l (fun k =>
    let ts := (now :: k.lossTimes[p]).filter (fun t => decide ((now - t).toNat < 3600000000000))
    { k with
      lost := setBit k.lost p.val true
      lossTimes := k.lossTimes.set p ts
      laneSeq := k.laneSeq.set p none
      restoring := setBit k.restoring p.val false
      noRestore := if 4 ≤ ts.length then setBit k.noRestore p.val true else k.noRestore }) s
  linkCount l 8 1 s

/-- The reduction factor of a direction in 1/256: capacity remaining to capacity admitted, rounded down (R145, R177). -/
def reductionOf (remaining admitted : Nat) : Nat := if admitted = 0 then 256 else min 256 (256 * remaining / admitted)

/-- The pairs of a direction that were lost while turning. -/
def neitherIn (k : Link) (toHub : Bool) : Nat :=
  (allPairs.filter (fun p => k.neither.getLsbD p.val && runsToHub k p == toHub)).length

/-- The lanes that remain to a direction once losses are counted: a pair that an admitted change turns still counts in its
old direction, since that admission covers the turn (R140), and a spare pair counts in none (R146). -/
def remaining (l : LinkNo) (k : Link) (toHub : Bool) : Nat :=
  (allPairs.filter (fun p => (if toHub then laneReceives l k p else laneSends l k p) && !k.lost.getLsbD p.val
    && !(match k.turn with | some t => t.pair == p && t.spare | none => false))).length

/-- Brings the reduction factors of an uplink up to the lanes that remain, against those last admitted. A pair lost while
it was turning reduces nothing (R142). -/
def setReductions (u : Up) (s : State) : State :=
  let k := s.links[linkOfUp u]
  { s with scheds := upd s.scheds u (fun c => { c with
      redHost := reductionOf (remaining (linkOfUp u) k false) (k.admHost - neitherIn k false)
      redHub := reductionOf (remaining (linkOfUp u) k true) (k.admHub - neitherIn k true) }) }

/-- As `setReductions`, but only downward: what a restoration gives back waits for the next refill (R145). -/
def lowerReductions (u : Up) (s : State) : State :=
  let old := s.scheds[u]
  let s := setReductions u s
  { s with scheds := upd s.scheds u (fun c => { c with
      redHost := min old.redHost c.redHost, redHub := min old.redHub c.redHub }) }

/-! ### Frames (R115 to R126) -/

/-- `a` is before `b` or equal to it, in serial arithmetic within a window of 2,048 (R120). -/
def seqLe (a b : BitVec 12) : Bool := decide ((b - a).toNat < 2048)
def seqLt (a b : BitVec 12) : Bool := a != b && seqLe a b

/-- The bytes a frame's CRC covers (R116). -/
def frameBytes (hdr : Dword) (payload : List Byte) (trl : Dword) : List Byte :=
  leBytes 8 hdr.toNat ++ padTo 496 payload ++ leBytes 4 (trl.toNat % 2 ^ 32)

/-- Whether a frame's CRC is good. -/
def frameGood (f : RawFrame) : Bool := crc32 (frameBytes f.hdr f.payload f.trl) == f.trl.toNat / 2 ^ 32

/-- The 64 blocks of a frame (Table 3.10). -/
def frameBlocks (f : RawFrame) : List Block :=
  controlBlock f.hdr :: (List.range 62).map (fun i => dataBlock (BitVec.ofNat 64 (leNat ((f.payload.drop (8 * i)).take 8))))
    ++ [controlBlock f.trl]

/-- Whether a kept block belongs to frames: a data block, a header or a trailer. -/
def ofFrame (b : Block) : Bool := b.sync == 2 || blockType b.word == 0x78 || blockType b.word == 0x87

/-- The frame that stands whole in the blocks kept: a header, 62 data blocks and a trailer, with nothing among them (R115). -/
def frameIn (bs : List Block) : Option RawFrame :=
  match bs.dropWhile (fun b => b.sync == 2 || blockType b.word != 0x78) with
  | [] => none
  | h :: r =>
    let d := r.take 62
    match r.drop 62 with
    | t :: _ =>
      if d.all (fun b => b.sync == 2) && t.sync == 1 && blockType t.word == 0x87 then
        some ⟨h.word, d.flatMap (fun b => leBytes 8 b.word.toNat), t.word⟩
      else none
    | [] => none

/-- Blocks arrive on a lane: the descrambler runs over all of them, and those discarded count in counter 1 (R110 to R112). -/
def takeBlocks (l : LinkNo) (p : PairNo) (bs : List Block) (s : State) : List Block × State :=
  let r := mapBlocks descramble s.links[l].rxScr[p] bs
  let s := updLink l (fun k => { k with rxScr := k.rxScr.set p r.2 }) s
  let bad := (r.1.filter (fun b => !blockKept b)).length
  (r.1.filter blockKept, if bad = 0 then s else linkCount l 1 bad s)

/-- The fields of a frame header (Table 3.11). -/
def hdrIdle (h : Dword) : Bool := h.getLsbD 15
def hdrMstream (h : Dword) : Bool := h.getLsbD 14
def hdrSeq (h : Dword) : BitVec 12 := h.extractLsb' 16 12
def hdrAckValid (h : Dword) : Bool := h.getLsbD 47
def hdrAck (h : Dword) : BitVec 12 := h.extractLsb' 32 12
def hdrFirst (h : Dword) : BitVec 6 := h.extractLsb' 48 6
def hdrFill (h : Dword) : BitVec 6 := h.extractLsb' 56 6

/-- The bytes a packet occupies in a stream: header, payload and trailer, rounded up to 8 (R117, R150). -/
def packetSpan (hdr : Nat) : Nat :=
  let w := 8 + bitsOf hdr 32 13 + 4 * bitsOf hdr 11 1
  (w + 7) / 8 * 8

/-- Whether a tunnel header is malformed: LEN above 4,096 or a reserved bit set (R156). -/
def headerBad (hdr : Nat) : Bool :=
  decide (4096 < bitsOf hdr 32 13) || bitsOf hdr 13 3 != 0 || bitsOf hdr 45 3 != 0

/-- Bytes a partial packet still needs. -/
def needOf (stream : List Byte) : Nat :=
  if stream.isEmpty then 0
  else if stream.length < 8 then 8 - stream.length else packetSpan (leNat (stream.take 8)) - stream.length

/-- The packet that a stretch of stream bytes spells: its header, and the payload and trailer bytes that arrived. -/
def cutPacket (bytes : List Byte) (whole : Bool) : RxPacket :=
  let h := leNat (bytes.take 8)
  let w := bitsOf h 32 13 + 4 * bitsOf h 11 1
  { hdr := BitVec.ofNat 64 h, body := (bytes.drop 8).take w, hdrWhole := decide (8 ≤ bytes.length), whole := whole,
    badHdr := false }

/-- Cuts whole packets from the front of a stream that stands at a packet boundary: the packets, the bytes of the
packet begun, and whether the stream must resynchronise (R117, R156). -/
def depack : Nat → List Byte → List RxPacket × List Byte × Bool
  | 0, st => ([], st, false)
  | n + 1, st =>
    if st.length < 8 then ([], st, false)
    else
      let h := leNat (st.take 8)
      if headerBad h then ([⟨BitVec.ofNat 64 h, [], true, false, true⟩], [], true)
      else if packetSpan h ≤ st.length then
        let (ps, rest, hunt) := depack n (st.drop (packetSpan h))
        (cutPacket (st.take (packetSpan h)) true :: ps, rest, hunt)
      else ([], st, false)

/-- A frame's bytes enter its stream: the continuation of the packet begun, then whole packets, resynchronising at FIRST
where the continuation cannot be used (R117). -/
def feedStream (stream : List Byte) (hunt : Bool) (used : List Byte) (first : Nat) :
    List RxPacket × List Byte × Bool :=
  let n := used.length / 8 + 1
  if hunt then
    if first = 63 then ([], [], true) else depack n (used.drop (8 * first))
  else
    let need := needOf stream
    if first = 63 then
      if need = 0 then ([], [], !used.isEmpty)
      else if used.length < need then ([], stream ++ used, false)
      else ([cutPacket (stream ++ used.take need) true], [], decide (need < used.length))
    else if need = 8 * first then
      let (ps, rest, h) := depack n (used.drop need)
      (if need = 0 then ps else cutPacket (stream ++ used.take need) true :: ps, rest, h)
    else
      let begun := if need = 0 then [] else
        if 8 * first < need then [cutPacket (stream ++ used.take (8 * first)) false]
        else [cutPacket (stream ++ used.take need) true]
      let (ps, rest, h) := depack n (used.drop (8 * first))
      (begun ++ ps, rest, h)

/-- A data frame in sequence order enters the main stream or the management stream (R118). -/
def acceptFrame (k : Link) (f : LinkFrame) : Link :=
  let used := f.payload.take (8 * f.fill.toNat)
  if f.mstream then
    let (ps, rest, _) := feedStream k.rxMgmt false used f.first.toNat
    { k with rxPackets := k.rxPackets ++ ps, rxMgmt := rest }
  else
    let (ps, rest, h) := feedStream k.rxMain k.rxHunt used f.first.toNat
    { k with rxPackets := k.rxPackets ++ ps, rxMain := rest, rxHunt := h }

/-- Releases the frames of the reorder buffer that are next in sequence (R123). -/
def releaseFrames : Nat → Link → Link
  | 0, k => k
  | n + 1, k =>
    match k.reorder.find? (fun f => f.seq == k.rxSeq) with
    | some f =>
      releaseFrames n (acceptFrame
        { k with rxSeq := k.rxSeq + 1, rxAny := true, reorder := k.reorder.filter (fun g => g.seq != f.seq),
                 naked := k.naked.filter (· != f.seq) } f)
    | none => k

/-- The frames an acknowledgement covers leave the retry buffer (R121, R122). -/
def applyAck (ack : BitVec 12) (k : Link) : Link :=
  let retry := k.retry.filter (fun r => !seqLe r.frame.seq ack)
  { k with retry := retry, replayQ := k.replayQ.filter (fun q => retry.any (fun r => r.frame.seq == q)) }

/-- The sequence numbers that every awake lane of the direction has gone past and that have not been received (R124). -/
def missing (l : LinkNo) (k : Link) : Nat → BitVec 12 → List (BitVec 12)
  | 0, _ => []
  | n + 1, q =>
    let awake := (receiveLanes l k).filter (fun p => k.rxSleep[p].isNone)
    let past (p : PairNo) : Bool := match k.laneSeq[p] with | some x => seqLt q x | none => false
    if !awake.isEmpty && awake.all past then
      let rest := missing l k n (q + 1)
      if k.reorder.any (fun f => f.seq == q) || k.naked.contains q then rest else q :: rest
    else []

/-- The NAK block of a missing number (Table 3.13). -/
def nakBlock (q : BitVec 12) (reason : Byte) : Block :=
  controlBlock (BitVec.ofNat 64 (0x2D + 2 ^ 8 * q.toNat + 2 ^ 24 * reason.toNat + 2 ^ 32 * (65535 - q.toNat)))

/-- The lane a NAK goes out on: an awake one, or the transmit primary, which wakes. -/
def nakLane (l : LinkNo) (k : Link) : PairNo :=
  ((sendLanes l k).filter (fun p => k.txSleep[p].isNone)).headD (sendPrimary l k)

/-- Sends one NAK. -/
def sendNak (l : LinkNo) (reason : Byte) (s : State) (q : BitVec 12) : State :=
  let p := nakLane l s.links[l]
  let r := sendBlocks l p [nakBlock q reason] (wakeLane l p s)
  emit (.nak l p q reason r.1) r.2

/-- Sends a NAK for each missing number (R124); in Deep the wake pattern goes first, and the NAKs follow it. -/
def sendNaks (l : LinkNo) (s : State) : State :=
  let k := s.links[l]
  let qs := missing l k 128 k.rxSeq
  let reason : Byte := if k.crcSeen then 0 else 1
  if qs.isEmpty then s
  else if k.txSleep[nakLane l k] = some .deep then wakeLane l (nakLane l k) s
  else
    linkCount l 3 qs.length (updLink l (fun k => { k with naked := k.naked ++ qs, crcSeen := false })
      (qs.foldl (sendNak l reason) s))

/-- The number a lane has delivered furthest (R124). -/
def furthest (old : Option (BitVec 12)) (q : BitVec 12) : BitVec 12 :=
  match old with | some x => if seqLt x q then q else x | none => q

/-- The number of frames the reorder buffer holds: what the peer's CAP declares for its retry buffer (R123). -/
def reorderLimit (k : Link) : Nat := match k.cap with | some c => 8 * c.retryUnits.toNat | none => 128

/-- A good frame on a pair: its ACK, then its data in sequence order; a duplicate is counted (R119, R122 to R124). -/
def receiveGood (l : LinkNo) (p : PairNo) (f : RawFrame) (s : State) : State :=
  let q := hdrSeq f.hdr
  let s := updLink l (fun k =>
    let k := if hdrAckValid f.hdr then applyAck (hdrAck f.hdr) k else k
    let k := if k.resend then { k with resend := false, replayQ := k.retry.map (fun r => r.frame.seq) } else k
    { k with laneSeq := k.laneSeq.set p (some (furthest k.laneSeq[p] q)) }) s
  if hdrIdle f.hdr then sendNaks l s
  else
    let k := s.links[l]
    if seqLt q k.rxSeq || k.reorder.any (fun g => g.seq == q) then sendNaks l (linkCount l 5 1 s)
    else if reorderLimit k ≤ k.reorder.length then sendNaks l s
    else
      let g : LinkFrame := ⟨q, hdrMstream f.hdr, hdrFirst f.hdr, hdrFill f.hdr, padTo 496 f.payload⟩
      sendNaks l (updLink l (fun k =>
        releaseFrames 129 { k with reorder := k.reorder ++ [g] }) s)

/-- The bytes to send next from a stream, at most 496: the bytes, the offset in 8-byte units of the first header among
them (63 for none), and what remains (R117). -/
def takeStream : Nat → Nat → List TxChunk → List Byte × Nat × List TxChunk
  | 0, _, cs => ([], 63, cs)
  | _ + 1, _, [] => ([], 63, [])
  | n + 1, at_, c :: cs =>
    let room := 496 - at_
    if room = 0 then ([], 63, c :: cs)
    else if c.bytes.length ≤ room then
      let (bs, first, rest) := takeStream n (at_ + c.bytes.length) cs
      (c.bytes ++ bs, if c.head then at_ / 8 else first, rest)
    else (c.bytes.take room, if c.head then at_ / 8 else 63, ⟨c.bytes.drop room, false⟩ :: cs)

/-- The header word of a frame the hub sends (Table 3.11). -/
def makeHdr (idle mstream slot : Bool) (p : PairNo) (seq : BitVec 12) (ackValid : Bool) (ack : BitVec 12)
    (first fill : Nat) : Dword :=
  BitVec.ofNat 64 (0x78 + 2 ^ 15 * bitNat idle + 2 ^ 14 * bitNat mstream + 2 ^ 13 * bitNat slot + 2 ^ 11 * p.val
    + 2 ^ 16 * seq.toNat + 2 ^ 47 * bitNat ackValid + 2 ^ 32 * ack.toNat + 2 ^ 48 * first + 2 ^ 56 * fill)

/-- Sends one frame on a pair: header, payload and the trailer with SLOTCOUNT and the CRC; the lane's count advances, and
counter 14 with a reserved slot that has MSTREAM (R118, R148). -/
def putFrame (l : LinkNo) (p : PairNo) (idle mstream : Bool) (seq : BitVec 12) (first fill : Nat)
    (payload : List Byte) (s : State) : State :=
  let k := s.links[l]
  let slot := p == sendPrimary l k && k.slotTx[p] == 0
  let hdr := makeHdr idle mstream slot p seq k.rxAny (k.rxSeq - 1) first fill
  let trl0 := 0x87 + 256 * k.slotTx[p].toNat
  let body := padTo 496 payload
  let crc := crc32 (frameBytes hdr body (BitVec.ofNat 64 trl0))
  let f : RawFrame := ⟨hdr, body, BitVec.ofNat 64 (trl0 + 2 ^ 32 * crc)⟩
  let r := sendBlocks l p (frameBlocks f) (updLink l (fun k => { k with slotTx := upd k.slotTx p (· + 1) }) s)
  let s := emit (.frame l p f.hdr f.payload f.trl r.1) r.2
  if slot && mstream then linkCount l 14 1 s else s

/-- Sends a new data frame of a stream and keeps it in the retry buffer (R120, R121). -/
def putData (l : LinkNo) (p : PairNo) (mstream : Bool) (s : State) : State :=
  let k := s.links[l]
  let (bytes, first, rest) := takeStream 64 0 (if mstream then k.txMgmt else k.txMain)
  let fill := (bytes.length + 7) / 8
  let q := k.txSeq
  let f : LinkFrame := ⟨q, mstream, BitVec.ofNat 6 first, BitVec.ofNat 6 fill, padTo 496 bytes⟩
  let s := putFrame l p false mstream q first fill bytes s
  updLink l (fun k => { k with
    txSeq := q + 1
    retry := k.retry ++ [⟨f, 0⟩]
    txMain := if mstream then k.txMain else rest
    txMgmt := if mstream then rest else k.txMgmt }) s

end Sys2Proof.Machine
end

