-- ==== Sys2Proof/Machine/TunnelOps.lean ====
section
/-! DEFINITION. Operations of tunnels, shaping and the scheduler (04): charges, tunnel states and event 16, credit, reception, selection, refill, the TUN_QUERY report and the admission formulas A1 to A3. -/
namespace Sys2Proof.Machine

/-! ### Charges (R151) and states (R163) -/

/-- Whether a class uses credit (Table 4.3): all but 4 and 7. -/
def creditClass (c : BitVec 3) : Bool := c != 4 && c != 7

/-- Whether a bucket holds (R171). -/
def holds (rate burst : Word) : Bool := rate == 0 || burst == 0

/-- Whether every bucket the tunnel's class uses holds (R171). -/
def tunHeld (t : Tunnel) : Bool :=
  let host := holds t.shHost.cir t.shHost.cbs && holds t.shHost.eir t.shHost.ebs
  let hub := holds t.shHub.cir t.shHub.cbs && holds t.shHub.eir t.shHub.ebs
  if t.tid == 0 then false
  else if t.cls == 1 then hub
  else if t.cls == 4 || t.cls == 7 then host && t.police.enabled && holds t.police.rate t.police.burst
  else host && hub

/-- The link of a tunnel's uplink, if the host is on this chip. -/
def linkOfTunnel (s : State) (t : Tunnel) : Option Link := (upOfHost s t.host).map (fun u => s.links[linkOfUp u])

/-- The reduction factor that applies to a tunnel toward the host and toward the hub (R145): classes 2 to 7 only. -/
def redHostOf (s : State) (t : Tunnel) : Nat :=
  if t.cls.toNat < 2 then 256 else match upOfHost s t.host with | some u => s.scheds[u].redHost | none => 256
def redHubOf (s : State) (t : Tunnel) : Nat :=
  if t.cls.toNat < 2 then 256 else match upOfHost s t.host with | some u => s.scheds[u].redHub | none => 256

/-- Whether a tunnel's guarantee is reduced after a lane loss. -/
def tunDegraded (s : State) (t : Tunnel) : Bool :=
  (redHostOf s t != 256 && t.shHost.cir != 0) || (redHubOf s t != 256 && (t.shHub.cir != 0 ||
    (t.police.enabled && t.police.rate != 0)))

/-- Whether a tunnel's packets go over the bond link: the tunnel of this chip's host ends on the partner's engine, or that of
the partner's host on this chip's (R388). -/
def onBond (t : Tunnel) : Bool := t.cross.isSome || t.far.isSome

/-- The state TUN_QUERY and event 16 report: the highest of Table 4.5 that applies. -/
def tunState (s : State) (t : Tunnel) : Fin 8 :=
  let retrain := (onBond t && s.links[(2 : LinkNo)].state != 6)
    || (match linkOfTunnel s t with | some k => k.state == 8 | none => false)
  if t.closing then 4 else if t.standby then 7 else if retrain then 5 else if tunDegraded s t then 3
  else if t.silent then 6 else if tunHeld t then 2 else 1

/-- The argument of event 16 and event 17. -/
def tunArg (h : HostNo) (tid : Byte) (st : Nat) : Nat := 2 ^ 24 * h.val + 256 * tid.toNat + st

/-- Event 16 for a tunnel's state. -/
def tunEvent (h : HostNo) (tid : Byte) (st : Fin 8) (s : State) : State :=
  raise (.hosts (hostBit h)) 16 (tunArg h tid st.val) s

/-- Raises event 16 if the reported state of a tunnel has changed; Suspended is not reported (R163).
So an open that completes in Retrain is reported after it, this model's choice (log entry 147). -/
def noteTunnel (h : HostNo) (tid : Byte) (s : State) : State :=
  match findTunnel s h tid with
  | none => s
  | some t =>
    let st := tunState s t
    if st = 5 || st = t.lastState then s
    else tunEvent h tid st (updTunnel h tid (fun t => { t with lastState := st }) s)

/-- Does so for every tunnel of a host. -/
def noteTunnels (h : HostNo) (s : State) : State :=
  (s.tunnels.filter (fun t => t.host == h)).foldl (fun s t => noteTunnel h t.tid s) s

/-! ### Opening and closing -/

def noShaper : Shaper := ⟨0, 0, 0, 0⟩
def noCounters : TunCounters := ⟨0, 0, 0, 0, 0, 0, 0, 0, 0⟩

/-- A tunnel as it opens: credit equal to the buffers, buckets empty, both sequence numbers 0 (R162). -/
def newTunnel (h : HostNo) (tid : Byte) (cls : BitVec 3) (hubBuf hostBuf maxPl : Nat) (now : Dword) : Tunnel :=
  { host := h, tid := tid, cross := none, far := none, cls := cls, guarded := false, pinned := false, channel := 0, endpoint := 0,
    maxPl := maxPl, keepalive := 0, hubBuf := hubBuf, hostBuf := hostBuf, closing := false, standby := false,
    silent := false, shHost := noShaper, shHub := noShaper, police := ⟨false, 0, 0⟩, cbHost := 0,
    ebHost := 0, cbHub := 0, ebHub := 0, polBits := 0, txSeq := 0, rxSeq := 0, peerCredit := hostBuf / 64,
    granted := hubBuf / 64, freed := 0, release := 0, owed := none, queue := [], held := [], msg := [], msgUnits := 0,
    msgTime := now, inMsg := false, msgBroken := false, inbox := [], stalled := false, lastState := 0, counters := noCounters, snap := [] }

/-- TID 0 as it opens: class 0, 16 KiB of credit in each direction, no shaper (R63, R158). -/
def newTid0 (h : HostNo) (now : Dword) : Tunnel := { newTunnel h 0 0 16384 16384 4096 now with lastState := 1 }

/-- TID 0 of an uplink opens as its link reaches Active (R158). The spec names TUN_OPEN and the loss of a host for event 16,
and not this opening or its end, so the model raises none for either (log entry 106). -/
def openTid0 (h : HostNo) (s : State) : State :=
  if (findTunnel s h 0).isSome then s else { s with tunnels := s.tunnels ++ [newTid0 h s.clock.hubTime] }

/-- The target word that names a tunnel (R159). -/
def tunTarget (h : HostNo) (tid : Byte) : Word := BitVec.ofNat 32 (2 ^ 24 * h.val + 256 * tid.toNat)

/-- The partner's engine is told that a cross tunnel of this chip's host is closed (R388; log entry 133). -/
def tellClosed (s : State) (t : Tunnel) : State :=
  if t.cross.isSome && inSpan s then
    let id := s.pair.nextId
    let r := hostRequester t.host
    emit (.forwardedCommand id r 0x0302 ⟨.forwarded r id, 0, 0, 0, false, tunTarget t.host t.tid, []⟩)
      (updPair (fun p => { p with nextId := id + 1 }) s)
  else s

/-- The state with a tunnel Closed and its record gone. -/
def dropTunnel (h : HostNo) (tid : Byte) (s : State) : State :=
  { s with tunnels := s.tunnels.filter (fun t => !isTunnel h tid t) }

/-- The state with TID 0 of an uplink gone, as its link ends. -/
def closeTid0 (u : Up) (s : State) : State := dropTunnel (hostOnUp s u) 0 s

/-! ### Credit (R167 to R171) -/

/-- The class settings toward the hub that pace a tunnel's excess release. -/
def hubClass (s : State) (t : Tunnel) : Option ClassDir :=
  match upOfHost s t.host with
  | some u => some s.scheds[u].toHub[(⟨t.cls.toNat, by omega⟩ : Fin 8)]
  | none => none

/-- Releases freed units: 512 bits a unit, first from the committed bucket, then from the excess bucket under the class
ceiling, and none of the excess for a class of weight 0 or while Day's replication queue is over its limit (R170,
R173, R392). TID 0 and the tunnels of classes 4 and 7 have no pacing. The answer is the tunnel, and the bits taken
from the class ceiling. -/
def releaseUnits (s : State) (t : Tunnel) : Tunnel × Nat :=
  if t.tid == 0 then ({ t with release := t.release + t.freed, freed := 0 }, 0)
  else
    let a := min t.freed (t.cbHub / 512)
    let b := match hubClass s t with
      | some c => if c.weight == 0 || s.pair.replHold then 0 else min (t.freed - a) (min (t.ebHub / 512) (c.lb / 512))
      | none => min (t.freed - a) (t.ebHub / 512)
    ({ t with freed := t.freed - a - b, release := t.release + a + b, cbHub := t.cbHub - 512 * a,
              ebHub := t.ebHub - 512 * b }, 512 * b)

/-- Takes bits from the class ceiling toward the hub. -/
def drawCeiling (h : HostNo) (cls : BitVec 3) (bits : Nat) (s : State) : State :=
  match upOfHost s h with
  | some u => { s with scheds := upd s.scheds u (fun c => { c with
      toHub := upd c.toHub ⟨cls.toNat, by omega⟩ (fun d => { d with lb := d.lb - bits }) }) }
  | none => s

/-- Releases what the buckets of one tunnel allow. -/
def releaseTunnel (h : HostNo) (tid : Byte) (s : State) : State :=
  match findTunnel s h tid with
  | none => s
  | some t =>
    let (t', bits) := releaseUnits s t
    drawCeiling h t.cls bits (updTunnel h tid (fun _ => t') s)

/-- The endpoint has taken data: its units are freed, and released as the shapers allow (R167). -/
def freeUnits (h : HostNo) (tid : Byte) (n : Nat) (s : State) : State :=
  releaseTunnel h tid (updTunnel h tid (fun t => if creditClass t.cls then { t with freed := t.freed + n } else t) s)

/-- The classes whose engine takes a message packet by packet into a buffer of its own: the tile decoder, which holds one
message buffer per tunnel, and the USB block, whose messages may be longer than the tunnel's hub buffer (R191, R287; log
entry 105). -/
def buffersMessages (t : Tunnel) : Bool := t.cls == 1 || t.cls == 2 || t.cls == 5

/-- The oldest message of a tunnel moves into its engine's message buffer, the one in progress too, and its units are freed
(R167, R191). -/
def drawMessage (h : HostNo) (tid : Byte) (s : State) : State :=
  match findTunnel s h tid with
  | none => s
  | some t =>
    if !buffersMessages t then s
    else match t.inbox with
      | [] => freeUnits h tid t.msgUnits (updTunnel h tid (fun t => { t with msgUnits := 0 }) s)
      | m :: r => freeUnits h tid m.units (updTunnel h tid (fun t => { t with inbox := { m with units := 0 } :: r }) s)

/-- The endpoint takes the message at the head of a tunnel: the message, and the state with its units freed. -/
def takeMessage (h : HostNo) (tid : Byte) (s : State) : Option (Message × State) :=
  match findTunnel s h tid with
  | none => none
  | some t =>
    match t.inbox with
    | [] => none
    | m :: r =>
      some (m, drawMessage h tid (freeUnits h tid m.units (updTunnel h tid (fun t => { t with inbox := r }) s)))

/-! ### Messages toward the host -/

/-- A message cut into payloads of at most `n` bytes; an empty message is one empty payload. -/
def cutMessage (n : Nat) : Nat → List Byte → List (List Byte)
  | 0, b => [b]
  | k + 1, b => if b.length ≤ n then [b] else b.take n :: cutMessage n k (b.drop n)

/-- A message queued on a tunnel toward the host, as packets of which the last has LAST set; beyond the queue's limit its
engine holds them back (R150, R179). A tunnel whose endpoint is on the partner's chip, or that is Standby, sends none of this
chip's messages; `ends` says that the message ends what the tunnel brought before it began to close (R164). -/
def queueMessage (ends : Bool) (h : HostNo) (tid : Byte) (b : List Byte) (s : State) : State :=
  match findTunnel s h tid with
  | none => s
  | some t =>
    if t.cross.isSome || (t.closing && !ends) || t.standby then s
    else
      let ps := cutMessage t.maxPl b.length b
      let held := t.held ++ ps.zipIdx.map (fun p => (p.2 + 1 == ps.length, p.1))
      admitHeld h tid held.length (updTunnel h tid (fun t => { t with held := held }) s)

/-- A message on a tunnel that is not closing. -/
def sendMessage (h : HostNo) (tid : Byte) (b : List Byte) (s : State) : State := queueMessage false h tid b s

/-! ### Reception (R152 to R156, R168, R176) -/

/-- The fields of a tunnel header (Table 4.1). -/
def tpTid (h : Nat) : Byte := BitVec.ofNat 8 h
def tpClass (h : Nat) : BitVec 3 := BitVec.ofNat 3 (h / 256)
def tpTrl (h : Nat) : Bool := h.testBit 11
def tpLast (h : Nat) : Bool := h.testBit 12
def tpSeq (h : Nat) : Half := BitVec.ofNat 16 (h / 65536)
def tpLen (h : Nat) : Nat := bitsOf h 32 13
def tpCredit (h : Nat) : Nat := bitsOf h 48 16

/-- Whether packets are accepted in a tunnel's state: Open, Held, Degraded or Silent, and so not while a cross tunnel is
Suspended with the bond link (R156, R388). A tunnel whose own link is in Retrain receives none, since no frame arrives. -/
def accepts (s : State) (t : Tunnel) : Bool :=
  !t.closing && !t.standby && !(onBond t && s.links[(2 : LinkNo)].state != 6)

def countMalformed (u : Up) (s : State) : State :=
  { s with scheds := upd s.scheds u (fun c => { c with malformed := satInc c.malformed }) }
def countStray (u : Up) (s : State) : State :=
  { s with scheds := upd s.scheds u (fun c => { c with strays := satInc c.strays }) }

/-- Applies the CREDIT of a packet (R153): ignored in classes 4 and 7. -/
def addCredit (n : Nat) (t : Tunnel) : Tunnel :=
  if creditClass t.cls then { t with peerCredit := t.peerCredit + n } else t

/-- Counts a sequence gap where SEQ is not the expected number, and expects the next (R152). -/
def noteSeq (q : Half) (t : Tunnel) : Tunnel :=
  { t with rxSeq := q + 1,
           counters := if q = t.rxSeq then t.counters else { t.counters with gaps := satInc t.counters.gaps } }

/-- Whether the trailer of a received packet is as its tunnel requires (R155). -/
def trailerOk (s : State) (t : Tunnel) (p : RxPacket) : Bool :=
  let len := tpLen p.hdr.toNat
  if t.guarded then
    tpTrl p.hdr.toNat &&
      checkValue s.flt.channels[t.channel.toFin] (leBytes 8 p.hdr.toNat ++ p.body.take len)
        == leNat ((p.body.drop len).take 4)
  else !tpTrl p.hdr.toNat

/-- The longest tile message (R191). -/
def tileMax : Nat := 16432

/-- A complete packet's data enters its tunnel: the message in progress, unless the policer has broken it or it grows beyond
the tile decoder's buffer, or carries a TLP in more than one packet (R237), or on LAST a message for the endpoint. A zero-length packet with LAST set ends the message or is
an empty one (R154, R191). -/
def acceptData (len units : Nat) (last : Bool) (data : List Byte) (now : Dword) (t : Tunnel) : Tunnel :=
  if len = 0 && !last then t
  else
    let long := (t.cls == 1 && decide (tileMax < t.msg.length + data.length)) || (t.cls == 3 && t.inMsg && len != 0)
    let t := if len = 0 then t else
      { t with granted := if creditClass t.cls then t.granted - units else t.granted,
               msgTime := if t.inMsg then t.msgTime else now,
               msgBroken := t.msgBroken || long
               msg := if t.cls == 3 && (long || t.msgBroken) then (t.msg ++ data).take 64
                 else if long then [] else if t.msgBroken then t.msg else t.msg ++ data
               msgUnits := t.msgUnits + units, inMsg := true }
    if last then
      { t with inbox := t.inbox ++ [⟨t.msg, t.msgUnits, if t.inMsg then t.msgTime else now, t.msgBroken⟩], msg := [],
               msgUnits := 0, inMsg := false, msgBroken := false }
    else t

/-- A packet dropped by the policer: its message is marked as not whole, and ends with the packet that has LAST set
(R176, R286, R318). -/
def dropPoliced (last : Bool) (now : Dword) (t : Tunnel) : Tunnel :=
  if last then
    { t with inbox := t.inbox ++ [⟨t.msg, t.msgUnits, if t.inMsg then t.msgTime else now, true⟩], msg := [],
             msgUnits := 0, inMsg := false, msgBroken := false }
  else { t with msgTime := if t.inMsg then t.msgTime else now, inMsg := true, msgBroken := true }

/-- A packet received on a tunnel counts, whether or not it is then accepted: Table 4.2 calls the packets that are not
accepted received ones (log entry 93). Bytes are payload bytes, here, for what is sent and for what is queued; the spec says
only "bytes" (log entry 107). -/
def countRx (len : Nat) (t : Tunnel) : Tunnel :=
  { t with counters := { t.counters with pktRx := satInc t.counters.pktRx, byteRx := satAdd t.counters.byteRx len } }

/-- A packet addressed to an accepting tunnel of the right class: oversize, trailer, credit and policing checks in turn,
then its data (R155, R156, R168, R176). A zero-length packet that fails its trailer check returns its charge of one unit like
any other, though it used none of the units granted; R155 makes no exception and does not speak of the case (log entry
104).
The order of the checks is this model's choice (log entry 145). -/
def receiveOn (h : HostNo) (t : Tunnel) (p : RxPacket) (s : State) : State :=
  let hd := p.hdr.toNat
  let len := tpLen hd
  let units := unitsOf len (tpTrl hd)
  let on (f : Tunnel → Tunnel) (s : State) : State := updTunnel h t.tid f s
  let s := on (noteSeq (tpSeq hd)) (on (fun t => countRx len { t with silent := false }) s)
  if t.maxPl < len then
    freeUnits h t.tid units (on (fun t => { addCredit (tpCredit hd) t with
      counters := { t.counters with oversize := satInc t.counters.oversize },
      granted := t.granted - units }) s)
  else if !trailerOk s t p then
    logFault 0x0E (tunArg h t.tid 0) { reaction := 1 }
      (freeUnits h t.tid units (on (fun t => { t with
        counters := { t.counters with trailers := satInc t.counters.trailers },
        granted := if len = 0 then t.granted else t.granted - units }) s))
  else if creditClass t.cls && len != 0 && decide (t.granted < units) then
    on (fun t => { addCredit (tpCredit hd) t with
      counters := { t.counters with violations := satInc t.counters.violations } }) s
  else if t.police.enabled && len != 0 && decide (t.polBits < 512 * units) then
    on (fun t => dropPoliced (tpLast hd) s.clock.hubTime
      { t with counters := { t.counters with drops := satInc t.counters.drops } }) s
  else
    drawMessage h t.tid (on (fun t =>
      let t := addCredit (tpCredit hd) t
      let t := if t.police.enabled && len != 0 then { t with polBits := t.polBits - 512 * units } else t
      acceptData len units (tpLast hd) (p.body.take len) s.clock.hubTime t) s)

/-- One packet of an uplink (R156). A packet that was cut after its header arrived whole leaves the expected SEQ as it is: R152
speaks of a packet that the hub receives, and does not say whether this is one (log entry 104).
A packet of the wrong class leaves the expected SEQ as it is too, this model's choice (log entry 146). -/
def receivePacket (u : Up) (p : RxPacket) (s : State) : State :=
  let h := hostOnUp s u
  let hd := p.hdr.toNat
  if p.badHdr then countMalformed u s
  else if !p.whole then
    let s := countMalformed u s
    if !p.hdrWhole then s
    else match findTunnel s h (tpTid hd) with
      | some t =>
        if accepts s t && creditClass t.cls then
          freeUnits h t.tid (unitsOf (tpLen hd) (tpTrl hd))
            (updTunnel h t.tid (fun t => { addCredit (tpCredit hd) t with
              granted := if tpLen hd = 0 then t.granted else t.granted - unitsOf (tpLen hd) (tpTrl hd) }) s)
        else s
      | none => s
  else match findTunnel s h (tpTid hd) with
    | none => countStray u s
    | some t =>
      if !accepts s t || t.cls != tpClass hd then countStray u s
      else noteTunnel h t.tid (receiveOn h t p s)

/-! ### Reception on the bond link (R63, R376, R388) -/

/-- A packet of one of the bond link's tunnels 0 to 2: its CREDIT and its SEQ are used, and the units of the tunnel's 16 KiB that
it takes are freed at once, since what it carries comes as a command of its own (log entry 25). -/
def bondInternal (p : RxPacket) (t : Tunnel) : Tunnel :=
  let hd := p.hdr.toNat
  let units := unitsOf (tpLen hd) (tpTrl hd)
  if p.badHdr || !p.hdrWhole || tpTid hd != t.tid || tpClass hd != 0 then t
  else if !p.whole then { addCredit (tpCredit hd) t with release := t.release + units }
  else
    let t := noteSeq (tpSeq hd) (countRx (tpLen hd) t)
    if tpTrl hd then { t with release := t.release + units }
    else if tpLen hd != 0 && decide (t.granted < units) then
      { addCredit (tpCredit hd) t with counters := { t.counters with violations := satInc t.counters.violations } }
    else if tpLen hd = 0 then addCredit (tpCredit hd) t
    else { addCredit (tpCredit hd) t with granted := t.granted - units, release := t.release + units }

/-- A packet of a cross tunnel: on the engine's chip its data joins the tunnel's message, and on the host's chip it is held for
the tunnel's transmit queue (R388). -/
def crossArrives (p : RxPacket) (s : State) : State :=
  let hd := p.hdr.toNat
  let data := p.body.take (tpLen hd)
  if p.badHdr || !p.whole then s
  else match s.tunnels.find? (fun t => t.cross == some (tpTid hd) || t.far == some (tpTid hd)) with
    | none => s
    | some t =>
      if t.far.isSome then
        drawMessage t.host t.tid (updTunnel t.host t.tid (fun t =>
          acceptData data.length (unitsOf data.length false) (tpLast hd) data s.clock.hubTime (countRx data.length t)) s)
      else
        admitHeld t.host t.tid (t.held.length + 1)
          (updTunnel t.host t.tid (fun t => { t with held := t.held ++ [(tpLast hd, data)] }) s)

/-- The packets cut from the bond link's streams. -/
def takeBond (s : State) : State :=
  let ps := s.links[(2 : LinkNo)].rxPackets
  let s := updPair (fun p => { p with bond := p.bond.map (fun t => if t.tid.toNat ≤ 2 then ps.foldl (fun t x => bondInternal x t) t else t) })
    (updLink 2 (fun k => { k with rxPackets := [] }) s)
  if inSpan s then ps.foldl (fun s p => crossArrives p s) s else s

/-! ### The scheduler (R177) -/

/-- Adds a rate to a bucket, which holds at a rate or a burst of 0 (R177). -/
def bucketAdd (b rate : Nat) (burst : Word) : Nat :=
  if rate = 0 || burst == 0 then 0 else min (b + rate) (8 * burst.toNat)

/-- The quantum of one weight unit, in bits. -/
def quantum : Nat := 33280

/-- `init_excess`: the deficits 0, the turn at the lowest class with a weight, its first quantum (R177). -/
def initExcess (ks : Vector ClassDir 8) : Vector ClassDir 8 × Option (Fin 8) :=
  let z := ks.map (fun d => { d with deficit := 0 })
  match ([1, 2, 3, 4, 5, 6, 7] : List (Fin 8)).find? (fun k => ks[k].weight != 0) with
  | none => (z, none)
  | some k => (upd z k (fun (d : ClassDir) => { d with deficit := d.weight.toNat * quantum }), some k)

/-- The tunnels of a class on an uplink, in round-robin order after the one last served. -/
def robin (s : State) (h : HostNo) (c : Fin 8) (last : Byte) : List Tunnel :=
  let ts := s.tunnels.filter (fun t => t.host == h && t.cls.toNat == c.val && t.tid != 0)
  let after := ts.filter (fun t => last.toNat < t.tid.toNat)
  let before := ts.filter (fun t => t.tid.toNat ≤ last.toNat)
  let srt := List.mergeSort (le := fun (a b : Tunnel) => decide (a.tid.toNat ≤ b.tid.toNat))
  srt after ++ srt before

/-- The charge units of a queued packet of a tunnel. -/
def packetUnits (t : Tunnel) (p : TxPacket) : Nat := unitsOf p.payload.length t.guarded

/-- `peer_ok`: a zero-length packet needs no peer credit (R154). -/
def peerOk (t : Tunnel) (p : TxPacket) : Bool :=
  !creditClass t.cls || p.payload.isEmpty || decide (packetUnits t p ≤ t.peerCredit)

/-- The cost of a packet in bits; zero-length packets draw on no bucket (R154). -/
def packetCost (t : Tunnel) (p : TxPacket) : Nat := if p.payload.isEmpty then 0 else 512 * packetUnits t p

/-- The bytes of a packet toward the host: header with SEQ and CREDIT, payload, trailer, and padding to 8 (R150, R155). -/
def packetBytes (s : State) (t : Tunnel) (p : TxPacket) : List Byte :=
  let credit := if creditClass t.cls then min t.release 65535 else 0
  let hd := t.tid.toNat + 256 * t.cls.toNat + 2 ^ 11 * bitNat t.guarded + 2 ^ 12 * bitNat p.last
    + 65536 * t.txSeq.toNat + 2 ^ 32 * p.payload.length + 2 ^ 48 * credit
  let b := leBytes 8 hd ++ p.payload
  let b := if t.guarded then b ++ leBytes 4 (checkValue s.flt.channels[t.channel.toFin] b) else b
  padTo ((b.length + 7) / 8 * 8) b

/-- Sends a packet of a tunnel into a stream of its uplink: SEQ advances, the released units go with it, peer credit is
taken (R152, R153, R167). `pop` says that the packet is the head of the queue, which leaves room for what the engine holds
back (R179). -/
def sendPacket (u : Up) (t : Tunnel) (p : TxPacket) (pop mgmt : Bool) (s : State) : State :=
  let bytes := packetBytes s t p
  let credit := if creditClass t.cls then min t.release 65535 else 0
  let s := updLink (linkOfUp u) (fun k =>
    if mgmt then { k with txMgmt := k.txMgmt ++ [⟨bytes, true⟩] }
    else { k with txMain := k.txMain ++ [⟨bytes, true⟩] }) s
  admitHeld t.host t.tid t.held.length (updTunnel t.host t.tid (fun t => { t with
    txSeq := t.txSeq + 1
    queue := if pop then t.queue.drop 1 else t.queue
    release := t.release - credit
    granted := t.granted + credit
    owed := none
    stalled := if pop then false else t.stalled
    peerCredit := if creditClass t.cls && !p.payload.isEmpty then t.peerCredit - packetUnits t p else t.peerCredit
    counters := { t.counters with pktTx := satInc t.counters.pktTx,
                                  byteTx := satAdd t.counters.byteTx p.payload.length } }) s)

/-! ### Transmission on the bond link (R375, R376) -/

/-- The packets of one message on the bond link. -/
def bondPackets (tid : Byte) (cls : BitVec 3) (repl : Bool) (b : List Byte) : List BondPacket :=
  let ps := cutMessage 4096 b.length b
  ps.zipIdx.map (fun p => ⟨tid, cls, p.2 + 1 == ps.length, p.1, repl⟩)

/-- What the k-th entry of the output log puts on the bond link: by Table of R376 its TID, and its bytes where the spec gives
them (R392, R400), else ones the model leaves open (log entry 132). -/
def bondMessage (k : Nat) : Emit → List BondPacket
  | .relayedEvent _ _ _ _ => bondPackets 0 0 false (Config.bondText k)
  | .forwardedResponse _ _ => bondPackets 0 0 false (Config.bondText k)
  | .forwardedCommand _ _ _ _ => bondPackets 0 0 false (Config.bondText k)
  | .forwardedAccess _ _ _ _ _ => bondPackets 0 0 false (Config.bondText k)
  | .accessCompletion _ _ _ _ => bondPackets 0 0 false (Config.bondText k)
  | .signature key seq sig =>
    bondPackets 1 0 false (leBytes 1 key.kind.val ++ leBytes 1 key.sub ++ leBytes 1 key.port ++ [0] ++ leBytes 4 seq.toNat
      ++ leBytes 8 sig.toNat)
  | .pairControl _ _ => bondPackets 2 0 false (Config.bondText k)
  | .mirrorChange (.timing _ _) => bondPackets 2 0 false (Config.bondText k)
  | .mirrorChange _ => bondPackets 3 0 false (Config.bondText k)
  | .replicated (.packet _ hdr b) => bondPackets 3 0 true (leBytes 8 hdr.toNat ++ b)
  | .replicated (.eth _ b _) => bondPackets 3 0 true b
  | .replicated (.can _ f) => bondPackets 3 0 true (padTo 8 ((Config.bondText k).take 8) ++ f.data)
  | .bondPacket tid cls last b => [⟨tid, cls, last, b, false⟩]
  | _ => []

/-- What an engine of this chip sends to a host of the partner leaves its tunnel's queue for the bond link (R388). -/
def gatherFar (s : State) (t : Tunnel) : State :=
  match t.far with
  | none => s
  | some b =>
    let ps : List BondPacket := t.queue.map (fun p => ⟨b, t.cls, p.last, p.payload, false⟩)
    admitHeld t.host t.tid t.held.length (updTunnel t.host t.tid (fun t => { t with queue := [] })
      (updPair (fun p => { p with bondTx := p.bondTx ++ ps }) s))

/-- The packets of what the chip has put on the bond link since it last did this. -/
def gatherBond (s : State) : State :=
  let k := s.pair.bondSeen
  let new := (s.out.drop k).zipIdx.flatMap (fun e => bondMessage (k + e.2) e.1)
  let s := updPair (fun p => { p with bondSeen := s.out.length, bondTx := p.bondTx ++ new }) s
  s.tunnels.foldl gatherFar s

/-- An internal tunnel of the bond link; one of 3 to 255 begins with its first packet. -/
def bondTunnel (s : State) (tid : Byte) : Tunnel :=
  (s.pair.bond.find? (fun t => t.tid == tid)).getD { newTid0 0 s.clock.hubTime with tid := tid }

def setBondTunnel (t : Tunnel) (p : Pair) : Pair :=
  { p with bond := if p.bond.any (fun x => x.tid == t.tid) then p.bond.map (fun x => if x.tid == t.tid then t else x)
      else p.bond ++ [t] }

/-- The packet sent next: in a reserved slot one of TID 0; elsewhere TIDs 0 to 2 go ahead of the rest, each as its peer credit
allows (R86, R87, R376). -/
def nextBond (s : State) (slot : Bool) : Option BondPacket :=
  let free (p : BondPacket) : Bool := 2 < p.tid.toNat || peerOk (bondTunnel s p.tid) ⟨p.last, p.payload, 0⟩
  if slot then s.pair.bondTx.find? (fun p => p.tid == 0 && free p)
  else match s.pair.bondTx.find? (fun p => decide (p.tid.toNat ≤ 2) && free p) with
    | some p => some p
    | none => s.pair.bondTx.find? (fun p => decide (2 < p.tid.toNat))

/-- A packet goes into a stream of the bond link. -/
def putBond (slot : Bool) (t : Tunnel) (p : TxPacket) (s : State) : State :=
  let bytes := packetBytes s t p
  let n := min t.release 65535
  updPair (setBondTunnel { t with
      txSeq := t.txSeq + 1, release := t.release - n, granted := t.granted + n
      peerCredit := if p.payload.isEmpty then t.peerCredit else t.peerCredit - packetUnits t p })
    (updLink 2 (fun k =>
      if slot then { k with txMgmt := k.txMgmt ++ [⟨bytes, true⟩] } else { k with txMain := k.txMain ++ [⟨bytes, true⟩] }) s)

/-- Packets of the bond link go into a stream until it fills a frame; the replication queue gets shorter (R392). -/
def fillBond (slot : Bool) : Nat → State → State
  | 0, s => s
  | n + 1, s =>
    let k := s.links[(2 : LinkNo)]
    if 496 ≤ ((if slot then k.txMgmt else k.txMain).map (fun c => c.bytes.length)).sum then s
    else match nextBond s slot with
      | none => s
      | some p =>
        let left (x : Pair) : Pair :=
          let n := if p.repl then x.replBytes - p.payload.length else x.replBytes
          { x with bondTx := x.bondTx.erase p, replBytes := n, replHold := x.replHold && decide (524288 ≤ n) }
        fillBond slot n (putBond slot { bondTunnel s p.tid with cls := p.cls } ⟨p.last, p.payload, s.clock.hubTime⟩ (updPair left s))

/-- Returns the credit of the bond link's tunnels 0 to 2 in zero-length packets, in the management stream of a reserved slot for
tunnel 0 or in the main stream (R63, R167, R375). -/
def bondCredit (slot : Bool) (s : State) : State :=
  (s.pair.bond.filter (fun t => decide (t.tid.toNat ≤ 2) && decide (t.release ≠ 0))).foldl
    (fun s t => putBond (slot && t.tid == 0) t ⟨false, [], s.clock.hubTime⟩ s) s

/-- What the bond link's next frame may carry is in its streams. -/
def serveBond (slot : Bool) (s : State) : State := bondCredit slot (fillBond slot 64 (gatherBond s))

/-- The head of tunnel 0 that can be sent: the hub holds it while peer credit is short (R158). -/
def tid0Head (s : State) (h : HostNo) : Option (Tunnel × TxPacket) :=
  match findTunnel s h 0 with
  | none => none
  | some t => match t.queue with
    | [] => none
    | p :: _ => if peerOk t p then some (t, p) else none

/-- The tunnel that has owed a zero-length packet the longest. -/
def oldestOwed (s : State) (h : HostNo) : Option Tunnel :=
  let ts := s.tunnels.filter (fun t => t.host == h && t.owed.isSome)
  let age (t : Tunnel) : Nat := match t.owed with | some d => d.toNat | none => 0
  ts.foldl (fun b t => match b with
    | none => some t
    | some x => if age t < age x then some t else some x) none

/-- The guaranteed phase: the first class with a tunnel whose head its committed bucket and peer credit allow. -/
def guaranteed (s : State) (u : Up) : List (Fin 8) → Option (Fin 8 × Tunnel × TxPacket)
  | [] => none
  | c :: r =>
    let ok (t : Tunnel) : Option TxPacket := match t.queue with
      | [] => none
      | p :: _ => if packetCost t p ≤ t.cbHost && peerOk t p then some p else none
    match (robin s (hostOnUp s u) c s.scheds[u].toHost[c].lastTid).find? (fun t => (ok t).isSome) with
    | some t => (ok t).map (fun p => (c, t, p))
    | none => guaranteed s u r

/-- The next class after `c` with a weight, wrapping from 7 to 1. -/
def nextClass (v : Vector ClassDir 8) (c : Fin 8) : Fin 8 :=
  let order := ([1, 2, 3, 4, 5, 6, 7] : List (Fin 8))
  ((order.filter (fun k => c.val < k.val) ++ order.filter (fun k => k.val ≤ c.val)).find?
    (fun k => v[k].weight != 0)).getD c

/-- The excess phase: `n` turns of deficit round-robin; the packet chosen, the class settings and the turn after it. -/
def excess (s : State) (u : Up) : Nat → Vector ClassDir 8 → Fin 8 →
    Option (Tunnel × TxPacket) × Vector ClassDir 8 × Fin 8
  | 0, v, c => (none, v, c)
  | n + 1, v, c =>
    let ok (t : Tunnel) : Option TxPacket := match t.queue with
      | [] => none
      | p :: _ => if packetCost t p ≤ t.ebHost && peerOk t p then some p else none
    let pick := (robin s (hostOnUp s u) c v[c].lastTid).find? (fun t => (ok t).isSome)
    let advance (v : Vector ClassDir 8) :=
      let d := nextClass v c
      excess s u n (upd v d (fun x => { x with
        deficit := min (x.deficit + x.weight.toNat * quantum) (2 * x.weight.toNat * quantum) })) d
    match pick with
    | none => advance (upd v c (fun x => { x with deficit := 0 }))
    | some t =>
      match ok t with
      | none => (none, v, c)
      | some p =>
        if packetCost t p ≤ v[c].lb && packetCost t p ≤ v[c].deficit then
          (some (t, p), upd v c (fun x => { x with
            lb := x.lb - packetCost t p, deficit := x.deficit - packetCost t p, lastTid := t.tid }), c)
        else advance v

/-- `select_next` for an uplink, its choice sent into the main stream (R177). -/
def selectNext (u : Up) (s : State) : State :=
  let h := hostOnUp s u
  match tid0Head s h with
  | some (t, p) => sendPacket u t p true false s
  | none =>
    match oldestOwed s h with
    | some t => sendPacket u t ⟨false, [], s.clock.hubTime⟩ false false s
    | none =>
      match guaranteed s u [1, 2, 3, 4, 5, 6, 7] with
      | some (c, t, p) =>
        sendPacket u t p true false
          (updTunnel t.host t.tid (fun t => { t with cbHost := t.cbHost - packetCost t p })
            { s with scheds := upd s.scheds u (fun x => { x with
                toHost := upd x.toHost c (fun d => { d with lastTid := t.tid }) }) })
      | none =>
        if s.pair.replHold then s
        else match s.scheds[u].excHost with
          | none => s
          | some c =>
            let (pick, v, c') := excess s u 8 s.scheds[u].toHost c
            let s := { s with scheds := upd s.scheds u (fun x => { x with toHost := v, excHost := some c' }) }
            match pick with
            | none => s
            | some (t, p) =>
              sendPacket u t p true false
                (updTunnel t.host t.tid (fun t => { t with ebHost := t.ebHost - packetCost t p }) s)

/-! ### The refill (R170, R174, R176, R177) -/

/-- Refills the buckets of one tunnel.
A policer's refill is not reduced after a lane loss, this model's choice (log entry 148). -/
def refillTunnel (s : State) (t : Tunnel) : Tunnel :=
  { t with
    cbHost := bucketAdd t.cbHost (t.shHost.cir.toNat * redHostOf s t / 256) t.shHost.cbs
    ebHost := bucketAdd t.ebHost t.shHost.eir.toNat t.shHost.ebs
    cbHub := bucketAdd t.cbHub (t.shHub.cir.toNat * redHubOf s t / 256) t.shHub.cbs
    ebHub := bucketAdd t.ebHub t.shHub.eir.toNat t.shHub.ebs
    polBits := if t.police.enabled then bucketAdd t.polBits t.police.rate.toNat t.police.burst else 0 }

/-- Refills the ceiling of one class. -/
def refillClass (d : ClassDir) : ClassDir := { d with lb := bucketAdd d.lb d.rate.toNat d.burst }

/-- Whether the members of a shaper group agree: each burst 0 or at least M (R172). -/
def shaperAgrees (m : Nat) (x : Shaper) : Bool :=
  (x.cbs == 0 || decide (m ≤ x.cbs.toNat)) && (x.ebs == 0 || decide (m ≤ x.ebs.toNat))

/-- A bucket's content under a new setting: clipped to its new limit, 0 when it now holds (R174). -/
def clipBucket (b : Nat) (rate burst : Word) : Nat := if holds rate burst then 0 else min b (8 * burst.toNat)

/-- The commit group field of event 19 (Table 4.7). -/
def commitField (kind : Nat) (h : HostNo) (toHub : Bool) (cls : Nat) (tid : Nat) : Nat :=
  2 ^ 14 * kind + 2 ^ 12 * h.val + 2 ^ 11 * bitNat toHub + 256 * cls + tid

/-- Event 19 for a shaper, policer or class group (Table 2.15). -/
def shaperReject (h : HostNo) (field : Nat) (s : State) : State :=
  raise (.hosts (hostBit h)) 19 (2 ^ 16 * 0x10 + field) s

/-- The final response of a commit's command. -/
def commitReply (c : Commit) (status : Half) (payload : List Byte) (s : State) : State :=
  respondTo c.src c.seq c.tag c.flags c.opcode status false payload s

/-- The bytes of a class setting in force (R173). -/
def classBytes (c : Nat) (d : ClassDir) : List Byte :=
  leBytes 1 c ++ leBytes 1 d.weight.toNat ++ [0, 0] ++ leBytes 4 d.rate.toNat ++ leBytes 4 d.burst.toNat

/-- A commit at the refill: agreement and the new values, a rejection with event 19, or BUSY where the tunnel has left
(R172, R174, R175). -/
def applyCommit (c : Commit) (s : State) : State :=
  match c.set with
  | .shape h tid a b =>
    match findTunnel s h tid with
    | none => commitReply c stBusy [] s
    | some t =>
      if t.closing then commitReply c stBusy [] s
      else
        let bad (x : Option Shaper) : Bool := match x with | some y => !shaperAgrees (tunM t) y | none => false
        if bad a || bad b then
          let s := if bad a then shaperReject h (commitField 0 h false 0 tid.toNat) s else s
          let s := if bad b then shaperReject h (commitField 0 h true 0 tid.toNat) s else s
          commitReply c stGroupMismatch [] s
        else
          let s := updTunnel h tid (fun t =>
            let t := match a with
              | some x => { t with shHost := x, cbHost := clipBucket t.cbHost x.cir x.cbs,
                                   ebHost := clipBucket t.ebHost x.eir x.ebs }
              | none => t
            match b with
            | some x => { t with shHub := x, cbHub := clipBucket t.cbHub x.cir x.cbs,
                                 ebHub := clipBucket t.ebHub x.eir x.ebs }
            | none => t) s
          noteTunnel h tid (commitReply c stOk [] s)
  | .police h tid p =>
    match findTunnel s h tid with
    | none => commitReply c stBusy [] s
    | some t =>
      if t.closing then commitReply c stBusy [] s
      else if p.burst != 0 && decide (p.burst.toNat < tunM t) then
        commitReply c stGroupMismatch [] (shaperReject h (commitField 1 h true 0 tid.toNat) s)
      else
        let full := if holds p.rate p.burst then 0 else 8 * p.burst.toNat
        let s := updTunnel h tid (fun t => { t with
          police := p
          polBits := if !p.enabled then 0 else if t.police.enabled then clipBucket t.polBits p.rate p.burst
            else full }) s
        noteTunnel h tid (commitReply c stOk [] s)
  | .cls u toHub k weight rate burst =>
    if burst != 0 && decide (burst.toNat < 4160) then
      commitReply c stGroupMismatch []
        (shaperReject (hostOnUp s u) (commitField 2 (hostOnUp s u) toHub k.val 0) s)
    else
      let set (d : ClassDir) : ClassDir :=
        { d with weight := weight, rate := rate, burst := burst, lb := clipBucket d.lb rate burst }
      let s := { s with scheds := upd s.scheds u (fun x =>
        if toHub then { x with toHub := upd x.toHub k set }
        else
          let (v, e) := initExcess (upd x.toHost k set)
          { x with toHost := v, excHost := e }) }
      let d := if toHub then s.scheds[u].toHub[k] else s.scheds[u].toHost[k]
      commitReply c stOk (classBytes k.val d) s

/-- Whether two commits write one group. -/
def sameGroup (a b : CommitSet) : Bool :=
  match a, b with
  | .shape h t x y, .shape h' t' x' y' =>
    h == h' && t == t' && ((x.isSome && x'.isSome) || (y.isSome && y'.isSome))
  | .police h t _, .police h' t' _ => h == h' && t == t'
  | .cls u d k _ _ _, .cls u' d' k' _ _ _ => u == u' && d == d' && k == k'
  | _, _ => false

/-- The commits of this refill: a set whose group an earlier one has just written, or waits to write, waits for the next
refill, so every committed set is in force for at least one interval and none overtakes another (R174). -/
def runCommits : List Commit → List Commit → State → State
  | [], _, s => s
  | c :: r, done, s =>
    if done.any (fun d => sameGroup d.set c.set) then
      runCommits r (c :: done) { s with commits := s.commits ++ [c] }
    else runCommits r (c :: done) (applyCommit c s)

/-! ### TUN_QUERY (R182, R547) -/

def shaperBytes (x : Shaper) : List Byte :=
  leBytes 4 x.cir.toNat ++ leBytes 4 x.cbs.toNat ++ leBytes 4 x.eir.toNat ++ leBytes 4 x.ebs.toNat

def counterBytes (c : TunCounters) : List Byte :=
  leBytes 8 c.pktTx.toNat ++ leBytes 8 c.byteTx.toNat ++ leBytes 8 c.pktRx.toNat ++ leBytes 8 c.byteRx.toNat
    ++ leBytes 8 c.gaps.toNat ++ leBytes 8 c.violations.toNat ++ leBytes 8 c.drops.toNat
    ++ leBytes 8 c.oversize.toNat ++ leBytes 8 c.trailers.toNat

/-- The age in ref cycles of the head of a queue, saturating. -/
def ageOf (s : State) (t : Option Dword) : Nat :=
  match t with | some d => min ((s.clock.hubTime - d).toNat / 25) 0xFFFFFFFF | none => 0

/-- Bytes 0 to 175 of the TUN_QUERY report (Table 15.5); on TID 0 bytes 1 to 103 are 0. -/
def tunReport (s : State) (t : Tunnel) : List Byte :=
  let head := [BitVec.ofNat 8 (tunState s t).val]
  let body :=
    [BitVec.ofNat 8 t.cls.toNat, BitVec.ofNat 8 (bitNat t.guarded + 2 * bitNat t.pinned),
     BitVec.ofNat 8 t.channel.toNat] ++ leBytes 2 t.endpoint.toNat ++ leBytes 2 t.maxPl ++ leBytes 2 t.keepalive.toNat
    ++ leBytes 2 (redHostOf s t) ++ leBytes 2 (redHubOf s t) ++ [0, 0] ++ shaperBytes t.shHost ++ shaperBytes t.shHub
    ++ [BitVec.ofNat 8 (bitNat t.police.enabled), 0, 0, 0] ++ leBytes 4 t.police.rate.toNat
    ++ leBytes 4 t.police.burst.toNat ++ zeros 4
    ++ leBytes 4 t.cbHost ++ leBytes 4 t.ebHost ++ leBytes 4 t.cbHub ++ leBytes 4 t.ebHub ++ leBytes 4 t.polBits
    ++ leBytes 4 t.peerCredit ++ leBytes 4 t.granted ++ leBytes 4 t.freed
    ++ leBytes 4 ((t.queue.map (fun p => p.payload.length)).sum)
    ++ leBytes 4 (ageOf s (t.queue.head?.map (fun p => p.time)))
  head ++ (if t.tid == 0 then zeros 103 else body) ++ counterBytes t.counters

/-! ### Sampling (R183, R184) -/

/-- The units a tunnel holds toward the hub: received and not yet taken by its endpoint. -/
def unitsHeld (t : Tunnel) : Nat := t.msgUnits + (t.inbox.map (fun m => m.units)).sum

/-- Depth and age of one tunnel in one direction. -/
def sampleTunnel (s : State) (toHub : Bool) (t : Tunnel) : Nat × Nat :=
  if toHub then (unitsHeld t, ageOf s (match t.inbox.find? (fun m => m.units != 0) with
    | some m => some m.time
    | none => if t.inMsg && t.msgUnits != 0 then some t.msgTime else none))
  else ((t.queue.map (packetUnits t)).sum, ageOf s (t.queue.head?.map (fun p => p.time)))

/-- One record (Table 4.10). -/
def sampleRecord (s : State) (sel : Word) : List Byte :=
  let v := sel.toNat
  let ts := s.tunnels.filter (fun t => t.host.val == bitsOf v 24 2 &&
    (if v.testBit 17 then t.cls.toNat == v % 256 else t.tid.toNat == v % 256))
  let ds := ts.map (sampleTunnel s (v.testBit 16))
  leBytes 4 (s.clock.hubTime.toNat % 2 ^ 32) ++ leBytes 4 v ++ leBytes 4 (ds.map Prod.fst).sum
    ++ leBytes 4 (ds.foldl (fun a d => max a d.2) 0)

/-- The base of a sample buffer in the window. -/
def sampleBase (second : Bool) : Nat := if second then 0x6C00 else 0x6800

/-- The state of the buffer that fills. -/
def bufState (m : Sampling) (second : Bool) : Fin 3 := if second then m.buf1 else m.buf0
def setBuf (m : Sampling) (second : Bool) (x : Fin 3) : Sampling :=
  if second then { m with buf1 := x } else { m with buf0 := x }

/-- Closes the buffer that fills when it cannot hold the next refill's records, with event 18, and goes on in the other
one if it has been released (R184). -/
def closeIfFull (s : State) : State :=
  let m := s.sampling
  if bufState m m.cur = 1 && decide (64 < m.fill + m.selectors.length) then
    let m1 := setBuf m m.cur 2
    let m2 := if bufState m1 (!m.cur) = 0 then { setBuf m1 (!m.cur) 1 with cur := !m.cur, fill := 0 } else m1
    raise (.issuer m.mailbox) 18 (bitNat m.cur) { s with sampling := m2 }
  else s

/-- The sampling of one refill: one record per selector on every refill on which the interval has elapsed (R183); a
refill without a buffer is counted as skipped (R184). -/
def sampleRefill (s : State) : State :=
  let m := s.sampling
  if !m.running then s
  else if m.elapsed + 1 < m.interval.toNat then { s with sampling := { m with elapsed := m.elapsed + 1 } }
  else
    let s := { s with sampling := { m with elapsed := 0 } }
    if bufState m m.cur = 1 then
      let recs := m.selectors.flatMap (sampleRecord s)
      closeIfFull { s with
        window := memWrite s.window (sampleBase m.cur + 16 * m.fill) recs
        sampling := { s.sampling with fill := m.fill + m.selectors.length } }
    else { s with sampling := { s.sampling with skipped := satInc m.skipped } }

/-- The whole refill tick (R177): commits, reductions, buckets, paced release, the TUN_QUERY values, and sampling. -/
def refill (s : State) : State :=
  let cs := s.commits
  let s := runCommits cs [] { s with commits := [] }
  let s := ([0, 1] : List Up).foldl (fun s u =>
    if s.links[linkOfUp u].state = 6 then noteTunnels (hostOnUp s u) (setReductions u s) else s) s
  let s := { s with
    tunnels := s.tunnels.map (refillTunnel s)
    scheds := s.scheds.map (fun (c : Sched) => { c with
      toHost := c.toHost.map refillClass
      toHub := c.toHub.map refillClass
      snapMalformed := c.malformed
      snapStrays := c.strays }) }
  let s := s.tunnels.foldl (fun s (t : Tunnel) => releaseTunnel t.host t.tid s) s
  let s := { s with tunnels := s.tunnels.map (fun (t : Tunnel) => { t with snap := tunReport s t }) }
  sampleRefill s

/-! ### Admission A1 to A3 (Table 4.8) -/

/-- The guaranteed bandwidth per fabric port and direction in Mbit/s (Table 1.4). -/
def portMbit (pl : Fin 4) : Nat := if pl = 0 then 409600 else if pl = 1 then 307200 else if pl = 2 then 204800 else 102400

/-- The committed rate of a tunnel in a direction, the rate of an enabled policer counted toward the hub (R176). -/
def committed (toHub : Bool) (t : Tunnel) : Nat :=
  if toHub then t.shHub.cir.toNat + (if t.police.enabled then t.police.rate.toNat else 0) else t.shHost.cir.toNat

/-- The sum of the committed rates of a host's uplink in a direction, over the tunnels given. -/
def sumCir (ts : List Tunnel) (h : HostNo) (toHub : Bool) : Nat :=
  ((ts.filter (fun t => t.host == h && t.tid != 0)).map (committed toHub)).sum

/-- A1: within the lanes of the allotment. -/
def admitA1 (ts : List Tunnel) (h : HostNo) (toHub : Bool) (allot : Fin 3) : Bool :=
  decide (sumCir ts h toHub ≤ 45000 * (if toHub then allotToHub allot else allotToHost allot))

/-- A2: within 63/64 of a fabric port. -/
def admitA2 (ts : List Tunnel) (h : HostNo) (toHub : Bool) (pl : Fin 4) : Bool :=
  decide (64 * sumCir ts h toHub ≤ 63 * portMbit pl)

/-- A3: the receiving side's buffer, for a credit class; class 1 sends no data toward the host (Table 4.3). -/
def admitA3 (t : Tunnel) (toHub : Bool) : Bool :=
  !creditClass t.cls || (t.cls == 1 && !toHub) || decide ((if toHub then t.shHub.cir.toNat else t.shHost.cir.toNat) + 4 * tunM t
    ≤ 2 * if toHub then t.hubBuf else t.hostBuf)

/-- The hub buffers of an uplink's tunnels, TID 0 apart (R181). -/
def poolUsed (s : State) (h : HostNo) : Nat :=
  ((s.tunnels.filter (fun t => t.host == h && t.tid != 0)).map (fun t => t.hubBuf)).sum

end Sys2Proof.Machine
end

