-- ==== Sys2Proof/Machine/DisplayOps.lean ====
section
/-! DEFINITION. Operations of the display engines (05): modes and admission, regions, commit groups, tiles, composition, region check values, hold. -/
namespace Sys2Proof.Machine

/-! ### Modes (Table 5.7) -/

/-- A standard mode: active size, refresh in Hz, totals, pixel clock in kHz, and its lane-rate code at 8 and at 10 bits
per component (0: the depth is not offered). -/
structure ModeInfo where
  hact : Nat
  vact : Nat
  hz : Nat
  htot : Nat
  vtot : Nat
  khz : Nat
  rate8 : Nat
  rate10 : Nat
deriving DecidableEq, Repr

/-- The modes 0 (off) to 20. -/
def modeTable : Vector ModeInfo 21 := #v[
  ⟨0, 0, 0, 1, 1, 1, 0, 0⟩,
  ⟨640, 480, 60, 800, 525, 25175, 1, 1⟩,
  ⟨1024, 768, 60, 1344, 806, 65000, 1, 1⟩,
  ⟨1280, 720, 60, 1650, 750, 74250, 1, 1⟩,
  ⟨1280, 1024, 60, 1688, 1066, 108000, 1, 1⟩,
  ⟨1920, 1080, 50, 2640, 1125, 148500, 1, 1⟩,
  ⟨1920, 1080, 60, 2200, 1125, 148500, 1, 1⟩,
  ⟨1920, 1080, 120, 2000, 1144, 274560, 2, 2⟩,
  ⟨1920, 1200, 60, 2080, 1235, 154000, 1, 1⟩,
  ⟨2560, 1440, 60, 2640, 1481, 234590, 2, 2⟩,
  ⟨2560, 1440, 120, 2640, 1525, 483120, 3, 3⟩,
  ⟨2560, 1600, 60, 2640, 1646, 260726, 2, 2⟩,
  ⟨3440, 1440, 60, 3520, 1481, 312787, 2, 3⟩,
  ⟨3840, 2160, 30, 4400, 2250, 297000, 2, 3⟩,
  ⟨3840, 2160, 50, 5280, 2250, 594000, 3, 4⟩,
  ⟨3840, 2160, 60, 4400, 2250, 594000, 3, 4⟩,
  ⟨3840, 2160, 60, 3920, 2222, 522614, 3, 3⟩,
  ⟨3840, 2160, 120, 3920, 2287, 1075805, 5, 5⟩,
  ⟨3840, 2160, 144, 3920, 2314, 1306207, 5, 6⟩,
  ⟨7680, 4320, 30, 7760, 4381, 1019897, 4, 0⟩,
  ⟨7680, 4320, 60, 7760, 4443, 2068661, 6, 0⟩]

def modeInfo (m : Fin 21) : ModeInfo := modeTable[m]

/-- The lane-rate code a mode and depth train at (R211). -/
def modeRate (m : Fin 21) (bpc10 : Bool) : Nat := if bpc10 then (modeInfo m).rate10 else (modeInfo m).rate8

/-- S, the scan-out reservation in bytes per second (R216). -/
def modeS (m : Fin 21) : Nat := 16 * (modeInfo m).hact * (modeInfo m).hz * (modeInfo m).vtot

/-- T, the tile write allowance in bytes per second (Table 5.3). -/
def tileAllowance (pl : Fin 4) : Nat :=
  if pl = 0 ∨ pl = 1 then 16000000000 else if pl = 2 then 8000000000 else 4000000000

/-- The admissible memory front-end figure in bytes per second (Table 1.4, R33). -/
def memAdmissible (pl : Fin 4) : Nat :=
  if pl = 0 ∨ pl = 1 then 102400000000 else if pl = 2 then 76800000000 else 38400000000

/-- The mode an output's reservation is held for: while a change is in progress, the greater of the two. -/
def heldMode (x : Output) : Fin 21 :=
  match x.change with
  | some c => if modeS x.mode ≤ modeS c.mode then c.mode else x.mode
  | none => x.mode

/-- The modes for which reservations are held. -/
def modesNow (s : State) : Vector (Fin 21) 4 := s.disp.outs.map heldMode

/-- The same with one output's mode replaced. -/
def modesWith (s : State) (o : OutNo) (m : Fin 21) : Vector (Fin 21) 4 := (modesNow s).set o m

/-- D1 and D2 for a set of modes at a performance level (Table 5.9). -/
def admitD1 (ms : Vector (Fin 21) 4) (pl : Fin 4) : Bool :=
  decide ((ms.toList.map modeS).sum + tileAllowance pl ≤ memAdmissible pl)
def admitD2 (ms : Vector (Fin 21) 4) (pl : Fin 4) : Bool :=
  let ok (a b : Fin 21) : Bool := decide (64 * 8 * (modeS a + modeS b) ≤ 63 * portMbit pl * 1000000)
  ok ms[0] ms[1] && ok ms[2] ms[3]

/-- D4: the class 1 rates toward the hub of every uplink against the tile port (Table 5.9). -/
def admitD4 (ts : List Tunnel) (pl : Fin 4) : Bool :=
  decide (64 * ((ts.filter (fun t => t.cls == 1)).map (committed true)).sum ≤ 63 * portMbit pl)

/-- D3: the variant's and the sink's highest rates, and four lanes (R4, R211). -/
def admitD3 (s : State) (o : OutNo) (m : Fin 21) (bpc10 : Bool) : Bool :=
  let r := modeRate m bpc10
  let x := s.disp.outs[o]
  m == 0 || (r != 0 && (s.variant != .qt9824 || decide (r ≤ 5)) &&
    (!x.sink || (decide (r ≤ x.sinkRate.toNat) && x.sinkLanes == 4)))

/-! ### Outputs -/

/-- The output whose mode 19 or 20 consumes output o: o is 1 or 3 and its neighbour runs such a mode (R212). -/
def wideMode (x : Output) : Bool :=
  decide (19 ≤ x.mode.val) || (match x.change with | some c => decide (19 ≤ c.mode.val) | none => false)
def consumed (s : State) (o : OutNo) : Bool :=
  if o = 1 then wideMode s.disp.outs[0] else if o = 3 then wideMode s.disp.outs[2] else false

/-- The output next to o on its composition port. -/
def neighbour (o : OutNo) : OutNo := if o = 0 then 1 else if o = 1 then 0 else if o = 2 then 3 else 2

/-- Whether the variant has the output (R3). -/
def outPresent (s : State) (o : OutNo) : Bool := decide (o.val < outputs s)

/-- DISP_STATUS.STATE. -/
def outState (s : State) (o : OutNo) : Nat :=
  let x := s.disp.outs[o]
  if consumed s o then 2
  else match x.change with
    | some c => if c.phase = .awaitBlank then 1 else 3
    | none => if x.mode = 0 then 0 else 1

/-- Whether an output's timing runs, so that it has vertical blankings (R215). -/
def timing (x : Output) : Bool :=
  match x.change with
  | some c => c.phase == .awaitFrame || (c.phase == .awaitBlank && x.mode != 0)
  | none => x.mode != 0

/-- Whether a pending set applies within 2 µs: the output's mode is 0 (R204).
An output that waits for its PLL is not off, this model's choice (log entry 150). -/
def outOff (x : Output) : Bool := x.mode == 0 && x.change.isNone

/-- The line being sent, from the hub time since vertical blanking began (DISP_LINE). -/
def lineNow (s : State) (o : OutNo) : Nat :=
  let x := s.disp.outs[o]
  let i := modeInfo x.mode
  if timing x then (i.vact + (s.clock.hubTime - x.blankAt).toNat * i.khz / (i.htot * 1000000)) % i.vtot else 0

/-- Whether the frame's cut-off has passed: its last active line has started (R204), or in Mirror 200 µs or less remain
before vertical blanking (R393). -/
def afterCutOff (s : State) (o : OutNo) : Bool :=
  let x := s.disp.outs[o]
  let i := modeInfo x.mode
  let n := lineNow s o
  let unit := i.htot * 1000000
  let place := (i.vact * unit + (s.clock.hubTime - x.blankAt).toNat * i.khz) % (i.vtot * unit)
  timing x && decide (n < i.vact) &&
    (if isDay s || isNight s then decide (i.vact * unit ≤ place + 200000 * i.khz) else decide (i.vact ≤ n + 1))

/-- The fields of a layer's registers. -/
def lyrHandle (r : LayerRegs) : Half := r.src.extractLsb' 0 16
def lyrW (r : LayerRegs) : Nat := bitsOf r.size.toNat 16 14
def lyrH (r : LayerRegs) : Nat := bitsOf r.size.toNat 0 14
def lyrX (r : LayerRegs) : Nat := bitsOf r.srcXy.toNat 16 13
def lyrY (r : LayerRegs) : Nat := bitsOf r.srcXy.toNat 0 13

/-- Whether a layer's registers show pixels: width and height not 0 (R199). -/
def lyrOn (r : LayerRegs) : Bool := lyrW r != 0 && lyrH r != 0

def noLayer : LayerRegs := ⟨0, 0, 0, 0⟩
def noCheck : CheckRegs := ⟨0, 0, 0, 0, 0⟩

/-- DISP_STATUS (R236). -/
def dispStatus (s : State) (o : OutNo) : Nat :=
  let x := s.disp.outs[o]
  2 ^ 28 * x.holdCause.val + 2 ^ 27 * bitNat x.hold + 2 ^ 16 * x.mode.val + 2 ^ 15 * bitNat x.bpc10
    + 2 ^ 12 * x.rate.toNat + 2 ^ 10 * x.link.val + 2 ^ 9 * bitNat x.sinkChg + 2 ^ 8 * bitNat x.sink + outState s o

/-- The groups with a pending set, as a map. -/
def pendingGroups (x : Output) : BitVec 6 :=
  (List.finRange 6).foldl (fun m g => setBit m g.val x.sets[g].isSome) 0

/-- DISP_COMMIT_STS. -/
def commitStatus (x : Output) : Nat :=
  2 ^ 24 * x.superseded.toNat + 2 ^ 16 * x.rejected.toNat + (pendingGroups x).toNat

/-! ### Regions (R186 to R190) -/

/-- The stride and the size in 2 MiB units of a region's geometry (R187). -/
def strideOf (w : Nat) : Nat := (4 * w + 255) / 256 * 256
def unitsFor (w h : Nat) : Nat := (strideOf w * h + 2097151) / 2097152

def findRegion (s : State) (h : Half) : Option Region := s.disp.regions.find? (fun r => r.handle == h)

def updRegion (h : Half) (f : Region → Region) (s : State) : State :=
  { s with disp := { s.disp with regions := s.disp.regions.map (fun r => if r.handle == h then f r else r) } }

/-- The first byte of a region in the frame store. -/
def regionBase (r : Region) : Nat := 2097152 * r.offset

/-- The Region World Table entry that holds a region's first byte: the frame store begins at 256 MiB (R51). -/
def regionEntry (r : Region) : Nat := (256 + 2 * r.offset) / 64

/-- Whether a region holds a scan-out lease: a layer in force is bound to it with nonzero size (R207). -/
def leased (s : State) (h : Half) : Bool :=
  s.disp.outs.toList.any (fun x => x.layers.toList.any (fun l => lyrOn l.force && lyrHandle l.force == h))

/-- MiB of live regions a host owns. -/
def quotaUsed (s : State) (h : HostNo) : Nat :=
  ((s.disp.regions.filter (fun r => r.owner == h)).map (fun r => 2 * r.units)).sum

/-- The first place in the frame store, after the hold image area, with `n` free units in a row (log entry 30). -/
def findSpace (s : State) (n : Nat) : Option Nat :=
  let total := s.perf.frameMiB / 2
  let clash (a : Nat) : Bool := s.disp.regions.any (fun r => a < r.offset + r.units && r.offset < a + n)
  let starts := 1 :: s.disp.regions.map (fun r => r.offset + r.units)
  (starts.filter (fun a => a + n ≤ total && !clash a)).foldl
    (fun b a => match b with | none => some a | some x => some (min x a)) none

/-- The next handle in cyclic order that names no live region (R187): the handle and the counter after it. -/
def nextHandle (s : State) : Nat → Half → Half
  | 0, h => h
  | n + 1, h =>
    let h := if h = 0 ∨ h = 0xFFFF then 1 else h
    if (findRegion s h).isSome then nextHandle s n (h + 1) else h

/-- Frees a region, with event 31 (R208). -/
def freeRegion (h : Half) (s : State) : State :=
  match findRegion s h with
  | none => s
  | some r =>
    raise (.hosts (hostBit r.owner)) 31 (65536 + h.toNat)
      { s with disp := { s.disp with regions := s.disp.regions.filter (fun x => x.handle != h) } }

/-- A lease that has ended: a region pending release, or orphaned, is freed with events 30 and 31 (R208, R224). -/
def endLease (s : State) (r : Region) : State :=
  if (r.leaving || r.orphan) && !leased s r.handle then
    freeRegion r.handle (raise (.hosts (hostBit r.owner)) 30 r.handle.toNat s)
  else s

def endLeases (s : State) : State := s.disp.regions.foldl endLease s

/-! ### Hold (R222 to R226) -/

/-- Whether an output has an orphaned layer. -/
def hasOrphan (x : Output) : Bool := x.layers.toList.any (fun l => l.orphan)

/-- What an output in hold shows from the next vertical blanking (R223). -/
def holdShows (x : Output) : Shown :=
  if !x.hold then .layers
  else if x.policy.action = 2 then .holdScreen
  else if x.policy.action = 3 then .background
  else if x.policy.action = 1 && (x.policy.timeoutMs == 0 || x.holdExpired) then .holdScreen
  else .layers

/-- An output enters hold with a cause; the timeout of action 1 starts. The hold of an output that is off shows at
once. -/
def enterHold (cause : Fin 4) (x : Output) : Output :=
  let y := { x with hold := true, holdCause := cause, holdExpired := false,
                    holdTimer := x.policy.action == 1 && x.policy.timeoutMs != 0 }
  if outOff y then { y with shown := holdShows y } else y

/-- The map of outputs that satisfy a test. -/
def outMap (f : OutNo → Bool) : BitVec 4 := (List.finRange 4).foldl (fun m o => setBit m o.val (f o)) 0

/-- Puts outputs into hold and raises event 28 once, with the cause and the map (R222, R225). -/
def holdOutputs (cause : Fin 4) (map : BitVec 4) (s : State) : State :=
  if map = 0 then s
  else
    let s := { s with disp := { s.disp with outs := s.disp.outs.mapFinIdx (fun i x _ =>
      if map.getLsbD i then enterHold cause x else x) } }
    raise .all 28 (16 * cause.val + map.toNat) s

/-- Whether an owner of a layer of an output has not yet sent to the new Day (R405). -/
def awaitsOwner (s : State) (x : Output) : Bool :=
  x.layers.toList.any (fun l => match hostOfCode l.owner.val with
    | some h => s.pair.silent.getLsbD h.val
    | none => false)

/-- Whether an output leaves hold: no orphaned layer is left, no owner-requested hold is in force, and after a handover
every layer owner has sent (R225, R405). -/
def mayLeaveHold (s : State) (o : OutNo) : Bool :=
  let x := s.disp.outs[o]
  x.hold && !hasOrphan x && !x.ownerHold && !(x.holdCause == 3 && awaitsOwner s x)

/-- An output leaves hold, with event 29 (R225). -/
def leaveHold (o : OutNo) (s : State) : State :=
  if mayLeaveHold s o then
    raise .all 29 (2 ^ o.val)
      (updOut o (fun x => { x with hold := false, holdCause := 0, holdTimer := false, holdExpired := false,
                                   shown := if outOff x then .layers else x.shown }) s)
  else s

/-! ### Commit groups (R202 to R205) -/

/-- The hosts that own a layer of an output or hold a grant of one of its check-value regions. -/
def outputHosts (s : State) (o : OutNo) : BitVec 4 :=
  let x := s.disp.outs[o]
  let a := x.layers.toList.foldl (fun m l => match hostOfCode l.owner.val with
    | some h => setBit m h.val true
    | none => m) (0 : BitVec 4)
  x.checks.toList.foldl (fun m r => m ||| r.grants) a

/-- Whether a layer's registers agree for an owner (R205). An owner that is no host owns no region.
An orphaned region disagrees even for its lost owner, this model's choice (log entry 151). -/
def layerAgrees (s : State) (owner : Fin 8) (r : LayerRegs) : Bool :=
  let reserved := bitsOf r.src.toNat 26 6 == 0 && bitsOf r.srcXy.toNat 29 3 == 0 && bitsOf r.srcXy.toNat 13 3 == 0
    && bitsOf r.size.toNat 30 2 == 0 && bitsOf r.size.toNat 14 2 == 0 && bitsOf r.dstXy.toNat 29 3 == 0
    && bitsOf r.dstXy.toNat 13 3 == 0
  reserved && (!lyrOn r ||
    (match findRegion s (lyrHandle r) with
      | some g => !g.leaving && !g.orphan && hostOfCode owner.val == some g.owner
          && decide (lyrX r + lyrW r ≤ g.width) && decide (lyrY r + lyrH r ≤ g.height)
      | none => false))

/-- The fields of a check-value region. -/
def ckEnable (r : CheckRegs) : Bool := r.ctrl.getLsbD 31
def ckPath (r : CheckRegs) : Bool := r.ctrl.getLsbD 30
def ckChannel (r : CheckRegs) : Fin 16 := ⟨bitsOf r.ctrl.toNat 16 4, Nat.mod_lt _ (by decide)⟩
def ckX (r : CheckRegs) : Nat := bitsOf r.xy.toNat 16 13
def ckY (r : CheckRegs) : Nat := bitsOf r.xy.toNat 0 13
def ckW (r : CheckRegs) : Nat := bitsOf r.size.toNat 16 14
def ckH (r : CheckRegs) : Nat := bitsOf r.size.toNat 0 14

/-- Whether a check-value region's registers agree (R205). -/
def checkAgrees (s : State) (o : OutNo) (r : CheckRegs) : Bool :=
  let i := modeInfo s.disp.outs[o].mode
  let reserved := bitsOf r.ctrl.toNat 20 10 == 0 && bitsOf r.ctrl.toNat 0 16 == 0 && bitsOf r.xy.toNat 29 3 == 0
    && bitsOf r.xy.toNat 13 3 == 0 && bitsOf r.size.toNat 30 2 == 0 && bitsOf r.size.toNat 14 2 == 0
  reserved && (!ckEnable r ||
    (s.flt.channels[ckChannel r].width != 0 && decide (ckX r + ckW r ≤ i.hact) && decide (ckY r + ckH r ≤ i.vact)))

/-- The layer of a group 1 to 4. -/
def groupLayer (g : Fin 6) : Fin 4 := ⟨(g.val - 1) % 4, Nat.mod_lt _ (by decide)⟩

/-- What the command of a group's pending set waits for. No command commits group 0. -/
def groupKind (o : OutNo) (g : Fin 6) : PendKind := if g = 5 then .region o else .layer o (groupLayer g)

/-- The final response of the command whose set of a group has been applied, rejected or replaced (R203, R204, R205). -/
def finishGroup (o : OutNo) (g : Fin 6) (st : Half) (s : State) : State :=
  if g = 0 then s else finish (groupKind o g) st [] s

/-- Whether the members of a pending set agree (R205). -/
def setAgrees (s : State) (o : OutNo) (g : Fin 6) (p : PendSet) : Bool :=
  if g = 0 then bitsOf p.bg.toNat 30 2 == 0
  else if g = 5 then p.checks.all (checkAgrees s o)
  else p.release || layerAgrees s (p.claim.getD s.disp.outs[o].layers[groupLayer g].owner) p.layer

/-- The argument of event 19 for a display group (Table 5.5). -/
def displayReject (o : OutNo) (g : Fin 6) : Nat := if g = 5 then 2 ^ 16 * 0x20 + o.val else 2 ^ 16 * o.val + g.val

/-- The group's new values in force (R204). A claim gives the layer its owner; operation 2 of DISP_LAYER_BIND disables the
layer and frees it; applying group 5 restarts the mismatch counts. -/
def installSet (g : Fin 6) (p : PendSet) (x : Output) : Output :=
  if g = 0 then { x with bg := p.bg }
  else if g = 5 then
    { x with checks := x.checks.mapFinIdx (fun i r _ => { r with force := p.checks.getD i noCheck, count := 0 }) }
  else { x with layers := upd x.layers (groupLayer g) (fun l =>
    if p.release then { l with force := noLayer, owner := 7, orphan := false }
    else match p.claim with
      | some w => { l with force := p.layer, owner := w, orphan := false }
      | none => { l with force := p.layer }) }

/-- The words of a pending set, as Day sends them to Night (R393); a layer's last word is its new owner, 8 for none, or 9
where the layer is freed. -/
def setWords (g : Fin 6) (p : PendSet) : List Word :=
  if g = 0 then [p.bg]
  else if g = 5 then p.checks.flatMap (fun r => [r.ctrl, r.xy, r.size, r.expLo, r.expHi])
  else [p.layer.src, p.layer.srcXy, p.layer.size, p.layer.dstXy,
        BitVec.ofNat 32 (if p.release then 9 else match p.claim with | some w => w.val | none => 8)]

/-- Checks and applies the pending set of one group at its safe point (R204, R205); Night applies the sets Day sends
(R393). -/
def applyGroup (o : OutNo) (s : State) (g : Fin 6) : State :=
  match s.disp.outs[o].sets[g] with
  | none => s
  | some p =>
    if p.late || isNight s then s
    else
      let s := updOut o (fun x => { x with sets := x.sets.set g none }) s
      if setAgrees s o g p then
        let s := updOut o (fun x => { installSet g p x with commitFrame := x.frame }) s
        let s := if isDay s then emit (.mirrorChange (.displaySet o g (setWords g p) s.disp.outs[o].frame)) s else s
        finishGroup o g stOk s
      else
        let s := updOut o (fun x => { x with rejected := setBit x.rejected g.val true }) s
        finishGroup o g stGroupMismatch (raise (.hosts (outputHosts s o)) 19 (displayReject o g) s)

/-- The check-value registers in groups of five words. -/
def checksOf : List Word → List CheckRegs
  | a :: b :: c :: d :: e :: r => ⟨a, b, c, d, e⟩ :: checksOf r
  | _ => []

/-- The set that words of `setWords` give. -/
def setOfWords (g : Fin 6) (ws : List Word) : PendSet :=
  let w (i : Nat) : Word := ws.getD i 0
  let layer := decide (1 ≤ g.val) && decide (g.val ≤ 4)
  { bg := w 0, layer := ⟨w 0, w 1, w 2, w 3⟩, checks := if g = 5 then checksOf ws else []
    claim := if layer && decide ((w 4).toNat < 8) then some ⟨(w 4).toNat % 8, Nat.mod_lt _ (by decide)⟩ else none
    release := layer && w 4 == 9, late := false }

/-- Night applies a set that Day applied at a frame count (R393): its own pending set of the group is done with it. -/
def installMirror (o : OutNo) (s : State) (m : Fin 6 × List Word × Word) : State :=
  finishGroup o m.1 stOk (updOut o (fun x =>
    { installSet m.1 (setOfWords m.1 m.2.1) { x with sets := x.sets.set m.1 none } with commitFrame := m.2.2 }) s)

/-- Whether Night's frame count has reached that of a set. -/
def mirrorDue (x : Output) (m : Fin 6 × List Word × Word) : Bool := decide ((x.frame - m.2.2).toNat < 2 ^ 31)

/-- The sets of Day whose frame Night has reached are put into force. -/
def applyMirror (o : OutNo) (s : State) : State :=
  let x := s.disp.outs[o]
  (x.mirror.filter (mirrorDue x)).foldl (installMirror o)
    (updOut o (fun x => { x with mirror := x.mirror.filter (fun m => !mirrorDue x m) }) s)

/-- A set that Day has applied reaches Night (R393). -/
def applyMirrorSet (o : OutNo) (g : Fin 6) (ws : List Word) (frame : Word) (s : State) : State :=
  applyMirror o (updOut o (fun x => { x with mirror := x.mirror ++ [(g, ws, frame)] }) s)

/-- The safe point of an output: every group whose set existed at the cut-off; a later set waits for the next (R204).
Leases that end free their regions. -/
def safePoint (o : OutNo) (s : State) : State :=
  let s := (List.finRange 6).foldl (applyGroup o) s
  endLeases (updOut o (fun x => { x with sets := x.sets.map (fun p => p.map (fun q => { q with late := false })) }) s)

/-- A snapshot of a group's shadows (R203). -/
def snapshot (x : Output) (g : Fin 6) (claim : Option (Fin 8)) (release late : Bool) : PendSet :=
  { bg := x.bgShadow, layer := x.layers[groupLayer g].shadow, checks := x.checks.toList.map (fun r => r.shadow),
    claim := claim, release := release, late := late }

/-- A commit request: the snapshot becomes the pending set; a set it replaces never takes effect, sets SUPERSEDED, and
its command completes with BUSY (R203). -/
def requestCommit (o : OutNo) (g : Fin 6) (claim : Option (Fin 8)) (release : Bool) (s : State) : State :=
  let old := s.disp.outs[o].sets[g].isSome
  let late := afterCutOff s o
  let s := if old then finishGroup o g stBusy
    (updOut o (fun x => { x with superseded := setBit x.superseded g.val true }) s) else s
  updOut o (fun x => { x with sets := x.sets.set g (some (snapshot x g claim release late)) }) s

/-- On an output that is off, pending sets apply within 2 µs of their request (R204). -/
def settleOff (o : OutNo) (s : State) : State := if outOff s.disp.outs[o] then leaveHold o (safePoint o s) else s

/-! ### Tiles (R191 to R197) -/

/-- The pixels a run-length string spells: `n` pixels, each 4 bytes, and none if it overruns or falls short (R193). -/
def decodeRle : Nat → Nat → List Byte → Option (List (List Byte))
  | 0, _, _ => none
  | _ + 1, 0, d => if d.isEmpty then some [] else none
  | _ + 1, _ + 1, [] => none
  | fuel + 1, n + 1, b :: d =>
    let run := b.toNat % 128 + 1
    if n + 1 < run then none
    else if b.toNat < 128 then
      if d.length < 4 * run then none
      else (decodeRle fuel (n + 1 - run) (d.drop (4 * run))).map
        ((List.range run).map (fun i => (d.drop (4 * i)).take 4) ++ ·)
    else if d.length < 4 then none
    else (decodeRle fuel (n + 1 - run) (d.drop 4)).map (List.replicate run (d.take 4) ++ ·)

/-- The address of a pixel in a surface. -/
def pixelAt (base stride x y : Nat) : Nat := base + stride * y + 4 * x

/-- Writes pixels in row-major order over a rectangle `w` wide whose corner is (x, y). -/
def writePixels (m : Memory) (base stride x y w : Nat) (ps : List (List Byte)) : Memory :=
  (ps.zipIdx).foldl (fun m p => memWrite m (pixelAt base stride (x + p.2 % w) (y + p.2 / w)) (padTo 4 p.1)) m

/-- A poisoned word stays poisoned until it is next written (R481): the words that `f` names are written. -/
def clearPoison (f : Nat → Bool) (s : State) : State :=
  if s.flt.poison.isEmpty then s else updFlt (fun x => { x with poison := x.poison.filter (fun a => !f a) }) s

/-- Puts the frame store's bytes after a tile in place. While a frame is under way, the bytes before it are kept for the
lines already sent (R197). -/
def landTile (m : Memory) (s : State) : State :=
  let l : List Landing := if s.disp.outs.toList.any timing then [⟨s.clock.hubTime, s.disp.mem⟩] else []
  { s with disp := { s.disp with mem := m, landed := s.disp.landed ++ l } }

/-- Landings before the latest start of every running output's vertical blanking concern no frame any more. -/
def forgetLandings (s : State) : State :=
  { s with disp := { s.disp with landed := s.disp.landed.filter (fun l =>
    s.disp.outs.toList.any (fun x => timing x && decide (x.blankAt ≤ l.at_))) } }

/-- Whether a landing came after an output had sent line `y` of its frame: the tile appears from the line at which it
lands (R197). -/
def landedAfter (x : Output) (y : Nat) (l : Landing) : Bool :=
  let i := modeInfo x.mode
  decide (x.blankAt ≤ l.at_) &&
    decide (i.vtot - i.vact + y < (l.at_ - x.blankAt).toNat * i.khz / (i.htot * 1000000))

/-- The state with the frame store as line `y` of an output's frame was composed from it (R197). -/
def asScanned (s : State) (o : OutNo) (y : Nat) : State :=
  match s.disp.landed.find? (landedAfter s.disp.outs[o] y) with
  | some l => { s with disp := { s.disp with mem := l.before } }
  | none => s

/-- The words that a rectangle of pixels writes. -/
def pixelWords (base stride x y w h : Nat) (a : Nat) : Bool :=
  (List.range (w * h)).any (fun i => pixelAt base stride (x + i % w) (y + i / w) / 8 == a)

/-- Whether a word of the 64-byte block that holds a byte of the frame store is poisoned. -/
def poisonedAt (s : State) (a : Nat) : Bool := s.flt.poison.any (fun w => w / 8 == a / 64)

/-- Reads the pixels of a rectangle in row-major order. -/
def readPixels (m : Memory) (base stride x y w h : Nat) : List (List Byte) :=
  (List.range (w * h)).map (fun i => memRead m (pixelAt base stride (x + i % w) (y + i / w)) 4)

/-- The header of a tile message (Table 5.1). -/
def tileType (b : List Byte) : Nat := byteAt b 0
def tileCodec (b : List Byte) : Nat := byteAt b 1
def tileHandle (b : List Byte) : Half := BitVec.ofNat 16 (fieldAt b 2 2)
def tileCol (b : List Byte) : Nat := fieldAt b 4 2
def tileRow (b : List Byte) : Nat := fieldAt b 6 2
def tileLen (b : List Byte) : Nat := fieldAt b 8 4

/-- The pixels of a TILE message over a w × h tile without COPY: none when it breaks R193 or R194. -/
def tilePixels (b : List Byte) (w h : Nat) : Option (List (List Byte)) :=
  let d := b.drop 16
  if d.length != tileLen b then none
  else if tileCodec b = 0 then
    if d.length = 4 * w * h then some ((List.range (w * h)).map (fun i => (d.drop (4 * i)).take 4)) else none
  else if tileCodec b = 1 then if d.length = 4 then some (List.replicate (w * h) d) else none
  else if tileCodec b = 2 then decodeRle (d.length + 1) (w * h) d
  else none

def countTileBad (h : HostNo) (s : State) : State := { s with disp := { s.disp with tileBad := upd s.disp.tileBad h satInc } }
def countTileDropped (h : HostNo) (s : State) : State :=
  { s with disp := { s.disp with tileDropped := upd s.disp.tileDropped h satInc } }

/-- A FLIP message of a host counts once as refused on the output it names (R235). -/
def countFlipRefused (h : HostNo) (o : OutNo) (s : State) : State :=
  updOut o (fun x => { x with flipRefused := upd x.flipRefused h satInc }) s

/-- The source pixels of a COPY tile (R193): none when the source breaks its conditions; `some none` when it is pending
release (R209). -/
def copyPixels (s : State) (b : List Byte) (g : Region) (w h : Nat) : Option (Option (List (List Byte))) :=
  let d := b.drop 16
  if d.length != 8 || tileLen b != 8 || fieldAt d 2 2 != 0 then none
  else match findRegion s (BitVec.ofNat 16 (fieldAt d 0 2)) with
    | none => none
    | some src =>
      let x := fieldAt d 4 2
      let y := fieldAt d 6 2
      if src.owner != g.owner || src.orphan || src.format != g.format || decide (src.width < x + w)
        || decide (src.height < y + h) then none
      else if src.leaving then some none
      else some (some (readPixels s.disp.mem (regionBase src) (strideOf src.width) x y w h))

/-- A TILE message of a host's class 1 tunnel (R194, R195, R197, R209). -/
def runTile (h : HostNo) (b : List Byte) (s : State) : State :=
  if b.length < 16 || !zeroAt b 12 4 || decide (3 < tileCodec b) then countTileBad h s
  else match findRegion s (tileHandle b) with
    | none => countTileBad h s
    | some g =>
      let x := 64 * tileCol b
      let y := 64 * tileRow b
      if g.owner != h || g.orphan then
        raise (.denied (hostRequester h)) 6 (violationDram (hostRequester h) true (regionEntry g)) (countTileDropped h s)
      else if g.leaving then countTileDropped h s
      else if g.width ≤ x || g.height ≤ y then countTileBad h s
      else
        let w := min 64 (g.width - x)
        let ht := min 64 (g.height - y)
        let put (ps : List (List Byte)) : State :=
          clearPoison (pixelWords (regionBase g) (strideOf g.width) x y w ht)
            (landTile (writePixels s.disp.mem (regionBase g) (strideOf g.width) x y w ps) s)
        if tileCodec b = 3 then
          match copyPixels s b g w ht with
          | none => countTileBad h s
          | some none => countTileDropped h s
          | some (some ps) => put ps
        else match tilePixels b w ht with
          | none => countTileBad h s
          | some ps => put ps

/-- The layers a FLIP message names. -/
def flipLayers (b : List Byte) : List (Fin 4) := (List.finRange 4).filter (fun k => (byteAt b 1).testBit k.val)

/-- Whether a FLIP message is well formed (R192, R194). DESIGN CHOICE: an output field of 4 or more, of which the spec says
nothing, makes the message malformed (log entry 108). -/
def flipOk (b : List Byte) : Bool :=
  decide (16 ≤ b.length) && decide (byteAt b 1 < 16) && decide (fieldAt b 2 2 < 4) && zeroAt b 4 12
    && b.length == 16 + 16 * (flipLayers b).length

/-- The layer registers at byte i of a payload. -/
def layerRegsAt (b : List Byte) (i : Nat) : LayerRegs :=
  ⟨BitVec.ofNat 32 (fieldAt b i 4), BitVec.ofNat 32 (fieldAt b (i + 4) 4), BitVec.ofNat 32 (fieldAt b (i + 8) 4),
   BitVec.ofNat 32 (fieldAt b (i + 12) 4)⟩

/-- The bits of each layer register that are stored: reserved bits read 0 in the register and disagree in a set, so a set
bit is kept in the shadow until the commit (R205). -/
def setShadow (o : OutNo) (k : Fin 4) (r : LayerRegs) (s : State) : State :=
  updOut o (fun x => { x with layers := upd x.layers k (fun l => { l with shadow := r }) }) s

/-- The group of a layer. -/
def layerGroup (k : Fin 4) : Fin 6 := ⟨k.val + 1, by omega⟩

/-- The requester code of a host. -/
def hostCode (h : HostNo) : Fin 8 := requesterCode (hostRequester h)

/-- Whether a layer belongs to a host, so that its FLIP may set it (R206). -/
def flipMay (s : State) (h : HostNo) (o : OutNo) (k : Fin 4) : Bool :=
  let l := s.disp.outs[o].layers[k]
  l.owner == hostCode h && !l.orphan

/-- One layer of a FLIP: its shadows and a commit request, or event 6 where the host does not own the layer (R206). -/
def flipLayer (h : HostNo) (o : OutNo) (s : State) (kr : Fin 4 × LayerRegs) : State :=
  if flipMay s h o kr.1 then requestCommit o (layerGroup kr.1) none false (setShadow o kr.1 kr.2 s)
  else
    raise (.denied (hostRequester h)) 6
      (violationWindow (hostRequester h) true (0x4000 + 0x400 * o.val + 0x40 + 0x20 * kr.1.val)) s

/-- A FLIP message (R206); one that is refused on any of its layers counts once (R235). DESIGN CHOICE: a FLIP that names an
output the variant lacks, or a consumed one, has no effect and is not counted (log entry 109). -/
def runFlip (h : HostNo) (b : List Byte) (s : State) : State :=
  if !flipOk b then countTileBad h s
  else
    let o : OutNo := ⟨fieldAt b 2 2 % 4, Nat.mod_lt _ (by decide)⟩
    if !outPresent s o || consumed s o then s
    else
      let ks := flipLayers b
      let rs := ks.zipIdx.map (fun p => (p.1, layerRegsAt b (16 + 16 * p.2)))
      let s := if ks.all (flipMay s h o) then s else countFlipRefused h o s
      settleOff o (rs.foldl (flipLayer h o) s)

/-! ### Composition (R198 to R201) -/

/-- A pixel's alpha (0 to 255) and its three 10-bit components, by format (Table 5.4, R200). An X format has alpha
255. -/
def pixelParts (f : Fin 4) (p : Nat) : Nat × Nat × Nat × Nat :=
  let wide (v : Nat) : Nat := v * 4 + v / 64
  if f.val < 2 then
    (if f = 1 then bitsOf p 24 8 else 255, wide (bitsOf p 16 8), wide (bitsOf p 8 8), wide (bitsOf p 0 8))
  else (if f = 3 then 85 * bitsOf p 30 2 else 255, bitsOf p 20 10, bitsOf p 10 10, bitsOf p 0 10)

/-- The effective alpha (R200). -/
def effectiveAlpha (mode g p : Nat) : Nat :=
  if mode = 0 then 255 else if mode = 1 then p else if mode = 2 then (p * g + 127) / 255 else g

/-- One component over what is beneath it (R200). -/
def blend (e v d : Nat) : Nat := (v * e + d * (255 - e) + 127) / 255

/-- A background word's components. -/
def bgParts (w : Word) : Nat × Nat × Nat := (bitsOf w.toNat 20 10, bitsOf w.toNat 10 10, bitsOf w.toNat 0 10)

/-- One layer over the colour beneath it at an output pixel; the pixels of a poisoned block take the background colour
(R479). -/
def overLayer (s : State) (bg : Word) (x y : Nat) (c : Nat × Nat × Nat) (l : Layer) : Nat × Nat × Nat :=
  let r := l.force
  let dx := bitsOf r.dstXy.toNat 16 13
  let dy := bitsOf r.dstXy.toNat 0 13
  if lyrOn r && decide (dx ≤ x) && decide (x < dx + lyrW r) && decide (dy ≤ y) && decide (y < dy + lyrH r) then
    match findRegion s (lyrHandle r) with
    | none => c
    | some g =>
      let a := pixelAt (regionBase g) (strideOf g.width) (lyrX r + (x - dx)) (lyrY r + (y - dy))
      if poisonedAt s a then bgParts bg
      else
      let (p, cr, cg, cb) := pixelParts g.format (leNat (memRead s.disp.mem a 4))
      let e := effectiveAlpha (bitsOf r.src.toNat 24 2) (bitsOf r.src.toNat 16 8) p
      (blend e cr c.1, blend e cg c.2.1, blend e cb c.2.2)
  else c

/-- Whether the entry that the hold image area lies in, the first of the frame store, is one: a frame store of size 0 leaves it
to another purpose, whose rule refuses the display's accesses (R501, Table 14.4). -/
def holdAdmits (s : State) : Bool := s.worlds.region[(4 : Fin 128)].purpose == 1

/-- A tile of the hold image reaches the hold image area; refused there, it is dropped, with event 6 (R21, R502). -/
def landHold (r : Requester) (b : List Byte) (m : Memory) (s : State) : State :=
  if holdAdmits s then
    landTile m (clearPoison (pixelWords 0 4096 (64 * tileCol b) (64 * tileRow b) 64 64) s)
  else raise (.denied r) 6 (violationDram r true 4) s

/-- Scan-out's reads of a hold image that its entry refuses return 0 and raise event 6, once a frame (R502; log entry 141). -/
def noteHoldReads (o : OutNo) (s : State) : State :=
  let x := s.disp.outs[o]
  if x.shown == .holdScreen && x.place.isSome && !holdAdmits s then
    raise (.denied .engine) 6 (violationDram .engine false 4) s
  else s

/-- The hold screen at a pixel: the background colour of the output with the hold image placed on it, 1,024 pixels to a
line in the hold image area (R223, R226). DEDUCED: the colour that a placement carries is the background of the hold screen
from that placement on; before any, it is DISP_BG in force (R234, log entry 110). -/
def holdPixel (s : State) (bg : Word) (place : Option Placement) (x y : Nat) : Nat × Nat × Nat :=
  match place with
  | none => bgParts bg
  | some pl =>
  let c := bgParts pl.bg
  if pl.x ≤ x && decide (x < pl.x + pl.width) && decide (pl.y ≤ y) && decide (y < pl.y + pl.height) then
    if poisonedAt s (pixelAt 0 4096 (x - pl.x) (y - pl.y)) then c
    else
    let w := if holdAdmits s then leNat (memRead s.disp.mem (pixelAt 0 4096 (x - pl.x) (y - pl.y)) 4) else 0
    let (p, r, g, b) := pixelParts 1 w
    (blend p r c.1, blend p g c.2.1, blend p b c.2.2)
  else c

/-- The composition port of an output (Table 1.3). -/
def composePort (o : OutNo) : Nat := if o.val < 2 then 4 else 5

/-- The composed pixel of an output, 10 bits a component (R199, R200, R223). While the output's composition port is
isolated the background colour is sent (Table 13.4). -/
def composePixel (s : State) (o : OutNo) (x y : Nat) : Nat × Nat × Nat :=
  let out := s.disp.outs[o]
  if s.flt.isolated.getLsbD (composePort o) then bgParts out.bg
  else match out.shown with
    | .background => bgParts out.bg
    | .holdScreen => holdPixel s out.bg out.place x y
    | .layers => out.layers.toList.foldl (overLayer s out.bg x y) (bgParts out.bg)

/-- The word a pixel enters a check value as, at the output's depth (R201, R219). -/
def pixelWord (bpc10 : Bool) (c : Nat × Nat × Nat) : Nat :=
  let eight (v : Nat) : Nat := min 255 ((v + 2) / 4)
  if bpc10 then 2 ^ 20 * c.1 + 2 ^ 10 * c.2.1 + c.2.2 else 65536 * eight c.1 + 256 * eight c.2.1 + eight c.2.2

/-- The bytes a rectangle of an output feeds to a check value, in row-major order; each line is composed from the frame
store as it stood when the line was sent (R197).
A region that a mode change leaves partly outside is composed there too, this model's choice (log entry 152). -/
def rectBytes (s : State) (o : OutNo) (x y w h : Nat) : List Byte :=
  (List.range h).flatMap (fun j =>
    let t := asScanned s o (y + j)
    (List.range w).flatMap (fun i => leBytes 4 (pixelWord s.disp.outs[o].bpc10 (composePixel t o (x + i) (y + j)))))

/-- The check value of a region's pixels: by its channel when configured, else by the CRC-32 of R116 (R219, R221). -/
def regionValue (s : State) (o : OutNo) (r : CheckRegs) : Nat :=
  let bytes := rectBytes s o (ckX r) (ckY r) (ckW r) (ckH r)
  let c := s.flt.channels[ckChannel r]
  if c.width = 0 then crc32 bytes else checkValue c bytes

/-- The comparisons a frame makes of a region, true for path mode: an enabled region's own, and in Midnight the path
comparison of every defined region beside it (R220, R221). -/
def frameComparisons (s : State) (r : CheckRegs) : List Bool :=
  (if ckEnable r then [ckPath r] else []) ++
    (if s.perf.profile == .midnight && ckW r != 0 && ckH r != 0 && !(ckEnable r && ckPath r) then [true] else [])

/-- Whether a region's comparison mismatches: against the expected value in the channel's width, or, in path mode, as the
second computation says (R220). -/
def regionDiffers (s : State) (r : CheckRegs) (value : Nat) (pathDiffers path : Bool) : Bool :=
  if path then pathDiffers
  else
    let w := s.flt.channels[ckChannel r].width.toNat
    value != (r.expLo.toNat + 2 ^ 32 * r.expHi.toNat) % 2 ^ w

/-! ### The loss of a host (R222) -/

/-- What a host's loss does to the display before any event: pending sets of its layers discarded, its unleased regions
freed, its leased ones and its layers orphaned. The answer is the state, the handles freed in ascending order, and the
outputs that enter hold. -/
def displayLose (h : HostNo) (s : State) : State × List Half × BitVec 4 :=
  let code := hostCode h
  let drop (o : OutNo) (s : State) (g : Fin 6) : State :=
    if decide (1 ≤ g.val) && decide (g.val ≤ 4) && s.disp.outs[o].sets[g].isSome
      && (s.disp.outs[o].layers[groupLayer g].owner == code
        || (match s.disp.outs[o].sets[g] with | some p => p.claim == some code | none => false)) then
      finishGroup o g stBusy (updOut o (fun x => { x with sets := x.sets.set g none }) s)
    else s
  let s := (List.finRange 4).foldl (fun s o => (List.finRange 6).foldl (drop o) s) s
  let mine (r : Region) : Bool := r.owner == h && !r.orphan
  let gone := (s.disp.regions.filter (fun r => mine r && !leased s r.handle)).map (fun r => r.handle)
  let hit := outMap (fun o => s.disp.outs[o].layers.toList.any (fun l => l.owner == code && !l.orphan))
  let regions := (s.disp.regions.filter (fun r => !gone.contains r.handle)).map
    (fun r => if mine r then { r with orphan := true } else r)
  let outs := s.disp.outs.map (fun x => { x with
    layers := x.layers.map (fun l => if l.owner == code then { l with orphan := true } else l) })
  ({ s with disp := { s.disp with regions := regions, outs := outs } },
   List.mergeSort gone (fun a b => decide (a.toNat ≤ b.toNat)), hit)

/-! ### The transmitters of a pair (R394, R396, R404) -/

/-- Whether an output's DisplayPort transmitters carry a symbol stream: trained, not on Night, and neither in the gap of a
handover nor in the safe state. -/
def drives (s : State) (o : OutNo) : Bool :=
  s.disp.outs[o].link == 2 && !isNight s && !s.pair.gap.getLsbD o.val && s.flt.safe.isNone

/-- What an output's transmitters carry, with the rate and drive settings in force. -/
def showLink (s : State) (o : OutNo) : State :=
  emit (.displayLink o s.disp.outs[o].rate s.disp.outs[o].drive (drives s o)) s

/-- Day tells Night the timing of an output over bond TID 2 (R394). -/
def sendTiming (s : State) (o : OutNo) : State :=
  let x := s.disp.outs[o]
  if isDay s && timing x then
    emit (.mirrorChange (.timing o ⟨x.frame, s.clock.hubTime - x.blankAt, x.link, x.rate, x.drive⟩)) s
  else s

/-- Night locks an output's timing to Day's: the frame count, the line, and the rate and drive settings Day trained; its
transmitters stay in electrical idle (R394). -/
def lockTiming (o : OutNo) (t : OutTiming) (s : State) : State :=
  if !timing s.disp.outs[o] then s
  else showLink (applyMirror o (updOut o (fun x => { x with
    frame := t.frame, blankAt := s.clock.hubTime - t.age, link := t.link, rate := t.rate, drive := t.drive }) s)) o

end Sys2Proof.Machine
end

