-- ==== Sys2Proof/Machine/PcieOps.lean ====
section
/-! DEFINITION. Operations of the PCIe storage bridge (06): TLPs, the switch's configuration registers, routing, tracking and overflow, the error logs, prefetch, the lock, and the ports. -/
namespace Sys2Proof.Machine

/-! ### Ports -/

def updPort (p : PciePort) (f : PciePortState → PciePortState) (s : State) : State :=
  { s with pcie := { s.pcie with ports := upd s.pcie.ports p f } }

/-- Whether a downstream port exists: PCIE1 not on the QT9824, nor under an x8 split (R241, R245). -/
def pciePresent (s : State) (p : PciePort) : Bool := p == 0 || (s.variant != .qt9824 && !s.pcie.split)

/-- The hosts a port belongs to, for the scope of its events. -/
def portHosts (s : State) (p : PciePort) : BitVec 4 :=
  match s.pcie.ports[p].assigned with | some h => hostBit h | none => 0

/-- The storage tunnel of a host that is not Closed (R238). -/
def storageTunnel (s : State) (h : HostNo) : Option Tunnel := s.tunnels.find? (fun t => t.host == h && t.cls == 3)

/-- Whether a host has an Open storage tunnel (R250). -/
def storageOpen (s : State) (h : HostNo) : Bool :=
  match storageTunnel s h with | some t => !t.closing && !t.standby | none => false

/-! ### TLP fields, in the byte order of a PCIe link (R237) -/

/-- The number whose most significant byte comes first. -/
def beNat (p : List Byte) : Nat := p.foldl (fun a b => 256 * a + b.toNat) 0
def beField (p : List Byte) (i n : Nat) : Nat := beNat ((p.drop i).take n)
def beBytes (n v : Nat) : List Byte := (leBytes n v).reverse

/-- A TLP without its prefix (at most one is passed through, Table 6.3). -/
def tlpCore (t : List Byte) : List Byte := if byteAt t 0 / 32 = 4 then t.drop 4 else t

/-- A change of the first byte of a TLP's header, behind a prefix, which passes through unchanged (R246). -/
def onFirst (f : Byte → Byte) (t : List Byte) : List Byte :=
  (if byteAt t 0 / 32 = 4 then t.take 4 else []) ++ (match tlpCore t with | b :: r => f b :: r | [] => [])

def tlpFmt (t : List Byte) : Nat := byteAt (tlpCore t) 0 / 32
def tlpType (t : List Byte) : Nat := byteAt (tlpCore t) 0 % 32
def tlpHasData (t : List Byte) : Bool := (tlpFmt t).testBit 1
def tlpHdrLen (t : List Byte) : Nat := if (tlpFmt t).testBit 0 then 16 else 12
def tlpLenDw (t : List Byte) : Nat := let n := beField (tlpCore t) 2 2 % 1024; if n = 0 then 1024 else n
def tlpDigest (t : List Byte) : Bool := (byteAt (tlpCore t) 2).testBit 7
def tlpData (t : List Byte) : List Byte := ((tlpCore t).drop (tlpHdrLen t)).take (4 * tlpLenDw t)
def tlpAddr (t : List Byte) : Nat :=
  if (tlpFmt t).testBit 0 then beField (tlpCore t) 8 8 / 4 * 4 else beField (tlpCore t) 8 4 / 4 * 4

/-- The kinds of TLP the bridge tells apart. -/
inductive TlpKind where
  | memRead | memReadLocked | memWrite | io | cfgRead0 | cfgWrite0 | cfgRead1 | cfgWrite1 | message | completion
  | completionLocked | atomic | unknown
deriving DecidableEq, Repr

/-- The kind of a TLP, by its Fmt and Type. -/
def tlpKind (t : List Byte) : TlpKind :=
  let d := tlpHasData t
  let y := tlpType t
  if 3 < tlpFmt t then .unknown
  else if y = 0 then (if d then .memWrite else .memRead)
  else if y = 1 && !d then .memReadLocked
  else if y = 2 then .io
  else if y = 4 then (if d then .cfgWrite0 else .cfgRead0)
  else if y = 5 then (if d then .cfgWrite1 else .cfgRead1)
  else if 16 ≤ y && decide (y < 24) && (tlpFmt t).testBit 0 then .message
  else if y = 10 then .completion
  else if y = 11 then .completionLocked
  else if d && (y = 12 || y = 13 || y = 14) then .atomic
  else .unknown

/-- Whether a kind is a posted request, or a completion. -/
def tlpPosted (k : TlpKind) : Bool := k == .memWrite || k == .message
def tlpCompletion (k : TlpKind) : Bool := k == .completion || k == .completionLocked

/-- Requester ID and tag; for a completion, those of the request it answers. -/
def tlpRid (t : List Byte) : Half :=
  BitVec.ofNat 16 (if tlpCompletion (tlpKind t) then beField (tlpCore t) 8 2 else beField (tlpCore t) 4 2)
def tlpTag (t : List Byte) : BitVec 10 :=
  let hi := byteAt (tlpCore t) 1
  BitVec.ofNat 10 (byteAt (tlpCore t) (if tlpCompletion (tlpKind t) then 10 else 6) + 256 * bitNat (hi.testBit 3)
    + 512 * bitNat (hi.testBit 7))

/-- The target bus, device and function of a configuration request, and its register offset. -/
def tlpBus (t : List Byte) : Nat := byteAt (tlpCore t) 8
def tlpDev (t : List Byte) : Nat := byteAt (tlpCore t) 9 / 8
def tlpFn (t : List Byte) : Nat := byteAt (tlpCore t) 9 % 8
def tlpReg (t : List Byte) : Nat := beField (tlpCore t) 10 2 % 4096 / 4 * 4

/-- The completion status of a completion. -/
def tlpStatus (t : List Byte) : Nat := byteAt (tlpCore t) 6 / 32

/-- Traffic class, the TPH bit, and the byte enables of a request. -/
def tlpTc (t : List Byte) : Nat := byteAt (tlpCore t) 1 / 16 % 8
def tlpTh (t : List Byte) : Bool := (byteAt (tlpCore t) 1).testBit 0
def tlpFirstBe (t : List Byte) : Nat := byteAt (tlpCore t) 7 % 16
def tlpLastBe (t : List Byte) : Nat := byteAt (tlpCore t) 7 / 16

/-- The byte enables of a memory request: none in the last doubleword of a request of one; otherwise some in the first and
the last, and, but for two doublewords of one quadword, without gaps. Hints take their place in a read (PRESUMED: PCIe Base
4.0, log entry 113). -/
def tlpBeOk (t : List Byte) : Bool :=
  if tlpTh t && !tlpHasData t then true
  else if tlpLenDw t = 1 then tlpLastBe t == 0
  else tlpFirstBe t != 0 && tlpLastBe t != 0 && ((tlpLenDw t == 2 && tlpAddr t % 8 == 0)
    || ([8, 12, 14, 15].contains (tlpFirstBe t) && [1, 3, 7, 15].contains (tlpLastBe t)))

/-- The operand of an AtomicOp: 4 or 8 bytes of FetchAdd and Swap, 4, 8 or 16 bytes of CAS, which carries two; its address
is aligned to it (PRESUMED: PCIe Base 4.0, log entry 113). -/
def tlpAtomicOk (t : List Byte) : Bool :=
  let n := if tlpType t = 14 then tlpLenDw t / 2 else tlpLenDw t
  (n == 1 || n == 2 || (tlpType t == 14 && n == 4)) && (tlpType t != 14 || tlpLenDw t % 2 == 0)
    && tlpAddr t % (4 * n) == 0

/-- The rules for well-formed TLPs of each kind (PRESUMED: PCIe Base 4.0, log entry 113): a memory request crosses no 4 KiB
boundary; configuration and I/O requests are of one doubleword, with three header doublewords; those, locked reads and the
messages of interrupts, power management, errors and Unlock have traffic class 0. -/
def tlpRuleOk (t : List Byte) : Bool :=
  let short := !(tlpFmt t).testBit 0
  let within := decide (tlpAddr t % 4096 + 4 * tlpLenDw t ≤ 4096)
  let small := short && tlpLenDw t == 1 && tlpTc t == 0 && tlpLastBe t == 0
  match tlpKind t with
  | .memRead => within && tlpBeOk t
  | .memWrite => within && tlpBeOk t
  | .memReadLocked => within && tlpBeOk t && tlpTc t == 0
  | .io => small
  | .cfgRead0 => small
  | .cfgWrite0 => small
  | .cfgRead1 => small
  | .cfgWrite1 => small
  | .atomic => tlpAtomicOk t
  | .message =>
    let code := byteAt (tlpCore t) 7
    tlpTc t == 0 || !([0x00, 0x14, 0x18, 0x19, 0x1B, 0x20, 0x21, 0x22, 0x23, 0x24, 0x25, 0x26, 0x27, 0x30, 0x31, 0x33,
      0x50].contains code)
  | .completion => short
  | .completionLocked => short
  | .unknown => false

/-- Whether a TLP's length is what its header implies, and it keeps the rules for well-formed TLPs (R239). -/
def tlpWellFormed (t : List Byte) : Bool :=
  let c := tlpCore t
  decide (12 ≤ c.length) && decide (tlpHdrLen t ≤ c.length) && tlpRuleOk t &&
    c.length == tlpHdrLen t + (if tlpHasData t then 4 * tlpLenDw t else 0) + 4 * bitNat (tlpDigest t)

/-- Whether a TLP belongs to the non-posted queue (R248). -/
def tlpWaits (t : List Byte) : Bool := !tlpPosted (tlpKind t) && !tlpCompletion (tlpKind t)

/-- The three queues toward a host lie in its storage tunnel's one: posted requests and completions, in the order of
arrival, before the non-posted requests, which neither waits behind (R248). -/
def passNonPosted (t : Tunnel) : Tunnel :=
  let q := t.queue.filter (fun p => tlpWaits p.payload)
  let others := t.queue.filter (fun p => !tlpWaits p.payload)
  if t.held.any (fun p => !tlpWaits p.2) then
    { t with queue := others
             held := t.held.filter (fun p => !tlpWaits p.2) ++ q.map (fun p => (true, p.payload))
               ++ t.held.filter (fun p => tlpWaits p.2) }
  else { t with queue := others ++ q }

/-- A TLP into a host's storage tunnel: one message of one packet (R237), before the non-posted requests that wait. -/
def sendToHost (h : HostNo) (tlp : List Byte) (s : State) : State :=
  match storageTunnel s h with
  | some t =>
    let s := updTunnel h t.tid passNonPosted (sendMessage h t.tid tlp s)
    match findTunnel s h t.tid with
    | some t => admitHeld h t.tid t.held.length s
    | none => s
  | none => s

/-- A completion: status, completer, the request's requester and tag, and its data. `lock` selects CplLk and CplDLk. -/
def makeCpl (lock : Bool) (status : Nat) (completer : Nat) (rid : Half) (tag : BitVec 10) (bytes lower : Nat)
    (data : List Byte) : List Byte :=
  let fmt := if data.isEmpty then 0 else 2
  let dw := (data.length + 3) / 4
  let hi := 8 * bitNat (tag.getLsbD 8) + 128 * bitNat (tag.getLsbD 9)
  [BitVec.ofNat 8 (32 * fmt + (if lock then 11 else 10)), BitVec.ofNat 8 hi] ++ beBytes 2 (dw % 1024)
    ++ beBytes 2 completer ++ beBytes 2 (4096 * (2 * status) + bytes % 4096)
    ++ beBytes 2 rid.toNat ++ [BitVec.ofNat 8 tag.toNat, BitVec.ofNat 8 (lower % 128)] ++ data

/-- Completion statuses: Successful, Unsupported Request, Completer Abort. -/
def cplOk : Nat := 0
def cplUr : Nat := 1
def cplCa : Nat := 4

/-! ### Configuration registers (R240 to R242, R267; offsets: log entry 40) -/

/-- The functions of a host's switch: 0 the upstream port, 1 and 2 the downstream ports. -/
abbrev SwitchFn := Fin 3

/-- The function of a downstream port. -/
def portFn (p : PciePort) : SwitchFn := ⟨p.val + 1, by omega⟩

/-- A 32-bit register's default, by function and byte offset: Table 6.1 and Table 6.3, in the layout of PCIe Base 4.0. -/
def cfgDefault (f : SwitchFn) (off : Nat) : Nat :=
  let up := f == 0
  match off with
  | 0x00 => 65536 * (if up then 0x9841 else 0x9842) + 0x3A71
  | 0x04 => 0x00100000
  | 0x08 => 0x060400B0
  | 0x0C => 0x00010000
  | 0x24 => 0x00010001
  | 0x34 => 0x40
  | 0x40 => if up then 0x00528010 else 0x01628010
  | 0x44 => 0x00008002
  | 0x48 => 0x00002810
  | 0x4C => if up then 0x00100084 else 0x00100844
  | 0x50 => if up then 0x20840000 else 0
  | 0x54 => if up then 0 else 0x00040060
  | 0x64 => if up then 0x00600040 else 0x00600060
  | 0x6C => 0x0000001E
  | 0x70 => 0x00000004
  | 0x80 => if up then 0x00030001 else 0x00039001
  | 0x90 => if up then 0 else 0x00800005
  | 0x100 => if up then 0x00020001 else 0x15020001
  | 0x108 => 0x00400000
  | 0x10C => 0x00062030
  | 0x114 => 0x0000E000
  | 0x150 => if up then 0 else 0x1601000D
  | 0x154 => if up then 0 else 0x0000027F
  | 0x160 => if up then 0 else 0x1801001D
  | 0x164 => if up then 0 else 0x00000080
  | 0x180 => if up then 0 else 0x1B010019
  | 0x18C => if up then 0 else 0x07070707
  | 0x190 => if up then 0 else 0x07070707
  | 0x1B0 => if up then 0 else 0x0001001E
  | _ => 0

/-- The bits of a register that a configuration write sets. -/
def cfgWritable (f : SwitchFn) (off : Nat) : Nat :=
  let up := f == 0
  match off with
  | 0x04 => 0x0547
  | 0x0C => 0xFF
  | 0x18 => 0x00FFFFFF
  | 0x20 => 0xFFF0FFF0
  | 0x24 => 0xFFF0FFF0
  | 0x28 => 0xFFFFFFFF
  | 0x2C => 0xFFFFFFFF
  | 0x3C => 0x007F00FF
  | 0x48 => 0x0000FFFF
  | 0x50 => 0x00000FFB
  | 0x58 => if up then 0 else 0x00001FFF
  | 0x68 => if up then 0x80 else 0xA0
  | 0x70 => 0x0000000F
  | 0x84 => 0x00000103
  | 0x90 => if up then 0 else 0x00010000
  | 0x94 => if up then 0 else 0xFFFFFFFC
  | 0x98 => if up then 0 else 0xFFFFFFFF
  | 0x9C => if up then 0 else 0x0000FFFF
  | 0x108 => 0x07FFF030
  | 0x10C => 0x07FFF030
  | 0x114 => 0x0000F1C1
  | 0x154 => if up then 0 else 0x007F0000
  | 0x158 => if up then 0 else 0x00000003
  | 0x164 => if up then 0 else 0x007F0000
  | 0x1B8 => if up then 0 else 0xFFFFFFFF
  | _ => 0

/-- The bits of a register that a write of 1 clears. -/
def cfgW1c (f : SwitchFn) (off : Nat) : Nat :=
  match off with
  | 0x04 => 0xF9000000
  | 0x1C => 0xF9000000
  | 0x48 => 0x000F0000
  | 0x58 => if f == 0 then 0 else 0x011F0000
  | 0x104 => 0x07FFF030
  | 0x110 => 0x0000F1C1
  | 0x168 => if f == 0 then 0 else 0x00000009
  | _ => 0

/-- The value of a register of a host's switch. -/
def cfgRead (s : State) (h : HostNo) (f : SwitchFn) (off : Nat) : Word :=
  sparseGet 0 s.pcie.cfg[h][f] (off / 4) ^^^ BitVec.ofNat 32 (cfgDefault f (off / 4 * 4))

/-- The state with a register at a value. -/
def cfgSet (h : HostNo) (f : SwitchFn) (off : Nat) (v : Word) (s : State) : State :=
  { s with pcie := { s.pcie with
      cfg := upd s.pcie.cfg h (fun c => upd c f (fun m =>
        sparsePut 0 m (off / 4) (v ^^^ BitVec.ofNat 32 (cfgDefault f (off / 4 * 4))))) } }

/-- Sets bits of a register. -/
def cfgOr (h : HostNo) (f : SwitchFn) (off : Nat) (bits : Nat) (s : State) : State :=
  cfgSet h f off (cfgRead s h f off ||| BitVec.ofNat 32 bits) s

/-- Clears bits of a register. -/
def cfgClear (h : HostNo) (f : SwitchFn) (off : Nat) (bits : Nat) (s : State) : State :=
  cfgSet h f off (cfgRead s h f off &&& ~~~ BitVec.ofNat 32 bits) s

def cfgBit (s : State) (h : HostNo) (f : SwitchFn) (off k : Nat) : Bool := (cfgRead s h f off).getLsbD k

/-- Bus numbers of a bridge: primary, secondary, subordinate. -/
def cfgBus (s : State) (h : HostNo) (f : SwitchFn) (k : Nat) : Nat := bitsOf (cfgRead s h f 0x18).toNat (8 * k) 8

/-- The ID of a function: the bus the host assigns, then device 0, or the downstream port's device on the secondary bus
(R240). -/
def fnId (s : State) (h : HostNo) (f : SwitchFn) : Nat :=
  if f = 0 then 256 * cfgBus s h 0 0 else 256 * cfgBus s h 0 1 + 8 * (f.val - 1)

/-- Whether an address lies in a bridge's memory window, or in its prefetchable window. -/
def inMemWindow (s : State) (h : HostNo) (f : SwitchFn) (a : Nat) : Bool :=
  let w := (cfgRead s h f 0x20).toNat
  let base := 2 ^ 20 * bitsOf w 4 12
  let lim := 2 ^ 20 * (bitsOf w 20 12 + 1)
  decide (base ≤ a) && decide (a < lim) && decide (base < lim)
def prefBase (s : State) (h : HostNo) (f : SwitchFn) : Nat :=
  2 ^ 20 * bitsOf (cfgRead s h f 0x24).toNat 4 12 + 2 ^ 32 * (cfgRead s h f 0x28).toNat
def prefLimit (s : State) (h : HostNo) (f : SwitchFn) : Nat :=
  2 ^ 20 * (bitsOf (cfgRead s h f 0x24).toNat 20 12 + 1) + 2 ^ 32 * (cfgRead s h f 0x2C).toNat
def inPrefWindow (s : State) (h : HostNo) (f : SwitchFn) (a : Nat) : Bool :=
  decide (prefBase s h f ≤ a) && decide (a < prefLimit s h f)
def inWindow (s : State) (h : HostNo) (f : SwitchFn) (a : Nat) : Bool :=
  cfgBit s h f 0x04 1 && (inMemWindow s h f a || inPrefWindow s h f a)

/-- The Max_Payload_Size set in a function, in bytes, within the 512 that all support (R246). -/
def payloadOf (s : State) (h : HostNo) (f : SwitchFn) : Nat := min 512 (128 * 2 ^ bitsOf (cfgRead s h f 0x48).toNat 5 3)

/-- The Max_Payload_Size set in the upstream port (R239). -/
def maxPayload (s : State) (h : HostNo) : Nat := payloadOf s h 0

/-- An uncorrectable error recorded in a function's AER, with the header logged when none was pending. -/
def aerRecord (h : HostNo) (f : SwitchFn) (bit : Nat) (tlp : List Byte) (s : State) : State :=
  let fresh := cfgRead s h f 0x104 == 0
  let s := cfgOr h f 0x104 (2 ^ bit) s
  if fresh then
    (List.range 4).foldl (fun s i => cfgSet h f (0x11C + 4 * i) (BitVec.ofNat 32 (beField (tlpCore tlp) (4 * i) 4)) s) s
  else s

/-- An error message toward a host, ERR_NONFATAL (0x31) or ERR_FATAL (0x33), from its upstream port. -/
def errMessage (h : HostNo) (code : Nat) (s : State) : State :=
  sendToHost h ([0x30, 0, 0, 0] ++ beBytes 2 (fnId s h 0) ++ [0, BitVec.ofNat 8 code] ++ zeros 8) s

/-- The MSI of a downstream port, when the host has enabled it. -/
def sendMsi (h : HostNo) (p : PciePort) (s : State) : State :=
  let f := portFn p
  if cfgBit s h f 0x90 16 then
    let lo := (cfgRead s h f 0x94).toNat
    let hi := (cfgRead s h f 0x98).toNat
    let data := leBytes 4 ((cfgRead s h f 0x9C).toNat % 65536)
    let hdr := [if hi = 0 then 0x40 else 0x60, 0, 0, 1] ++ beBytes 2 (fnId s h f) ++ [0, 0x0F]
    sendToHost h (hdr ++ (if hi = 0 then beBytes 4 lo else beBytes 4 hi ++ beBytes 4 lo) ++ data) s
  else s

/-- Lanes a port is configured for. -/
def portLanes (s : State) : Nat := if s.pcie.split then 8 else 4

/-- Whether a port has L1 substates: permitted by the owner, and PCIEn_CLKREQ_N wired (R246). -/
def l1Substates (s : State) (p : PciePort) : Bool := s.pcie.ports[p].flags.getLsbD 4 && Config.clkreqWired p.val

/-- What a port's settings fix in every host's switch: Slot Capabilities, its buttons, its power controller and its slot
number (Table 6.7); the width in its Link Capabilities, and the presets of the lanes that an x8 link adds (Table 6.3); and
its L1 substates. -/
def mirrorSlot (p : PciePort) (s : State) : State :=
  let x := s.pcie.ports[p]
  let v := 0x00040060 + bitNat (x.flags.getLsbD 3) + 2 * bitNat (x.flags.getLsbD 2) + 2 ^ 19 * x.slotNo.toNat
  let w := 0x00100804 + 16 * portLanes s
  let more : Word := if s.pcie.split then 0x07070707 else 0
  let l1 : Word := if l1Substates s p then 0x1F else 0
  ([0, 1, 2, 3] : List HostNo).foldl (fun s h =>
    let s := cfgSet h (portFn p) 0x194 more (cfgSet h (portFn p) 0x198 more (cfgSet h (portFn p) 0x1B4 l1 s))
    let s := if l1 = 0 then cfgClear h (portFn p) 0x1B8 0xF s else s
    cfgSet h (portFn p) 0x4C (BitVec.ofNat 32 w) (cfgSet h (portFn p) 0x54 (BitVec.ofNat 32 v) s)) s

/-! ### Slot status and events 32 and 36 (R251, R267) -/

/-- Event 36 with a slot event code. -/
def slotEvent (p : PciePort) (code : Nat) (s : State) : State := raise (.hosts (portHosts s p)) 36 (256 * p.val + code) s

/-- A slot change: its Slot Status bits in the owning host's downstream port, its MSI, and event 36 (R267). -/
def slotChange (p : PciePort) (bits code : Nat) (s : State) : State :=
  match s.pcie.ports[p].assigned with
  | none => slotEvent p code s
  | some h =>
    let s := cfgOr h (portFn p) 0x58 bits s
    slotEvent p code (if cfgBit s h (portFn p) 0x58 5 then sendMsi h p s else s)

/-- What the owning host sees of presence and link: Presence Detect State (Slot Status bit 6) and Data Link Layer Link
Active (Link Status bit 13), and the physical rate and width. -/
def mirrorPort (p : PciePort) (s : State) : State :=
  let x := s.pcie.ports[p]
  match x.assigned with
  | none => s
  | some h =>
    let f := portFn p
    let up := x.state == 3 || x.state == 4 || x.state == 5 || x.state == 6
    let seen := x.present && x.shown && !x.karxo
    let s := if seen then cfgOr h f 0x58 (2 ^ 22) s else cfgClear h f 0x58 (2 ^ 22) s
    let s := cfgClear h f 0x50 0x3FFF0000 s
    if up && !x.karxo then cfgOr h f 0x50 (2 ^ 29 + 2 ^ 20 * x.width.toNat + 2 ^ 16 * x.rate.toNat) s else s

/-- Island 8 parked: every port stays in state 0 (R450). -/
def portsParked (s : State) : Bool := s.pm.setting[(7 : Fin 12)] == 1

/-- Sets a port's state code; each change raises event 32 once and is sent to the link (R251). -/
def setPortState (p : PciePort) (st : Fin 9) (s : State) : State :=
  let st := if portsParked s || isNight s then 0 else st
  if s.pcie.ports[p].state = st then s
  else
    let s := emit (.pcieLink p st) (updPort p (fun x => { x with
      state := st
      rate := if st = 3 ∨ st = 4 ∨ st = 5 ∨ st = 6 then x.rate else 0
      width := if st = 3 ∨ st = 4 ∨ st = 5 ∨ st = 6 then x.width else 0 }) s)
    raise (.hosts (portHosts s p)) 32 (256 * p.val + st.val) (mirrorPort p s)

/-! ### Logs (R258 to R262) -/

/-- The kind code of a log entry (Table 6.5). -/
def logKind (t : List Byte) : Fin 8 :=
  match tlpKind t with
  | .memWrite => 0 | .memRead => 1 | .cfgRead0 => 2 | .cfgRead1 => 2 | .cfgWrite0 => 3 | .cfgWrite1 => 3
  | .atomic => 4 | .memReadLocked => 5 | .message => 6 | .io => 1 | .completion => 1 | .completionLocked => 1
  | .unknown => 6

/-- The address field of a log entry. -/
def logAddr (t : List Byte) : Nat :=
  match tlpKind t with
  | .cfgRead0 => 65536 * beField (tlpCore t) 8 2 + tlpReg t
  | .cfgRead1 => 65536 * beField (tlpCore t) 8 2 + tlpReg t
  | .cfgWrite0 => 65536 * beField (tlpCore t) 8 2 + tlpReg t
  | .cfgWrite1 => 65536 * beField (tlpCore t) 8 2 + tlpReg t
  | _ => tlpAddr t

/-- A log entry for a TLP. -/
def bridgeEntry (s : State) (h : HostNo) (tid : Byte) (p : PciePort) (t : List Byte) (status : Byte) : BridgeEntry :=
  { addr := BitVec.ofNat 64 (logAddr t), rid := tlpRid t, tag := tlpTag t, uplink := h, port := p, kind := logKind t,
    tid := tid, status := status, length := BitVec.ofNat 10 (tlpLenDw t), time := s.clock.hubTime, count := 1 }

/-- Appends to a log, overwriting the oldest entry when its ring is full. -/
def logAppend (n : Fin 3) (e : BridgeEntry) (s : State) : State :=
  let l := s.pcie.logs[n]
  let i : Fin 32 := match l.newest with | some k => k + 1 | none => 0
  let l' : BridgeLog := {
    entries := l.entries.set i (some e)
    newest := some i
    written := satInc l.written
    overwritten := if l.entries[i].isSome then satInc l.overwritten else l.overwritten }
  { s with pcie := { s.pcie with logs := s.pcie.logs.set n l' } }

/-- The error of R259 in the upstream port of a host. A lost host, whose storage tunnel is closed, is sent no message. -/
def internalError (h : HostNo) (t : List Byte) (s : State) : State :=
  let s := aerRecord h 0 22 t s
  if cfgBit s h 0 0x108 22 then s
  else if cfgBit s h 0 0x10C 22 then (if cfgBit s h 0 0x48 2 then errMessage h 0x33 s else s)
  else if cfgBit s h 0 0x48 1 then errMessage h 0x31 s else s

/-- A posted write that is lost: coalesced with the newest entry of log 0, or a new entry, event 33 and the AER error of
R259. -/
def lostWrite (h : HostNo) (tid : Byte) (p : PciePort) (t : List Byte) (status : Byte) (s : State) : State :=
  let l := s.pcie.logs[(0 : Fin 3)]
  let same (e : BridgeEntry) : Bool := e.port == p && e.rid == tlpRid t && e.status == status
    && decide ((s.clock.hubTime - e.time).toNat < 1000000)
  match l.newest with
  | some i =>
    match l.entries[i] with
    | some e =>
      if same e then
        let l' := { l with entries := l.entries.set i (some { e with count := satInc e.count }) }
        { s with pcie := { s.pcie with logs := s.pcie.logs.set (0 : Fin 3) l' } }
      else
        let s := logAppend 0 (bridgeEntry s h tid p t status) s
        raise (.hosts (hostBit h)) 33 (i + 1).val (internalError h t s)
    | none => s
  | none =>
    let s := logAppend 0 (bridgeEntry s h tid p t status) s
    raise (.hosts (hostBit h)) 33 0 (internalError h t s)

/-- An error completion or a timeout: an entry of log 2 and event 34 (R260). -/
def logCompletion (h : HostNo) (tid : Byte) (p : PciePort) (t : List Byte) (status : Byte) (s : State) : State :=
  raise (.hosts (hostBit h)) 34 (tlpRid t).toNat (logAppend 2 (bridgeEntry s h tid p t status) s)

/-! ### Prefetch (R254 to R257) -/

/-- The window of a host and port. -/
def windowOf (h : HostNo) (p : PciePort) : Fin 8 := ⟨2 * h.val + p.val, by omega⟩

def effOverride (w : PrefetchWindow) : Bool := w.owner.override || w.host.override
def effDepth (w : PrefetchWindow) : Nat := min w.owner.depth.val w.host.depth.val
def effHoles (w : PrefetchWindow) : List (Dword × Dword) := w.owner.holes ++ w.host.holes

/-- Whether a byte range touches a hole. -/
def inHole (w : PrefetchWindow) (a n : Nat) : Bool :=
  (effHoles w).any (fun h => decide (h.1.toNat < a + n) && decide (a < h.1.toNat + h.2.toNat))

/-- Whether an entry still holds unconsumed bytes. -/
def unconsumed (e : PrefetchEntry) : Bool := decide ((e.consumed.map Prod.snd).sum < e.len)

/-- A prefetch discard: counted, logged, and event 35 at most once per window in any 1 ms; no event at behaviour level 1
(R257, Table 14.15). -/
def prefetchDiscard (p : PciePort) (e : PrefetchEntry) (status : Byte) (s : State) : State :=
  let w := s.pcie.windows[e.window]
  let h : HostNo := ⟨e.window.val / 2, by omega⟩
  let now := s.clock.hubTime
  let tid := match storageTunnel s h with | some t => t.tid | none => 0
  let recent := match w.lastEvent with | some t => decide ((now - t).toNat < 1000000) | none => false
  let quiet := recent || s.fw.level == 1
  let entry : BridgeEntry :=
    { addr := BitVec.ofNat 64 e.base, rid := e.rid, tag := 0, uplink := h, port := p, kind := 7, tid := tid,
      status := status, length := BitVec.ofNat 10 (e.len / 4), time := now, count := 1 }
  let s := logAppend 1 entry s
  let bump (w : PrefetchWindow) : PrefetchWindow :=
    { w with discards := satInc w.discards, lastEvent := if quiet then w.lastEvent else some now }
  let s := { s with pcie := { s.pcie with windows := upd s.pcie.windows e.window bump } }
  if quiet then s else raise (.hosts (hostBit h)) 35 e.window.val s

/-- Takes the entries of a port that satisfy a test away, each with unconsumed bytes a discard of the status given. -/
def takeEntries (p : PciePort) (f : PrefetchEntry → Bool) (status : Byte) (s : State) : State :=
  let gone := s.pcie.ports[p].prefetch.filter f
  let s := updPort p (fun x => { x with prefetch := x.prefetch.filter (fun e => !f e) }) s
  gone.foldl (fun s e => if unconsumed e then prefetchDiscard p e status s else s) s

/-! ### Non-posted requests (R249, R260) -/

/-- The open requests of a port and direction. -/
def openOf (s : State) (p : PciePort) (toHost : Bool) : List NpRequest :=
  s.pcie.tracked.filter (fun r => r.port == p && r.toHost == toHost)
def heldOf (s : State) (p : PciePort) (toHost : Bool) : List NpRequest :=
  s.pcie.overflow.filter (fun r => r.port == p && r.toHost == toHost)

/-- The queue of Table 10.4 that a TLP belongs to. -/
def tlpQueue (t : List Byte) : Nat :=
  let k := tlpKind t
  if tlpPosted k then 0 else if tlpCompletion k then 2 else 1

/-- A TLP goes out on a downstream link. Night computes it for its signature and sends nothing (R392, R399). -/
def sendTlp (p : PciePort) (s : State) (t : List Byte) : State :=
  let s := feedSig ⟨2, tlpQueue t, p.val⟩ t s
  if isNight s then s else emit (.tlp p t) s

/-- The downstream port behind which a host's switch has a bus. -/
def portOfBus (s : State) (h : HostNo) (bus : Nat) : Option PciePort :=
  let hit (p : PciePort) : Bool := pciePresent s p && cfgBus s h (portFn p) 1 != 0
    && decide (cfgBus s h (portFn p) 1 ≤ bus) && decide (bus ≤ cfgBus s h (portFn p) 2)
  if hit 0 then some 0 else if hit 1 then some 1 else none

/-- A completion goes to its requester: a device behind the other port of the host, or the host. -/
def returnCpl (h : HostNo) (rid : Half) (cpl : List Byte) (s : State) : State :=
  match portOfBus s h (rid.toNat / 256) with
  | some q => if s.pcie.ports[q].assigned = some h then sendTlp q s cpl else s
  | none => sendToHost h cpl s

/-- Answers a request without its far side: toward the host or the device it came from. -/
def answerNp (r : NpRequest) (status : Nat) (s : State) : State :=
  let id := match s.pcie.ports[r.port].assigned with | some h => fnId s h (portFn r.port) | none => 0
  let cpl := makeCpl r.locked status id r.rid r.tag 4 0 []
  if r.toHost then sendTlp r.port s cpl else returnCpl r.host r.rid cpl s

/-- Requests ended with a completion status, each logged with a status (R260). -/
def endList (rs : List NpRequest) (status : Nat) (log : Byte) (s : State) : State :=
  rs.foldl (fun s r => logCompletion r.host r.tid r.port r.tlp log (answerNp r status s)) s

/-- Ends every open and held request of a port toward its device, or toward a host, with a completion status and a log
status (R252, R260). -/
def endRequests (p : PciePort) (toHost : Bool) (status : Nat) (log : Byte) (s : State) : State :=
  let rs := openOf s p toHost ++ heldOf s p toHost
  let keep (r : NpRequest) : Bool := !(r.port == p && r.toHost == toHost)
  endList rs status log
    { s with pcie := { s.pcie with tracked := s.pcie.tracked.filter keep, overflow := s.pcie.overflow.filter keep } }

/-! ### The downstream queues -/

/-- Whether a port's link carries TLPs. -/
def linkSends (x : PciePortState) : Bool := x.state == 3 || x.state == 4 || x.state == 5

/-- Whether a port's link is on its way up, so that its queues wait. -/
def linkWaits (x : PciePortState) : Bool := x.state == 2 || x.state == 6

/-- Sends what the queues of a port hold: posted first, then completions, then non-posted requests, which nothing ahead
of them waits behind (R248). -/
def drainPort (p : PciePort) (s : State) : State :=
  let x := s.pcie.ports[p]
  if linkSends x then
    ((x.posted ++ x.completions ++ x.nonPosted).map (fun q => q.tlp)).foldl (sendTlp p)
      (updPort p (fun x => { x with posted := [], completions := [], nonPosted := [] }) s)
  else s

/-- Loses the posted writes queued toward a port, each logged with a status, and empties its queues. -/
def losePosted (p : PciePort) (status : Byte) (s : State) : State :=
  let qs := s.pcie.ports[p].posted
  qs.foldl (fun s q => lostWrite q.host q.tid p q.tlp status s)
    (updPort p (fun x => { x with posted := [], completions := [], nonPosted := [] }) s)

/-- A TLP toward a device: sent, queued while the link comes up, or, where the link is down, a posted write lost with
status 1 (R258) and a request completed with Unsupported Request. -/
def toDevice (h : HostNo) (tid : Byte) (p : PciePort) (t : List Byte) (s : State) : State :=
  let x := s.pcie.ports[p]
  let k := tlpKind t
  let q : QueuedTlp := ⟨h, tid, t⟩
  if isNight s then
    let s := sendTlp p s t
    if tlpPosted k then updPort p (fun x => { x with posted := x.posted ++ [q] }) s else s
  else if s.flt.isolated.getLsbD (6 + p.val) then
    if tlpPosted k then lostWrite h tid p t 5 s else s
  else if linkSends x || linkWaits x then
    drainPort p (updPort p (fun x =>
      if tlpPosted k then { x with posted := x.posted ++ [q] }
      else if tlpCompletion k then { x with completions := x.completions ++ [q] }
      else { x with nonPosted := x.nonPosted ++ [q] }) s)
  else if tlpPosted k then lostWrite h tid p t (if x.state = 7 then 2 else 1) s
  else s

/-- A locked read as the ordinary read that goes to the device (R263). -/
def asPlain (t : List Byte) : List Byte := onFirst (fun b => b &&& 0xE0) t

/-- Tracks a non-posted request toward a device and forwards it; full, it goes to the overflow queue; that full, it
completes with Completer Abort and is logged with status 7 (R249). The overflow queue needs the staging region
(PB_DRAM_MAP). -/
def forwardNp (r : NpRequest) (s : State) : State :=
  if (openOf s r.port r.toHost).length < 256 then
    let s := { s with pcie := { s.pcie with tracked := s.pcie.tracked ++ [r] } }
    if r.toHost then sendToHost r.host r.tlp s else toDevice r.host r.tid r.port (if r.locked then asPlain r.tlp else r.tlp) s
  else if s.perf.stagingMiB != 0 && decide ((heldOf s r.port r.toHost).length < 65536) then
    { s with pcie := { s.pcie with overflow := s.pcie.overflow ++ [r] } }
  else logCompletion r.host r.tid r.port r.tlp 7 (answerNp r cplCa s)

/-- Forwards the oldest held request of a port and direction as an entry frees (R249). -/
def forwardHeld (p : PciePort) (toHost : Bool) (s : State) : State :=
  match heldOf s p toHost with
  | [] => s
  | r :: _ =>
    if (openOf s p toHost).length < 256 then
      forwardNp r { s with pcie := { s.pcie with overflow := s.pcie.overflow.erase r } }
    else s

/-- The reads that wait for prefetch data of entries, as requests toward the device. -/
def waitingReads (s : State) (p : PciePort) (f : PrefetchEntry → Bool) : List NpRequest :=
  (s.pcie.ports[p].prefetch.filter f).flatMap (fun e =>
    let h : HostNo := ⟨e.window.val / 2, by omega⟩
    let tid := match storageTunnel s h with | some t => t.tid | none => 0
    e.demand.map (fun t => ⟨p, false, tlpRid t, tlpTag t, h, tid, false, t⟩))

/-- Drops the entries of a port that satisfy a test. The reads that waited for their data go to the device (R256). -/
def dropPrefetch (p : PciePort) (f : PrefetchEntry → Bool) (status : Byte) (s : State) : State :=
  (waitingReads s p f).foldl (fun s r => forwardNp r s) (takeEntries p f status s)

/-! ### The lock (R263, R264) -/

/-- Gives the free semaphore to the oldest waiting locked read, and forwards it as an ordinary read whose completion
returns as CplDLk. -/
def grantLock (s : State) : State :=
  match s.pcie.lock.holder, s.pcie.lock.waiting with
  | none, r :: rest =>
    forwardNp r { s with pcie := { s.pcie with
      lock := { s.pcie.lock with holder := some (r.host, r.port), since := s.clock.hubTime, waiting := rest,
                                 granted := satInc s.pcie.lock.granted } } }
  | _, _ => s

/-- Frees the semaphore: requests that waited for the locked port go on, then the next locked read is granted. A release
other than an Unlock is counted and logged with status 8. -/
def releaseLock (unlock : Bool) (s : State) : State :=
  match s.pcie.lock.holder with
  | none => s
  | some (h, p) =>
    let qs := s.pcie.lock.blocked
    let tid := match storageTunnel s h with | some t => t.tid | none => 0
    let s := { s with pcie := { s.pcie with
      lock := { s.pcie.lock with holder := none, blocked := [],
                                 others := if unlock then s.pcie.lock.others else satInc s.pcie.lock.others } } }
    let s := if unlock then s else
      raise (.hosts (hostBit h)) 34 (fnId s h 0) (logAppend 2
        { addr := 0, rid := BitVec.ofNat 16 (fnId s h 0), tag := 0, uplink := h, port := p, kind := 5, tid := tid,
          status := 8, length := 0, time := s.clock.hubTime, count := 1 } s)
    let go (s : State) (q : QueuedTlp) : State :=
      if tlpPosted (tlpKind q.tlp) || tlpCompletion (tlpKind q.tlp) then toDevice q.host q.tid p q.tlp s
      else forwardNp ⟨p, false, tlpRid q.tlp, tlpTag q.tlp, q.host, q.tid, false, q.tlp⟩ s
    grantLock (qs.foldl go s)

/-- Releases the lock where it is held on a port, or by a host. -/
def releaseLockOn (p : PciePort) (s : State) : State :=
  match s.pcie.lock.holder with | some (_, q) => if q = p then releaseLock false s else s | none => s
def releaseLockOf (h : HostNo) (s : State) : State :=
  match s.pcie.lock.holder with | some (g, _) => if g = h then releaseLock false s else s | none => s

/-! ### Port sequences (R252, R268 to R272) -/

/-- What waits for the lock of a port, or for the lock itself to go to the port, when the port's link is taken down: writes
lost, requests ended. -/
def endWaiting (p : PciePort) (writeStatus : Byte) (down : Nat) (s : State) : State :=
  let l := s.pcie.lock
  let mine := match l.holder with | some (_, q) => q == p | none => false
  let blocked := if mine then l.blocked else []
  let reads := blocked.filter (fun q => tlpWaits q.tlp)
  let s := { s with pcie := { s.pcie with lock := { l with
    blocked := if mine then [] else l.blocked, waiting := l.waiting.filter (fun r => r.port != p) } } }
  let s := (blocked.filter (fun q => tlpPosted (tlpKind q.tlp))).foldl (fun s q => lostWrite q.host q.tid p q.tlp writeStatus s) s
  endList (reads.map (fun q => ⟨p, false, tlpRid q.tlp, tlpTag q.tlp, q.host, q.tid, false, q.tlp⟩)
    ++ l.waiting.filter (fun r => r.port == p)) down 5 s

/-- What a port's traffic meets when its link is taken down: writes lost, requests toward the port ended with the status
`down` and log status 5 (R260), its device's requests as the cause says, prefetch dropped, the lock freed. -/
def stopTraffic (p : PciePort) (writeStatus : Byte) (down : Nat) (cplLog : Byte) (cpl : Nat) (s : State) : State :=
  let reads := waitingReads s p (fun _ => true)
  let s := endWaiting p writeStatus down (losePosted p writeStatus s)
  let s := endRequests p true cpl cplLog (endRequests p false down 5 s)
  releaseLockOn p (endList reads down 5 (takeEntries p (fun _ => true) 4 s))

/-- The same, with Unsupported Request for the requests toward the port. -/
def quiescePort (p : PciePort) (writeStatus cplLog : Byte) (cpl : Nat) (s : State) : State :=
  stopTraffic p writeStatus cplUr cplLog cpl s

/-- Whether a port's data link layer is up: L0, L1 or Recovery. -/
def linkIsUp (x : PciePortState) : Bool := x.state == 3 || x.state == 4 || x.state == 5 || x.state == 6

/-- A slot change that the owning host sees, or, on a port that Karxo holds, event 36 alone. -/
def noteSlot (p : PciePort) (bits code : Nat) (s : State) : State :=
  if s.pcie.ports[p].karxo then slotEvent p code s else slotChange p bits code s

/-- A port's link is taken down into a state: a link that was up sets Data Link Layer State Changed and raises event 36 with
code 3 (R267). -/
def dropLink (p : PciePort) (st : Fin 9) (s : State) : State :=
  let up := linkIsUp s.pcie.ports[p]
  let s := setPortState p st s
  if up then noteSlot p (2 ^ 24) 3 s else s

/-- Disables a port's link and asserts PERST (R250, R252). -/
def disablePort (p : PciePort) (s : State) : State :=
  dropLink p 0 (updPort p (fun x => { x with perst := true, phase := .idle }) s)

/-- The same for a port that its host no longer has, or that the partner's chip takes over: no slot change. -/
def parkPort (p : PciePort) (s : State) : State :=
  setPortState p 0 (updPort p (fun x => { x with perst := true, phase := .idle }) s)

/-- Whether a port's host still has DPC Trigger Status set: its containment has not ended (R269). -/
def contained (s : State) (p : PciePort) : Bool :=
  match s.pcie.ports[p].assigned with
  | some h => !s.pcie.ports[p].karxo && cfgBit s h (portFn p) 0x168 0
  | none => false

/-- A contained port that would train goes back to its containment, its link disabled (R269). -/
def holdContained (p : PciePort) (s : State) : State := setPortState p 7 (updPort p (fun x => { x with phase := .idle }) s)

/-- Whether a port may come up: present in the variant, its island not parked, assigned to an uplink with an Open storage
tunnel and not disabled through Link Control, or taken by Karxo in fall-back, and powered where it has a power controller
(R250, R251, R268, R271, R450). Night's ports stay in state 0 (R392). -/
def portWanted (s : State) (p : PciePort) : Bool :=
  let x := s.pcie.ports[p]
  pciePresent s p && !isNight s && !portsParked s && !(x.flags.getLsbD 2 && !x.pwren) && (x.karxo ||
    (match x.assigned with | some h => storageOpen s h && !cfgBit s h (portFn p) 0x50 4 | none => false))

/-- Starts the reset of a port before it is presented: state 1 with PERST asserted (Table 6.8 step 3). -/
def resetPort (p : PciePort) (s : State) : State :=
  if portsParked s then parkPort p s
  else if contained s p then holdContained p s
  else setPortState p 1 (updPort p (fun x => { x with perst := true, phase := .reset }) s)

/-- Starts or stops a port as its owner has a storage tunnel or not (R250, R252, R270). Writes of a host without one are lost
with status 3, and otherwise with status 1 (Table 6.6). -/
def settlePort (s : State) (p : PciePort) : State :=
  let x := s.pcie.ports[p]
  if portWanted s p then (if x.state = 0 then resetPort p s else s)
  else if x.state = 0 then s
  else
    let open_ := match x.assigned with | some h => storageOpen s h | none => false
    disablePort p (quiescePort p (if open_ then 1 else 3) 5 cplUr s)

/-- Releases PERST and begins training (Table 6.8 step 4). -/
def trainPort (p : PciePort) (s : State) : State :=
  if portsParked s then parkPort p s
  else if contained s p then holdContained p s
  else setPortState p 2 (updPort p (fun x => { x with perst := false, phase := .training }) s)

/-- Powers a slot off or on (R268, R276). -/
def powerOffSlot (p : PciePort) (s : State) : State :=
  let s := quiescePort p 3 6 cplCa s
  slotChange p 0 7 (disablePort p (updPort p (fun x => { x with pwren := false, powerGood := false }) s))
def powerOnSlot (p : PciePort) (s : State) : State :=
  slotChange p 0 6 (settlePort (updPort p (fun x => { x with pwren := true }) s) p)

/-- What started a containment: an error message of a requester, or the software trigger (R269). -/
inductive DpcCause where
  | nonFatal (rid : Nat) | fatal (rid : Nat) | software
deriving DecidableEq, Repr

/-- DPC Status after a trigger: Trigger Status, its reason, Interrupt Status where the interrupt is enabled, and the source
ID (PCIe Base 4.0; log entry 40). -/
def dpcRecord (h : HostNo) (p : PciePort) (why : DpcCause) (s : State) : State :=
  let f := portFn p
  let v := match why with
    | .nonFatal rid => 1 + 2 * 1 + 65536 * rid | .fatal rid => 1 + 2 * 2 + 65536 * rid | .software => 1 + 2 * 3 + 32 * 1
  let irq := cfgBit s h f 0x164 19
  let s := cfgOr h f 0x168 (v + 8 * bitNat irq) (cfgClear h f 0x168 0xFFFF0066 s)
  if irq then sendMsi h p s else s

/-- DPC containment of a port (R260, R269): the link disabled, writes discarded with status 2, requests toward the port
completed with Unsupported Request or Completer Abort as DPC Completion Control says, its device's with Unsupported Request,
event 37. -/
def containPort (p : PciePort) (why : DpcCause) (s : State) : State :=
  let ca : Bool := match s.pcie.ports[p].assigned with | some h => cfgBit s h (portFn p) 0x164 18 | none => false
  let s := match s.pcie.ports[p].assigned with | some h => dpcRecord h p why s | none => s
  let s := stopTraffic p 2 (bif ca then cplCa else cplUr) 5 cplUr s
  raise (.hosts (portHosts s p)) 37 (256 * p.val) (dropLink p 7 s)

/-- The effect of a host's loss on a port assigned to it (R252). -/
def losePort (h : HostNo) (s : State) (p : PciePort) : State :=
  if s.pcie.ports[p].assigned = some h then disablePort p (quiescePort p 3 6 cplCa s) else s

/-- The port whose window of a host a write falls in. -/
def portOfWrite (s : State) (h : HostNo) (t : List Byte) : PciePort :=
  if inWindow s h (portFn 0) (tlpAddr t) then 0 else if inWindow s h (portFn 1) (tlpAddr t) then 1 else 0

/-- The bridge abandons what a closed storage tunnel held: posted requests of the host that it has not taken, and of the
devices that it has not sent, with status 3 (R164, R252, R258). What the switch itself sent is no request of a device. -/
def abandonStorage (t : Tunnel) (s : State) : State :=
  let s := t.inbox.foldl (fun s m =>
    if !m.broken && tlpPosted (tlpKind m.bytes) then
      lostWrite t.host t.tid (portOfWrite s t.host m.bytes) m.bytes 3 s
    else s) s
  (t.queue.map (fun p => p.payload) ++ t.held.map Prod.snd).foldl (fun s b =>
    if tlpPosted (tlpKind b) then match portOfBus s t.host ((tlpRid b).toNat / 256) with
      | some p => lostWrite t.host t.tid p b 3 s
      | none => s
    else s) s

/-- The bridge's part in the loss of a host: its ports, and its storage tunnel `t` as it was before it closed (R252). -/
def pcieLose (h : HostNo) (t : Option Tunnel) (s : State) : State :=
  let s := ([0, 1] : List PciePort).foldl (losePort h) s
  let s := match t with | some t => abandonStorage t s | none => s
  releaseLockOf h s

/-- Settles both ports after the storage tunnels have changed. -/
def settlePorts (s : State) : State := ([0, 1] : List PciePort).foldl settlePort s

/-! ### Admission (R243) -/

/-- P of a port at its configured maximum rate and width, in Mbit/s (Table 6.2). -/
def portP (s : State) (p : PciePort) : Nat :=
  let x8 := s.pcie.split
  let r := s.pcie.ports[p].maxRate
  if r = 1 then (if x8 then 15040 else 7520) else if r = 2 then (if x8 then 30080 else 15040)
  else if r = 3 then (if x8 then 59234 else 29617) else (if x8 then 118469 else 59234)

/-- A4 for storage: the class 3 rates of a host in each direction against its ports' capacity. -/
def admitStorage (s : State) (ts : List Tunnel) (h : HostNo) : Bool :=
  let cap := ((([0, 1] : List PciePort).filter
    (fun p => pciePresent s p && s.pcie.ports[p].assigned == some h)).map (portP s)).sum
  let sum (d : Bool) : Nat := ((ts.filter (fun t => t.host == h && t.cls == 3)).map (committed d)).sum
  decide (sum true ≤ cap) && decide (sum false ≤ cap)

end Sys2Proof.Machine
end

