-- ==== Sys2Proof/Machine/UsbOps.lean ====
section
/-! DEFINITION. Operations of the USB block (07): ports and their power, hub requests, transfer requests and their schedule, ownership, charging, and the management function. -/
namespace Sys2Proof.Machine

/-- What leaves through a port or pin that only Day drives in Mirror (R396): nothing from Night. -/
def egress (e : Emit) (s : State) : State := if isNight s then s else emit e s

/-! ### Ports (Table 7.1) -/

/-- The external ports of the USB 2.0 hub, and of the SuperSpeedPlus hub. -/
def usbPorts2 (s : State) : Nat := if s.variant = .qt9824 then 4 else 6
def usbPortsS (s : State) : Nat := if s.variant = .qt9824 then 2 else 4

/-- The number of ports of a hub, its internal port the last. -/
def hubPorts (s : State) (ss : Bool) : Nat := (if ss then usbPortsS s else usbPorts2 s) + 1

/-- Whether a number is a port of a hub's external ports. -/
def usbPortOf (s : State) (ss : Bool) (n : Fin 8) : Bool :=
  decide (1 ≤ n.val) && decide (n.val ≤ (if ss then usbPortsS s else usbPorts2 s))

/-- Whether a number is an external port of the variant, counted on the USB 2.0 hub. -/
def usbExternal (s : State) (n : Nat) : Bool := decide (1 ≤ n) && decide (n ≤ usbPorts2 s)

/-- The external ports of any variant, and all ports with the internal ones. -/
def externals : List (Fin 8) := [1, 2, 3, 4, 5, 6]
def allPorts : List (Fin 8) := [1, 2, 3, 4, 5, 6, 7]

def updUsb (f : Usb → Usb) (s : State) : State := { s with usb := f s.usb }
def updUsbPort (n : Fin 8) (f : UsbPort → UsbPort) (s : State) : State :=
  updUsb (fun u => { u with ports := upd u.ports n f }) s

/-- One half of a port. -/
def usbHalf (s : State) (ss : Bool) (n : Fin 8) : UsbHalf := if ss then s.usb.halvesS[n] else s.usb.halves2[n]
def updHalf (ss : Bool) (n : Fin 8) (f : UsbHalf → UsbHalf) (s : State) : State :=
  updUsb (fun u => if ss then { u with halvesS := upd u.halvesS n f } else { u with halves2 := upd u.halves2 n f }) s

/-- The port flags (R312). -/
def upEnabled (p : UsbPort) : Bool := p.flags.getLsbD 0
def upContinuity (p : UsbPort) : Bool := p.flags.getLsbD 2
def upL1Ok (p : UsbPort) : Bool := p.flags.getLsbD 3
def upUOk (p : UsbPort) : Bool := p.flags.getLsbD 4

/-- Bits of wPortStatus: connection, enable, suspend, over-current, reset, L1, and power (bit 8, or bit 9 of a
SuperSpeedPlus port) (log entry 50). -/
def stConnected (h : UsbHalf) : Bool := h.status.getLsbD 0
def stEnabled (h : UsbHalf) : Bool := h.status.getLsbD 1
def powerBit (ss : Bool) : Nat := if ss then 9 else 8
def stPowered (ss : Bool) (h : UsbHalf) : Bool := h.status.getLsbD (powerBit ss)

/-- The power state a port half shows (R314): 0 L0 or U0, 1 L1, 2 U1, 3 U2, 4 suspend or U3. On the USB 2.0 hub the
suspend and L1 bits of wPortStatus, on the SuperSpeedPlus hub its link state (log entry 50). -/
def usbPower (ss : Bool) (h : UsbHalf) : Fin 5 :=
  if ss then
    (match bitsOf h.status.toNat 5 4 with | 1 => 2 | 2 => 3 | 3 => 4 | _ => 0)
  else if h.status.getLsbD 2 then 4 else if h.status.getLsbD 5 then 1 else 0

/-- The status word with a power state in it. -/
def withLinkState (ss : Bool) (k : Fin 5) (w : Half) : Half :=
  if ss then (w &&& 0xFE1F) ||| BitVec.ofNat 16 (32 * (k.val - 1))
  else (w &&& 0xFFDB) ||| (if k = 4 then 0x04 else if k = 1 then 0x20 else 0)

/-- A port half goes to a power state. -/
def setUsbPower (ss : Bool) (n : Fin 8) (k : Fin 5) (s : State) : State :=
  updHalf ss n (fun x => { x with status := withLinkState ss k x.status }) s

/-- Whether a port half is suspended, in L1 or in U3. -/
def halfAsleep (s : State) (ss : Bool) (n : Fin 8) : Bool :=
  usbPower ss (usbHalf s ss n) == 4 || usbPower ss (usbHalf s ss n) == 1

/-- A half of an external port; a hub with no external port of that number shows none there, the internal port included. -/
def extHalf (s : State) (ss : Bool) (n : Fin 8) : UsbHalf := if usbPortOf s ss n then usbHalf s ss n else ⟨0, 0, 0⟩

/-- The USB owner's link is in fall-back. -/
def ownerFallback (s : State) : Bool :=
  match upOfHost s s.usb.owner with | some u => s.links[linkOfUp u].state == 7 | none => false

/-- The USB owner's link is on the Xansa link: Active, in Retrain or in Deep, in which its tunnels stay Open (Table
4.5). -/
def ownerOnXansa (s : State) : Bool :=
  match upOfHost s s.usb.owner with
  | some u => carries s.links[linkOfUp u] || s.links[linkOfUp u].state == 9
  | none => false

/-- An open tunnel of the USB block: class 2, 5 or 7 of the USB owner (Table 7.3). -/
def usbTunnel (s : State) (cls : BitVec 3) : Option Tunnel :=
  s.tunnels.find? (fun t => t.host == s.usb.owner && t.cls == cls && !t.closing && !t.standby &&
    (cls != 7 || t.endpoint == 0x0010))

/-- Whether a tunnel belongs to the USB block. -/
def isUsbTunnel (t : Tunnel) : Bool := t.cls == 2 || t.cls == 5 || (t.cls == 7 && t.endpoint == 0x0010)

/-- Whether island 9 is parked (R450). -/
def usbParked (s : State) : Bool := s.pm.setting[(8 : Fin 12)] == 1

/-! ### Power and charging (R284, R308 to R310, R428) -/

/-- The limit of an eFuse channel in mA, and the channel of an external port. -/
def efuseLimit (s : State) (ch : Fin 6) : Nat := fieldAt s.power.efuses[ch].setting 0 2
def efuseOf (n : Nat) : Fin 6 := ⟨(n - 1) % 6, Nat.mod_lt _ (by decide)⟩

/-- Whether what a channel feeds asks for power: its USB port, or, for channels 4 and 5 of the QT9824, itself. -/
def channelWanted (s : State) (ch : Fin 6) : Bool :=
  if s.variant = .qt9824 && decide (4 ≤ ch.val) then true
  else match s.usb.ports[(⟨ch.val + 1, by omega⟩ : Fin 8)] with | p => p.vbus && upEnabled p

/-- Whether the channels have a supply: PG_OUT high and EFU_VIN above 4.40 V, which is free (R428; log entry 51). -/
def efuSupply (s : State) : Bool := s.power.pg && Config.efuVinOk s.freeCtr s.clock.hubTime

/-- Every channel conducts or not as R428 and R429 state. -/
def settleEfuses (s : State) : State :=
  { s with power := { s.power with efuses := s.power.efuses.mapFinIdx (fun i e h =>
      { e with on := fieldAt e.setting 0 2 != 0 && efuSupply s && channelWanted s ⟨i, h⟩ && !e.held }) } }

/-- The over-current indication of a port ends. -/
def clearOverCurrent (n : Fin 8) (s : State) : State :=
  let quiet (x : UsbHalf) : UsbHalf := { x with status := x.status &&& 0xFFF7 }
  updHalf true n quiet (updHalf false n quiet (updUsbPort n (fun p => { p with overCurrent := false }) s))

/-- Whether a trip still keeps a channel off, and whether it may be armed again: its off time has passed (R429). -/
def mayRearm (s : State) (ch : Fin 6) : Bool := s.power.efuses[ch].held && !s.power.efuses[ch].offTime

/-- A tripped channel whose off time has passed is armed again (R429), and the port's over-current indication ends with the
trip. -/
def rearmEfuse (ch : Fin 6) (s : State) : State :=
  if !mayRearm s ch then s
  else
    let es := upd s.power.efuses ch (fun e => { e with tripped := false, held := false })
    let s := { s with power := { s.power with efuses := es } }
    if usbExternal s (ch.val + 1) then clearOverCurrent ⟨ch.val + 1, by omega⟩ s else s

/-- Rp in force: 0 Default, 1 1.5 A, 2 3.0 A; 0xFF on a port without the Type-C flag (R309, R314). -/
def rpInForce (s : State) (n : Fin 8) : Nat :=
  let p := s.usb.ports[n]
  let lim := efuseLimit s (efuseOf n.val)
  if !p.typeC then 0xFF
  else if p.rpReq = 2 && decide (3000 ≤ lim) then 2 else if p.rpReq != 0 && decide (1500 ≤ lim) then 1 else 0

/-- The role R308 and R309 give a port: 0 SDP, 1 CDP, 2 DCP. A presented tunnelled root counts as configured (log entry
54). -/
def roleWanted (s : State) (n : Fin 8) : Fin 3 :=
  let p := s.usb.ports[n]
  let configured := s.usb.hubConfig2 || s.usb.hubConfigS || (s.usb.presented && ownerOnXansa s)
  let r : Fin 3 := if p.mode = 0 then 0 else if p.mode = 1 then (if configured then 1 else 0) else if p.mode = 2 then 2
    else (if configured then 1 else 2)
  if efuseLimit s (efuseOf n.val) < 1500 then 0 else r

/-- Applies the role; with a device attached VBUS is removed for 500 ms first (R308). -/
def settleRole (s : State) (n : Fin 8) : State :=
  let r := roleWanted s n
  let p := s.usb.ports[n]
  if p.swap.isSome then updUsbPort n (fun p => { p with swap := some r }) s
  else if r = p.role then s
  else if stConnected (extHalf s false n) || stConnected (extHalf s true n) then
    updUsbPort n (fun p => { p with swap := some r, vbus := false }) s
  else updUsbPort n (fun p => { p with role := r }) s

/-- Applies the roles and the channels of every port. -/
def settlePorts7 (s : State) : State :=
  settleEfuses (externals.foldl settleRole s)

/-! ### Completions (R289, R290) -/

/-- The fields of a USB message header (Table 7.4). -/
def umKind (b : List Byte) : Nat := byteAt b 0
def umSs (b : List Byte) : Bool := byteAt b 1 == 1
def umXid (b : List Byte) : Nat := fieldAt b 2 2
def umPort (b : List Byte) : Fin 8 := ⟨byteAt b 4 % 8, Nat.mod_lt _ (by decide)⟩
def umAddr (b : List Byte) : Nat := byteAt b 5
def umIn (b : List Byte) : Bool := (byteAt b 6).testBit 7
def umEp (b : List Byte) : Nat := byteAt b 6 % 16
def umType (b : List Byte) : Nat := byteAt b 7
def umAsap (b : List Byte) : Bool := (byteAt b 11).testBit 7
def umFrame (b : List Byte) : Nat := fieldAt b 10 2 % 16384
def umLen (b : List Byte) : Nat := fieldAt b 12 4
def umMps (b : List Byte) : Nat := fieldAt b 16 2 % 2048
def umMore (b : List Byte) : Nat := bitsOf (fieldAt b 16 2) 11 2

/-- A message header toward the host: kind, bus, xid, uframe and the length field; the fields a kind does not use are 0
(log entry 52). -/
def usbHeader (kind : Nat) (ss : Bool) (xid uframe len : Nat) : List Byte :=
  leBytes 1 kind ++ leBytes 1 (bitNat ss) ++ leBytes 2 xid ++ zeros 6 ++ leBytes 2 uframe ++ leBytes 4 len ++ zeros 8

/-- A COMPLETION for a header. -/
def completionOf (hdr : List Byte) (status actual : Nat) (data : List Byte) : List Byte :=
  usbHeader 2 (umSs hdr) (umXid hdr) 0 (actual + 2 ^ 24 * status) ++ data

/-- Queues a COMPLETION on a tunnel; transaction errors and missed intervals are counted at the port (R314). -/
def sendCompletion (h : HostNo) (tid : Byte) (hdr : List Byte) (status actual : Nat) (data : List Byte) (s : State) : State :=
  let n := umPort hdr
  let s := if n.val = hubPorts s (umSs hdr) then s
    else if status = 2 then updUsbPort n (fun p => { p with txErrors := satInc p.txErrors }) s
    else if status = 4 then updUsbPort n (fun p => { p with missed := satInc p.missed }) s else s
  queueMessage true h tid (completionOf hdr status actual data) s

/-- Ends requests that satisfy a test with a status and no data. -/
def endUsb (f : UsbRequest → Bool) (status : Nat) (s : State) : State :=
  let rs := s.usb.requests.filter f
  rs.foldl (fun s r => sendCompletion r.host r.tid r.hdr status 0 [] s)
    (updUsb (fun u => { u with requests := u.requests.filter (fun r => !f r) }) s)

/-- The requests of one port half. -/
def onHalf (ss : Bool) (n : Fin 8) (r : UsbRequest) : Bool := umSs r.hdr == ss && umPort r.hdr == n

/-- Whether two requests are for one endpoint address and direction of one device. -/
def sameEndpoint (a b : UsbRequest) : Bool :=
  umSs a.hdr == umSs b.hdr && umPort a.hdr == umPort b.hdr && umAddr a.hdr == umAddr b.hdr && umEp a.hdr == umEp b.hdr
    && (umIn a.hdr == umIn b.hdr || umType a.hdr == 0)

/-- Whether a request is for the internal port, on which the management function sits (R278, R303). -/
def isInternal (s : State) (r : UsbRequest) : Bool := (umPort r.hdr).val == hubPorts s (umSs r.hdr)

/-- Whether a request is the first of its endpoint (R289). -/
def isHead (s : State) (r : UsbRequest) : Bool := s.usb.requests.find? (sameEndpoint r) == some r

/-- A request is replaced in its place. -/
def setRequest (r q : UsbRequest) (s : State) : State :=
  updUsb (fun u => { u with requests := u.requests.replace r q }) s

/-- The split transactions a port's TT buffers: periodic and non-periodic (R283). -/
def ttBuffers (periodic : Bool) : Nat := if periodic then 32 else 4

/-- Whether the TT of a low- or full-speed port has a buffer for one more transaction (R282, R283; log entry 117). -/
def ttRoom (s : State) (r : UsbRequest) : Bool :=
  let n := umPort r.hdr
  let slow := !umSs r.hdr && (s.usb.ports[n].speed == 1 || s.usb.ports[n].speed == 2)
  !slow || decide ((s.usb.requests.filter (fun q => q.phase == .onBus && onHalf false n q
    && q.target.isSome == r.target.isSome)).length < ttBuffers r.target.isSome)

/-- A request's transactions at its port. -/
def putOnBus (r : UsbRequest) (s : State) : State :=
  egress (.usbIssue (umSs r.hdr) (BitVec.ofNat 8 (umPort r.hdr).val) r.hdr r.data) s

/-- The bus transactions of a request begin; bulk OUT data enters its signature (R399). -/
def issueUsb (r : UsbRequest) (s : State) : State :=
  let s := if umType r.hdr = 2 && !umIn r.hdr then feedSig ⟨4, 0, (umPort r.hdr).val⟩ r.data s else s
  putOnBus r (setRequest r { r with phase := .onBus } s)

/-- Whether a control or bulk request can begin: scheduled, the first of its endpoint, on an external port. -/
def mayStart (s : State) (r : UsbRequest) : Bool :=
  r.phase == .scheduled && r.target.isNone && !isInternal s r && isHead s r && ttRoom s r

/-- Every control and bulk request that can begin does (R289). -/
def startReady (s : State) : State :=
  s.usb.requests.foldl (fun s r => if mayStart s r then issueUsb r s else s) s

/-! ### Port changes (R291, R301) -/

/-- The status-change bitmap of a hub: bit n for port n. -/
def changeMap (s : State) (ss : Bool) : Nat :=
  ((List.finRange 8).filter (fun n => (usbHalf s ss n).change != 0)).foldl (fun m n => m + 2 ^ n.val) 0

/-- HUB_CHANGE on the class 5 tunnel, once for each set of bits changed since the previous one, and event 40 with the
port (R291). -/
def reportChange (ss : Bool) (n : Fin 8) (s : State) : State :=
  let x := usbHalf s ss n
  if x.change &&& ~~~ x.reported = 0 then s
  else
    let s := updHalf ss n (fun x => { x with reported := x.change }) s
    let s := match usbTunnel s 5 with
      | some t => sendMessage t.host t.tid (usbHeader 4 ss 0 0 0 ++ [BitVec.ofNat 8 (changeMap s ss)]) s
      | none => s
    raise (.uplink s.usb.owner) 40 n.val s

/-- Sets change bits of a port half and reports them. -/
def setChange (ss : Bool) (n : Fin 8) (bits : Half) (s : State) : State :=
  reportChange ss n (updHalf ss n (fun x => { x with change := x.change ||| bits }) s)

/-- The speed R314 reports from a port's halves: 0 none, 1 low, 2 full, 3 high, 5 Gen 2x1 (4 where the SuperSpeedPlus
status names Gen 1). -/
def speedOf (h2 hS : UsbHalf) : Fin 6 :=
  if stConnected hS then (if bitsOf hS.status.toNat 10 3 = 0 then 4 else 5)
  else if !stConnected h2 then 0 else if h2.status.getLsbD 9 then 1 else if h2.status.getLsbD 10 then 3 else 2

/-- Powers a port half off: Powered-off state, its requests ended with status 5 (R284, R290). -/
def powerOffHalf (ss : Bool) (n : Fin 8) (s : State) : State :=
  endUsb (onHalf ss n) 5 (updHalf ss n (fun _ => ⟨0, 0, 0⟩) s)

/-- Whether a port that is powered has VBUS: enabled, not in a change of its charging role, on a Type-C port only while a
sink is attached (R310), and its eFuse channel not kept off by a trip (R429). -/
def mayDrive (s : State) (n : Fin 8) : Bool :=
  let p := s.usb.ports[n]
  upEnabled p && p.swap.isNone && (!p.typeC || p.attached)
    && !(decide (1 ≤ n.val) && decide (n.val ≤ 6) && s.power.efuses[efuseOf n.val].held)

/-- A port's VBUS follows the power bits of its halves (`mayDrive`). -/
def settleVbus (n : Fin 8) (s : State) : State :=
  let on := stPowered false (extHalf s false n) || stPowered true (extHalf s true n)
  settleEfuses (updUsbPort n (fun p => { p with
    vbus := on && mayDrive s n
    speed := speedOf (extHalf s false n) (extHalf s true n) }) s)

/-- An upstream reset, or the loss of the owner: every external port disabled and powered off, VBUS kept only at ports
with the continuity flag; Type-C and removable flags take effect (R281, R284, R312). -/
def resetUsbPorts (complete : Bool) (s : State) : State :=
  let one (s : State) (n : Fin 8) : State :=
    if !usbExternal s n.val then s
    else
      let s := if complete then powerOffHalf true n (powerOffHalf false n s)
        else updHalf true n (fun _ => ⟨0, 0, 0⟩) (updHalf false n (fun _ => ⟨0, 0, 0⟩) s)
      updUsbPort n (fun p => { p with
        vbus := p.vbus && upContinuity p, speed := 0, besl := 0, u1 := 0, u2 := 0, wake := false,
        wakeChange2 := false, wakeChangeS := false, overCurrent := false
        typeC := p.flags.getLsbD 1, removable := p.flags.getLsbD 5 }) s
  settlePorts7 (externals.foldl one s)

/-! ### The management function (R69, R303, R304) -/

/-- The mailbox of the USB owner's host, if the host is on this chip. -/
def usbMailbox (s : State) : Option MbNo := mailboxOfHost s s.usb.owner

/-- Whether a transfer on EP1 OUT of the management function is still held, so that its reset discards it (R69). -/
def partialOut (s : State) : Bool :=
  s.usb.requests.any (fun r => isInternal s r && umType r.hdr == 2 && umEp r.hdr == 1 && !umIn r.hdr)

/-- The effects of R69 on the management function: queued commands aborted, responses flagged, the carve applied, and
event 38 to the owner's mailbox. -/
def resetMgmt (discarded : Bool) (s : State) : State :=
  let s := updUsb (fun u => { u with
    mgmtConfig := false, mgmtAddr := #v[0, 0], altStorage := #v[0, 0], carve := u.carveNext, loopIso := []
    waiting := Vector.replicate 16 [], botSkip := #v[0, 0], sense := #v[(0, 0), (0, 0)] }) s
  let s := match usbMailbox s with
    | none => s
    | some m =>
      let taken := (s.pend.filter (fun p => p.src == .mailbox m)).map (fun p => p.seq)
        ++ (s.commits.filter (fun p => p.src == .mailbox m)).map (fun p => p.seq)
      updMb m (fun mb => { mb with
        waiting := mb.waiting.map (fun r => { r with flags := r.flags ||| 2 })
        rstAbort := mb.rstAbort || !mb.viaMgmt.isEmpty
        aborted := mb.aborted ++ mb.viaMgmt
        flag17 := mb.flag17 ++ mb.viaMgmt ++ taken
        viaMgmt := [] }) s
  raise (.uplink s.usb.owner) 38 (bitNat discarded) s

/-! ### Ownership (R280, R281) -/

/-- What USB_PORT_CFG reads at a target: the owner and policy at port 0, the flags of any other (R312). -/
def usbSetting (s : State) (n : Fin 8) : List Byte :=
  (if n = 0 then [BitVec.ofNat 8 s.usb.named.val, BitVec.ofNat 8 s.usb.policy.val]
   else [BitVec.ofNat 8 s.usb.ports[n].flags.toNat, 0]) ++ zeros 6

/-- Only the owner's uplink in fall-back, with the hub presented, shows a D+ pull-up and a SuperSpeed termination (R280). -/
def settleTerm (s : State) : State :=
  ([0, 1] : List Up).foldl (fun s u => updLink (linkOfUp u) (fun k => { k with
    usbTerm := k.state == 7 && s.usb.presented && hostOnUp s u == s.usb.owner }) s) s

/-- The hub is presented once its owner's uplink is in fall-back, or has its class 5 tunnel open, and island 9 is not
parked (R281, R286, R450); the charging roles follow (R308). A USB_PORT_CFG that moved ownership completes then. -/
def presentUsb (s : State) : State :=
  let on := !usbParked s && (ownerFallback s || (usbTunnel s 5).isSome)
  let s := settlePorts7 (settleTerm (updUsb (fun u => { u with presented := on }) s))
  if on then finish .usbOwner stOk (usbSetting s 0) s else s

/-- The hub's own upstream state returns to what follows a reset: unconfigured, not suspended, one TT (R282, R284). -/
def resetUpstream (s : State) : State :=
  updUsb (fun u => { u with hubConfig2 := false, hubConfigS := false, depth := 0, upSuspended := false, upL1 := false,
                            upU1 := false, upU2 := false, multiTt := false, ttStopped := 0 }) s

/-- Moves ownership (R281). -/
def moveUsb (new : HostNo) (s : State) : State :=
  let discarded := partialOut s
  let s := resetUpstream (updUsb (fun u => { u with requests := [], presented := false }) s)
  let s := resetUsbPorts false (resetMgmt discarded s)
  presentUsb (updUsb (fun u => { u with owner := new }) s)

/-- Whether an uplink may take ownership: Active or in fall-back (R280). -/
def mayOwnUsb (s : State) (u : Up) : Bool :=
  decide (u.val < uplinks s) && (s.links[linkOfUp u].state == 6 || s.links[linkOfUp u].state == 7)

/-- Whether the uplink of a host is attached in the sense of R280: Active, in Retrain, in Deep or in fall-back. -/
def usbAttached (s : State) (h : HostNo) : Bool :=
  match upOfHost s h with
  | some u => mayOwnUsb s u || decide (s.links[linkOfUp u].state = 8 ∨ s.links[linkOfUp u].state = 9)
  | none => inSpan s && s.links[(2 : LinkNo)].state == 6

/-- The loss or detach of a host: under policy 1 ownership passes from it to the other uplink, or back to the named one
(R280); its outstanding requests end without a completion. -/
def usbLose (h : HostNo) (s : State) : State :=
  if s.usb.owner != h then s
  else
    let s := updUsb (fun u => { u with requests := u.requests.filter (fun r => r.host != h), presented := false }) s
    if s.usb.policy = 0 then s
    else
      let others := (([0, 1] : List Up).filter (fun u => hostOnUp s u != h
        && (mayOwnUsb s u || (hostOnUp s u == s.usb.named && usbAttached s s.usb.named)))).map (hostOnUp s)
      match others with
      | [] => s
      | g :: _ => moveUsb g s

/-- The named uplink attaches while the owner that follows it has gone: under policy 1 ownership returns to it (R280). -/
def usbReturns (s : State) : State :=
  if s.usb.policy = 1 && s.usb.owner != s.usb.named && !usbAttached s s.usb.owner && usbAttached s s.usb.named
  then moveUsb s.usb.named s else s

/-! ### Hub requests (R283, R291; codes: log entry 50) -/

/-- A setup packet's fields; the recipient an interface; a class request. -/
def suInterface (b : List Byte) : Bool := byteAt b 0 % 32 == 1
def suClass (b : List Byte) : Nat := byteAt b 0 / 32 % 4

def suType (b : List Byte) : Nat := byteAt b 0
def suReq (b : List Byte) : Nat := byteAt b 1
def suValue (b : List Byte) : Nat := fieldAt b 2 2
def suIndex (b : List Byte) : Nat := fieldAt b 4 2
def suLength (b : List Byte) : Nat := fieldAt b 6 2

/-- The hub descriptor (R283): per-port power switching and over-current protection, TT Think Time 8 bit times,
bPwrOn2PwrGood 50, DeviceRemovable, the internal port non-removable. Fields the spec does not state are open. -/
def hubDescriptor (s : State) (ss : Bool) : List Byte :=
  let n := hubPorts s ss
  let fixed := ((List.finRange 8).filter (fun k => decide (1 ≤ k.val) && decide (k.val ≤ n) &&
    (k.val == n || !s.usb.ports[k].removable))).foldl (fun m k => m + 2 ^ k.val) 0
  let x (k : Nat) : Byte := Config.hubDescriptorByte ss k
  let chars : Nat := 1 + 8 + 4 * bitNat ((x 0).getLsbD 0)
  if ss then [12, 0x2A, BitVec.ofNat 8 n] ++ leBytes 2 chars ++ [50, x 1, x 2, x 3, x 4] ++ leBytes 2 fixed
  else [9, 0x29, BitVec.ofNat 8 n] ++ leBytes 2 chars ++ [50, x 1, BitVec.ofNat 8 fixed, 0xFF]

/-- The device descriptor of a function: VID, PID and bcdDevice as R279 states, the hubs' class with the multi-TT protocol
of the USB 2.0 hub (R282), and open fields. -/
def deviceDescriptor (s : State) (function : Nat) : List Byte :=
  let pid := if function = 1 then 0x9843 else if function = 0 then 0x9844 else 0x9845
  let x (k : Nat) : Byte := Config.descriptorByte function 0 k
  let cls : List Byte := if function = 2 then [x 4, x 5, x 6] else if function = 1 then [9, 0, 3] else [9, 0, 2]
  [18, 1, x 2, x 3] ++ cls ++ [x 7] ++ leBytes 2 0x3A71 ++ leBytes 2 pid
    ++ [BitVec.ofNat 8 s.fw.level.toNat, 0xB0] ++ (List.range 4).map (fun k => Config.descriptorByte function 0 (14 + k))

/-- The BOS descriptor: the USB 2.0 Extension of R300, which reports LPM with BESL, a baseline BESL of 2 and no deep BESL,
and a SuperSpeed and a SuperSpeedPlus capability with open fields (log entry 50); the management function reports high speed
and SuperSpeed among its speeds (R303). -/
def bosDescriptor (function : Nat) : List Byte :=
  let x (k : Nat) : Byte := Config.descriptorByte function 15 k
  let speeds : List Byte := if function = 2 then [0x0C, 0] else [x 1, x 2]
  [5, 15, 42, 0, 3] ++ [7, 16, 2] ++ leBytes 4 0x20E ++ [10, 16, 3, x 0] ++ speeds ++ [x 3, x 4, x 5, x 6]
    ++ [20, 16, 10] ++ (List.range 17).map (fun k => x (7 + k))

/-! ### The management function's configuration (R64, R303, R304, R306) -/

/-- The maximum burst, less one, that a SuperSpeedPlus bulk endpoint of the carve reports (R304). -/
def burstOf (s : State) (i : Nat) : Nat := min 15 (byteAt s.usb.carve i - 1)

/-- An endpoint descriptor: address, type (1 isochronous, 2 bulk, 3 interrupt), and at SuperSpeedPlus its companion, with
the maximum burst of its index in Table 7.8 and the log of its streams. The interval of a periodic endpoint is 125 µs. -/
def epDescriptor (ss : Bool) (s : State) (i addr type streams : Nat) : List Byte :=
  let x (k : Nat) : Byte := Config.descriptorByte 2 (512 + 2 * i + bitNat ss) k
  let mps : List Byte := if type = 2 then leBytes 2 (if ss then 1024 else 512) else [x 0, x 1]
  [7, 5, BitVec.ofNat 8 addr, BitVec.ofNat 8 type] ++ mps ++ [if type = 2 then 0 else 1]
    ++ (if !ss then [] else if type = 2 then [6, 48, BitVec.ofNat 8 (burstOf s i), BitVec.ofNat 8 streams, 0, 0]
        else [6, 48, x 2, x 3, x 4, x 5])

/-- An interface descriptor. -/
def ifDescriptor (n alt eps : Nat) (cls : List Byte) : List Byte :=
  [9, 4, BitVec.ofNat 8 n, BitVec.ofNat 8 alt, BitVec.ofNat 8 eps] ++ cls ++ [0]

/-- A UAS endpoint with its pipe usage: 1 command, 2 status, 3 data in, 4 data out. -/
def uasEndpoint (s : State) (i addr streams pipe : Nat) : List Byte :=
  epDescriptor true s i addr 2 streams ++ [4, 36, BitVec.ofNat 8 pipe, 0]

/-- Interface 1 or 2: Bulk-Only Transport at every speed, and at SuperSpeedPlus UAS with 32 streams (R306). -/
def storageInterface (ss : Bool) (s : State) (p : PciePort) : List Byte :=
  let i := 4 + 4 * p.val
  let e := 3 + 2 * p.val
  ifDescriptor (1 + p.val) 0 2 [8, 6, 0x50] ++ epDescriptor ss s (i + 2) (e + 1) 2 0
    ++ epDescriptor ss s (i + 3) (129 + e) 2 0
    ++ (if ss then ifDescriptor (1 + p.val) 1 4 [8, 6, 0x62] ++ uasEndpoint s i e 0 1 ++ uasEndpoint s (i + 1) (128 + e) 5 2
          ++ uasEndpoint s (i + 2) (e + 1) 5 4 ++ uasEndpoint s (i + 3) (129 + e) 5 3
        else [])

/-- The configuration descriptor of the management function: the interfaces and endpoints of Table 7.8, with the carve in
force. Classes and pipe codes are those of the storage class standards (log entry 50). -/
def mgmtConfiguration (ss : Bool) (s : State) : List Byte :=
  let x (k : Nat) : Byte := Config.descriptorByte 2 2 k
  let body := ifDescriptor 0 0 3 [255, x 0, x 1] ++ epDescriptor ss s 1 1 2 0 ++ epDescriptor ss s 2 129 2 0
    ++ epDescriptor ss s 3 130 3 0 ++ storageInterface ss s 0 ++ storageInterface ss s 1
    ++ ifDescriptor 3 0 4 [255, x 2, x 3] ++ epDescriptor ss s 12 7 2 0 ++ epDescriptor ss s 13 135 2 0
    ++ epDescriptor ss s 14 8 1 0 ++ epDescriptor ss s 15 136 1 0
  [9, 2] ++ leBytes 2 (9 + body.length) ++ [4, 1, x 4, x 5, x 6] ++ body

/-- The device qualifier of the management function, which a device with high-speed operation has: the fields of its device
descriptor for its other speed (R303). -/
def deviceQualifier : List Byte :=
  let x (k : Nat) : Byte := Config.descriptorByte 2 6 k
  [10, 6, 0, 2, x 4, x 5, x 6, x 7, x 8, 0]

/-- A descriptor by its type and index: device, the management function's configuration, and BOS as stated; any other is
open. -/
def descriptor (ss : Bool) (function value len : Nat) (s : State) : List Byte :=
  if value / 256 = 1 then (deviceDescriptor s function).take len
  else if value / 256 = 2 && function == 2 then (mgmtConfiguration ss s).take len
  else if value / 256 = 6 && function == 2 then deviceQualifier.take len
  else if value / 256 = 15 then (bosDescriptor function).take len
  else (List.range len).map (Config.descriptorByte function value)

/-- A change of a port half's status bits. -/
def setStatus (ss : Bool) (n : Fin 8) (bits : Half) (on : Bool) (s : State) : State :=
  updHalf ss n (fun x => { x with status := if on then x.status ||| bits else x.status &&& ~~~ bits }) s

/-- The management function sits on the internal port for good: it shows as connected once the port is powered (log entry
54). -/
def plugInternal (ss : Bool) (n : Fin 8) (s : State) : State :=
  if stConnected (usbHalf s ss n) then s else setChange ss n 1 (setStatus ss n 1 true s)

/-- The Type-C and removable flags take effect (R312). -/
def typeFlags (s : State) : State :=
  externals.foldl (fun s n => updUsbPort n (fun p => { p with typeC := p.flags.getLsbD 1, removable := p.flags.getLsbD 5 }) s) s

/-- A reset of the internal port (R291): the management function is reset with the effects of R69, and the powered port is
enabled, at high speed on the USB 2.0 hub (log entry 54). -/
def resetInternal (discarded ss : Bool) (n : Fin 8) (s : State) : State :=
  let s := typeFlags (resetMgmt discarded s)
  if !stPowered ss (usbHalf s ss n) then s
  else setChange ss n 0x10 (setStatus ss n (if ss then 0x03 else 0x403) true (setUsbPower ss n 0 s))

/-- SetPortFeature: none is a STALL. A port whose channel is turned off stays without power (R309); powering a port arms a
tripped channel again where its off time has passed (R429). -/
def setPortFeature (ss : Bool) (n : Fin 8) (feature selector : Nat) (s : State) : Option State :=
  let p := s.usb.ports[n]
  let internal := n.val == hubPorts s ss
  let discarded := partialOut s
  match feature with
  | 4 =>
    let s := endUsb (onHalf ss n) 8 (if internal then s else setStatus ss n 0x10 true s)
    some (if internal then resetInternal discarded ss n s else s)
  | 8 =>
    let on := setStatus ss n (BitVec.ofNat 16 (2 ^ powerBit ss)) true s
    some (if internal then plugInternal ss n on
      else if upEnabled p && efuseLimit s (efuseOf n.val) != 0 then settleVbus n (rearmEfuse (efuseOf n.val) on) else s)
  | 2 => if ss then none else some (setUsbPower ss n 4 s)
  | 5 =>
    if !ss then none
    else if selector = 1 || selector = 2 then
      (if upUOk p || internal then
        some (setUsbPower ss n (if selector = 1 then 2 else 3) s) else none)
    else if selector = 3 then some (setUsbPower ss n 4 s)
    else if selector = 0 then
      some (if usbPower ss (usbHalf s ss n) = 4 && !internal then
          egress (.usbResume (BitVec.ofNat 8 n.val)) (setUsbPower ss n 0 s)
        else setUsbPower ss n 0 s)
    else some s
  | 23 => if ss then some (updUsbPort n (fun p => { p with u1 := BitVec.ofNat 8 selector }) s) else none
  | 24 => if ss then some (updUsbPort n (fun p => { p with u2 := BitVec.ofNat 8 selector }) s) else none
  | 27 => if ss then some s else none
  | 28 => if !ss then none
    else if internal then some (resetInternal discarded ss n (endUsb (onHalf ss n) 8 s))
    else some (endUsb (onHalf ss n) 8 (setStatus ss n 0x10 true s))
  | _ => none

/-- The change bit that a C_ feature names. -/
def changeBit (ss : Bool) (feature : Nat) : Option Half :=
  match feature with
  | 16 => some 0x01
  | 17 => if ss then none else some 0x02
  | 18 => if ss then none else some 0x04
  | 19 => some 0x08
  | 20 => some 0x10
  | 23 => if ss then none else some 0x20
  | 25 => if ss then some 0x40 else none
  | 26 => if ss then some 0x80 else none
  | 29 => if ss then some 0x20 else none
  | _ => none

/-- ClearPortFeature: none is a STALL. -/
def clearPortFeature (ss : Bool) (n : Fin 8) (feature : Nat) (s : State) : Option State :=
  match changeBit ss feature with
  | some b => some (updHalf ss n (fun x => { x with change := x.change &&& ~~~ b, reported := x.reported &&& ~~~ b }) s)
  | none =>
    match feature with
    | 1 => if ss then none else some (endUsb (onHalf ss n) 5 (setStatus ss n 0x02 false s))
    | 2 => if ss then none else
        some (if n.val = hubPorts s ss then setUsbPower ss n 0 s
          else egress (.usbResume (BitVec.ofNat 8 n.val)) (setUsbPower ss n 0 s))
    | 8 => some (if n.val = hubPorts s ss then powerOffHalf ss n s else settleVbus n (powerOffHalf ss n s))
    | _ => none

/-- GetPortStatus: a latched wake not yet seen returns C_PORT_SUSPEND or C_PORT_LINK_STATE set (R302). -/
def getPortStatus (ss : Bool) (n : Fin 8) (s : State) : State × List Byte :=
  let x := usbHalf s ss n
  let p := s.usb.ports[n]
  let extra : Half := if ss then (if p.wakeChangeS then 0x40 else 0) else (if p.wakeChange2 then 4 else 0)
  (updUsbPort n (fun p => if ss then { p with wakeChangeS := false } else { p with wakeChange2 := false })
     (updHalf ss n (fun x => { x with change := x.change ||| extra, reported := x.reported ||| extra }) s),
   leBytes 2 x.status.toNat ++ leBytes 2 (x.change ||| extra).toNat)

/-- SetAndTestPortFeature(PORT_L1): the stall response where the port's flags forbid L1; otherwise the device's answer,
acknowledgement or not yet, which is an open value (R299). -/
def testL1 (n : Fin 8) (besl : Nat) (s : State) : State × List Byte :=
  let p := s.usb.ports[n]
  if !upL1Ok p then (s, [0x30])
  else
    let (b, s) := takeFree 1 s
    if b = 0 then (updUsbPort n (fun p => { p with besl := BitVec.ofNat 4 besl }) (setUsbPower false n 1 s), [0])
    else (s, [0x10])

/-- The TT requests of the USB 2.0 hub, which runs one TT for each port (R282): ClearTtBuffer, ResetTt, GetTtState, whose
data is open, and StopTt. -/
def ttRequest (n : Fin 8) (setup : List Byte) (s : State) : State × Option (List Byte) :=
  let stop (on : Bool) : State := updUsb (fun u => { u with ttStopped := setBit u.ttStopped n.val on }) s
  match suType setup, suReq setup with
  | 0x23, 8 => (s, some [])
  | 0x23, 9 => (stop false, some [])
  | 0x23, 11 => (stop true, some [])
  | 0xA3, 10 =>
    let len := suLength setup
    let (v, s) := takeFree (8 * len) s
    (s, some (leBytes len v.toNat))
  | _, _ => (s, none)

/-- One hub class request, answered as the hub of Table 7.1 answers it: the state after it, and its IN data, or a STALL. -/
def hubRequest (ss : Bool) (setup : List Byte) (s : State) : State × Option (List Byte) :=
  let n : Fin 8 := ⟨suIndex setup % 8, Nat.mod_lt _ (by decide)⟩
  let port := decide (1 ≤ suIndex setup % 256) && decide (suIndex setup % 256 ≤ hubPorts s ss)
  let sel := suIndex setup / 256
  let done (r : Option State) : State × Option (List Byte) :=
    match r with | some t => (t, some []) | none => (s, none)
  let give (b : List Byte) : State × Option (List Byte) := (s, some (b.take (suLength setup)))
  match suType setup, suReq setup with
  | 0xA0, 6 => give (hubDescriptor s ss)
  | 0xA0, 0 => give (zeros 4)
  | 0x20, 1 => (s, some [])
  | 0x20, 3 => (s, some [])
  | 0x20, 12 => if ss then (updUsb (fun u => { u with depth := BitVec.ofNat 8 (suValue setup) }) s, some []) else (s, none)
  | 0xA3, 0 =>
    if port then ((getPortStatus ss n s).1, some ((getPortStatus ss n s).2.take (suLength setup))) else (s, none)
  | 0xA3, 12 =>
    let m : Fin 8 := ⟨suIndex setup % 16 % 8, Nat.mod_lt _ (by decide)⟩
    let valid := decide (1 ≤ suIndex setup % 16) && decide (suIndex setup % 16 ≤ hubPorts s ss)
    if ss || suValue setup != 5 || !valid || !stEnabled (usbHalf s false m) then (s, none)
    else ((testL1 m (suIndex setup / 4096) s).1, some (testL1 m (suIndex setup / 4096) s).2)
  | 0x23, 3 => if port then done (setPortFeature ss n (suValue setup) sel s) else (s, none)
  | 0x23, 1 => if port then done (clearPortFeature ss n (suValue setup) s) else (s, none)
  | _, _ => if !ss && port then ttRequest n setup s else (s, none)

/-- U1_ENABLE and U2_ENABLE of the SuperSpeedPlus hub's upstream port (R282). -/
def upstreamEnable (ss : Bool) (function feature : Nat) (on : Bool) (s : State) : State :=
  if !ss || function != 1 then s
  else if feature = 48 then updUsb (fun u => { u with upU1 := on }) s
  else if feature = 49 then updUsb (fun u => { u with upU2 := on }) s
  else s

/-- A standard request to a function: 0 the USB 2.0 hub, 1 the SuperSpeedPlus hub, 2 the management function. A
configuration, and the hub's TT setting, are state; descriptors answer as R279, R300 and R303 state; UAS is offered at
SuperSpeedPlus only (R306). -/
def standardRequest (ss : Bool) (function : Nat) (setup : List Byte) (s : State) : State × Option (List Byte) :=
  match suType setup, suReq setup with
  | 0x00, 9 =>
    let on := suValue setup != 0
    let s := updUsb (fun u => if function = 0 then { u with hubConfig2 := on } else if function = 1 then
      { u with hubConfigS := on } else { u with mgmtConfig := on }) s
    (settlePorts7 s, some [])
  | 0x00, 5 =>
    (if function = 2 then updUsb (fun u => { u with
        mgmtAddr := u.mgmtAddr.set (if ss then 1 else 0) (BitVec.ofNat 7 (suValue setup)) (by split <;> decide) }) s
      else s, some [])
  | 0x00, 3 => (upstreamEnable ss function (suValue setup) true s, some [])
  | 0x00, 1 => (upstreamEnable ss function (suValue setup) false s, some [])
  | 0x80, 8 =>
    let on := if function = 0 then s.usb.hubConfig2 else if function = 1 then s.usb.hubConfigS else s.usb.mgmtConfig
    (s, some [BitVec.ofNat 8 (bitNat on)])
  | 0x80, 6 => (s, some (descriptor ss function (suValue setup) (suLength setup) s))
  | 0x01, 11 =>
    if function = 2 && !ss && suValue setup = 1 && decide (suIndex setup = 1 ∨ suIndex setup = 2) then (s, none)
    else if function = 2 && decide (suIndex setup = 1 ∨ suIndex setup = 2) && decide (suValue setup < 2) then
      let i : Fin 2 := ⟨(suIndex setup - 1) % 2, Nat.mod_lt _ (by decide)⟩
      let v : Fin 2 := ⟨suValue setup % 2, Nat.mod_lt _ (by decide)⟩
      (updUsb (fun u => { u with altStorage := u.altStorage.set i v }) s, some [])
    else if function = 0 && suIndex setup = 0 then (updUsb (fun u => { u with multiTt := suValue setup == 1 }) s, some [])
    else (s, some [])
  | 0x00, _ => (s, some [])
  | 0x01, _ => (s, some [])
  | 0x02, _ => (s, some [])
  | 0x80, 0 =>
    let u := if function = 1 then 4 * bitNat s.usb.upU1 + 8 * bitNat s.usb.upU2 else 0
    (s, some ((leBytes 2 u).take (suLength setup)))
  | 0x81, 0 => (s, some (zeros (min 2 (suLength setup))))
  | 0x82, 0 => (s, some (zeros (min 2 (suLength setup))))
  | _, _ => (s, none)

/-! ### Messages (R287 to R291) -/

/-- Whether a message's reserved bits are 0 (R287, R288). -/
def umReservedOk (b : List Byte) : Bool :=
  decide (byteAt b 1 < 2) && decide (byteAt b 5 < 128) && byteAt b 6 / 16 % 8 == 0 && decide (byteAt b 7 < 4)
    && !(byteAt b 11).testBit 6 && byteAt b 17 / 32 == 0 && byteAt b 19 == 0 && zeroAt b 22 2

/-- Whether the port a message names is one of Table 7.1. -/
def umPortOk (s : State) (b : List Byte) : Bool :=
  decide (1 ≤ byteAt b 4) && decide (byteAt b 4 ≤ hubPorts s (umSs b))

/-- Whether a message keeps the maximum (R287) and agrees with its kind: a REQUEST's port and its length with its data, a
HUB_REQUEST's 8 bytes and OUT data, a CANCEL without data; no kind may carry a port that Table 7.1 lacks. -/
def umWellFormed (s : State) (b : List Byte) : Bool :=
  let d := b.length - 24
  decide (24 ≤ b.length) && decide (d ≤ 49152) && umReservedOk b && (umPortOk s b || byteAt b 4 == 0) &&
    (if umKind b = 1 then
      umPortOk s b && decide (umLen b ≤ 49152) &&
        (if umType b = 0 then decide (8 ≤ d) && d == 8 + (if (byteAt b 24).testBit 7 then 0 else umLen b)
         else d == (if umIn b then 0 else umLen b))
     else if umKind b = 3 then
      decide (8 ≤ d) && decide (umLen b ≤ 49152) &&
        d == 8 + (if (byteAt b 24).testBit 7 then 0 else umLen b)
     else umKind b == 5 && d == 0 && umLen b == 0)

/-- The microframe index (R292). -/
def uframeNow (s : State) : Nat := s.clock.hubTime.toNat / 125000 % 16384

/-- The sizes of the packets of up to `k` transactions that move `n` bytes in packets of `mps`. -/
def packetSizes (mps : Nat) : Nat → Nat → List Nat
  | 0, _ => []
  | k + 1, n => if n ≤ mps then [n] else mps :: packetSizes mps k (n - mps)

/-- The bus time of one high-speed transaction of n bytes, in ps, by the formulas of USB 2.0 5.11.3 without host delay:
2.083 ns for each byte time of overhead and for each of Floor(3.167 + BitStuffTime), which is 7/6 of the bits. -/
def highSpeedTime (iso : Bool) (n : Nat) : Nat :=
  (if iso then 38 else 55) * 8 * 2083 + 2083 * ((19002 + 56000 * n) / 6000)

/-- The bus time a periodic request takes in its microframe, in ps, by the figures R297 names: the transactions that its
packet size and additional transactions allow in a microframe, at high speed by the formulas of USB 2.0 5.11.3; on the
SuperSpeedPlus bus its bytes at the port's 5 or 10 Gbit/s. -/
def usbLoad (s : State) (hdr : List Byte) : Nat :=
  if umSs hdr then umLen hdr * (if s.usb.ports[umPort hdr].speed = 4 then 1600 else 800)
  else ((packetSizes (umMps hdr) (umMore hdr + 1) (umLen hdr)).map (highSpeedTime (umType hdr == 1))).sum

/-- The share of a microframe, in ps: 80 % at high speed, 90 % on SuperSpeedPlus. -/
def usbShare (ss : Bool) : Nat := if ss then 112500000 else 100000000

/-- The periodic load already admitted for a port and microframe. -/
def loadAt (s : State) (ss : Bool) (n : Fin 8) (target : Nat) : Nat :=
  ((s.usb.requests.filter (fun r => onHalf ss n r && r.target == some target)).map (fun r => r.load)).sum

/-- The microframe a periodic request is served in, or the status it completes with (R295, R297). -/
def scheduleUsb (s : State) (hdr : List Byte) : Option Nat × Nat :=
  let now := uframeNow s
  let ss := umSs hdr
  let fits (t : Nat) : Bool := decide (loadAt s ss (umPort hdr) t + usbLoad s hdr ≤ usbShare ss)
  let mine := s.usb.requests.filter (fun r => umSs r.hdr == ss && umPort r.hdr == umPort hdr && umAddr r.hdr == umAddr hdr
    && umEp r.hdr == umEp hdr && umIn r.hdr == umIn hdr)
  let after (t : Nat) : Bool := mine.all (fun r => match r.target with
    | some q => decide (0 < (t + 16384 - q) % 16384 ∧ (t + 16384 - q) % 16384 < 8192)
    | none => true)
  if umAsap hdr then
    match ((List.range 63).map (fun d => (now + 2 + d) % 16384)).find? (fun t => fits t && after t) with
    | some t => (some t, 0)
    | none => (none, 4)
  else
    let d := (umFrame hdr + 16384 - now) % 16384
    if 64 < d then (none, 7) else if d < 2 then (none, 4)
    else if fits (umFrame hdr) then (some (umFrame hdr), 0) else (none, 4)

/-- Whether the tunnel carries the transfer type (Table 7.3). -/
def tunnelCarries (cls : BitVec 3) (type : Nat) : Bool :=
  if cls = 2 then type == 1 || type == 3 else if cls = 5 then type == 0 || type == 2 else type == 2

/-- A REQUEST (R289, R295, R299). One of a host that does not own the block finds no device (R286; log entry 117). Those
of the internal port wait for the management function to serve them. -/
def runRequest (t : Tunnel) (b : List Byte) (s : State) : State :=
  let hdr := b.take 24
  let n := umPort hdr
  let ss := umSs hdr
  let refuse (st : Nat) : State := sendCompletion t.host t.tid hdr st 0 [] s
  let periodic := umType hdr = 1 ∨ umType hdr = 3
  if t.closing then refuse 6
  else if t.host != s.usb.owner then refuse 5
  else if !tunnelCarries t.cls (umType hdr) then refuse 7
  else if 4096 ≤ (s.usb.requests.filter (fun r => r.host == t.host)).length ∨ s.perf.stagingMiB = 0 then refuse 9
  else if isNight s then
    if umType hdr = 2 && !umIn hdr then feedSig ⟨4, 0, n.val⟩ (b.drop 24) s else s
  else if !stEnabled (usbHalf s ss n) then refuse 5
  else
    let (target, st) := if periodic then scheduleUsb s hdr else (none, 0)
    if st != 0 then refuse st
    else
      let asleep := halfAsleep s ss n
      let r : UsbRequest := ⟨t.host, t.tid, hdr, b.drop 24, if asleep then .resuming else .scheduled, target,
        if periodic then usbLoad s hdr else 0⟩
      let s := updUsb (fun u => { u with requests := u.requests ++ [r] }) s
      if asleep then egress (.usbResume (BitVec.ofNat 8 n.val)) s else startReady s

/-- A request is over: its COMPLETION, and what waited for it begins (R289). -/
def endRequest (r : UsbRequest) (status actual : Nat) (data : List Byte) (s : State) : State :=
  sendCompletion r.host r.tid r.hdr status actual data (updUsb (fun u => { u with requests := u.requests.erase r }) s)

/-- A request ends, and the requests of its endpoint that may start now do. -/
def finishUsb (r : UsbRequest) (status actual : Nat) (data : List Byte) (s : State) : State :=
  startReady (endRequest r status actual data s)

/-- The outstanding request of a host with an xid. -/
def findRequest (s : State) (h : HostNo) (xid : Nat) : Option UsbRequest :=
  s.usb.requests.find? (fun r => r.host == h && umXid r.hdr == xid)

/-- A CANCEL (R290): no data of a request that is not on the bus has moved; of one that is, how much and which are open
values. -/
def cancelRequest (r : UsbRequest) (s : State) : State :=
  if isInternal s r && umType r.hdr != 0 then
    (if umIn r.hdr then endRequest r 6 r.data.length r.data s
     else endRequest r 6 (umLen r.hdr - r.data.length) [] s)
  else if r.phase != .onBus then endRequest r 6 0 [] s
  else
    let (v, s) := takeFree 16 s
    let n := v.toNat % (umLen r.hdr + 1)
    if umIn r.hdr then
      let (d, s) := takeFree (8 * n) s
      endRequest r 6 n (leBytes n d.toNat) s
    else endRequest r 6 n [] s

/-- A CANCEL: the request it names, if it is outstanding. -/
def runCancel (h : HostNo) (b : List Byte) (s : State) : State :=
  match findRequest s h (umXid b) with
  | none => s
  | some r => startReady (cancelRequest r s)

/-- Closing a tunnel cancels what it has outstanding, as CANCEL does (R164). -/
def cancelTunnel (h : HostNo) (tid : Byte) (s : State) : State :=
  startReady ((s.usb.requests.filter (fun r => r.host == h && r.tid == tid)).foldl (fun s r => cancelRequest r s) s)

/-- A HUB_REQUEST: its COMPLETION carries the hub's answer, or status 1 for a STALL (R291). -/
def runHubRequest (t : Tunnel) (b : List Byte) (s : State) : State :=
  if t.host != s.usb.owner then sendMessage t.host t.tid (completionOf b 5 0 []) s else
  let r := hubRequest (umSs b) ((b.drop 24).take 8) s
  match r.2 with
  | some d => sendMessage t.host t.tid (completionOf b 0 d.length d) r.1
  | none => sendMessage t.host t.tid (completionOf b 1 0 []) r.1

/-- What the head message of a host's tunnel is, for the USB block: its kind when it is well formed and its host owns the
block. -/
inductive UsbMessage where
  | none | request | hub | cancel | malformed
deriving DecidableEq, Repr

def classifyUsb (s : State) (t : Tunnel) (b : List Byte) : UsbMessage :=
  if !isUsbTunnel t then .none
  else if !umWellFormed s b then .malformed
  else if umKind b = 1 then .request
  else if umKind b = 3 then (if t.cls = 5 then .hub else .malformed)
  else .cancel

/-- A malformed message: completed with status 7 when its xid can be read, otherwise discarded and counted (R288). -/
def runMalformed (t : Tunnel) (b : List Byte) (s : State) : State :=
  if 4 ≤ b.length then sendMessage t.host t.tid (completionOf b 7 0 []) s
  else updUsb (fun u => { u with discarded := satInc u.discarded }) s

/-! ### Endpoint errors (R305) -/

/-- Whether event 43 of an endpoint was raised within the last 1 ms. -/
def recentEndpoint (s : State) (ep : Fin 16) : Bool :=
  match s.usb.seen[ep] with
  | some t => decide ((s.clock.hubTime - t).toNat < 1000000)
  | none => false

/-- Event 43 of an endpoint, at most once in 1 ms. -/
def endpointError (ep : Fin 16) (s : State) : State :=
  if recentEndpoint s ep then s
  else raise (.uplink s.usb.owner) 43 ep.val
    (updUsb (fun u => { u with seen := u.seen.set ep (some s.clock.hubTime) }) s)

/-! ### Admission (R298) -/

/-- A4 for the USB block: the USB owner's tunnels in each direction against the enabled external ports. -/
def admitUsb (s : State) (ts : List Tunnel) (h : HostNo) : Bool :=
  if h != s.usb.owner then true
  else
    let on := (List.range 8).filter (fun n => usbExternal s n && (match s.usb.ports[n]? with
      | some p => upEnabled p | none => false))
    let ss := (on.filter (fun n => n ≤ usbPortsS s)).length
    let periodic := 384 * on.length + 8700 * ss
    let total := 432 * on.length + 9300 * ss
    let sum (d : Bool) (f : Tunnel → Bool) : Nat :=
      ((ts.filter (fun t => t.host == h && t.cross.isNone && f t)).map (committed d)).sum
    ([true, false] : List Bool).all (fun d =>
      decide (sum d (fun t => t.cls == 2) ≤ periodic) && decide (sum d isUsbTunnel ≤ total))

end Sys2Proof.Machine
end

