-- ==== Sys2Proof/Machine/NetOps.lean ====
section
/-! DEFINITION. Operations of the network switch core (08): ports and their settings, counters, ingress filtering, learning and forwarding, the frame buffer, pause, overflow and the resequencer, egress and ECN marking. -/
namespace Sys2Proof.Machine

def updNet (f : Net → Net) (s : State) : State := { s with net := f s.net }
def updSw (p : SwPort) (f : NetPort → NetPort) (s : State) : State :=
  updNet (fun n => { n with ports := upd n.ports p f }) s
def updEth (p : EthPort) (f : EthState → EthState) (s : State) : State :=
  updNet (fun n => { n with eth := upd n.eth p f }) s
def updQueue (p : SwPort) (q : Fin 8) (f : NetQueue → NetQueue) (s : State) : State :=
  updSw p (fun x => { x with queues := upd x.queues q f }) s

/-! ### Ports (R316, R317, R346) -/

/-- The physical port a switch port is. -/
def ethOf (p : SwPort) : Option EthPort := if h : p.val < 2 then some ⟨p.val, h⟩ else none
def swOfEth (p : EthPort) : SwPort := ⟨p.val, by omega⟩

/-- The switch port of a host's virtual port. -/
def virtualPort (h : HostNo) (index : Nat) : SwPort := ⟨2 + 4 * h.val + index % 4, by omega⟩

/-- The host of a virtual port. -/
def swHost (p : SwPort) : Option HostNo := if 2 ≤ p.val then some ⟨(p.val - 2) / 4 % 4, Nat.mod_lt _ (by decide)⟩ else none

/-- The Ethernet source address of a physical port in the identity store, in wire order: unicast and locally administered
(R321). -/
def ethAddr (e : EthPort) : List Byte :=
  ((Config.ethAddrByte e.val 0 &&& 0xFC) ||| 0x02) :: (List.range 5).map (fun k => Config.ethAddrByte e.val (k + 1))

/-- Whether a switch port exists in the variant (Table 8.1). -/
def swPresent (s : State) (p : SwPort) : Bool :=
  if p.val = 0 then true else if p.val = 1 then s.variant != .qt9824 else if p.val < 6 then true
  else s.variant == .qt9840

/-- The fields of a port's setting (Table 8.7). -/
def ncIface (x : NetPort) : Nat := byteAt x.cfg 0
def ncFlag (x : NetPort) (k : Nat) : Bool := (byteAt x.cfg 1).testBit k
def ncFlow (x : NetPort) : Nat := byteAt x.cfg 2
def ncLossless (x : NetPort) : Nat := byteAt x.cfg 3
def ncMax (x : NetPort) : Nat := fieldAt x.cfg 4 2
def ncCable (x : NetPort) : Nat := fieldAt x.cfg 6 2
def ncPrio (x : NetPort) : Fin 8 := ⟨byteAt x.cfg 8 % 8, Nat.mod_lt _ (by decide)⟩
def ncRecipient (x : NetPort) : Nat := byteAt x.cfg 9
def ncPvid (x : NetPort) : BitVec 12 := BitVec.ofNat 12 (fieldAt x.cfg 10 2)
def ncLearn (x : NetPort) : Nat := fieldAt x.cfg 12 2
def ncWeight (x : NetPort) (q : Fin 8) : Nat := byteAt x.cfg (16 + q.val)
def ncStorm (x : NetPort) (k : Fin 3) : Nat := fieldAt x.cfg (24 + 2 * k.val) 2

/-- A class 4 or class 7 tunnel that the switch core terminates. -/
def isNetTunnel (t : Tunnel) : Bool := t.cls == 4 || (t.cls == 7 && t.endpoint != 0x0010)

/-- One that this chip's switch core terminates: it does not cross to the partner (R388). -/
def carriesPort (t : Tunnel) : Bool := isNetTunnel t && t.cross.isNone

/-- The tunnel that carries a virtual port. -/
def swCarrier (s : State) (p : SwPort) : Option Tunnel :=
  match swHost p with
  | some h => s.tunnels.find? (fun t => t.host == h && carriesPort t && t.endpoint.toNat == (p.val - 2) % 4)
  | none => none

/-- Whether a switch port is up: a physical one by its link (Night, whose links stay down,
computes its egress, R392), a virtual one while its tunnel is Open, Held, Degraded or
Silent (R317). -/
def swUp (s : State) (p : SwPort) : Bool :=
  match ethOf p with
  | some e => s.net.eth[e].up || (isNight s && ncIface s.net.ports[p] != 0)
  | none => match swCarrier s p with
    | some t => let st := tunState s t; st == 1 || st == 2 || st == 3 || st == 6
    | none => false

/-- Whether a switch port is there to forward to: those of hosts C and D only in Span (Table 8.1). -/
def swExists (s : State) (p : SwPort) : Bool := swPresent s p && (decide (p.val < 10) || inSpan s)

/-- The rate a physical port's link runs at, in Mbit/s, by its speed code (R346). -/
def linkRate (s : State) (e : EthPort) : Nat := [0, 10, 100, 1000, 10000, 25000].getD s.net.eth[e].speed.val 0

/-- The line rate of a physical port's interface in Mbit/s; 1000BASE-X and SGMII count 1,000 (R342). -/
def ifaceRate (n : Nat) : Nat := if n = 1 then 25000 else if n = 2 then 10000 else if n = 0 then 0 else 1000

/-! ### Counters (R343) -/

/-- Advances a counter of a port by n; a threshold reached in its window raises event 49 once. -/
def netCount (p : SwPort) (k : Fin 24) (n : Nat) (s : State) : State :=
  let t := s.net.ports[p].thresholds[k]
  let c := satAdd t.count n
  let hit := t.threshold != 0 && !t.raised && decide (t.threshold.toNat ≤ c.toNat)
  let s := updSw p (fun x => { x with
    counters := upd x.counters k (fun v => satAdd v n)
    thresholds := x.thresholds.set k { t with count := c, raised := t.raised || hit }
    fired := if hit then setBit x.fired k.val true else x.fired }) s
  if hit then raise .all 49 k.val s else s

/-! ### The frame buffer (R331, R334) -/

/-- Cells of a frame. -/
def cellsOf (len : Nat) : Nat := (len + 255) / 256

def findFrame (s : State) (id : Nat) : Option NetFrame := s.net.frames.find? (fun f => f.id == id)

/-- Every entry of every queue. -/
def allEntries (s : State) : List NetEntry := s.net.ports.toList.flatMap (fun x => x.queues.toList.flatMap (fun q => q.entries))

/-- Whether a frame has an on-die copy, a read-back under way included. -/
def onDie (s : State) (id : Nat) : Bool := (allEntries s).any (fun e => e.frame == id && e.place != .dram)

/-- The frames with an on-die copy. -/
def dieFrames (s : State) : List NetFrame := s.net.frames.filter (fun f => onDie s f.id)

def cellSum (fs : List NetFrame) : Nat := (fs.map (fun f => cellsOf f.len)).sum

/-- H, the headroom of one counted unit, rounded up to whole cells: counted in 8,000ths of a byte, so that nothing is lost
before the rounding (R334). -/
def headroomUnit (x : NetPort) : Nat :=
  ((2 * ncMax x + 256) * 8000 + ifaceRate (ncIface x) * (10 * ncCable x + 1000) + 2047999) / 2048000

/-- The counted units of a physical port: one in mode 1, the lossless priorities in mode 2. -/
def countedUnits (x : NetPort) : Nat :=
  if ncFlow x = 1 then 1
  else if ncFlow x = 2 then ((List.range 8).filter (fun k => (ncLossless x).testBit k)).length else 0

/-- Headroom cells reserved for a physical port, and in all. -/
def headroomOf (x : NetPort) : Nat := countedUnits x * headroomUnit x
def headroomAll (s : State) : Nat := headroomOf s.net.ports[(0 : SwPort)] + headroomOf s.net.ports[(1 : SwPort)]

/-- The shared pool, and what is used of it. -/
def sharedPool (s : State) : Nat := 8192 - headroomAll s
def sharedUsed (s : State) : Nat := cellSum ((dieFrames s).filter (fun f => !f.headroom))

/-- The unit that a frame received on a physical port counts in: bit 0 in mode 1, its priority in mode 2. -/
def unitOf (x : NetPort) (prio : Fin 8) : Option Nat :=
  if ncFlow x = 1 then some 0 else if ncFlow x = 2 && (ncLossless x).testBit prio.val then some prio.val else none

/-- The frames that count in a unit of a port. -/
def unitFrames (s : State) (p : SwPort) (u : Nat) : List NetFrame :=
  (dieFrames s).filter (fun f => f.ingress == p && unitOf s.net.ports[p] f.prio == some u)

/-- The on-die cells of a queue, and all its cells (R331, R340). -/
def queueDie (s : State) (q : NetQueue) : Nat :=
  ((q.entries.filter (fun e => e.place != .dram)).map (fun e => match findFrame s e.frame with
    | some f => cellsOf f.len | none => 0)).sum
def queueDepth (s : State) (q : NetQueue) : Nat :=
  (q.entries.map (fun e => match findFrame s e.frame with | some f => cellsOf f.len | none => 0)).sum

/-- Bytes and frames a physical port holds in DRAM, its read-backs under way included. -/
def heldEntries (s : State) (p : SwPort) : List NetEntry :=
  s.net.ports[p].queues.toList.flatMap (fun q => q.entries.filter (fun e => e.place != .onDie))
def heldBytes (s : State) (p : SwPort) : Nat :=
  ((heldEntries s p).map (fun e => match findFrame s e.frame with | some f => f.len | none => 0)).sum

/-- The size in bytes of the overflow region that may take new frames (R336), and its use. -/
def overflowRoom (s : State) : Nat := 1048576 * (match s.net.shrink with | some n => n | none => s.perf.overflowMiB)
def overflowUsed (s : State) : Nat := heldBytes s 0 + heldBytes s 1

/-- Frees the frames that no queue names any more. -/
def sweepFrames (s : State) : State :=
  let ids := (allEntries s).map (fun e => e.frame)
  updNet (fun n => { n with frames := n.frames.filter (fun f => ids.contains f.id) }) s

/-! ### Pause (R333, R334) -/

/-- A frame sent on a physical port, less its FCS: counted and padded to 60 bytes (R318). -/
def sendEth (p : EthPort) (b : List Byte) (good : Bool) (s : State) : State :=
  let b := b ++ zeros (60 - b.length)
  egress (.ethFrame p b good) (netCount (swOfEth p) 3 (b.length + 4) (netCount (swOfEth p) 2 1 s))

/-- Whether a port sends pause for its mode: with 1000BASE-X auto-negotiation, only as resolved. -/
def mayPause (s : State) (e : EthPort) : Bool :=
  let x := s.net.ports[swOfEth e]
  ncFlow x == 2 || (ncFlow x == 1 && (ncIface x != 3 || !ncFlag x 1 || s.net.eth[e].pauseTx))
def honoursPause (s : State) (e : EthPort) : Bool :=
  let x := s.net.ports[swOfEth e]
  ncFlow x == 1 && (ncIface x != 3 || !ncFlag x 1 || s.net.eth[e].pauseRx)

/-- The address 01-80-C2-00-00-0x. -/
def linkLocal (x : Byte) : List Byte := [0x01, 0x80, 0xC2, 0, 0, x]

/-- A pause or PFC frame for one unit of a port. -/
def pauseFrame (s : State) (e : EthPort) (u quanta : Nat) : List Byte :=
  let src := ethAddr e
  let q := beBytes 2 quanta
  linkLocal 1 ++ src ++ [0x88, 0x08] ++
    (if ncFlow s.net.ports[swOfEth e] = 2 then
      [0x01, 0x01] ++ beBytes 2 (2 ^ u) ++ (List.range 8).flatMap (fun k => if k = u then q else [0, 0])
     else [0x00, 0x01] ++ q)

def sendPause (e : EthPort) (u quanta : Nat) (s : State) : State :=
  if mayPause s e && s.net.eth[e].up then
    netCount (swOfEth e) 12 1 (sendEth e (pauseFrame s e u quanta) true s)
  else s

/-- XOFF at 128 cells, XON at 96, for one unit of a physical port. -/
def checkUnit (e : EthPort) (s : State) (u : Nat) : State :=
  let p := swOfEth e
  let n := cellSum (unitFrames s p u)
  let off := s.net.ports[p].xoff.getLsbD u
  if !off && decide (128 ≤ n) then
    sendPause e u 0xFFFF (updSw p (fun x => { x with xoff := setBit x.xoff u true }) s)
  else if off && decide (n ≤ 96) then sendPause e u 0 (updSw p (fun x => { x with xoff := setBit x.xoff u false }) s)
  else s

/-- Every unit of both physical ports. -/
def checkUnits (s : State) : State :=
  ([0, 1] : List EthPort).foldl (fun s e => (List.range 8).foldl (checkUnit e) s) s

/-! ### The resequencer (R337 to R339) -/

/-- Releases numbers in order while the next one is on-die. -/
def releaseSeq (p : SwPort) (q : Fin 8) : Nat → State → State
  | 0, s => s
  | n + 1, s =>
    let x := s.net.ports[p].queues[q]
    if x.entries.any (fun e => e.seq == x.nextRel && e.place == .onDie) then
      releaseSeq p q n (updQueue p q (fun x => { x with nextRel := x.nextRel + 1 }) s)
    else s

/-- Event 48, once per port in any 1 ms. -/
def reseqEvent (p : EthPort) (s : State) : State :=
  if (match s.net.eth[p].lastEvent with
      | some t => decide ((s.clock.hubTime - t).toNat < 1000000) | none => false) = true then s
  else raise .all 48 (256 * p.val) (updEth p (fun e => { e with lastEvent := some s.clock.hubTime }) s)

/-- Gives the next number up: counter 21, event 48, and the frames behind it up to the next gap (R338). -/
def giveUp (p : EthPort) (q : Fin 8) (s : State) : State :=
  let sp := swOfEth p
  let s := updQueue sp q (fun x => { x with nextRel := x.nextRel + 1 }) s
  releaseSeq sp q 4096 (reseqEvent p (netCount sp 21 1 s))

/-- The oldest entry of a queue that has not been released. The numbers alone do not tell entries apart: more than 65,536
may be held. -/
def oldest (x : NetQueue) : Option NetEntry :=
  (x.entries.dropWhile (fun e => e.place == .onDie && decide (32768 ≤ (e.seq - x.nextRel).toNat))).head?

/-- Whether the next number to release is missing while later-numbered frames wait (R338). -/
def missingNext (x : NetQueue) : Bool := match oldest x with | some e => e.seq != x.nextRel | none => false

/-- Whether a frame W or more numbers ahead of the missing number has arrived. -/
def farAhead (s : State) (p : EthPort) (q : Fin 8) : Bool :=
  let x := s.net.ports[swOfEth p].queues[q]
  x.entries.any (fun e => e.place == .onDie && decide (s.net.eth[p].reseqW.toNat ≤ (e.seq - x.nextRel).toNat)
    && decide ((e.seq - x.nextRel).toNat < 32768))

/-- Gives numbers up while a frame is too far ahead; a disabled resequencer passes over lost numbers (R338, R339). -/
def settleSeq (p : EthPort) (q : Fin 8) : Nat → State → State
  | 0, s => s
  | n + 1, s =>
    let x := s.net.ports[swOfEth p].queues[q]
    if s.net.eth[p].reseq then (if farAhead s p q then settleSeq p q n (giveUp p q s) else s)
    else if missingNext x then
      settleSeq p q n (releaseSeq (swOfEth p) q 4096 (updQueue (swOfEth p) q (fun x => { x with nextRel := x.nextRel + 1 }) s))
    else s

/-- Issues read-backs in sequence order as the queue limit, the pool and the window W allow, one at a time with the
resequencer disabled (R335, R337, R339). -/
def issueReads (p : EthPort) (q : Fin 8) : Nat → State → State
  | 0, s => s
  | n + 1, s =>
    let sp := swOfEth p
    let x := s.net.ports[sp].queues[q]
    match x.entries.find? (fun e => e.place == .dram) with
    | none => s
    | some e =>
      match findFrame s e.frame with
      | none => s
      | some f =>
        let c := cellsOf f.len
        if queueDie s x + c ≤ x.limit && sharedUsed s + (if onDie s f.id then 0 else c) ≤ sharedPool s
            && decide ((e.seq - x.nextRel).toNat < s.net.eth[p].reseqW.toNat)
            && (s.net.eth[p].reseq || !x.entries.any (fun y => y.place == .reading)) then
          issueReads p q n (updQueue sp q (fun x => { x with
            entries := x.entries.map (fun y => if y.frame == e.frame then { y with place := .reading } else y) }) s)
        else s

/-- Brings a physical queue up to date: releases, numbers given up, and read-backs. -/
def settleQueue (p : EthPort) (q : Fin 8) (s : State) : State :=
  issueReads p q 1024 (settleSeq p q 65536 (releaseSeq (swOfEth p) q 4096 s))

/-- Brings every physical queue up to date, where on-die cells have been freed. -/
def settleNet (s : State) : State :=
  checkUnits (([0, 1] : List EthPort).foldl (fun s p => (List.finRange 8).foldl (fun s q => issueReads p q 1024 s) s)
    (sweepFrames s))

/-! ### Placement (R332, R335) -/

/-- Adds a numbered entry to a queue. -/
def pushEntry (p : SwPort) (q : Fin 8) (id : Nat) (place : NetPlace) (s : State) : State :=
  updQueue p q (fun x => { x with nextSeq := x.nextSeq + 1, entries := x.entries ++ [⟨x.nextSeq, id, place⟩] }) s

/-- The bytes in a port's 64 KiB staging buffer, from which 50 Gbit/s are written to DRAM (R335; log entry 120). -/
def stagedNow (s : State) (e : EthPort) : Nat :=
  s.net.eth[e].staged - (s.clock.hubTime - s.net.eth[e].stagedAt).toNat * 25 / 4

/-- The DRAM path. -/
def placeDram (e : EthPort) (q : Fin 8) (f : NetFrame) (s : State) : State :=
  let p := swOfEth e
  let held := heldBytes s p
  if !s.net.eth[e].overflow || decide (1048576 * s.net.eth[e].limitMiB < held + f.len)
      || decide (overflowRoom s < overflowUsed s + f.len) || decide (65536 < stagedNow s e + f.len) then netCount p 20 1 s
  else
    let s := updEth e (fun x => { x with staged := stagedNow s e + f.len, stagedAt := s.clock.hubTime }) s
    let empty := (heldEntries s p).isEmpty
    let s := netCount p 19 1 (pushEntry p q f.id .dram s)
    if empty then raise .all 47 (256 * p.val + 1) s else s

/-- Places a frame of the buffer in one egress queue by the first rule of R332 that applies. -/
def placeFrame (id : Nat) (s : State) (p : SwPort) : State :=
  match findFrame s id with
  | none => s
  | some f =>
    let q := f.prio
    let x := s.net.ports[p].queues[q]
    let c := cellsOf f.len
    let fresh := if onDie s id then 0 else c
    let die (s : State) : State := match ethOf p with | some e => settleQueue e q s | none => releaseSeq p q 4096 s
    let lossless := match ethOf f.ingress with
      | some _ => unitOf s.net.ports[f.ingress] q
      | none => none
    if !swUp s p then netCount p 17 1 s
    else if (ethOf p).isSome && x.entries.any (fun e => e.place != .onDie) then
      (match ethOf p with | some e => settleQueue e q (placeDram e q f s) | none => s)
    else if queueDie s x + c ≤ x.limit && sharedUsed s + fresh ≤ sharedPool s then die (pushEntry p q id .onDie s)
    else match lossless with
      | some u =>
        if sharedUsed s + fresh ≤ sharedPool s then die (pushEntry p q id .onDie s)
        else if cellSum ((unitFrames s f.ingress u).filter (fun g => g.headroom)) + fresh ≤ headroomUnit s.net.ports[f.ingress] then
          die (pushEntry p q id .onDie (updNet (fun n => { n with
            frames := n.frames.map (fun g => if g.id == id then { g with headroom := true } else g) }) s))
        else netCount f.ingress 16 1 s
      | none =>
        match ethOf p with
        | some e => if s.net.eth[e].overflow then settleQueue e q (placeDram e q f s) else netCount p 17 1 s
        | none => netCount p 17 1 s

/-! ### Addresses (R323) -/

/-- The bytes of an address, in wire order. -/
def addrOf (b : List Byte) : BitVec 48 := BitVec.ofNat 48 (beNat (b.take 6))

def findAddr (s : State) (a : BitVec 48) (vid : BitVec 12) : Option NetAddr :=
  s.net.addrs.find? (fun e => e.addr == a && e.vid == vid)

/-- Whether the bucket of an address, or the spill entries, have room: the answer is the spill flag of a new entry. -/
def addrRoom (s : State) (a : BitVec 48) (vid : BitVec 12) : Option Bool :=
  let b := Config.addressBucket a vid
  let inBucket := (s.net.addrs.filter (fun e => !e.spill && Config.addressBucket e.addr e.vid == b)).length
  if inBucket < 4 then some false
  else if (s.net.addrs.filter (fun e => e.spill)).length < 64 then some true else none

/-- Learns a source address on a port. -/
def learnAddr (p : SwPort) (a : BitVec 48) (vid : BitVec 12) (s : State) : State :=
  let now := s.clock.hubTime
  let here : Byte := BitVec.ofNat 8 p.val
  let full := ncLearn s.net.ports[p] ≤ (s.net.addrs.filter (fun e => !e.fixed && e.port == here)).length
  match findAddr s a vid with
  | some e =>
    if e.fixed then s
    else if e.port != here && full then netCount p 22 1 s
    else updNet (fun n => { n with addrs := n.addrs.map (fun x =>
      if x.addr == a && x.vid == vid then { x with port := here, seen := now } else x) }) s
  | none =>
    match (if full then none else addrRoom s a vid) with
    | some sp => updNet (fun n => { n with addrs := n.addrs ++ [⟨a, vid, here, false, sp, now⟩] }) s
    | none => netCount p 22 1 s

/-! ### Ingress (R318, R322 to R328) -/

/-- A frame split at its tag: its priority and VID if tagged, and its bytes without the tag. -/
def splitTag (b : List Byte) : Option (Nat × Nat) × List Byte :=
  if beField b 12 2 = 0x8100 && decide (18 ≤ b.length) then
    (some (byteAt b 14 / 32, beField b 14 2 % 4096), b.take 12 ++ b.drop 16)
  else (none, b)

def vlanOf (s : State) (vid : BitVec 12) : Vlan := sparseGet ⟨0, 0⟩ s.net.vlans vid.toNat

/-- Takes a storm-control charge for a flooded frame: kind 0 broadcast, 1 unknown unicast, 2 multicast; false when the
frame is dropped (R327). -/
def stormPass (p : SwPort) (k : Fin 3) (len : Nat) (s : State) : Bool × State :=
  let x := s.net.ports[p]
  if !ncFlag x (4 + k.val) then (true, s)
  else if ncStorm x k = 0 || decide (x.storm[k] < 8 * len) then (false, netCount p 15 1 s)
  else (true, updSw p (fun x => { x with storm := upd x.storm k (fun b => b - 8 * len) }) s)

/-- The ports a flooded or forwarded frame may leave by: members of its VID other than the ingress port, and between ETH0
and ETH1 only where both have bridging permitted (R324). -/
def mayLeave (s : State) (ingress : SwPort) (vid : BitVec 12) (p : SwPort) : Bool :=
  p != ingress && swExists s p && (vlanOf s vid).members.getLsbD p.val &&
    (!(ingress.val < 2 && p.val < 2) || (ncFlag s.net.ports[(0 : SwPort)] 2 && ncFlag s.net.ports[(1 : SwPort)] 2))

/-- The ports of a link-local frame (R325). -/
def linkLocalPorts (s : State) (ingress : SwPort) : List SwPort :=
  if ingress.val < 2 then
    (List.finRange 18).filter (fun p => p.val == ncRecipient s.net.ports[ingress] && decide (2 ≤ p.val) && swExists s p)
  else (List.finRange 18).filter (fun p => decide (p.val < 2) && swPresent s p && ncRecipient s.net.ports[p] == ingress.val)

/-- Puts a frame into the buffer and into the queues of its ports. -/
def storeFrame (f : NetFrame) (ps : List SwPort) (s : State) : State :=
  let id := s.net.nextId
  let s := updNet (fun n => { n with nextId := id + 1, frames := n.frames ++ [{ f with id := id }] }) s
  checkUnits (sweepFrames (ps.foldl (placeFrame id) s))

/-- The ports of a frame that has passed ingress filtering (R324, R327). -/
def forwardPorts (f : NetFrame) (s : State) : List SwPort × State :=
  let dst := addrOf f.data
  match findAddr s dst f.vid with
  | some e =>
    if e.port = 0xFF then ([], s)
    else if e.port.toNat = f.ingress.val then ([], netCount f.ingress 14 1 s)
    else ((List.finRange 18).filter (fun p => p.val == e.port.toNat && mayLeave s f.ingress f.vid p), s)
  | none =>
    let group := (byteAt f.data 0).testBit 0
    let k : Fin 3 := if dst = 0xFFFFFFFFFFFF then 0 else if group then 2 else 1
    let (pass, s) := stormPass f.ingress k f.len s
    (if pass = true then (List.finRange 18).filter (mayLeave s f.ingress f.vid) else [], s)

/-- The priority and VID of a frame on an ingress port (R322, R328). -/
def ingressPrio (x : NetPort) (tag : Option (Nat × Nat)) : Fin 8 :=
  match tag with | some (q, _) => ⟨q % 8, Nat.mod_lt _ (by decide)⟩ | none => ncPrio x
def ingressVid (x : NetPort) (tag : Option (Nat × Nat)) : BitVec 12 :=
  match tag with | some (_, v) => if v = 0 then ncPvid x else BitVec.ofNat 12 v | none => ncPvid x

/-- A frame as its port takes it in: its tag taken apart (R318, R322). -/
def receivedFrame (s : State) (p : SwPort) (b : List Byte) (len : Nat) : NetFrame :=
  let (tag, data) := splitTag b
  let x := s.net.ports[p]
  { id := 0, data := data, prio := ingressPrio x tag, vid := ingressVid x tag, dei := tag.isSome && (byteAt b 14).testBit 4
    ingress := p, len := len, headroom := false }

/-- The ports that a frame entering the core leaves by, with what its ingress counts and learns (R322 to R326). -/
def ingressPorts (f : NetFrame) (s : State) : List SwPort × State :=
  let p := f.ingress
  let x := s.net.ports[p]
  let src := addrOf (f.data.drop 6)
  let unlocked := !ncFlag x 3 || (match findAddr s src f.vid with
    | some e => e.fixed && e.port.toNat == p.val
    | none => false)
  if !unlocked then ([], netCount p 14 1 s)
  else if f.data.take 5 = (linkLocal 0).take 5 && decide (byteAt f.data 5 < 16) then
    (match linkLocalPorts s p with
      | [] => ([], netCount p 13 1 s)
      | ps => (ps, s))
  else if f.vid = 0xFFF || !(vlanOf s f.vid).members.getLsbD p.val || (byteAt f.data 6).testBit 0 then ([], netCount p 14 1 s)
  else if ncFlag x 3 then forwardPorts f s
  else forwardPorts f (learnAddr p src f.vid s)

/-- A frame of good length and FCS enters the core on a port. -/
def ingressFrame (p : SwPort) (b : List Byte) (len : Nat) (s : State) : State :=
  let f := receivedFrame s p b len
  let (ps, s) := ingressPorts f s
  if ps.isEmpty then s else storeFrame f ps s

/-- Whether the MAC of a port takes a frame, or the port discards it as MAC control (R318, R325). -/
def macTakes (p : SwPort) (data : List Byte) : Bool :=
  beField data 12 2 == 0x8808 || ((ethOf p).isSome && decide (data.take 6 = linkLocal 1))

/-- A pause or PFC frame received on a physical port, or another frame that the MAC takes (R325, R333). -/
def macControl (e : EthPort) (data : List Byte) (s : State) : State :=
  let p := swOfEth e
  let x := s.net.ports[p]
  let control := beField data 12 2 = 0x8808
  if control ∧ beField data 14 2 = 1 then
    let s := netCount p 10 1 s
    if honoursPause s e then
      updSw p (fun x => { x with paused := if beField data 16 2 = 0 then 0 else 0xFF }) s
    else s
  else if control ∧ beField data 14 2 = 0x0101 then
    let s := netCount p 11 1 s
    if ncFlow x = 2 then
      (List.range 8).foldl (fun s k =>
        if (beField data 16 2).testBit k && (ncLossless x).testBit k then
          updSw p (fun x => { x with paused := setBit x.paused k (beField data (18 + 2 * k) 2 != 0) }) s
        else s) s
    else s
  else netCount p 13 1 s

/-- The frame as it leaves a port: untagged where the VID says so, otherwise with its VID and priority, and with the
drop-eligible bit it came with (R318, R322). -/
def egressBytes (s : State) (p : SwPort) (f : NetFrame) : List Byte :=
  if (vlanOf s f.vid).untagged.getLsbD p.val then f.data
  else f.data.take 12 ++ [0x81, 0x00] ++ beBytes 2 (8192 * f.prio.val + 4096 * bitNat f.dei + f.vid.toNat) ++ f.data.drop 12

/-- The bytes of a frame that its signature covers: the IP ECN bits as 0, no IPv4 header checksum (R399). -/
def sigFrame (b : List Byte) : List Byte :=
  let o := if beField b 12 2 = 0x8100 then 18 else 14
  if beField b (o - 2) 2 = 0x0800 then
    let c := b.set (o + 1) (BitVec.ofNat 8 (byteAt b (o + 1)) &&& 0xFC)
    c.take (o + 10) ++ c.drop (o + 12)
  else if beField b (o - 2) 2 = 0x86DD then b.set (o + 1) (BitVec.ofNat 8 (byteAt b (o + 1)) &&& 0xCF)
  else b

/-- A frame leaves a queue of a physical port: padded to 60 bytes (R318), and its bytes as sent enter the queue's
signature (R399). -/
def sendQueued (o : EthPort) (q : Fin 8) (b : List Byte) (good : Bool) (s : State) : State :=
  let b := b ++ zeros (60 - b.length)
  sendEth o b good (feedSig ⟨3, q.val, o.val⟩ (sigFrame b) s)

/-- Whether a frame that leaves by a physical port had begun to do so before its last byte came: that port's queue is
empty, and a physical ingress port's rate is at least its own (R330). -/
def cutsThrough (s : State) (f : NetFrame) (o : EthPort) : Bool :=
  s.perf.profile == .morning && swUp s (swOfEth o) && s.net.ports[swOfEth o].queues[f.prio].entries.isEmpty
    && (match ethOf f.ingress with | none => true | some i => decide (linkRate s o ≤ linkRate s i))

/-- A frame whose ingress ends badly is ended with an inverted FCS wherever it had begun to leave cut-through (R330): the
ports are those its ingress gives it, and what that would count and learn is not (log entry 129). -/
def endCutThrough (p : SwPort) (b : List Byte) (s : State) : State :=
  let f := receivedFrame s p b (b.length + 4)
  if macTakes p f.data then s
  else
    (([0, 1] : List EthPort).filter (fun o => (ingressPorts f s).1.contains (swOfEth o) && cutsThrough s f o)).foldl
      (fun s o => sendQueued o f.prio (egressBytes s (swOfEth o) f) false s) s

/-- A frame received on a physical port (R320, R324, R330, R333). -/
def receiveEth (e : EthPort) (b : List Byte) (good : Bool) (s : State) : State :=
  let p := swOfEth e
  let len := b.length + 4
  let x := s.net.ports[p]
  let s := netCount p 1 len (netCount p 0 1 s)
  if len < 64 then netCount p 5 1 s
  else if ncMax x < len then netCount p 6 1 s
  else
    let data := (splitTag b).2
    if !good then endCutThrough p b (netCount p 4 1 s)
    else if macTakes p data then macControl e data s
    else ingressFrame p b len s

/-- A message received on a virtual port's tunnel, which is guarded or not (R318, R330). -/
def receiveVirtual (p : SwPort) (b : List Byte) (broken unguarded : Bool) (s : State) : State :=
  let len := b.length + 4
  if broken then
    let s := netCount p 23 1 s
    if unguarded && decide (64 ≤ b.length) then endCutThrough p b s else s
  else if b.isEmpty then s
  else
    let s := netCount p 1 len (netCount p 0 1 s)
    if b.length < 14 then netCount p 5 1 s
    else if ncMax s.net.ports[p] < len then netCount p 6 1 s
    else if macTakes p (splitTag b).2 then netCount p 13 1 s
    else ingressFrame p b len s

/-! ### Egress (R318, R322, R329, R340) -/

/-- The entry at the head of a queue that has been released. -/
def headEntry (s : State) (x : NetQueue) : Option (NetEntry × NetFrame) :=
  match x.entries with
  | [] => none
  | e :: _ =>
    if e.place = .onDie && decide (32768 ≤ (e.seq - x.nextRel).toNat) then (findFrame s e.frame).map (fun f => (e, f))
    else none

/-- The released head of a queue of a port that is not paused. -/
def readyHead (s : State) (p : SwPort) (q : Fin 8) : Option (NetEntry × NetFrame) :=
  let x := s.net.ports[p]
  if x.paused.getLsbD q.val then none else headEntry s x.queues[q]

/-- The next weighted queue in cyclic order that has a frame ready, with the deficits after the search (R329). -/
def drr (s : State) (p : SwPort) : Nat → Vector Nat 8 → Fin 8 → Option (Fin 8) × Vector Nat 8
  | 0, d, _ => (none, d)
  | n + 1, d, q =>
    let x := s.net.ports[p]
    let step (d : Vector Nat 8) : Option (Fin 8) × Vector Nat 8 :=
      let r : Fin 8 := q + 1
      drr s p n (upd d r (fun v => if (readyHead s p r).isSome then v + ncWeight x r * 9216 else v)) r
    match readyHead s p q with
    | none => step (d.set q 0)
    | some (_, f) => if ncWeight x q != 0 && decide (f.len ≤ d[q]) then (some q, d) else step d

/-- The queue a port serves next, with the deficits after the choice. -/
def chooseQueue (s : State) (p : SwPort) : Option (Fin 8) × Vector Nat 8 :=
  let x := s.net.ports[p]
  let d := x.queues.map (fun q => q.deficit)
  match ([7, 6, 5, 4, 3, 2, 1, 0] : List (Fin 8)).find? (fun q => ncWeight x q == 0 && (readyHead s p q).isSome) with
  | some q => (some q, d)
  | none =>
    if ([0, 1, 2, 3, 4, 5, 6, 7] : List (Fin 8)).any (fun q => ncWeight x q != 0 && (readyHead s p q).isSome) then
      drr s p 32 d x.turn
    else (none, d)

/-- The offset of the IP header of an untagged frame after at most one tag of its own, and whether it is IPv6. -/
def ipHeader (data : List Byte) : Option (Nat × Bool) :=
  if beField data 12 2 = 0x0800 && byteAt data 14 / 16 = 4 then some (14, false)
  else if beField data 12 2 = 0x86DD && byteAt data 14 / 16 = 6 then some (14, true) else none

/-- One's complement update of an IPv4 checksum for a changed 16-bit word (RFC 1624). -/
def checksumUpdate (hc m m' : Nat) : Nat :=
  let x := (65535 - hc) + (65535 - m) + m'
  let x := x % 65536 + x / 65536
  65535 - (x % 65536 + x / 65536)

/-- The frame with its ECN field set to CE, where it is ECT(0) or ECT(1) (R340). -/
def markCe (data : List Byte) : Option (List Byte) :=
  match ipHeader data with
  | none => none
  | some (o, v6) =>
    let ecn := if v6 then byteAt data (o + 1) / 16 % 4 else byteAt data (o + 1) % 4
    if ecn = 1 ∨ ecn = 2 then
      if v6 then some (data.set (o + 1) (BitVec.ofNat 8 (byteAt data (o + 1)) ||| 0x30))
      else
        let m := beField data o 2
        let m' := m / 4 * 4 + 3
        let hc := checksumUpdate (beField data (o + 10) 2) m m'
        let d := data.set (o + 1) (BitVec.ofNat 8 m')
        some ((d.set (o + 10) (BitVec.ofNat 8 (hc / 256))).set (o + 11) (BitVec.ofNat 8 hc))
    else none

/-- Marks a frame as it leaves a physical queue: counter 18, and event 46 after 1 s without a mark (R340, R341). -/
def markFrame (p : SwPort) (q : Fin 8) (f : NetFrame) (s : State) : State × NetFrame :=
  let x := s.net.ports[p].queues[q]
  if (ethOf p).isSome && x.mark && decide (x.k ≤ queueDepth s x) then
    match markCe f.data with
    | none => (s, f)
    | some d =>
      let now := s.clock.hubTime
      let quiet : Bool := match x.lastMark with | some t => decide ((now - t).toNat < 1000000000) | none => false
      let s := netCount p 18 1 (updQueue p q (fun x => { x with lastMark := some now }) s)
      ((match quiet with | true => s | false => raise .all 46 (256 * p.val + q.val) s), { f with data := d })
  else (s, f)

/-- Sends the head of a queue of a port. -/
def sendHead (p : SwPort) (q : Fin 8) (e : NetEntry) (f : NetFrame) (s : State) : State :=
  let (s, g) := markFrame p q f s
  let s := updQueue p q (fun x => { x with entries := x.entries.filter (fun y => y.frame != e.frame) }) s
  let b := egressBytes s p g
  settleNet (match ethOf p with
    | some o => sendQueued o q b true s
    | none => match swCarrier s p with
      | some t => sendMessage t.host t.tid b (netCount p 3 (b.length + 4) (netCount p 2 1 s))
      | none => s)

/-- The egress scheduler of a port takes its next frame (R329), for a virtual port where the transmit queue has room for it;
a frame longer than the limit of R179 goes into an empty one, whose limit then holds its packets back (log entry 129). -/
def selectEgress (p : SwPort) (s : State) : State :=
  if !swUp s p then s
  else
    let (pick, d) := chooseQueue s p
    match pick with
    | none => s
    | some q =>
      match readyHead s p q with
      | none => s
      | some (e, f) =>
        let room : Bool := match swCarrier s p with
          | some t => t.held.isEmpty && (t.queue.isEmpty || txFits s t (egressBytes s p f).length)
          | none => true
        match room with
        | false => s
        | true =>
          let weighted := ncWeight s.net.ports[p] q != 0
          let s := updSw p (fun x => { x with
            turn := if weighted then q else x.turn
            queues := x.queues.mapFinIdx (fun i y h => { y with
              deficit := if weighted && i == q.val then d[i]'h - f.len else d[i]'h }) }) s
          sendHead p q e f s

/-! ### Ports going down (R319, R321) -/

/-- Discards what is queued toward a port. On a virtual port the frames count in counter 17; a physical port's flush
clears its DRAM-held frames and the pauses received on it. -/
def flushPort (p : SwPort) (s : State) : State :=
  let n := (s.net.ports[p].queues.toList.map (fun q => q.entries.length)).sum
  let s := if (ethOf p).isNone && n != 0 then netCount p 17 n s else s
  settleNet (updSw p (fun x => { x with
    paused := 0
    queues := x.queues.map (fun q => { q with entries := [], nextRel := q.nextSeq, deficit := 0 }) }) s)

/-- A virtual port goes down: queues flushed, learned addresses removed (R319). -/
def downVirtual (p : SwPort) (s : State) : State :=
  flushPort p (updNet (fun n => { n with addrs := n.addrs.filter (fun a => a.fixed || a.port.toNat != p.val) }) s)

/-- The virtual ports of a host go down. -/
def netLose (h : HostNo) (s : State) : State :=
  ([0, 1, 2, 3] : List Nat).foldl (fun s i => downVirtual (virtualPort h i) s) s

/-- The link event of a physical port. -/
def ethEvent (e : EthPort) : Fin 64 := ⟨44 + e.val, by omega⟩

/-- A physical link goes down, with event 44 or 45 (R321). -/
def ethDown (e : EthPort) (s : State) : State :=
  if s.net.eth[e].up then
    raise .all (ethEvent e) 0
      (flushPort (swOfEth e) (updEth e (fun x => { x with up := false, speed := 0, pauseTx := false, pauseRx := false }) s))
  else s

/-! ### Storm refill (R327) and admission (R342) -/

/-- The storm-control buckets at a refill: rate in Mbit/s, burst 65,536 bytes; one of rate 0
holds (R171). -/
def refillStorm (x : NetPort) : NetPort :=
  { x with storm := x.storm.mapFinIdx (fun i b h =>
    if ncStorm x ⟨i, h⟩ = 0 then 0 else min (b + ncStorm x ⟨i, h⟩) 524288) }

/-- ΣL, the line rates of the enabled physical ports that the variant has. -/
def lineRates (s : State) (ports : Vector NetPort 18) : Nat :=
  ((([0, 1] : List SwPort).filter (swPresent s)).map (fun p => ifaceRate (ncIface ports[p]))).sum

/-- A4 for the switch core, with the port settings given: the tunnels that terminate on it, those that cross to the partner
apart. -/
def admitNet (s : State) (ports : Vector NetPort 18) (ts : List Tunnel) (pl : Fin 4) : Bool :=
  ([true, false] : List Bool).all (fun d =>
    decide (64 * (((ts.filter carriesPort).map (committed d)).sum + lineRates s ports) ≤ 63 * portMbit pl))

end Sys2Proof.Machine
end

