-- ==== Sys2Proof/Machine/CanOps.lean ====
section
/-! DEFINITION. Operations of the CAN signal bridge (09): the map and its checks, packing and unpacking of signals, transmission, delivery to hosts, writes and legacy routes. -/
namespace Sys2Proof.Machine

def updCan (f : Can → Can) (s : State) : State := { s with can := f s.can }
def updCanPort (p : CanPort) (f : CanPortState → CanPortState) (s : State) : State :=
  updCan (fun c => { c with ports := upd c.ports p f }) s
def canCount (p : CanPort) (k : Fin 7) (n : Nat) (s : State) : State :=
  updCanPort p (fun x => { x with counters := upd x.counters k (fun v => satAdd v n) }) s

/-- Whether a port exists in the variant (R352). -/
def canPresent (s : State) (p : CanPort) : Bool := p == 0 || s.variant != .qt9824

/-! ### A port's setting (Table 9.6) -/

def cpMode (x : CanPortState) : Nat := byteAt x.setting 0
def cpFlag (x : CanPortState) (k : Nat) : Bool := (byteAt x.setting 1).testBit k

/-- Whether a setting keeps the conditions of R354 and its reserved fields are 0. -/
def canSettingOk (b : List Byte) : Bool :=
  let fl := byteAt b 1
  let t1 := fieldAt b 4 2
  let t2 := byteAt b 6
  let nsjw := byteAt b 7
  let nb := byteAt b 8
  let db := byteAt b 9
  let d1 := byteAt b 10
  let d2 := byteAt b 11
  let dsjw := byteAt b 12
  let nom := nb * (1 + t1 + t2)
  let dat := db * (1 + d1 + d2)
  let inR (v lo hi : Nat) : Bool := decide (lo ≤ v) && decide (v ≤ hi)
  let fd := fl.testBit 0
  decide (byteAt b 0 ≤ 3) && zeroAt b 2 2 && zeroAt b 14 2 && decide (byteAt b 13 ≤ 127)
    && inR nb 1 32 && inR db 1 32 && inR t1 2 256 && inR t2 1 128 && inR d1 2 32 && inR d2 1 16
    && inR nsjw 1 t2 && inR dsjw 1 d2
    && decide (125000 * nom ≤ 40000000) && decide (40000000 ≤ 1000000 * nom)
    && (!fd || (decide (dat ≤ nom) && decide (40000000 ≤ 8000000 * dat)
        && (decide (40000000 ≤ 1000000 * dat) || fl.testBit 2)))

/-! ### Frame and signal entries (Tables 9.3 and 9.4) -/

def fePort (e : List Byte) : CanPort := ⟨byteAt e 4 % 2, Nat.mod_lt _ (by decide)⟩
def feTx (e : List Byte) : Bool := (byteAt e 4).testBit 1
def feIde (e : List Byte) : Bool := (fieldAt e 0 4).testBit 29
def feFd (e : List Byte) : Bool := (fieldAt e 0 4).testBit 30
def feBrs (e : List Byte) : Bool := (fieldAt e 0 4).testBit 31
def feId (e : List Byte) : Nat := fieldAt e 0 4 % 2 ^ 29
def feLen (e : List Byte) : Nat := byteAt e 5
def feGap (e : List Byte) : Nat := fieldAt e 6 2

def seFrame (e : List Byte) : Nat := fieldAt e 0 2
def seStart (e : List Byte) : Nat := fieldAt e 2 2
def seLength (e : List Byte) : Nat := byteAt e 4
def seLegacy (e : List Byte) : Bool := (byteAt e 5).testBit 5
def seLoss (e : List Byte) : Nat := bitsOf (byteAt e 5) 3 2
def seEvery (e : List Byte) : Bool := (byteAt e 5).testBit 2
def seSigned (e : List Byte) : Bool := (byteAt e 5).testBit 1
def seBig (e : List Byte) : Bool := (byteAt e 5).testBit 0
def seHosts (e : List Byte) : Nat := byteAt e 6 % 16
def sePeriod (e : List Byte) : Nat := fieldAt e 8 2
def seTimeout (e : List Byte) : Nat := fieldAt e 10 2

/-- INIT as a 64-bit value; a signal of LENGTH 0 always holds 0 (R357). -/
def seInit (e : List Byte) : Dword :=
  if seLength e = 0 then 0
  else if seSigned e then (BitVec.ofNat 32 (fieldAt e 12 4)).signExtend 64 else BitVec.ofNat 64 (fieldAt e 12 4)

/-- An entry of the map in force; an index without an entry has an empty one. -/
def frameAt (m : CanMap) (i : Nat) : List Byte := sparseGet [] m.frames i
def signalAt (m : CanMap) (i : Nat) : List Byte := sparseGet [] m.signals i

/-- The signals of a frame, by index. -/
def signalsOf (m : CanMap) (f : Nat) : List (Nat × List Byte) := m.signals.filter (fun e => seFrame e.2 == f)

/-- Whether a signal is transmitted. -/
def isTx (m : CanMap) (e : List Byte) : Bool := !e.isEmpty && feTx (frameAt m (seFrame e))

/-- The frame bits a big-endian signal occupies after bit k, most significant first (R357). -/
def bigBits : Nat → Nat → List Nat
  | 0, _ => []
  | n + 1, k => k :: bigBits n (if k % 8 = 0 then k + 15 else k - 1)

/-- The frame bits of a signal, most significant first (R357). -/
def sigBits (e : List Byte) : List Nat :=
  if seBig e then bigBits (seLength e) (seStart e)
  else ((List.range (seLength e)).map (fun i => seStart e + i)).reverse

/-! ### The checks of a commit (R358) -/

def lenOk (fd : Bool) (n : Nat) : Bool :=
  decide (n ≤ 8) || (fd && (n == 12 || n == 16 || n == 20 || n == 24 || n == 32 || n == 48 || n == 64))

/-- Whether a frame entry is sound beside the entries before it. -/
def frameOk (s : State) (m : CanMap) (i : Nat) (e : List Byte) : Bool :=
  let same (x : Nat × List Byte) : Bool :=
    decide (x.1 < i) && fePort x.2 == fePort e && feTx x.2 == feTx e && feId x.2 == feId e && feIde x.2 == feIde e
  decide (byteAt e 4 < 4) && zeroAt e 8 8 && (feIde e || decide (feId e < 2048)) && (feFd e || !feBrs e)
    && lenOk (feFd e) (feLen e) && canPresent s (fePort e) && !m.frames.any same

/-- Whether a signal entry is sound beside the entries before it. -/
def signalOk (m : CanMap) (i : Nat) (e : List Byte) : Bool :=
  let f := frameAt m (seFrame e)
  let bits := sigBits e
  let clash (x : Nat × List Byte) : Bool :=
    decide (x.1 < i) && seFrame x.2 == seFrame e && (sigBits x.2).any (fun k => bits.contains k)
  let hosts := ([0, 1, 2, 3] : List Nat).filter (fun k => (seHosts e).testBit k)
  decide (seFrame e < 256) && !f.isEmpty && decide (seStart e < 512) && decide (seLength e ≤ 64)
    && byteAt e 5 / 64 == 0 && decide (seLoss e < 3) && byteAt e 6 / 16 == 0 && byteAt e 7 == 0
    && bits.all (fun k => decide (k < 8 * feLen f))
    && (!feTx f || (decide (hosts.length ≤ 1) && !(seLegacy e && seHosts e != 0) && !m.signals.any clash))

/-- The first failing entry of a map: bit 15 for a signal, and its index (R371). -/
def mapFault (s : State) (m : CanMap) : Option Nat :=
  match m.frames.find? (fun x => !frameOk s m x.1 x.2) with
  | some x => some x.1
  | none => (m.signals.find? (fun x => !signalOk m x.1 x.2)).map (fun x => 32768 + x.1)

/-! ### Values -/

def noDelivery : CanDelivery := ⟨false, false, none, 0⟩
def noSignal : CanSignal := ⟨0, 0, false, false, Vector.replicate 4 noDelivery⟩
def noTx : CanTx := ⟨false, false⟩

def sigState (s : State) (i : Nat) : CanSignal := sparseGet noSignal s.can.signals i
def setSig (i : Nat) (f : CanSignal → CanSignal) (s : State) : State :=
  updCan (fun c => { c with signals := sparsePut noSignal c.signals i (f (sparseGet noSignal c.signals i)) }) s
def txState (s : State) (f : Nat) : CanTx := sparseGet noTx s.can.tx f
def setTx (f : Nat) (g : CanTx → CanTx) (s : State) : State :=
  updCan (fun c => { c with tx := sparsePut noTx c.tx f (g (sparseGet noTx c.tx f)) }) s

/-- The value a frame's data gives a signal, sign-extended when SIGNED (R357, R359). -/
def extract (e data : List Byte) : Dword :=
  let bits := (sigBits e).map (fun k => (byteAt data (k / 8)).testBit (k % 8))
  let v := bits.foldl (fun a b => 2 * a + bitNat b) 0
  if seSigned e && bits.headD false then BitVec.ofInt 64 ((v : Int) - 2 ^ seLength e) else BitVec.ofNat 64 v

/-- A frame's data with one signal's value put into its bits. -/
def insertSig (e : List Byte) (v : Dword) (data : List Byte) : List Byte :=
  ((sigBits e).reverse.zipIdx).foldl (fun d p =>
    d.set (p.1 / 8) (setBit (BitVec.ofNat 8 (byteAt d (p.1 / 8))) (p.1 % 8) (v.getLsbD p.2))) data

/-- The data of a transmitted frame with the latest values. -/
def frameData (s : State) (f : Nat) : List Byte :=
  (signalsOf s.can.map f).foldl (fun d x => insertSig x.2 (sigState s x.1).value d) (zeros (feLen (frameAt s.can.map f)))

/-- Whether a value fits a signal's length and signedness (R365). -/
def fitsSig (e : List Byte) (v : Dword) : Bool :=
  if seLength e = 0 then v == 0
  else if seSigned e then decide (-(2 ^ (seLength e - 1) : Int) ≤ v.toInt) && decide (v.toInt < 2 ^ (seLength e - 1))
  else decide (v.toNat < 2 ^ seLength e)

/-- A number saturated to a signal's length and signedness (R366). -/
def saturate (e : List Byte) (t : Int) : Dword :=
  if seLength e = 0 then 0
  else if seSigned e then BitVec.ofInt 64 (max (-(2 ^ (seLength e - 1) : Int)) (min (2 ^ (seLength e - 1) - 1) t))
  else BitVec.ofInt 64 (max 0 (min (2 ^ seLength e - 1) t))

/-! ### Transmission (R362, R363) -/

/-- Whether LOSS 2 stops a frame: one of its signals waits for its host. -/
def txStopped (s : State) (f : Nat) : Bool := (signalsOf s.can.map f).any (fun x => (sigState s x.1).stopped)

/-- The queued frame that is offered next: the lowest identifier of those whose GAP does not run. An identifier and its
extended form compare as arbitration does, base bits first, then a base frame before an extended one. -/
def arbitration (e : List Byte) : Nat := if feIde e then 2 * feId e + 1 else 2 * (feId e * 2 ^ 18)
def nextFrame (s : State) (p : CanPort) : Option (Fin 256) :=
  let rank (f : Fin 256) : Nat := arbitration (frameAt s.can.map f.val)
  (s.can.ports[p].queue.filter (fun f => !(txState s f.val).gap)).foldl (fun b f => match b with
    | none => some f
    | some g => if rank f < rank g then some f else some g) none

/-- Offers the next queued frame when the transmit buffer is empty; its values are taken now. -/
def offerFrame (p : CanPort) (s : State) : State :=
  if cpMode s.can.ports[p] != 1 then s
  else match s.can.ports[p].buffer, nextFrame s p with
  | none, some f =>
    updCanPort p (fun x => { x with queue := x.queue.filter (· != f), buffer := some (f, frameData s f.val) }) s
  | _, _ => s

/-- A frame becomes due: queued once; discarded at bus-off; held while its GAP runs; not sent while stopped, without a
signal, on a port that is not in normal mode, or while fabric port 11 is isolated (Table 13.4). -/
def queueFrame (f : Fin 256) (s : State) : State :=
  let e := frameAt s.can.map f.val
  let p := fePort e
  let x := s.can.ports[p]
  if e.isEmpty || !feTx e || (signalsOf s.can.map f.val).isEmpty || txStopped s f.val || cpMode x != 1
      || s.flt.isolated.getLsbD 11 then s
  else if x.bus = .busOff then canCount p 4 1 s
  else if x.queue.contains f then canCount p 5 1 s
  else if (txState s f.val).gap then setTx f.val (fun t => { t with held := true }) s
  else offerFrame p (updCanPort p (fun x => { x with queue := x.queue ++ [f] }) s)

/-- The values of several signals take effect together; then each frame with a changed signal of PERIOD 0 is queued. -/
def writeValues (ws : List (Nat × Dword)) (s : State) : State :=
  let m := s.can.map
  let changed := ws.filter (fun w => (sigState s w.1).value != w.2 && sePeriod (signalAt m w.1) == 0)
  let s := ws.foldl (fun s w => setSig w.1 (fun x => { x with value := w.2 }) s) s
  let frames := (List.finRange 256).filter (fun f => changed.any (fun w => seFrame (signalAt m w.1) == f.val))
  frames.foldl (fun s f => queueFrame f s) s

/-- Whether CANn_STB is high: in standby, in Stop, and while fabric port 11 is isolated (R352, R368, Table 13.4). -/
def canStb (s : State) (p : CanPort) : Bool :=
  canPresent s p && (cpMode s.can.ports[p] == 3 || s.pm.phase == .stop || s.flt.isolated.getLsbD 11)

/-- Empties a port's queue and buffer. -/
def dropQueue (p : CanPort) (s : State) : State := updCanPort p (fun x => { x with queue := [], buffer := none }) s

/-- A bus state change: error counts, events 50 and 51, and at bus-off the queue discarded and counted (R355). -/
def setBus (p : CanPort) (st : BusState) (tec rec : Byte) (s : State) : State :=
  let x := s.can.ports[p]
  let s := updCanPort p (fun x => { x with bus := st, tecCount := tec, recCount := rec }) s
  if x.bus = st then s
  else
    let code := match st with | .errorActive => 0 | .errorPassive => 1 | .busOff => 2
    let n := x.queue.length + (match x.buffer with | some _ => 1 | none => 0)
    let s := if st = .busOff then canCount p 6 1 (canCount p 4 n (dropQueue p s)) else s
    raise .all (if p = 0 then 50 else 51) code s

/-- The bus state that the error counts give a port that is not bus-off: error passive from 128 on (R353; ISO 11898-1, log
entry 130). -/
def busOf (st : BusState) (tec rec : Byte) : BusState :=
  if st = .busOff then .busOff else if 128 ≤ tec.toNat || 128 ≤ rec.toNat then .errorPassive else .errorActive

/-- The counts of a port take new values, and its state follows them. -/
def countErrors (p : CanPort) (tec rec : Byte) (s : State) : State :=
  setBus p (busOf s.can.ports[p].bus tec rec) tec rec s

/-- A frame sent without an error takes 1 off the transmit error count. -/
def sentWell (p : CanPort) (s : State) : State :=
  let x := s.can.ports[p]
  countErrors p (if x.tecCount = 0 then 0 else x.tecCount - 1) x.recCount s

/-- A frame received without an error takes 1 off the receive error count; one above 127 goes to a free value from 119 to
127. -/
def receivedWell (p : CanPort) (s : State) : State :=
  let x := s.can.ports[p]
  if x.recCount.toNat ≤ 127 then countErrors p x.tecCount (if x.recCount = 0 then 0 else x.recCount - 1) s
  else
    let (v, s) := takeFree 8 s
    countErrors p x.tecCount (BitVec.ofNat 8 (119 + v.toNat % 9)) s

/-- A frame goes out on the bus: it counts as sent, the transmit error count follows, and its GAP begins (R362). -/
def putCan (p : CanPort) (f : Fin 256) (data : List Byte) (s : State) : State :=
  let e := frameAt s.can.map f.val
  let s := canCount p 1 1 (egress (.canFrame p ⟨BitVec.ofNat 29 (feId e), feIde e, feFd e, feBrs e, false, data⟩) s)
  sentWell p (if feGap e = 0 then s else setTx f.val (fun t => { t with gap := true }) s)

/-- Empties the transmit buffer. Whether its frame is on the bus is free: one that is ends (R370), any other is withdrawn
(log entry 121). -/
def withdraw (p : CanPort) (s : State) : State :=
  match s.can.ports[p].buffer with
  | none => s
  | some (f, data) =>
    let (going, s) := takeFree 1 s
    let s := updCanPort p (fun x => { x with buffer := none }) s
    if going == 1 then putCan p f data s else s

/-- A port leaves its bus with its queue kept: a frame that is on the bus ends, any other goes back into the queue. -/
def pauseCan (p : CanPort) (s : State) : State :=
  match s.can.ports[p].buffer with
  | none => s
  | some (f, data) =>
    let (going, s) := takeFree 1 s
    if going == 1 then putCan p f data (updCanPort p (fun x => { x with buffer := none }) s)
    else updCanPort p (fun x => { x with buffer := none, queue := f :: x.queue.filter (· != f) }) s

/-- A port in standby returns to normal mode (R368). -/
def wakeCanPort (p : CanPort) (s : State) : State :=
  offerFrame p (updCanPort p (fun x => { x with setting := 1 :: x.setting.drop 1 }) s)

/-! ### Delivery (R360, R365) -/

/-- A message header (Table 9.5). -/
def canHeader (s : State) (kind count : Nat) : List Byte :=
  leBytes 1 kind ++ [0] ++ leBytes 2 count ++ leBytes 4 s.can.generation.toNat

/-- An UPDATE entry of a signal, with its OVERWRITTEN flag. -/
def updateEntry (s : State) (i : Nat) (lost : Bool) : List Byte :=
  let x := sigState s i
  leBytes 2 i ++ leBytes 1 (bitNat x.stale + 2 * bitNat lost) ++ [0] ++ leBytes 4 (x.time.toNat % 2 ^ 32)
    ++ leBytes 8 x.value.toNat

/-- The open signal tunnel of a host (R364). -/
def canTunnel (s : State) (h : HostNo) : Option Tunnel :=
  s.tunnels.find? (fun t => t.host == h && t.cls == 6 && t.cross.isNone && !t.closing && !t.standby)

/-- Whether a tunnel takes one more packet of n bytes (R179) and has credit for it behind what it has queued. -/
def creditFor (s : State) (t : Tunnel) (n : Nat) : Bool :=
  t.held.isEmpty && (t.queue.isEmpty || txFits s t n) && decide ((t.queue.map (packetUnits t)).sum + unitsOf n t.guarded ≤ t.peerCredit)

/-- Whether a signal's minimum interval toward a host has passed. -/
def intervalOver (s : State) (i : Nat) (d : CanDelivery) : Bool :=
  d.value.isNone || decide (1000000 * sePeriod (signalAt s.can.map i) ≤ (s.clock.hubTime - d.time).toNat)

/-- Queues one UPDATE with the due signals of a list, at most 64, when the tunnel has credit. -/
def deliverSigs (h : HostNo) (is : List Nat) (s : State) : State :=
  let is := (is.filter (fun i => (sigState s i).hosts[h].due)).take 64
  match canTunnel s h with
  | none => s
  | some t =>
    if is.isEmpty || !creditFor s t (8 + 16 * is.length) then s
    else
      let body := is.flatMap (fun i => updateEntry s i (sigState s i).hosts[h].overwritten)
      let s := sendMessage h t.tid (canHeader s 1 is.length ++ body) s
      is.foldl (fun s i => setSig i (fun x => { x with
        hosts := x.hosts.set h ⟨false, false, some x.value, s.clock.hubTime⟩ }) s) s

/-- The last time a received signal's frame came, or else the commit (R361). -/
def lastSeen (s : State) (i : Nat) : Dword :=
  let x := sigState s i
  if x.time == 0 then s.can.commitTime else x.time

/-- A list in pieces of 64, as many as one message carries. -/
def pieces : Nat → List Nat → List (List Nat)
  | 0, _ => []
  | n + 1, is => is.take 64 :: pieces n (is.drop 64)

/-- Delivers those of the signals whose minimum interval has passed, to every host. -/
def deliverAll (is : List Nat) (s : State) : State :=
  (List.finRange 4).foldl (fun s h =>
    let ready := is.filter (fun i => (sigState s i).hosts[h].due && intervalOver s i (sigState s i).hosts[h])
    (pieces ((ready.length + 63) / 64) ready).foldl (fun s is => deliverSigs h is s) s) s

/-- A received value: time, stale cleared, and due for the hosts whose last delivered value differs, or always with
EVERY. -/
def receiveSig (data : List Byte) (s : State) (x : Nat × List Byte) : State :=
  let v := extract x.2 data
  let now := s.clock.hubTime
  setSig x.1 (fun g => { g with
    value := v, time := now, stale := false
    hosts := g.hosts.mapFinIdx (fun k d _ =>
      if !(seHosts x.2).testBit k then d
      else
        let due := seEvery x.2 || d.value != some v
        { d with due := d.due || due, overwritten := d.overwritten || (d.due && (seEvery x.2 || g.value != v)) }) }) s

/-! ### Legacy routes (R366, R374) -/

def roSource (r : List Byte) : Nat := fieldAt r 0 2
def roDest (r : List Byte) : Nat := fieldAt r 2 2
def roMul (r : List Byte) : Int := (BitVec.ofNat 32 (fieldAt r 4 4)).toInt
def roShift (r : List Byte) : Nat := byteAt r 8
def roSubst (r : List Byte) : Bool := (byteAt r 9).testBit 0
def roOffset (r : List Byte) : Int := (BitVec.ofNat 32 (fieldAt r 12 4)).toInt

/-- The value a route gives its destination. -/
def routeValue (src dst r : List Byte) (v : Dword) : Dword :=
  let x : Int := if seSigned src then v.toInt else (v.toNat : Int)
  saturate dst (x * roMul r / 2 ^ roShift r + roOffset r)

/-- Whether a route may be loaded into a map. -/
def routeOk (m : CanMap) (r : List Byte) : Bool :=
  let a := signalAt m (roSource r)
  let b := signalAt m (roDest r)
  decide (roShift r ≤ 32) && decide (byteAt r 9 < 2) && zeroAt r 10 2 && !a.isEmpty && !isTx m a
    && decide (seLength a ≤ 32) && isTx m b && seLegacy b

/-- Whether no destination has two routes. -/
def routesDistinct (rs : Sparse (List Byte)) : Bool :=
  rs.all (fun x => !rs.any (fun y => x.1 != y.1 && roDest x.2 == roDest y.2))

/-- Runs the routes of the sources in a list. -/
def runRoutes (is : List Nat) (s : State) : State :=
  let m := s.can.map
  let rs := s.can.routes.filter (fun r => is.contains (roSource r.2))
  writeValues (rs.map (fun r => (roDest r.2,
    routeValue (signalAt m (roSource r.2)) (signalAt m (roDest r.2)) r.2 (sigState s (roSource r.2)).value))) s

/-- A frame received on a port (R353, R359). -/
def receiveCan (p : CanPort) (f : CanFrame) (s : State) : State :=
  let x := s.can.ports[p]
  if !canPresent s p || (cpMode x != 1 && cpMode x != 2) || x.bus == .busOff || (f.fd && !cpFlag x 0) then s
  else
    let s := receivedWell p (canCount p 0 1 s)
    if f.remote then s
    else match s.can.map.frames.find? (fun e => !feTx e.2 && fePort e.2 == p && feId e.2 == f.id.toNat
        && feIde e.2 == f.ide && feFd e.2 == f.fd) with
      | none => canCount p 2 1 s
      | some (i, e) =>
        if feLen e != f.data.length then canCount p 3 1 s
        else
          let sigs := signalsOf s.can.map i
          let is := sigs.map (fun x => x.1)
          runRoutes is (deliverAll is (sigs.foldl (receiveSig f.data) s))

/-- A signal becomes stale when its timeout has passed (R361). -/
def staleSig (i : Nat) (s : State) : State :=
  let e := signalAt s.can.map i
  if e.isEmpty || isTx s.can.map e || seTimeout e == 0 || (sigState s i).stale
      || decide ((s.clock.hubTime - lastSeen s i).toNat < 1000000 * seTimeout e) then s
  else
    let s := setSig i (fun g => { g with
      stale := true
      hosts := g.hosts.mapFinIdx (fun k d _ => if (seHosts e).testBit k then { d with due := true } else d) }) s
    let s := deliverAll [i] (raise .all 52 i s)
    let rs := s.can.routes.filter (fun r => roSource r.2 == i && roSubst r.2)
    writeValues (rs.map (fun r => (roDest r.2, seInit (signalAt s.can.map (roDest r.2))))) s

/-! ### Writes (R363, R365, R373) -/

def weIndex (e : List Byte) : Nat := fieldAt e 0 2
def weValue (e : List Byte) : Dword := BitVec.ofNat 64 (fieldAt e 8 8)

/-- Whether a WRITE entry is one that R365 applies: for a host, or for the owner. -/
def writeOk (s : State) (h : Option HostNo) (e : List Byte) : Bool :=
  let g := signalAt s.can.map (weIndex e)
  decide (weIndex e < 1024) && isTx s.can.map g && !seLegacy g && fitsSig g (weValue e) &&
    (match h with | some h => (seHosts g).testBit h.val | none => true)

/-- The 16-byte entries of a message. -/
def entriesOf : Nat → List Byte → List (List Byte)
  | 0, _ => []
  | n + 1, b => b.take 16 :: entriesOf n (b.drop 16)

/-- Applies WRITE entries; a host's write lets a frame that LOSS 2 stopped go on. -/
def applyEntries (h : Option HostNo) (es : List (List Byte)) (s : State) : State :=
  let s := if h.isSome then es.foldl (fun s e => setSig (weIndex e) (fun g => { g with stopped := false }) s) s else s
  writeValues (es.map (fun e => (weIndex e, weValue e))) s

/-- Whether a WRITE message is well formed. -/
def writeFormed (b : List Byte) : Bool :=
  decide (8 ≤ b.length) && byteAt b 0 == 2 && byteAt b 1 == 0 && decide (fieldAt b 2 2 ≤ 64)
    && b.length == 8 + 16 * fieldAt b 2 2
    && (entriesOf (fieldAt b 2 2) (b.drop 8)).all (fun e => zeroAt e 2 6)

/-- A WRITE message of a host (R365). -/
def runWrite (h : HostNo) (b : List Byte) (s : State) : State :=
  if !writeFormed b || fieldAt b 4 4 != s.can.generation.toNat then
    updCan (fun c => { c with badMessages := satInc c.badMessages }) s
  else
    let es := entriesOf (fieldAt b 2 2) (b.drop 8)
    let good := es.filter (writeOk s (some h))
    let bad := es.length - good.length
    applyEntries (some h) good (updCan (fun c => { c with badEntries := satAdd c.badEntries bad }) s)

/-- The signals of a lost host follow their LOSS field (R363). -/
def canLose (h : HostNo) (s : State) : State :=
  let mine := s.can.map.signals.filter (fun x => isTx s.can.map x.2 && (seHosts x.2).testBit h.val)
  let s := (mine.filter (fun x => seLoss x.2 == 2)).foldl (fun s x => setSig x.1 (fun g => { g with stopped := true }) s) s
  let s := ([0, 1] : List CanPort).foldl (fun s p =>
    let s := updCanPort p (fun q => { q with queue := q.queue.filter (fun f => !txStopped s f.val) }) s
    match s.can.ports[p].buffer with
    | some (f, _) => if txStopped s f.val then withdraw p s else s
    | none => s) s
  let s := offerFrame 0 (offerFrame 1 s)
  writeValues ((mine.filter (fun x => seLoss x.2 == 1)).map (fun x => (x.1, seInit x.2))) s

/-! ### Commits (R371) -/

/-- Puts a map into force: values at INIT, queues discarded, schedules restarted, routes removed, the generation
advanced. -/
def commitMap (m : CanMap) (s : State) : State :=
  let vals := m.signals.foldl (fun v x => sparsePut noSignal v x.1 { noSignal with value := seInit x.2 }) []
  dropQueue 0 (dropQueue 1 (updCan (fun c => { c with
    map := m, signals := vals, tx := [], routes := [], generation := c.generation + 1, commitTime := s.clock.hubTime })
    (withdraw 0 (withdraw 1 s))))

/-- What a reset does with the stored map and its routes (R371). -/
def commitStored (s : State) : State :=
  match s.can.stored with
  | none => s
  | some m => updCan (fun c => { c with routes := c.storedRoutes, mapIsStored := true }) (commitMap m s)

/-- Applies a port's setting at the end of the frame in progress: queue discarded, error counters cleared, the port back in
error active (R355, R370). -/
def applyCanPort (p : CanPort) (b : List Byte) (s : State) : State :=
  setBus p .errorActive 0 0 (updCanPort p (fun x => { x with setting := b }) (dropQueue p (withdraw p s)))

/-! ### Admission (R364) -/

/-- A4 for the bridge. A tunnel that crosses to the partner ends in no engine of this chip (R388). -/
def admitCan (ts : List Tunnel) : Bool :=
  ([true, false] : List Bool).all (fun d => decide (((ts.filter (fun t => t.cls == 6 && t.cross.isNone)).map (committed d)).sum ≤ 400))

end Sys2Proof.Machine
end

