-- ==== Sys2Proof/Machine/PairOps.lean ====
section
/-! DEFINITION. Operations of pairing (10): pair states, host numbering in Span, the interlock and the handover, signatures and verdicts, replication, admission, and the PAIR_STATUS report. -/
namespace Sys2Proof.Machine

/-! ### Pair states (R379) -/

/-- A chip that is Day with a Night no longer waits for it (R391). -/
def stopAwaiting (s : State) : State :=
  if s.pair.state = 5 || s.pair.state = 7 then s else releaseDeferred (updPair (fun p => { p with awaiting := [], running := false }) s)

/-- Sets the pair state; each change raises event 54 once. -/
def setPairState (st : Fin 12) (s : State) : State :=
  if s.pair.state = st then s else raise .all 54 st.val (stopAwaiting (updPair (fun p => { p with state := st }) s))

/-- A pair fault: an entry of class 0x15, which raises event 4 (Table 13.2). -/
def pairFault (code : Nat) (reaction : Byte) (s : State) : State := logFault 0x15 code { reaction := reaction } s

/-- Whether the bond link is Active. -/
def bondActive (s : State) : Bool := s.links[(2 : LinkNo)].state == 6

/-- Whether the partner is out of reach (R380). -/
def partnerGone (s : State) : Bool := !s.pair.bndPres || !bondActive s

/-! ### Numbering of hosts (R385) -/

/-- The host that takes a host's place when this chip becomes, or stops being, the follower. -/
def swapHost (h : HostNo) : HostNo := ⟨(h.val + 2) % 4, Nat.mod_lt _ (by decide)⟩

/-- The requester code after the change of numbering. -/
def swapCode (c : Fin 8) : Fin 8 := if c = 0 then 4 else if c = 1 then 5 else if c = 4 then 0 else if c = 5 then 1 else c

/-- A map of hosts after the change. -/
def swapMap (m : BitVec 4) : BitVec 4 := m.rotateLeft 2

/-- A table with one entry per host after the change. -/
def swapVec {α : Type} (v : Vector α 4) : Vector α 4 := #v[v[2], v[3], v[0], v[1]]

/-- A switch port after the change: the virtual ports of a host follow its number (Table 8.1). -/
def swapPort (p : SwPort) : SwPort :=
  if p.val < 2 then p else ⟨2 + (p.val - 2 + 8) % 16, by omega⟩

/-- A switch port byte, which may name none, after the change. -/
def swapPortByte (b : Byte) : Byte :=
  if h : b.toNat < 18 then BitVec.ofNat 8 (swapPort ⟨b.toNat, h⟩).val else b

/-- A map of switch ports after the change. -/
def swapPortMap (m : BitVec 18) : BitVec 18 :=
  (m &&& 3) ||| (((m >>> 2).truncate 16).rotateLeft 8).zeroExtend 18 <<< 2

/-- The switch core after the change. -/
def renumberNet (n : Net) : Net :=
  let port (x : NetPort) : NetPort := { x with cfg := x.cfg.set 9 (swapPortByte (BitVec.ofNat 8 (byteAt x.cfg 9))) }
  { n with
    ports := Vector.ofFn (fun p => if p.val < 2 then port n.ports[p] else n.ports[swapPort p])
    vlans := n.vlans.map (fun v => (v.1, ⟨swapPortMap v.2.members, swapPortMap v.2.untagged⟩))
    addrs := n.addrs.map (fun (a : NetAddr) => { a with port := swapPortByte a.port })
    frames := n.frames.map (fun (f : NetFrame) => { f with ingress := swapPort f.ingress }) }

/-- A signal entry after the change: its HOSTS. -/
def swapHosts (e : List Byte) : List Byte :=
  e.set 6 (BitVec.ofNat 8 (byteAt e 6 / 16 * 16 + (swapMap (BitVec.ofNat 4 (byteAt e 6))).toNat))

/-- The signal bridge after the change. -/
def renumberCan (c : Can) : Can :=
  let map (m : CanMap) : CanMap := { m with signals := m.signals.map (fun e => (e.1, swapHosts e.2)) }
  { c with
    staging := map c.staging, map := map c.map
    signals := c.signals.map (fun e => (e.1, { e.2 with hosts := swapVec e.2.hosts })) }

/-- A Block World Table entry after the change: its rights for the hosts, read in bits 11:8 and write in bits 15:12. -/
def swapRights (e : Word) : Word :=
  let r := swapMap (e.extractLsb' 8 4)
  let w := swapMap (e.extractLsb' 12 4)
  (e &&& 0xFFFF00FF) ||| (r.zeroExtend 32 <<< 8) ||| (w.zeroExtend 32 <<< 12)

/-- The check-value channels after the change: those assigned to a host. -/
def swapAssign (c : CheckChannel) : CheckChannel := { c with assign := swapCode c.assign }

/-- Everything this chip's own hosts hold follows their new numbers (log entry 32). -/
def renumberHosts (s : State) : State :=
  let set (p : PendSet) : PendSet := { p with claim := p.claim.map swapCode }
  let layer (l : Layer) : Layer := { l with owner := swapCode l.owner }
  let check (c : CheckRegion) : CheckRegion := { c with grants := swapMap c.grants }
  let out (x : Output) : Output := { x with
    layers := x.layers.map layer, checks := x.checks.map check, sets := x.sets.map (fun p => p.map set)
    flipRefused := swapVec x.flipRefused }
  let np (r : NpRequest) : NpRequest := { r with host := swapHost r.host }
  let qt (q : QueuedTlp) : QueuedTlp := { q with host := swapHost q.host }
  let pf (e : PrefetchEntry) : PrefetchEntry := { e with window := ⟨(e.window.val + 4) % 8, Nat.mod_lt _ (by decide)⟩ }
  let port (x : PciePortState) : PciePortState := { x with
    assigned := x.assigned.map swapHost, posted := x.posted.map qt, nonPosted := x.nonPosted.map qt
    completions := x.completions.map qt, prefetch := x.prefetch.map pf }
  let w := s.pcie.windows
  { s with
    tunnels := s.tunnels.map (fun (t : Tunnel) => { t with host := swapHost t.host })
    disp := { s.disp with
      outs := s.disp.outs.map out
      regions := s.disp.regions.map (fun (r : Region) => { r with owner := swapHost r.owner })
      quotas := swapVec s.disp.quotas, tileBad := swapVec s.disp.tileBad, tileDropped := swapVec s.disp.tileDropped }
    pcie := { s.pcie with
      cfg := swapVec s.pcie.cfg, ports := s.pcie.ports.map port, tracked := s.pcie.tracked.map np
      overflow := s.pcie.overflow.map np
      windows := #v[w[4], w[5], w[6], w[7], w[0], w[1], w[2], w[3]]
      lock := { s.pcie.lock with
        holder := s.pcie.lock.holder.map (fun x => (swapHost x.1, x.2))
        waiting := s.pcie.lock.waiting.map np, blocked := s.pcie.lock.blocked.map qt } }
    net := renumberNet s.net, can := renumberCan s.can
    worlds := { s.worlds with block := s.worlds.block.map swapRights, region := s.worlds.region.map (fun (e : RegionEntry) => { e with assignee := swapCode e.assignee }) }
    flt := { s.flt with channels := s.flt.channels.map swapAssign }
    usb := { s.usb with
      named := swapHost s.usb.named, owner := swapHost s.usb.owner
      requests := s.usb.requests.map (fun (r : UsbRequest) => { r with host := swapHost r.host }) } }

/-- The frame-store quota of R188, and of Span (R389): the frame store less the hold image area, shared. -/
def ownQuota (s : State) : Nat := if outputs s = 0 then 0 else (s.perf.frameMiB - 2) / uplinks s
def spanQuota (s : State) : Nat := (s.perf.frameMiB - 2) / 4 / 2 * 2

/-- The state with this chip in a pair state whose host numbering may differ from the one before. -/
def movePair (st : Fin 12) (s : State) : State :=
  let t := setPairState st s
  if isFollower t = isFollower s then t else renumberHosts t

/-- Span is formed: quotas of R389, states 2 or 3 by POS, the join completes (R382). -/
def enterSpan (s : State) : State :=
  let s := movePair (if s.pair.pos then 3 else 2) s
  let s := { s with disp := { s.disp with quotas := Vector.replicate 4 (spanQuota s) } }
  finish .pairJoin stOk [] (updPair (fun p => { p with join := none, mismatches := 0 }) s)

/-- The quotas of R188 for this chip's own hosts, and none for the others. -/
def leaveQuotas (s : State) : State :=
  { s with disp := { s.disp with quotas := Vector.ofFn (fun (h : HostNo) =>
      if (upOfHost s h).isSome then ownQuota s else 0) } }

/-! ### Admission in pairs (R395) -/

/-- The partner's performance level: as it reports it when a pair is formed, and free after that (log entry 134). -/
def partnerLevel (s : State) : Fin 4 := if s.pair.join.isSome then s.pair.partnerPl else Config.partnerPl s.clock.hubTime

/-- A5: the cross tunnels of both chips' hosts in each bond direction; what is toward the hub for those of one chip goes the way
of what is toward the host for those of the other. -/
def admitA5 (s : State) (ts : List Tunnel) (pl : Fin 4) : Bool :=
  let other := partnerLevel s
  let low : Fin 4 := if pl.val < other.val then other else pl
  ([true, false] : List Bool).all (fun d =>
    let sum := ((ts.filter (fun t => t.cross.isSome)).map (committed d)).sum
      + ((ts.filter (fun t => t.far.isSome)).map (committed (!d))).sum
    decide (sum ≤ 180000) && decide (64 * sum ≤ 63 * portMbit low))

/-- M1: the replication Day's bond link carries. -/
def admitM1 (s : State) (ports : Vector NetPort 18) (ts : List Tunnel) : Bool :=
  decide (((ts.filter (fun t => t.tid != 0)).map (committed true)).sum + lineRates s ports ≤ 180000)

/-- The interlock line as this chip reads it: low while it pulls it, or once it has been seen low. The partner may have pulled it
since it was last seen high, and no row tells: whether it has is free (log entry 134). A fall ends a claim wait (R397). -/
def seeIlk (s : State) : State :=
  if s.pair.ilkDrive || s.pair.ilkLow || !s.pair.bndPres || inSpan s then s
  else
    let low := Config.freeBool s.freeCtr
    updPair (fun p => { p with ilkLow := low, claimWait := p.claimWait && !low }) { s with freeCtr := s.freeCtr + 1 }

/-- The pair's formula of A4 in the mode in force. -/
def admitPair (s : State) (ports : Vector NetPort 18) (ts : List Tunnel) (pl : Fin 4) : Bool :=
  (!inSpan s || admitA5 s ts pl) && (!isDay s || admitM1 s ports ts)

/-! ### Joining (R381, R382, R384) -/

/-- Whether the Night-to-be holds what refuses a Mirror join. -/
def nightBusy (s : State) : Bool :=
  s.tunnels.any (fun t => t.tid != 0) || !s.disp.regions.isEmpty || s.disp.outs.toList.any (fun x => x.mode != 0)
    || s.can.generation != 0

/-- Checks 3 to 5 of R381 for a join of mode `mode` in which this chip is to be Day or not. -/
def joinChecks (s : State) (mode : Fin 3) (day : Bool) (j : PartnerJoin) : Option Half :=
  if j.mode.toNat != mode.val || j.stepping != 0xB0 || j.level.toNat != s.fw.level.toNat
    || (mode == 2 && j.wantsDay == day) then some stPairRole
  else if mode == 2 && (if day then j.nightBusy else nightBusy s) then some stBusy
  else if !j.admits || !(if mode = 1 then admitA5 s s.tunnels s.perf.pl
      else !day || admitM1 s s.net.ports s.tunnels) then some stAdmission
  else none

/-! ### The interlock and the handover (R396 to R405) -/

/-- This chip stops driving: gap state, BND_DAY low, ILK_N released (Table 10.6 steps 1 and 2). -/
def releaseIlk (s : State) : State :=
  (List.finRange 4).foldl showLink (updPair (fun p => { p with
    gap := 15, bndDay := false, ilkDrive := false, confirming := false, ilkLow := false }) s)

/-- Every tunnel that can becomes Standby (R391), with event 16. -/
def standbyTunnels (s : State) : State :=
  let ts := s.tunnels.filter (fun t => t.tid != 0)
  let s := { s with tunnels := s.tunnels.map (fun (t : Tunnel) => if t.tid == 0 then t else { t with standby := true }) }
  ts.foldl (fun s t => noteTunnel t.host t.tid s) s

/-- A chip that is no longer Day disables its ports (R405). -/
def disablePortsOf (s : State) : State :=
  let s := ([0, 1] : List PciePort).foldl (fun s p =>
    if s.pcie.ports[p].state = 0 then s else parkPort p (updPort p (fun x => { x with prefetch := [] }) s)) s
  resetUsbPorts false (([0, 1] : List EthPort).foldl (fun s e => ethDown e s) s)

/-- The yielding Day's side of a handover (Table 10.6, R405). -/
def yieldDay (planned : Bool) (s : State) : State :=
  if !isDay s then s
  else
    let now := s.clock.hubTime
    let s := setPairState (if planned then 6 else 10) (releaseIlk s)
    let s := updPair (fun p => { p with handovers := satInc p.handovers, handoverTime := now, planned := planned }) s
    let s := raise .all 56 0 (disablePortsOf (standbyTunnels s))
    finish .handover stOk [] s

/-- A fault of pairing that makes Day release ILK_N (R397, R398, R475, R476). -/
def faultRelease (code : Nat) (s : State) : State := if isDay s then pairFault code 7 (yieldDay false s) else s

/-- What Day copies to Night: its whole configuration in force and the pixels of its frame store (R382 step 3). -/
def mirrorCopy (s : State) : MirrorCopy := ⟨s.tunnels, s.scheds, s.disp, s.pcie, s.usb, s.net, s.can, s.flt.channels⟩
def sendCopy (s : State) : State := emit (.mirrorChange (.copy (mirrorCopy s))) s

/-- A tunnel of Day as Night holds it: Standby, with nothing in it (R391). -/
def standbyCopy (t : Tunnel) : Tunnel :=
  { t with
    standby := true, closing := false, silent := false, queue := [], held := [], msg := [], msgUnits := 0, inMsg := false
    msgBroken := false, inbox := [], owed := none, freed := 0, release := 0, counters := noCounters, snap := [] }

/-- An output of Day as Night shows it: its mode, layers, check-value regions, hold and policy, on Night's own sink; the pending
sets come with Day's commits. -/
def copiedOutput (own day : Output) : Output :=
  { day with
    link := own.link, sink := own.sink, sinkChg := own.sinkChg, sinkRate := own.sinkRate, sinkLanes := own.sinkLanes
    edid := own.edid, blankAt := own.blankAt, underruns := own.underruns, retrains := own.retrains, mirror := []
    checks := Vector.ofFn (fun k => { day.checks[k] with result := own.checks[k].result, count := own.checks[k].count
                                                         mismatch := own.checks[k].mismatch }) }

/-- A PCIe port of Day's setting on Night, whose port stays in state 0 (R392). -/
def copiedPort (own day : PciePortState) : PciePortState :=
  { own with assigned := day.assigned, maxRate := day.maxRate, flags := day.flags, slotNo := day.slotNo, state := 0 }

/-- A USB port with Day's settings: those of R312 and R313. -/
def copiedUsbPort (own day : UsbPort) : UsbPort :=
  { own with flags := day.flags, typeC := day.typeC, removable := day.removable, mode := day.mode, rpReq := day.rpReq }

/-- A switch port with Day's setting, limits and marking. -/
def copiedNetPort (own day : NetPort) : NetPort :=
  { own with
    cfg := day.cfg
    queues := Vector.ofFn (fun q => { own.queues[q] with mark := day.queues[q].mark, k := day.queues[q].k
                                                         limit := day.queues[q].limit }) }

/-- A physical port with Day's overflow and resequencer settings; its link stays down (R392). -/
def copiedEth (own day : EthState) : EthState :=
  { own with overflow := day.overflow, limitMiB := day.limitMiB, reseq := day.reseq, reseqW := day.reseqW
             reseqUs := day.reseqUs }

/-- A CAN port with Day's setting. -/
def copiedCanPort (own day : CanPortState) : CanPortState := { own with setting := day.setting }

/-- Night takes Day's copy (R382 step 3). -/
def installCopy (c : MirrorCopy) (s : State) : State :=
  { s with
    tunnels := s.tunnels.filter (fun t => t.tid == 0) ++ (c.tunnels.filter (fun t => t.tid != 0)).map standbyCopy
    scheds := Vector.ofFn (fun u => { s.scheds[u] with toHost := c.scheds[u].toHost, toHub := c.scheds[u].toHub
                                                       excHost := c.scheds[u].excHost })
    disp := { c.disp with
      mem := sparseCopy 0 c.disp.mem
      outs := Vector.ofFn (fun o => copiedOutput s.disp.outs[o] c.disp.outs[o]), landed := []
      tileBad := s.disp.tileBad, tileDropped := s.disp.tileDropped }
    pcie := { s.pcie with
      cfg := c.pcie.cfg.map (fun v => v.map (sparseCopy 0)), split := c.pcie.split, splitNext := c.pcie.splitNext
      ports := Vector.ofFn (fun p => copiedPort s.pcie.ports[p] c.pcie.ports[p])
      windows := Vector.ofFn (fun w => { s.pcie.windows[w] with owner := c.pcie.windows[w].owner
                                                                host := c.pcie.windows[w].host }) }
    usb := { s.usb with
      named := c.usb.named, policy := c.usb.policy, owner := c.usb.owner, carve := c.usb.carve, carveNext := c.usb.carveNext
      ports := Vector.ofFn (fun n => copiedUsbPort s.usb.ports[n] c.usb.ports[n]) }
    net := { s.net with
      ports := Vector.ofFn (fun p => copiedNetPort s.net.ports[p] c.net.ports[p])
      eth := Vector.ofFn (fun p => copiedEth s.net.eth[p] c.net.eth[p])
      vlans := c.net.vlans, addrs := c.net.addrs, aging := c.net.aging }
    can := { c.can with
      ports := Vector.ofFn (fun p => copiedCanPort s.can.ports[p] c.can.ports[p]), staging := s.can.staging
      stored := s.can.stored, storedRoutes := s.can.storedRoutes, mapIsStored := false
      badMessages := s.can.badMessages, badEntries := s.can.badEntries }
    flt := { s.flt with channels := c.channels } }

/-- The claim of ILK_N is confirmed: this chip is Day, with the former Day copying anew after a planned handover; its
transmitters leave idle in the running symbol stream (Table 10.6 step 7). -/
def becomeDay (s : State) : State :=
  let s := (List.finRange 4).foldl showLink (setPairState (if s.pair.planned then 5 else 9) (updPair (fun p => { p with
    confirming := false, takeover := true, gap := 0 }) s))
  if s.pair.planned then sendCopy s else s

/-! ### Signatures (R399 to R402) -/

/-- Whether the profile and PAIR_COMPARE_CFG have an instance compared at a boundary (R401, R410); nothing is before the copy is complete,
nor when Night has yielded (log entry 122). -/
def compared (s : State) (k : SigKey) : Bool :=
  let c := s.pair.compareCfg
  (s.pair.state == 7 || s.pair.state == 8) && (s.perf.profile == .midnight ||
    (if k.kind = 1 then (byteAt c 0).testBit 0 && (byteAt c 1).testBit k.port
     else if k.kind = 2 then (byteAt c 0).testBit 1 && (byteAt c 2).testBit k.port
     else if k.kind = 3 then (byteAt c 0).testBit 2 && (byteAt c 2).testBit (2 + k.port)
     else if k.kind = 4 then (byteAt c 0).testBit 3 && (fieldAt c 4 2).testBit (k.port - 1)
     else false))

/-- A mismatch: event 57 with the count, and the self-test unless one runs (R402). -/
def mismatch (k : SigKey) (s : State) : State :=
  let s := updPair (fun p => { p with mismatches := satInc p.mismatches }) s
  let s := raise .all 57 (65536 * k.kind.val + s.pair.mismatches.toNat % 65536) s
  if s.pair.selfTest.isSome then s else updPair (fun p => { p with selfTest := some k }) s

/-- Writes that Night held uncompared leave it as far as the bytes now compared reach (R392, R405). -/
def dropWrites : Nat → List QueuedTlp → List QueuedTlp × Nat
  | n, [] => ([], n)
  | n, q :: r => if q.tlp.length ≤ n then dropWrites (n - q.tlp.length) r else (q :: r, n)

/-- The boundary of a posted queue has been compared: Night discards the egress it covers (R392). -/
def dropCompared (r : SigRecord) (s : State) : State :=
  if isNight s && r.key.kind == 2 && r.key.sub == 0 then
    let p : PciePort := ⟨r.key.port % 2, Nat.mod_lt _ (by decide)⟩
    updPort p (fun x =>
      let (left, n) := dropWrites (x.compared + r.len) x.posted
      { x with posted := left, compared := if left.isEmpty then 0 else n }) s
  else s

/-- A signature of one side joins the other's of its boundary and is compared, or waits for it (R400). -/
def joinRecord (r : SigRecord) (s : State) : State :=
  if !bondActive s then s
  else
    let other (x : SigRecord) : Bool := x.key == r.key && x.seq == r.seq && x.own != r.own
    match s.pair.records.find? other with
    | none => updPair (fun p => { p with records := p.records ++ [r] }) s
    | some x =>
      let mine := if r.own then r else x
      let s := dropCompared mine (updPair (fun p => { p with records := p.records.filter (fun y => !other y) }) s)
      if x.value = r.value || !mine.counts then s else mismatch r.key s

/-- The signature of a display instance: a region's newest value, or the whole active area where the output has no region
that enters a check value (R399). -/
def displaySig (s : State) (o : OutNo) (r : Fin 8) : Option Nat :=
  let x := s.disp.outs[o]
  let defined (c : CheckRegion) : Bool := ckW c.force != 0 && ckH c.force != 0
  let counts (c : CheckRegion) : Bool := ckEnable c.force || (s.perf.profile == .midnight && defined c)
  let i := modeInfo x.mode
  if x.mode = 0 then none
  else if x.checks.toList.any counts then (if counts x.checks[r] then some x.checks[r].newest.toNat else none)
  else if r = 0 then some (crc32 (rectBytes s o 0 0 i.hact i.vact))
  else none

/-- The record of a boundary is sent on bond TID 1, and compared (R400). -/
def sendRecord (k : SigKey) (seq : Word) (v len : Nat) (s : State) : State :=
  joinRecord ⟨k, seq, true, BitVec.ofNat 64 v, compared s k, len⟩ (emit (.signature k seq (BitVec.ofNat 64 v)) s)

/-- A boundary of Table 10.4 on this chip. A block of an egress stream has at most 4,096 bytes. -/
def sigBoundary (k : SigKey) (s : State) : State :=
  if !(isDay s || isNight s) then s
  else if k.kind = 1 then
    let o : OutNo := ⟨k.port % 4, Nat.mod_lt _ (by decide)⟩
    match displaySig s o ⟨k.sub % 8, Nat.mod_lt _ (by decide)⟩ with
    | some v => sendRecord k s.disp.outs[o].frame v 0 s
    | none => s
  else
    match s.pair.streams.find? (fun x => x.key == k) with
    | none => s
    | some x =>
      if x.bytes.isEmpty then s
      else
        let cut (y : SigStream) : SigStream :=
          if y.key == k then { y with blocks := y.blocks + 1, bytes := y.bytes.drop 4096 } else y
        sendRecord k x.blocks (crc32 (x.bytes.take 4096)) (min 4096 x.bytes.length) (updPair (fun p => { p with streams := p.streams.map cut }) s)

/-- The transients of the last hour, this one included. -/
def recentTransients (s : State) : List Dword :=
  (s.clock.hubTime :: s.pair.transientTimes).filter (fun t => decide ((s.clock.hubTime - t).toNat < 3600000000000))

/-- The outcome of a mismatch in which Night is at fault (Table 10.5). -/
def nightFails (s : State) : State := if isDay s then setPairState 9 s else if isNight s then setPairState 10 s else s

/-- The verdict of Table 10.5 on both self-tests' results, of which this chip's own went to the partner (R402). -/
def verdict (own partner : Bool) (s : State) : State :=
  let s := emit (.pairControl 4 (BitVec.ofNat 64 (bitNat own))) s
  let s := updPair (fun p => { p with selfTest := none, selfFails := if own then p.selfFails else satInc p.selfFails }) s
  let day := if isDay s then own else partner
  let night := if isDay s then partner else own
  if !day && night then (if isDay s then yieldDay false s else s)
  else if day && !night then nightFails s
  else if day then
    let ts := recentTransients s
    let limit := byteAt s.pair.compareCfg 6
    let s := updPair (fun p => { p with transients := satInc p.transients, transientTimes := ts }) s
    if limit != 0 && decide (limit < ts.length) then nightFails s else s
  else nightFails (pairFault 4 0 s)

/-- The fault of an injected pair fault, by its code (Table 13.2). -/
def injectPair (code : Nat) (s : State) : State :=
  let day := isDay s
  let s := logFault 0x15 code { injected := true, reaction := if day && code != 1 then 7 else 0 } s
  if code = 1 then nightFails s
  else if code = 4 then verdict false true s
  else if day then yieldDay false s
  else if code = 2 then updPair (fun p => { p with ilkFault := true }) s
  else s

/-- The pair faults among some codes that a persistent injection keeps up act again (R492). -/
def persistPair (codes : List Nat) (s : State) : State :=
  codes.foldl (fun s c => if injectedAt s 0x15 c then injectPair c s else s) s

/-! ### Replication (R391, R392) -/

/-- Something Day sends over bond TIDs 3 to 255: its bytes wait in the replication queue, and above 1 MiB the excess phase
stops. -/
def replicate (t : Replica) (bytes : Nat) (s : State) : State :=
  if isDay s && !partnerGone s then
    emit (.replicated t) (updPair (fun p => { p with
      replBytes := p.replBytes + bytes
      replHold := p.replHold || decide (1048576 < p.replBytes + bytes) }) s)
  else s

/-- The state bytes of PAIR_COMPARE_CFG and the auto-rejoin flag as setting 15 keeps them (log entry 11). -/
def storePairing (s : State) : State :=
  storeSetting 15 ([BitVec.ofNat 8 (bitNat s.pair.autoRejoin)] ++ s.pair.compareCfg) s

/-! ### PAIR_STATUS (R411) -/

/-- The 48-byte response. -/
def pairReport (s : State) : List Byte :=
  let p := s.pair
  let k := s.links[(2 : LinkNo)]
  leBytes 1 p.state.val
    ++ leBytes 1 (bitNat p.pos + 2 * bitNat p.bndPres + 4 * bitNat p.ilkLow + 8 * bitNat p.bndDay
        + 16 * bitNat p.ilkFault + 32 * bitNat p.autoRejoin)
    ++ leBytes 1 k.state.val ++ [0] ++ leBytes 8 p.timeOffset.toNat ++ leBytes 4 p.mismatches.toNat
    ++ leBytes 4 p.transients.toNat ++ leBytes 4 p.selfFails.toNat ++ leBytes 4 p.handovers.toNat
    ++ leBytes 8 p.handoverTime.toNat ++ leBytes 4 ((p.replBytes + 1023) / 1024) ++ leBytes 4 k.counters[(0 : Fin 16)].toNat
    ++ leBytes 4 k.counters[(5 : Fin 16)].toNat

end Sys2Proof.Machine
end

