-- ==== Sys2Proof/Machine/PowerOps.lean ====
section
/-! DEFINITION. Operations of the power path (11): fault entries, feed selection, hot swap and its retry state, eFuse trips, and the PD offers and contracts. -/
namespace Sys2Proof.Machine

def updPower (f : Power → Power) (s : State) : State := { s with power := f s.power }
def updPd (u : Up) (f : PdSource → PdSource) (s : State) : State :=
  updPower (fun p => { p with pd := upd p.pd u f }) s

/-! ### Fault entries (R446, R472) -/

/-- An entry of a power-path class in the fault log, mirrored in the ring of PWR_FLOG when it is a new one. -/
def powerFault (cls : Fin 24) (source : Nat) (cause : Byte) (value : Half) (s : State) : State :=
  let fresh := !coalesces s cls (BitVec.ofNat 32 source)
  let s := logFault cls source { detail := value.setWidth 32 } s
  if fresh then
    updPower (fun p =>
      let i : Fin 16 := match p.newest with | some k => k + 1 | none => 0
      let e : PowerFault := ⟨value, BitVec.ofNat 8 source, cause, BitVec.ofNat 32 p.count.val, s.clock.hubTime⟩
      { p with flog := p.flog.set i (some e), newest := some i, total := satInc p.total }) s
  else s

/-! ### Settings -/

def pwPreferred (p : Power) : Feed := if byteAt p.feedCfg 0 = 0 then .a else .b
def pwRevertive (p : Power) : Bool := (byteAt p.feedCfg 1).testBit 0
def pwRetryMs (p : Power) : Nat := 10 * fieldAt p.hswCfg 10 2
def pwRetryLimit (p : Power) : Nat := byteAt p.hswCfg 12

def feedOf (p : Power) (f : Feed) : FeedState := match f with | .a => p.feedA | .b => p.feedB
def setFeed (f : Feed) (g : FeedState → FeedState) (p : Power) : Power :=
  match f with | .a => { p with feedA := g p.feedA } | .b => { p with feedB := g p.feedB }
def otherFeed : Feed → Feed | .a => .b | .b => .a

/-- The programmed window of the feeds, in mV (R440). -/
def feedUv (p : Power) : Nat := 10 * fieldAt p.feedCfg 4 2
def feedOv (p : Power) : Nat := 10 * fieldAt p.feedCfg 6 2

/-- The two comparators of a feed at a voltage in mV (R414): UV, or UV × 0.98 while it falls; OV, or OV × 0.98 while it
falls. A feed that leaves its window is no longer qualified. -/
def senseFeed (p : Power) (mv : Nat) (x : FeedState) : FeedState :=
  let high := if x.high then decide (98 * feedOv p ≤ 100 * mv) else decide (feedOv p ≤ mv)
  let low := if x.inWindow || x.high then decide (100 * mv < 98 * feedUv p) else decide (mv < feedUv p)
  { inWindow := !high && !low, qualified := x.qualified && x.inWindow && !high && !low, mv := mv, high := high }

/-! ### PD sources (R431 to R437) -/

/-- The power a contract counts, in mW: PPS at 21 V (R436). -/
def contractMw (c : Option Contract) : Nat :=
  match c with | some c => (if c.pps then 21000 else c.mv) * c.ma / 1000 | none => 0

/-- The other uplink. -/
def otherUp (u : Up) : Up := if u = 0 then 1 else 0

/-- A_u in mW. -/
def offerMw (p : Power) (u : Up) : Nat :=
  min (1000 * fieldAt p.pd[u].policy 2 2) (1000 * fieldAt p.pd[u].policy 4 2 - max 15000 (contractMw p.pd[otherUp u].contract))

/-- The current a cable carries, in mA: 3 A, or more with an e-marker that says so. -/
def cableMa (x : PdSource) : Nat := match x.cable with | some c => if c.emarker then c.maxMa else min c.maxMa 3000 | none => 0

/-- One object of an offer: its voltage and current in mV and mA, and whether it is the PPS APDO. -/
structure OfferItem where
  mv : Nat
  ma : Nat
  pps : Bool
deriving DecidableEq, Repr

/-- A fixed supply's current under a power (R436). -/
def fixedMa (x : PdSource) (mw mv : Nat) : Nat := min (min (cableMa x) 5000) (1000 * mw / mv) / 50 * 50

/-- The fixed supplies of a list of voltages and policy bits. -/
def fixedItems (x : PdSource) (mw : Nat) (vs : List (Nat × Nat)) : List OfferItem :=
  (vs.filter (fun v => (byteAt x.policy 0).testBit v.2 && decide (1000 ≤ fixedMa x mw v.1))).map
    (fun v => ⟨v.1, fixedMa x mw v.1, false⟩)

/-- The SPR part of an offer. -/
def sprItems (p : Power) (u : Up) : List OfferItem :=
  let x := p.pd[u]
  let mw := offerMw p u
  let pps := min (min (cableMa x) 5000) (mw * 1000 / 21000) / 50 * 50
  ⟨5000, max 900 (min 3000 (fixedMa x mw 5000)), false⟩ :: fixedItems x mw [(9000, 1), (15000, 2), (20000, 3)]
    ++ (if (byteAt x.policy 0).testBit 4 && decide (1000 ≤ pps) then [⟨21000, pps, true⟩] else [])

/-- The EPR part, in EPR mode with a cable that permits it. -/
def eprItems (p : Power) (u : Up) : List OfferItem :=
  let x := p.pd[u]
  if x.epr && (match x.cable with | some c => c.epr | none => false) then
    fixedItems x (offerMw p u) [(28000, 5), (36000, 6), (48000, 7)]
  else []

/-- The data object of an item, in the layout of USB PD 3.1. -/
def pdoWord (i : OfferItem) : Word :=
  if i.pps then BitVec.ofNat 32 (3 * 2 ^ 30 + 210 * 2 ^ 17 + 33 * 2 ^ 8 + i.ma / 50)
  else BitVec.ofNat 32 (i.mv / 50 * 2 ^ 10 + i.ma / 10)

/-- The objects of the capabilities message: in EPR mode the EPR objects begin at position 8. -/
def offerWords (p : Power) (u : Up) : List Word :=
  let spr := (sprItems p u).map pdoWord
  if p.pd[u].epr then spr ++ List.replicate (7 - spr.length) 0 ++ (eprItems p u).map pdoWord else spr

/-- The object at a position of the offer, counted from 1. -/
def offerAt (p : Power) (u : Up) (idx : Nat) : Option OfferItem :=
  if idx = 0 then none
  else if idx ≤ 7 then (sprItems p u)[idx - 1]?
  else (eprItems p u)[idx - 8]?

/-- Whether an uplink may have VBUS (R432, R435, R437). -/
def mayVbus (s : State) (u : Up) : Bool :=
  decide (u.val < uplinks s) && s.power.pg && !s.power.pd[u].convAbsent && !s.power.pd[u].lockedOut

/-- Sends the capabilities of an uplink. -/
def sendCaps (u : Up) (s : State) : State :=
  let ws := offerWords s.power u
  updPd u (fun x => { x with offer := ws })
    (emit (.pd u (if s.power.pd[u].epr then "EPR_Source_Capabilities" else "Source_Capabilities") ws) s)

/-- Whether a contract is within the offer now: some object, at whatever position, still supplies its voltage at its current. -/
def contractFits (p : Power) (u : Up) (c : Contract) : Bool :=
  (sprItems p u ++ eprItems p u).any (fun i => i.pps == c.pps && (i.pps || i.mv == c.mv) && decide (c.ma ≤ i.ma))

/-- Recomputes the offer of an uplink that has been sent one since its VBUS came into range; changed capabilities are sent
(R433, R436). -/
def refreshOffer (u : Up) (s : State) : State :=
  if s.power.pd[u].vbus && !s.power.pd[u].offer.isEmpty && offerWords s.power u != s.power.pd[u].offer then sendCaps u s else s

/-- A new policy: capabilities sent where they changed, with a Request awaited where the contract no longer fits. -/
def policyOffer (u : Up) (s : State) : State :=
  match s.power.pd[u].contract with
  | some c => if contractFits s.power u c then refreshOffer u s else updPd u (fun x => { x with newCaps := true }) (sendCaps u s)
  | none => refreshOffer u s

/-- The contract of an uplink ends, with event 61 and PDO 0 (R433). -/
def dropContract (u : Up) (s : State) : State :=
  let had := s.power.pd[u].contract.isSome
  let s := updPd u (fun x => { x with contract := none, accepted := none, epr := false, newCaps := false, offer := [] }) s
  let s := if had then raise .all 61 (256 * u.val) s else s
  if had then refreshOffer (otherUp u) s else s

/-- The VBUS switch opens and the contract is lost. -/
def cutVbus (u : Up) (s : State) : State := dropContract u (updPd u (fun x => { x with vbus := false }) s)

/-- The converter commanded to a voltage and a current limit (R432, R434). -/
def setConverter (u : Up) (c : Contract) (s : State) : State :=
  emits [.pmbus (.vbus u) 0x21 c.mv, .pmbus (.vbus u) 0x46 (if c.pps then c.ma else c.ma * 11 / 10 + 100),
    .pmbus (.vbus u) 0x47 (bitNat c.pps)] s

/-- Whether an uplink of this chip has a sink attached. -/
def pdAttached (s : State) (u : Up) : Bool := decide (u.val < uplinks s) && s.links[linkOfUp u].cc != 0

/-- The converter of an attached uplink that may have VBUS is set to 5 V and turned on: after an attach, in the recovery of a
Hard Reset, and when a lockout ends (R433, R435). -/
def startFive (u : Up) (s : State) : State :=
  if pdAttached s u && mayVbus s u then emits [.pmbus (.vbus u) 0x21 5000, .pmbus (.vbus u) 0x01 0x80] s else s

/-- Whether a Request asks for what the offer holds. -/
def requestFits (p : Power) (u : Up) (rq : PdRequest) : Option Contract :=
  match offerAt p u rq.idx with
  | none => none
  | some i =>
    if rq.epr != decide (8 ≤ rq.idx) && !p.pd[u].epr then none
    else if i.ma < rq.ma then none
    else if i.pps then (if 3300 ≤ rq.mv && decide (rq.mv ≤ 21000) then some ⟨BitVec.ofNat 8 rq.idx, rq.mv, rq.ma, true⟩ else none)
    else some ⟨BitVec.ofNat 8 rq.idx, i.mv, rq.ma, false⟩

/-! ### PG_OUT (R420, R437) -/

/-- PG_OUT rises. -/
def pgRise (s : State) : State := settleEfuses (updPower (fun p => { p with pg := true, ramping := false, inserting := false, hsw := 3 }) s)

/-- PG_OUT falls: VBUS_GATE low, every uplink's VBUS off and its contract lost, eFuses off. -/
def pgFall (s : State) : State :=
  if !s.power.pg then s
  else
    let s := updPower (fun p => { p with pg := false, vbusGate := false }) s
    settleEfuses (cutVbus 1 (cutVbus 0 s))

/-! ### Hot swap (R417 to R426) -/

/-- The retry state as one persistent word (setting 20). -/
def storeRetry (s : State) : State :=
  storeWord 20 (BitVec.ofNat 32 (65536 * s.power.count.val + s.power.retryMs % 65536)) s

/-- HSW_GATE is pulled low: PG_OUT falls, the ramp timer stops. -/
def gateOff (st : Fin 7) (s : State) : State :=
  pgFall (updPower (fun p => { p with gate := false, ramping := false, inserting := false, hsw := st }) s)

/-- The ramp begins (R418). -/
def startRamp (s : State) : State := updPower (fun p => { p with gate := true, ramping := true, inserting := true, hsw := 2 }) s

/-- Whether the FET may be turned on. -/
def mayRamp (p : Power) : Bool :=
  p.seated && p.inUse.isSome && p.inserted && p.retryMs == 0 && !p.latched && !p.gate

/-- The state code while the gate is off. -/
def offState (p : Power) : Fin 7 :=
  if !p.seated || p.inUse.isNone then 0 else if p.latched then 6 else if !p.inserted then 1 else 5

/-- Starts the ramp where everything holds, else shows why the gate is off. -/
def settleHsw (s : State) : State :=
  if s.power.gate then s
  else if mayRamp s.power then startRamp s
  else updPower (fun p => { p with hsw := offState p }) s

/-- A hot-swap fault: gate off, count, retry or latch, event 59, entry (R421, R423, R424). -/
def hswFault (cause : Nat) (vds : Half) (s : State) : State :=
  let s := gateOff 5 s
  let n := min 15 (s.power.count.val + 1)
  let latch := decide (pwRetryLimit s.power ≤ n)
  let s := updPower (fun p => { p with
    count := ⟨n, by omega⟩, latched := latch, retryMs := if latch then 0 else pwRetryMs p
    hsw := if latch then 6 else 5 }) s
  raise .all 59 cause (powerFault 0x11 1 (BitVec.ofNat 8 cause) vds (storeRetry s))

/-! ### Feeds (R414 to R417) -/

/-- The feed in use changes, with event 58. -/
def useFeed (f : Option Feed) (s : State) : State :=
  if s.power.inUse = f then s
  else
    let code := match f with | some .a => 0 | some .b => 1 | none => 2
    settleHsw (raise .all 58 code (updPower (fun p => { p with inUse := f }) s))

/-- What follows once a feed has left its window (R415). -/
def feedLost (f : Feed) (s : State) : State :=
  let p := s.power
  if p.inUse = some f && p.toFeed.isNone then
    let s := powerFault 0x10 0 1 0 s
    if (feedOf p (otherFeed f)).inWindow then updPower (fun p => { p with toFeed := some (otherFeed f) }) s
    else useFeed none s
  else if p.toFeed = some f then
    let s := updPower (fun p => { p with toFeed := none }) s
    (match p.inUse with
      | some g => if (feedOf p g).inWindow then updPower (fun p => { p with toFeed := some g }) s else useFeed none s
      | none => s)
  else s

/-- A feed leaves its window at a voltage. -/
def feedLeave (f : Feed) (mv : Nat) (s : State) : State := feedLost f (updPower (fun p => setFeed f (senseFeed p mv) p) s)

/-- The programmed window is applied to a feed at the voltage last reported of it (R440). -/
def rewindow (s : State) (f : Feed) : State :=
  let was := (feedOf s.power f).inWindow
  let s := updPower (fun p => setFeed f (senseFeed p (feedOf p f).mv) p) s
  if was && !(feedOf s.power f).inWindow then feedLost f s else s

/-- A feed is turned on where none is in use. -/
def feedPick (s : State) : State :=
  let p := s.power
  if p.inUse.isSome || p.toFeed.isSome then s
  else if (feedOf p (pwPreferred p)).qualified then useFeed (some (pwPreferred p)) s
  else if (feedOf p (otherFeed (pwPreferred p))).qualified then useFeed (some (otherFeed (pwPreferred p))) s
  else s

/-! ### eFuse channels (R429, R309) -/

/-- The over-current of the port a channel feeds: reported, and PORT_POWER cleared (R309). -/
def portOverCurrent (n : Fin 8) (s : State) : State :=
  let one (ss : Bool) (s : State) : State :=
    setChange ss n 0x08 (setStatus ss n 0x08 true (powerOffHalf ss n s))
  let s := updUsbPort n (fun p => { p with overCurrent := true, vbus := false, speed := 0 }) s
  let s := one false s
  if n.val ≤ usbPortsS s then one true s else s

/-- A port whose channel is turned off: no VBUS, power off, over-current clear (R309). -/
def portOff (n : Fin 8) (s : State) : State :=
  let s := powerOffHalf false n (updUsbPort n (fun p => { p with overCurrent := false, vbus := false, speed := 0 }) s)
  if n.val ≤ usbPortsS s then powerOffHalf true n s else s

/-- A trip of a channel. -/
def efuseTrip (ch : Fin 6) (cause : Byte) (ma : Half) (s : State) : State :=
  if !s.power.efuses[ch].on then s
  else
    let s := updPower (fun p => { p with
      efuses := upd p.efuses ch (fun e => { e with on := false, tripped := true, held := true, offTime := true, trips := satInc e.trips })
      trip := setBit p.trip ch.val true }) s
    let s := powerFault 0x12 (2 + ch.val) cause ma (raise .all 60 ch.val s)
    if usbExternal s (ch.val + 1) then portOverCurrent ⟨ch.val + 1, by omega⟩ s else s

/-! ### PWR_STS (R446) -/

def pwrSts (s : State) : Nat :=
  let p := s.power
  2 ^ 30 * (match p.inUse with | some .a => 0 | some .b => 1 | none => 2) + 2 ^ 29 * bitNat p.feedA.inWindow
    + 2 ^ 28 * bitNat p.feedB.inWindow + 2 ^ 24 * p.hsw.val + 2 ^ 23 * bitNat p.pg + 2 ^ 22 * bitNat p.seated
    + 2 ^ 18 * p.count.val + 2 ^ 8 * ((List.finRange 6).foldl (fun m n => m + (if p.efuses[n].on then 2 ^ n.val else 0)) 0)
    + p.trip.toNat

/-- PWR_FLOG_IDX. -/
def pwrFlogIdx (s : State) : Nat :=
  65536 * s.power.total.toNat + (match s.power.newest with | some i => i.val | none => 255)

/-- The four words of a PWR_FLOG entry, the lowest first. -/
def pwrFlog (s : State) (i : Fin 16) : List Byte :=
  match s.power.flog[i] with
  | none => zeros 16
  | some e => leBytes 8 e.time.toNat ++ leBytes 4 e.count.toNat ++ leBytes 1 e.cause.toNat ++ leBytes 1 e.source.toNat
      ++ leBytes 2 e.value.toNat

end Sys2Proof.Machine
end

