-- ==== Sys2Proof/Machine/LossOps.lean ====
section
/-! DEFINITION. What the loss of a host does across the engines (R109, R165, R222, R252, R281, R363), what fall-back does (R102), and the end of a link. -/
namespace Sys2Proof.Machine

/-- The tunnels of a host other than TID 0 are Closed at once, without events; commands that were closing them
complete (R165). -/
def closeHostTunnels (h : HostNo) (s : State) : State :=
  let gone := s.tunnels.filter (fun t => t.host == h && t.tid != 0)
  gone.foldl (fun s t => finish (.tunClose h t.tid) stOk [] (tellClosed s t))
    { s with tunnels := s.tunnels.filter (fun t => !(t.host == h && t.tid != 0)) }

/-- The tunnels closed and the display effects of R222, then the events of the loss in their order. -/
def loseDisplay (h : HostNo) (s : State) : State :=
  let (s, freed, hit) := displayLose h (closeHostTunnels h s)
  let s := tunEvent h 0 0 s
  let s := freed.foldl (fun s r => raise (.hosts (hostBit h)) 31 (65536 + r.toNat) s) s
  holdOutputs 1 hit s

/-- The host of an uplink, or of the partner, is lost (R109, R390). -/
def loseHost (h : HostNo) (s : State) : State :=
  let t := storageTunnel s h
  let s := netLose h (loseDisplay h s)
  canLose h (usbLose h (pcieLose h t s))

/-- The port leaves its uplink: its traffic ends, and the host sees a surprise removal (Table 6.8 step 2). -/
def leaveUplink (p : PciePort) (s : State) : State :=
  match s.pcie.ports[p].assigned with
  | none => s
  | some h =>
    let up := linkIsUp s.pcie.ports[p]
    let s := updPort p (fun x => { x with shown := false }) (quiescePort p 4 5 cplUr s)
    let s := cfgClear h (portFn p) 0x50 (2 ^ 29) (cfgClear h (portFn p) 0x58 (2 ^ 22) s)
    let s := slotChange p (2 ^ 19 + 2 ^ 24) 1 s
    if up then slotEvent p 3 s else s

/-- Whether a host's uplink is in fall-back. -/
def inFallBack (s : State) (h : HostNo) : Bool :=
  match upOfHost s h with | some u => s.links[linkOfUp u].state == 7 | none => false

/-- Karxo takes a port as root complex: steps 2 and 3 of Table 6.8 (R271, R272). -/
def takePort (p : PciePort) (s : State) : State :=
  let s := leaveUplink p s
  resetPort p (updPort p (fun x => { x with karxo := true }) s)

/-- A port of a host that falls back passes to Karxo where its fall-back flag is set, and otherwise is disabled (R102,
R271, R272). -/
def fallBackPort (h : HostNo) (s : State) (p : PciePort) : State :=
  let x := s.pcie.ports[p]
  if x.assigned != some h then s
  else if x.flags.getLsbD 0 && pciePresent s p then takePort p s
  else disablePort p (quiescePort p 4 5 cplUr s)

/-- The fall-back flag and the assignment of a port apply at once, in fall-back too (R271, R274): Karxo takes a port that it
now has, and a port that it has no more is disabled. -/
def settleKarxo (p : PciePort) (s : State) : State :=
  let x := s.pcie.ports[p]
  match x.assigned with
  | none => s
  | some h =>
    if !inFallBack s h then s
    else if x.flags.getLsbD 0 && pciePresent s p then (if x.karxo then s else takePort p s)
    else if x.karxo then updPort p (fun x => { x with karxo := false, namespaces := 0 }) (disablePort p (quiescePort p 4 5 cplUr s))
    else s

/-- What falling back takes from a host: its tunnels with the requests they brought, its display state and its CAN signals; its
storage ports pass to Karxo, and USB ownership stays (R102). -/
def fallBackHost (h : HostNo) (s : State) : State :=
  let t := storageTunnel s h
  let s := canLose h (netLose h (loseDisplay h s))
  let s := updUsb (fun u => { u with requests := u.requests.filter (fun r => r.host != h) }) s
  let s := ([0, 1] : List PciePort).foldl (fallBackPort h) s
  releaseLockOf h (match t with | some t => abandonStorage t s | none => s)

/-- Commands that wait for the retrain or the allotment of a link end with a status. -/
def endLinkCommands (l : LinkNo) (status : Half) (s : State) : State :=
  let s := finish (.retrainLanes l) status [] (finish (.retrain l) status [] s)
  match upOfLink l with
  | some u => finish (.allot u) status [] s
  | none => s

/-- A link ends: its buffers and lanes cleared, TID 0 gone, and its state set. -/
def endLink (l : LinkNo) (st : Fin 10) (s : State) : State :=
  let s := updLink l clearLink (endLinkCommands l stNoResource s)
  let s := match upOfLink l with | some u => closeTid0 u s | none => s
  setLinkState l st s

/-- Falling back, from the Xansa link in any of its states or from none (R101, R102). -/
def fallBack (u : Up) (s : State) : State :=
  let l := linkOfUp u
  let k := s.links[l]
  if k.cc = 0 || k.state = 7 then s
  else
    let had := k.state != 0
    let s := updLink l (fun k => { k with exitWait := false }) (endLink l 7 s)
    let s := if had then fallBackHost (hostOnUp s u) s
      else ([0, 1] : List PciePort).foldl (fallBackPort (hostOnUp s u)) s
    usbReturns (if s.usb.owner = hostOnUp s u then presentUsb s else s)

/-- The host of an uplink is lost while CC still shows it: the retrain ends and bring-up starts from Detect (R109). -/
def loseAttached (u : Up) (s : State) : State :=
  startBringUp (linkOfUp u) (closeTid0 u (loseHost (hostOnUp s u)
    (endLinkCommands (linkOfUp u) stNoResource s)))

/-- An uplink's link ends with the attachment or the contract: the host is lost at once if it had a link or was in
fall-back (R109, R433). -/
def dropUplink (u : Up) (st : Fin 10) (s : State) : State :=
  let l := linkOfUp u
  let k := s.links[l]
  let had := k.state != 0
  let s := finish (.retrainFull l) stNoResource [] (endLink l st s)
  let s := updLink l (fun k => { k with usbTerm := false, exitWait := false }) s
  if had then
    ([0, 1] : List PciePort).foldl (fun s p => if s.pcie.ports[p].assigned = some (hostOnUp s u) then
      updPort p (fun x => { x with karxo := false }) s else s) (loseHost (hostOnUp s u) s)
  else s

/-- Whether a link may start a bring-up or fall back now: the core runs, and is not entering Stop. -/
def linksMove (s : State) : Bool := dataOn s && s.pm.phase == .run

/-- The end of the Xansa mode by a Hard Reset: the host is lost with CC still attached, and a new bring-up starts from Detect
(R109, R433), once the core runs. An uplink in fall-back has no Xansa link and stays as it is (R101; log entry 128). -/
def hardResetLink (u : Up) (s : State) : State :=
  let l := linkOfUp u
  let k := s.links[l]
  if k.cc = 0 || k.state = 0 then dropUplink u 0 s
  else if k.state = 7 then updLink l (fun k => { k with exitWait := false }) s
  else if linksMove s then loseAttached u (finish (.retrainFull l) stNoResource [] s)
  else updLink l (fun k => { k with due := 2 }) (dropUplink u 0 s)

/-- A Hard Reset, received or issued: the contract and the Xansa mode end (R433). -/
def hardReset (u : Up) (issued : Bool) (s : State) : State :=
  let s := if issued then emit (.hardReset u) s else s
  startFive u (hardResetLink u (cutVbus u s))

/-- Falling back, where it may be done now; where not, it is owed (R101). -/
def fallBackOrOwe (u : Up) (s : State) : State :=
  if linksMove s then fallBack u s else updLink (linkOfUp u) (fun k => { k with due := 1 }) s

/-- What an uplink owes once the core runs: a bring-up, or falling back, which a contract over a cable that does not qualify
asks for at once (Table 3.3, R109). -/
def settleUplink (s : State) (u : Up) : State :=
  let l := linkOfUp u
  let k := s.links[l]
  let s := updLink l (fun k => { k with due := 0 }) s
  if k.cc = 0 then s
  else if k.due = 2 then startBringUp l s
  else if k.due = 1 || (k.state = 0 && s.power.pd[u].contract.isSome && !k.qualified) then fallBack u s
  else s

/-- What the uplinks owe once the core runs. -/
def settleUplinks (s : State) : State := ([0, 1] : List Up).foldl settleUplink s

/-- A converter fault of an uplink (R435). -/
def converterFault (u : Up) (s : State) : State :=
  let now := s.clock.hubTime
  let s := updPower (fun p => { p with trip := setBit p.trip (6 + u.val) true }) s
  let s := updPd u (fun x =>
    let ts := (now :: x.faultTimes).filter (fun t => decide ((now - t).toNat < 60000000000))
    { x with faultTimes := ts, lockedOut := x.lockedOut || decide (3 ≤ ts.length) }) s
  hardReset u true (raise .all 60 (6 + u.val) (powerFault 0x13 (8 + u.val) 1 0 s))

/-! ### Performance levels and admission (R12, R32 to R40, R180, R593) -/

/-- The level a profile sets (Table 0.2). -/
def profilePl (p : Profile) : Fin 4 := match p with | .morning => 0 | .noon => 0 | .dusk => 2 | .midnight => 1

/-- The profiles of a variant (Table 0.1). -/
def profileIn (v : Variant) (p : Profile) : Bool :=
  match v with
  | .qt9840 => true
  | .qt9824 => p == .dusk
  | .qt9812 => p == .morning

/-- The default profile of a variant (R11). -/
def defaultProfile (v : Variant) : Profile := match v with | .qt9840 => .noon | .qt9824 => .dusk | .qt9812 => .morning

/-- The voltage point of a level in mV (Table 1.4). -/
def plMv (pl : Fin 4) : Nat := if pl = 0 then 850 else if pl = 1 then 750 else if pl = 2 then 650 else 550

/-- Whether a converter supplies VDD_FAB and answers (R585, PB_FAB_CONV). -/
def hasConv (s : State) : Bool := s.perf.fabConv && !s.perf.convAbsent

/-- The hosts whose tunnels this chip's uplinks carry. -/
def ownHosts (s : State) : List HostNo := (([0, 1] : List Up).filter (fun u => decide (u.val < uplinks s))).map (hostOnUp s)

/-- A2 and A4 for the tunnels, modes and port settings given, at a level (Table 4.8). -/
def admitLevel (s : State) (ts : List Tunnel) (ms : Vector (Fin 21) 4) (ports : Vector NetPort 18) (pl : Fin 4) : Bool :=
  (ownHosts s).all (fun h => admitA2 ts h true pl && admitA2 ts h false pl)
    && admitD1 ms pl && admitD2 ms pl && admitD4 ts pl && admitNet s ports ts pl && admitCan ts
    && ([0, 1, 2, 3] : List HostNo).all (fun h => admitUsb s ts h && admitStorage s ts h)
    && admitPair s ports ts pl

/-- Everything admitted now, at a level. -/
def admitNow (s : State) (pl : Fin 4) : Bool := admitLevel s s.tunnels (modesNow s) s.net.ports pl

/-- Every formula for a new or changed tunnel of a host (R180). -/
def admitTunnel (s : State) (ts : List Tunnel) (t : Tunnel) (pl : Fin 4) : Bool :=
  let allot := match upOfHost s t.host with | some u => s.links[linkOfUp u].allot | none => 0
  admitA1 ts t.host true allot && admitA1 ts t.host false allot && admitA3 t true && admitA3 t false
    && admitLevel s ts (modesNow s) s.net.ports pl

/-- Starts a change of level (R35): a lowering applies the new guarantees before the voltage command.
The 1 s between raises counts from the start of the earlier one, this model's choice (log entry 142). -/
def startChange (goal : Fin 4) (cause : PlCause) (s : State) : State :=
  let now := s.perf.pl
  emit (.pmbus .vddFab 0x21 (plMv goal))
    (updPerf (fun p => { p with
      change := some ⟨now, goal, cause⟩
      pl := if now.val < goal.val then goal else now
      lastRaise := if cause = .forRequest then some s.clock.hubTime else p.lastRaise }) s)

/-- Whether a change is in progress. A change that has failed and is only awaiting the previous point is not (R37, R556). -/
def plBusy (s : State) : Bool := match s.perf.change with | some c => c.cause != .restore | none => false

/-- Whether the change in progress was made for a SYS_PROFILE_SET (R13, R39). -/
def profileChanging (s : State) : Bool :=
  match s.perf.change with | some ⟨_, _, .profile _⟩ => true | _ => false

/-- The settings of a profile beside the level take force (Table 0.2): POLICY goes out on the Active links (R134). -/
def enterProfile (p : Profile) (s : State) : State :=
  let s := updPerf (fun x => { x with profile := p }) s
  ([0, 1] : List LinkNo).foldl (fun s l => announce l s) s

/-- A request held for a change of level posts PENDING (R39, R531). -/
def holdRequest (op : Half) (c : Cmd) (s : State) : State :=
  startPending op c .held (updPerf (fun p => { p with held := p.held ++ [⟨op, c⟩] })) s

/-- Whether R40 applies: Dusk at PL3. -/
def mayRaise (s : State) : Bool := s.perf.profile == .dusk && s.perf.pl == 3

/-- A request whose admission fails: at PL3 in Dusk, where it would pass at PL2, the level is raised first and the request
waits for it (R40); without a converter it needs another level in vain (R585), and during a change it waits for the end of
that one. Otherwise it is refused. -/
def refuseOrRaise (op : Half) (c : Cmd) (passesAtTwo : Bool) (s : State) : State :=
  if mayRaise s && passesAtTwo then
    if !hasConv s then fail op c stNoResource s
    else if plBusy s then holdRequest op c s
    else startPending op c .held (fun s => startChange 2 .forRequest
      (updPerf (fun p => { p with held := ⟨op, c⟩ :: p.held }) s)) s
  else fail op c stAdmission s

end Sys2Proof.Machine
end

