-- ==== Sys2Proof/Machine/WindowOps.lean ====
section
/-! DEFINITION. The host register window (02, 16): who may reach an offset, what each register reads, what a write does, and the ring indices of the mailboxes. -/
namespace Sys2Proof.Machine

/-! ### Rights (Table 2.2, R20, R21, R59, R236, R498, R516) -/

/-- What becomes of an access: nothing is there (R3, R20), it is refused (R21), or it reaches its register. -/
inductive Access where
  | quiet | refused | reaches
deriving DecidableEq, Repr

/-- Whether an entry into Stop has come to step 4 of Table 12.3. No row says so before the point of no return, and it is a free
truth value till then (R454, R480, R564; log entry 140). -/
def waitSet (s : State) : Bool := s.pm.phase == .entering && Config.freeBool s.freeCtr

/-- The housekeeping bridge carries out no access while the chip is held in reset, from step 4 of an entry into Stop, in Stop, or
waking (R563, R564). -/
def bridgeOff (s : State) : Bool :=
  waitSet s || s.clock.inReset || !s.clock.powered || s.pm.phase == .committed || s.pm.phase == .stop || s.pm.phase == .waking

/-- Whether a requester reaches the control block and buffer of a mailbox (Table 2.2). -/
def reachesMailbox (s : State) (r : Requester) (n : Nat) (write : Bool) : Bool :=
  match r with
  | .owner => !write || n == 2 || (n == 3 && !paired s)
  | .partner => n == 3 && paired s
  | r => match hostOfRequester r with
    | some h => (mailboxOfHost s h).map (fun m => m.val) == some n
    | none => false

/-- Whether a host owns a layer of an output. -/
def ownsLayer (s : State) (h : HostNo) (o : OutNo) : Bool :=
  s.disp.outs[o].layers.toList.any (fun l => l.owner == hostCode h)

/-- Whether a host holds a grant of a check-value region of an output. -/
def grantedRegion (s : State) (h : HostNo) (o : OutNo) (r : Fin 8) : Bool := s.disp.outs[o].checks[r].grants.getLsbD h.val
def grantedAny (s : State) (h : HostNo) (o : OutNo) : Bool := (List.finRange 8).any (grantedRegion s h o)

/-- The output, and the offset in its block, of a display offset; its layer and its check-value region. -/
def dispOut (off : Nat) : OutNo := ⟨(off - 0x4000) / 0x400 % 4, Nat.mod_lt _ (by decide)⟩
def dispRel (off : Nat) : Nat := (off - 0x4000) % 0x400
def relLayer (rel : Nat) : Fin 4 := ⟨(rel - 0x40) / 0x20 % 4, Nat.mod_lt _ (by decide)⟩
def relRegion (rel : Nat) : Fin 8 := ⟨(rel - 0x100) / 0x20 % 8, Nat.mod_lt _ (by decide)⟩

/-- A host's rights in an output block: the block through a layer it owns, of which it writes only its own layers; a
check-value region, and the mismatch flags, through a grant (R232, R236). -/
def hostReachesDisplay (s : State) (h : HostNo) (off : Nat) (write : Bool) : Bool :=
  let o := dispOut off
  let rel := dispRel off
  if 0x100 ≤ rel && decide (rel < 0x200) then grantedRegion s h o (relRegion rel)
  else if rel = 0x200 then grantedAny s h o
  else if write && decide (0x40 ≤ rel) && decide (rel < 0xC0) && decide (rel % 0x20 < 0x10) then
    let l := s.disp.outs[o].layers[relLayer rel]
    l.owner == hostCode h && !l.orphan
  else ownsLayer s h o

/-- The check-value channel of an offset. -/
def chanOf (off : Nat) : Fin 16 := ⟨(off - 0x5000) / 0x40 % 16, Nat.mod_lt _ (by decide)⟩

/-- Default rights (Table 2.2). A gap that belongs to no mailbox block, register or channel is reached by the requester
that Table 2.2 gives the whole range, and by no other (R21; log entry 15). -/
def reaches (s : State) (r : Requester) (off : Nat) (write : Bool) : Bool :=
  let host := hostOfRequester r
  if r = .engine then false
  else if off < 0x1000 then !write || r == .owner
  else if off < 0x1100 then reachesMailbox s r ((off - 0x1000) / 0x40) write
  else if off < 0x2000 then r == .owner && !write
  else if off < 0x2010 then (bankOfRequester s r).isSome
  else if off < 0x3000 then secureWorld s r
  else if off < 0x4000 then
    let w := (off - 0x3000) / 4
    if w < 256 then false else r == .owner || (host.isSome && decide (512 ≤ w))
  else if off < 0x5000 then
    match host with
    | some h => hostReachesDisplay s h off write
    | none => r == .owner
  else if off < 0x5400 then
    match host with
    | some h => s.flt.channels[chanOf off].assign == hostCode h
    | none => r == .owner
  else if off < 0x6000 then r == .owner
  else if off < 0x8000 then !write
  else reachesMailbox s r ((off - 0x10000) / 0x4000) write

/-- The block of a window offset (Table 14.2). -/
def blockOf (off : Nat) : Option (Fin 32) :=
  if off < 0x1000 then some 14
  else if 0x3800 ≤ off ∧ off < 0x4000 then some ⟨(24 + (off - 0x3800) / 256) % 32, Nat.mod_lt _ (by decide)⟩
  else if 0x4000 ≤ off ∧ off < 0x5000 then some ⟨(off - 0x4000) / 0x400 % 32, Nat.mod_lt _ (by decide)⟩
  else if 0x5000 ≤ off ∧ off < 0x6000 then some 5
  else if 0x6000 ≤ off ∧ off < 0x7000 then some 10
  else if 0x7000 ≤ off ∧ off < 0x8000 then some 11
  else none

/-- Offsets that belong only to absent functions (R3, R212, R565): the blocks of absent outputs, the layer and check-value
registers of a consumed output. -/
def absentOffset (s : State) (off : Nat) : Bool :=
  decide (0x4000 ≤ off) && decide (off < 0x5000) &&
    (!outPresent s (dispOut off) || (consumed s (dispOut off) && decide (0x40 ≤ dispRel off)))

/-- What becomes of an access; the check of rights comes before R20 (R21). -/
def classify (s : State) (r : Requester) (write : Bool) (off : Nat) : Access :=
  if 0x20000 ≤ off || (decide (0x8000 ≤ off) && decide (off < 0x10000)) || absentOffset s off then .quiet
  else if !reaches s r off write then .refused
  else match blockOf off with
    | some b => if blockRefuses s b r write then .refused else .reaches
    | none => .reaches

/-! ### What each register reads -/

/-- The life-cycle state GLB_STATE shows: a change shows at its step 7 (R556). -/
def lcShown (s : State) : Lc := match s.fw.lcChange with | some c => c.old | none => s.ident.lc

/-- The identity registers (R555, R556, R563). -/
def readIdentity (s : State) (off : Nat) : Nat :=
  let part := match s.variant with | .qt9840 => 0x9840 | .qt9824 => 0x9824 | .qt9812 => 0x9812
  if off = 0x00 then 0x3A710000 + part
  else if off = 0x04 then
    0xB0000000 + 65536 * (if s.init then s.fw.level.toNat else 0) + 16 * outputs s + 4 * uplinks s + variantCode s
  else if off = 0x08 then
    2 ^ 31 * bitNat s.init + 2 ^ 30 * bitNat (s.flt.safe.isSome && s.flt.safe != some .scrapped)
      + 2 ^ 29 * bitNat s.clock.untimed + 2 ^ 28 * bitNat (plBusy s) + 2 ^ 24 * s.pair.state.val
      + 2 ^ 16 * lcCode (lcShown s) + 2 ^ 8 * s.perf.pl.val + profileCode s.perf.profile
  else if off = 0x0C then (if s.init then s.fw.running.version.toNat else 0)
  else if off = 0x10 then s.ident.secVersion.toNat
  else if 0x14 ≤ off ∧ off ≤ 0x20 then
    leNat ((List.range 4).map (fun k => Config.serialByte (off - 0x14 + k)))
  else if off = 0x24 then capacityMiB s
  else if off = 0x30 then s.clock.hubTime.toNat % 2 ^ 32
  else if off = 0x34 then s.clock.hubTime.toNat / 2 ^ 32
  else if off = 0x40 then s.scratch.toNat
  else 0

/-- MB_STATUS of a mailbox. -/
def mbStatus (s : State) (m : MbNo) : Nat :=
  let b := s.mb[m]
  65536 * b.evtLost.toNat + 32 * bitNat b.fmtErr + 16 * bitNat b.rstAbort + 8 * bitNat b.idxErr + 4 * bitNat b.evtOvf
    + 2 * bitNat (s.activating && mailboxExists s m) + bitNat (s.ready && mailboxExists s m)

/-- The control block of a mailbox. -/
def readMailbox (s : State) (m : MbNo) (rel : Nat) : Nat :=
  let b := s.mb[m]
  if rel = 0x00 then b.cmdPi.toNat else if rel = 0x04 then b.cmdCi.toNat else if rel = 0x08 then b.rspPi.toNat
  else if rel = 0x0C then b.rspCi.toNat else if rel = 0x10 then b.evtPi.toNat else if rel = 0x14 then b.evtCi.toNat
  else if rel = 0x18 then mbStatus s m
  else if rel = 0x1C then 256 * b.holdoff.toNat + 2 * bitNat b.tunIntEn
  else 0

/-- The mask a bank shows: the owner's bank shows MB2's (R91). -/
def bankMask (s : State) (b : Fin 4) : Dword := s.mb[(⟨b.val, b.isLt⟩ : MbNo)].mask &&& eventsPresent s

/-- The event registers, in the bank of the requester. -/
def readEvents (s : State) (r : Requester) (off : Nat) : Nat :=
  let half (v : Dword) (hi : Bool) : Nat := if hi then v.toNat / 2 ^ 32 else v.toNat % 2 ^ 32
  if off < 0x2010 then
    match bankOfRequester s r with
    | some b =>
      if off < 0x2008 then half s.ev.pend[b] (off == 0x2004) else half (bankMask s b) (off == 0x200C)
    | none => 0
  else if off = 0x2010 then half s.ev.intEn false
  else if off = 0x2014 then half s.ev.intEn true
  else if off = 0x2018 then 2 ^ 31 * bitNat s.ev.active + s.ev.holdoff.toNat
  else 0

/-- A word without the bits of a mask of reserved bits. -/
def maskOff (w : Word) (rsvd : Nat) : Nat := (w &&& ~~~ BitVec.ofNat 32 rsvd).toNat

/-- LYR_STATE. -/
def layerState (s : State) (l : Layer) : Nat :=
  2 ^ 31 * bitNat (lyrOn l.force && (findRegion s (lyrHandle l.force)).isSome) + 2 ^ 28 * l.owner.val
    + 2 ^ 27 * bitNat l.orphan + (lyrHandle l.force).toNat

/-- An output's block (R236); shadows read as written, reserved bits as 0. -/
def readDisplay (s : State) (o : OutNo) (rel : Nat) : Nat :=
  let x := s.disp.outs[o]
  if rel = 0x00 then dispStatus s o
  else if rel = 0x04 then x.frame.toNat
  else if rel = 0x08 then 2 ^ 31 * bitNat (timing x && decide ((modeInfo x.mode).vact ≤ lineNow s o)) + lineNow s o
  else if rel = 0x10 then commitStatus x
  else if rel = 0x14 then x.commitFrame.toNat
  else if rel = 0x18 then maskOff x.bgShadow 0xC0000000
  else if 0x40 ≤ rel ∧ rel < 0xC0 then
    let l := x.layers[relLayer rel]
    let k := rel % 0x20
    if k = 0x00 then maskOff l.shadow.src 0xFC000000 else if k = 0x04 then maskOff l.shadow.srcXy 0xE000E000
    else if k = 0x08 then maskOff l.shadow.size 0xC000C000 else if k = 0x0C then maskOff l.shadow.dstXy 0xE000E000
    else if k = 0x10 then layerState s l else 0
  else if 0x100 ≤ rel ∧ rel < 0x200 then
    let c := x.checks[relRegion rel]
    let k := rel % 0x20
    if k = 0x00 then maskOff c.shadow.ctrl 0x3FF0FFFF else if k = 0x04 then maskOff c.shadow.xy 0xE000E000
    else if k = 0x08 then maskOff c.shadow.size 0xC000C000 else if k = 0x0C then c.shadow.expLo.toNat
    else if k = 0x10 then c.shadow.expHi.toNat else if k = 0x14 then c.result.toNat % 2 ^ 32
    else if k = 0x18 then c.result.toNat / 2 ^ 32 else 65536 * c.count.toNat
  else if rel = 0x200 then
    ((List.finRange 8).foldl (fun m r => setBit m r.val x.checks[r].mismatch) (0 : Byte)).toNat
  else 0

/-- The open protected tunnels, and the committed enabled regions, that use a channel (CV_USE). A tunnel is protected when
its check-value channel is named by its flags. -/
def channelTunnels (s : State) (c : Fin 16) : Nat :=
  (s.tunnels.filter (fun t => t.guarded && !t.standby && t.channel.toNat == c.val)).length
def channelRegions (s : State) (c : Fin 16) : Nat :=
  (s.disp.outs.toList.map (fun x => (x.checks.toList.filter (fun r => ckEnable r.force && ckChannel r.force == c)).length)).sum

/-- A check-value channel's registers. -/
def readChannel (s : State) (c : Fin 16) (rel : Nat) : Nat :=
  let x := s.flt.channels[c]
  if rel = 0x00 then
    2 ^ 31 * bitNat (x.width != 0) + 2 ^ 16 * x.width.toNat + 256 * x.assign.val + 4 * bitNat x.finalInv
      + 2 * bitNat x.refOut + bitNat x.refIn
  else if rel = 0x04 then x.poly.toNat % 2 ^ 32 else if rel = 0x08 then x.poly.toNat / 2 ^ 32
  else if rel = 0x0C then x.init.toNat % 2 ^ 32 else if rel = 0x10 then x.init.toNat / 2 ^ 32
  else if rel = 0x14 then 65536 * channelTunnels s c + channelRegions s c
  else 0

/-- The telemetry and scheduler registers (R557, R558, R565). -/
def readTelemetry (s : State) (off : Nat) : Nat :=
  let t := s.tel
  let m := s.sampling
  if off = 0x6000 then t.seq.toNat
  else if off = 0x6004 then t.time.toNat % 2 ^ 32
  else if off = 0x6008 then t.time.toNat / 2 ^ 32
  else if off = 0x600C then 65536 * t.interval.toNat + t.select.toNat
  else if 0x6040 ≤ off ∧ off < 0x6080 then
    t.shown[(⟨(off - 0x6040) / 4 % 16, Nat.mod_lt _ (by decide)⟩ : Fin 16)].toNat
  else if off = 0x6100 then
    2 ^ 31 * bitNat m.running + 2 ^ 28 * m.issuer.val + 2 ^ 10 * m.buf1.val + 2 ^ 8 * m.buf0.val + 2 ^ 7 * bitNat m.cur
      + m.fill
  else if off = 0x6104 then m.skipped.toNat
  else if off = 0x6108 then 65536 * m.count.val + m.interval.toNat
  else if 0x6800 ≤ off then leNat (memRead s.window off 4)
  else 0

/-- The power-path registers (R446). -/
def readPower (s : State) (off : Nat) : Nat :=
  if off = 0x7000 then pwrSts s
  else if off = 0x7004 then pwrFlogIdx s
  else if 0x7100 ≤ off ∧ off < 0x7200 then
    fieldAt (pwrFlog s ⟨(off - 0x7100) / 16 % 16, Nat.mod_lt _ (by decide)⟩) (off % 16) 4
  else 0

/-- The mailbox of an offset among the control blocks or the buffers. -/
def mbOf (n : Nat) : MbNo := ⟨n % 4, Nat.mod_lt _ (by decide)⟩

/-- What an offset reads for a requester whose rights reach it. No read has a side effect (R285). -/
def readReg (s : State) (r : Requester) (off : Nat) : Word :=
  BitVec.ofNat 32
    (if off < 0x1000 then readIdentity s off
     else if off < 0x1100 then readMailbox s (mbOf ((off - 0x1000) / 0x40)) (off % 0x40)
     else if off < 0x2000 then 0
     else if off < 0x3000 then readEvents s r off
     else if off < 0x4000 then (pbWord s ((off - 0x3000) / 4)).toNat
     else if off < 0x5000 then readDisplay s (dispOut off) (dispRel off)
     else if off < 0x5400 then readChannel s (chanOf off) (off % 0x40)
     else if off < 0x6000 then 0
     else if off < 0x7000 then readTelemetry s off
     else if off < 0x8000 then readPower s off
     else if off < 0x10000 then 0
     else if off < 0x20000 ∧ off % 0x4000 < 0x2400 then leNat (memRead s.window off 4)
     else 0)

/-! ### The ring indices (R67, R68, R75) -/

/-- Whether EP1 IN and EP2 IN drain a mailbox's rings: its host's uplink is in fall-back with the management function
configured (R67, R68). -/
def epDrains (s : State) (m : MbNo) : Bool :=
  if h : m.val < 2 then
    s.links[linkOfUp ⟨m.val, h⟩].state == 7 && s.usb.mgmtConfig && s.usb.owner == hostOnUp s ⟨m.val, h⟩
  else false

/-- Whether a producer index may move to `v`: not backward, and no more than `size` entries ahead of the consumer. -/
def piOk (pi ci v : Half) (size : Nat) : Bool := decide ((pi - ci).toNat ≤ (v - ci).toNat) && decide ((v - ci).toNat ≤ size)

/-- Whether a consumer index may move to `v`: not backward, and not past the producer. -/
def ciOk (pi ci v : Half) : Bool := decide ((v - ci).toNat ≤ (pi - ci).toNat)

/-- An index write that R75 drops. -/
def badIndex (m : MbNo) (s : State) : State := updMb m (fun b => { b with idxErr := true }) s

/-- A write to MB_CMD_PI: the doorbell (R75). A mailbox with no requester ignores it (R5). -/
def writeCmdPi (m : MbNo) (v : Half) (s : State) : State :=
  if !mailboxExists s m then s
  else if piOk s.mb[m].cmdPi s.mb[m].cmdCi v 8 then updMb m (fun b => { b with cmdPi := v }) s
  else badIndex m s

/-- A write to MB_RSP_CI frees slots, and responses that wait take them (R75, R81). -/
def writeRspCi (m : MbNo) (v : Half) (s : State) : State :=
  if epDrains s m then s
  else if ciOk s.mb[m].rspPi s.mb[m].rspCi v then postWaiting m 8 (updMb m (fun b => { b with rspCi := v }) s)
  else badIndex m s

/-- A write to MB_EVT_CI (R75). -/
def writeEvtCi (m : MbNo) (v : Half) (s : State) : State :=
  if epDrains s m then s
  else if ciOk s.mb[m].evtPi s.mb[m].evtCi v then updMb m (fun b => { b with evtCi := v }) s
  else badIndex m s

/-- A write to MB_STATUS clears W1C bits; one to MB_CTRL sets its fields and acts on LOST_CLR (R92). -/
def writeMbStatus (m : MbNo) (v : Word) (s : State) : State :=
  updMb m (fun b => { b with
    fmtErr := b.fmtErr && !v.getLsbD 5, rstAbort := b.rstAbort && !v.getLsbD 4, idxErr := b.idxErr && !v.getLsbD 3,
    evtOvf := b.evtOvf && !v.getLsbD 2 }) s
def writeMbCtrl (m : MbNo) (v : Word) (s : State) : State :=
  updMb m (fun b => { b with
    holdoff := v.extractLsb' 8 8, tunIntEn := v.getLsbD 1, evtLost := if v.getLsbD 2 then 0 else b.evtLost }) s

/-- A write in a mailbox's control block. -/
def writeMailbox (m : MbNo) (rel : Nat) (v : Word) (s : State) : State :=
  let x := v.extractLsb' 0 16
  if rel = 0x00 then writeCmdPi m x s else if rel = 0x0C then writeRspCi m x s else if rel = 0x14 then writeEvtCi m x s
  else if rel = 0x18 then writeMbStatus m v s else if rel = 0x1C then writeMbCtrl m v s else s

/-! ### What a write does -/

/-- A word written into the low or the high half of a 64-bit register pair. -/
def putHalf (d : Dword) (hi : Bool) (v : Word) : Dword :=
  if hi then BitVec.ofNat 64 (2 ^ 32 * v.toNat + d.toNat % 2 ^ 32) else BitVec.ofNat 64 (d.toNat / 2 ^ 32 * 2 ^ 32 + v.toNat)

/-- A word as the low or the high half of a 64-bit value. -/
def asHalf (hi : Bool) (v : Word) : Dword := if hi then BitVec.ofNat 64 (2 ^ 32 * v.toNat) else BitVec.ofNat 64 v.toNat

/-- EVT_PEND0/1: the bits written as 1 are cleared in the requester's bank (R94). -/
def clearPend (r : Requester) (hi : Bool) (v : Word) (s : State) : State :=
  match bankOfRequester s r with
  | some b => updateInt { s with ev := { s.ev with pend := upd s.ev.pend b (fun w => w &&& ~~~ asHalf hi v) } }
  | none => s

/-- INT_EN0/1 (R94); the bits of absent functions are not kept (R3). -/
def writeIntEn (hi : Bool) (v : Word) (s : State) : State :=
  updateInt { s with ev := { s.ev with intEn := putHalf s.ev.intEn hi v &&& eventsPresent s } }

/-- The event registers. -/
def writeEvents (r : Requester) (off : Nat) (v : Word) (s : State) : State :=
  if off = 0x2000 then clearPend r false v s else if off = 0x2004 then clearPend r true v s
  else if off = 0x2010 then writeIntEn false v s else if off = 0x2014 then writeIntEn true v s
  else if off = 0x2018 then { s with ev := { s.ev with holdoff := v.extractLsb' 0 8 } } else s

/-- A persistent word: the reserved bits of PB_DRAM_MAP and PB_FAB_CONV are not stored (R516, R517). -/
def writePersistent (w : Nat) (v : Word) (s : State) : State :=
  let v := if w = 256 then v &&& 0x80FFFFFF else if w = 257 then v &&& 0x8000017F else v
  pbWrite s w v

/-- Whether a requester may commit a group: a host, the groups of its own layers; group 0 with a layer of the output; and
group 5 with a grant (R236). -/
def mayCommit (s : State) (r : Requester) (o : OutNo) (g : Fin 6) : Bool :=
  match hostOfRequester r with
  | none => r == .owner
  | some h =>
    if g = 0 then ownsLayer s h o
    else if g = 5 then grantedAny s h o
    else s.disp.outs[o].layers[groupLayer g].owner == hostCode h && !s.disp.outs[o].layers[groupLayer g].orphan

/-- One bit of DISP_COMMIT (R203, R236). -/
def commitBit (r : Requester) (o : OutNo) (v : Word) (s : State) (g : Fin 6) : State :=
  if !v.getLsbD g.val then s
  else if mayCommit s r o g then requestCommit o g none false s
  else raise (.denied r) 6 (violationWindow r true (0x400C + 0x400 * o.val)) s

/-- A write to DISP_COMMIT (R203). -/
def writeCommit (r : Requester) (o : OutNo) (v : Word) (s : State) : State :=
  settleOff o ((List.finRange 6).foldl (commitBit r o v) s)

/-- The bits of CRC_STS a requester may clear: the regions granted to it (CRC_STS). -/
def mayClear (s : State) (r : Requester) (o : OutNo) (k : Fin 8) : Bool :=
  match hostOfRequester r with | some h => grantedRegion s h o k | none => true

/-- A write in an output's block (R236). -/
def writeDisplay (r : Requester) (o : OutNo) (rel : Nat) (v : Word) (s : State) : State :=
  if rel = 0x00 then updOut o (fun x => { x with sinkChg := x.sinkChg && !v.getLsbD 9 }) s
  else if rel = 0x0C then writeCommit r o v s
  else if rel = 0x10 then
    updOut o (fun x => { x with superseded := x.superseded &&& ~~~ v.extractLsb' 24 6,
                                rejected := x.rejected &&& ~~~ v.extractLsb' 16 6 }) s
  else if rel = 0x18 then updOut o (fun x => { x with bgShadow := v }) s
  else if 0x40 ≤ rel ∧ rel < 0xC0 then
    let k := rel % 0x20
    let l := s.disp.outs[o].layers[relLayer rel].shadow
    if k = 0x00 then setShadow o (relLayer rel) { l with src := v } s
    else if k = 0x04 then setShadow o (relLayer rel) { l with srcXy := v } s
    else if k = 0x08 then setShadow o (relLayer rel) { l with size := v } s
    else if k = 0x0C then setShadow o (relLayer rel) { l with dstXy := v } s else s
  else if 0x100 ≤ rel ∧ rel < 0x200 then
    let k := rel % 0x20
    let put (f : CheckRegs → CheckRegs) : State :=
      updOut o (fun x => { x with checks := upd x.checks (relRegion rel) (fun c => { c with shadow := f c.shadow }) }) s
    if k = 0x00 then put (fun c => { c with ctrl := v }) else if k = 0x04 then put (fun c => { c with xy := v })
    else if k = 0x08 then put (fun c => { c with size := v }) else if k = 0x0C then put (fun c => { c with expLo := v })
    else if k = 0x10 then put (fun c => { c with expHi := v }) else s
  else if rel = 0x200 then
    let ok := (List.finRange 8).map (fun k => mayClear s r o k && v.getLsbD k.val)
    updOut o (fun x => { x with checks := x.checks.mapFinIdx (fun i c _ =>
      { c with mismatch := c.mismatch && !(ok[i]?.getD false) }) }) s
  else s

/-- What a write does for a requester whose rights reach the offset. A requester writes command slots only; writes to the
response and event rings are ignored (R74), as are writes to RO fields and gaps (R18, R20). -/
def writeReg (r : Requester) (off : Nat) (v : Word) (s : State) : State :=
  if off < 0x1000 then (if off = 0x40 then { s with scratch := v } else s)
  else if off < 0x1100 then writeMailbox (mbOf ((off - 0x1000) / 0x40)) (off % 0x40) v s
  else if off < 0x2000 then s
  else if off < 0x3000 then writeEvents r off v s
  else if off < 0x4000 then writePersistent ((off - 0x3000) / 4) v s
  else if off < 0x5000 then writeDisplay r (dispOut off) (dispRel off) v s
  else if off < 0x10000 then s
  else if off < 0x20000 ∧ off % 0x4000 < 0x1000 then { s with window := memWrite s.window off (wordBytes v) }
  else s

/-! ### One access (R57 to R59) -/

/-- The event of a refused access (R21). -/
def refuseAccess (r : Requester) (write : Bool) (off : Nat) (s : State) : State :=
  raise (.denied r) 6 (violationWindow r write off) s

/-- One word read: the word, and the state after it. -/
def windowRead (r : Requester) (off : Nat) (s : State) : Word × State :=
  match classify s r false off with
  | .quiet => (0, s)
  | .refused => (0, refuseAccess r false off s)
  | .reaches => (readReg s r off, s)

/-- One word written. -/
def windowWrite (r : Requester) (off : Nat) (v : Word) (s : State) : State :=
  match classify s r true off with
  | .quiet => s
  | .refused => refuseAccess r true off s
  | .reaches => writeReg r off v s

/-- A word of the SPI write buffer is carried out; one past the window is dropped (R71, R72). -/
def spiCarry (off : Nat) (w : Word) (s : State) : State :=
  if off < 0x40000 then
    let denied := classify s .owner true off == .refused
    windowWrite .owner off w { s with spi := { s.spi with denied := s.spi.denied || denied } }
  else s

/-- Up to `n` words leave the SPI write buffer in order (R72). -/
def spiDrain : Nat → State → State
  | 0, s => s
  | n + 1, s =>
    match s.spi.buffer with
    | [] => s
    | (off, w) :: r => spiDrain n (spiCarry off w { s with spi := { s.spi with buffer := r } })

/-- What the bridge carries out between two words of an access: a free number of the words that wait on the owner's SPI
path, the one path whose words wait (R57, R72; log entry 96). -/
def between (s : State) : State :=
  if s.spi.buffer.isEmpty then s
  else
    let (n, s) := takeFree 7 s
    spiDrain n.toNat s

/-- Words read at successive offsets, between which words of another path may fall (R57). -/
def windowReads (r : Requester) : Nat → Nat → State → List Word × State
  | _, 0, s => ([], s)
  | off, n + 1, s =>
    let (w, s) := windowRead r off s
    let (ws, s) := windowReads r (off + 4) n (between s)
    (w :: ws, s)

/-- Words written at successive offsets, one at a time (R57). -/
def windowWrites (r : Requester) : Nat → List Word → State → State
  | _, [], s => s
  | off, w :: ws, s => windowWrites r (off + 4) ws (between (windowWrite r off w s))

/-- A write by a requester while the bridge may be off (R564). -/
def accessWrite (r : Requester) (off : Nat) (v : Word) (s : State) : State :=
  if bridgeOff s then s else windowWrite r off v s

end Sys2Proof.Machine
end

