-- ==== Sys2Proof/Machine/MgmtOps.lean ====
section
/-! DEFINITION. The management function (R64 to R69, R303 to R307): its window endpoints, storage and loopback interfaces, and the requests of the tunnelled root that reach it on the internal port. -/
namespace Sys2Proof.Machine

/-! ### The endpoints of the window (R64 to R66) -/

/-- The uplink of this chip whose host the management function serves. -/
def mgmtUp (s : State) : Option Up := upOfHost s s.usb.owner

/-- The uplink the management function answers on. -/
def mgmtUplink (s : State) : Up := (mgmtUp s).getD 0

/-- The mailbox of that host. -/
def mgmtBox (u : Up) : MbNo := ⟨u.val, by omega⟩

/-- Whether a vendor request keeps R65; the answer is its window offset. -/
def vendorOffset (wValue wIndex wLength : Half) : Option Nat :=
  let off := wValue.toNat + 65536 * (wIndex.toNat % 4)
  if wIndex.toNat / 4 = 0 ∧ wLength.toNat % 4 = 0 ∧ wLength.toNat ≤ 512 ∧ off % 4 = 0 ∧ off + wLength.toNat ≤ 0x40000
  then some off else none

/-- Commands queued by a write of the management function: the sequence numbers from one index to another (R69). -/
def noteVia (m : MbNo) (before : Half) (s : State) : State :=
  let n := (s.mb[m].cmdPi - before).toNat
  updMb m (fun b => { b with viaMgmt := b.viaMgmt ++ (List.range n).map (fun i => before + BitVec.ofNat 16 i) }) s

/-- Whether the window endpoints of the function serve: it is configured, and the bridge carries out accesses. -/
def mgmtServes (s : State) : Bool := s.usb.mgmtConfig && !bridgeOff s

/-- The vendor request READ (R65): its words, or a STALL. -/
def vendorRead (wValue wIndex wLength : Half) (s : State) : State × Option (List Byte) :=
  match vendorOffset wValue wIndex wLength with
  | some off =>
    if mgmtServes s then
      let (ws, s) := windowReads (hostRequester s.usb.owner) off (wLength.toNat / 4) s
      (s, some (ws.flatMap wordBytes))
    else (s, none)
  | none => (s, none)

/-- The vendor request WRITE (R65), its data stage complete: its words are written in order, or a STALL. -/
def vendorWrite (u : Up) (wValue wIndex wLength : Half) (data : List Byte) (s : State) : State × Option (List Byte) :=
  match vendorOffset wValue wIndex wLength with
  | some off =>
    if mgmtServes s then
      let before := s.mb[mgmtBox u].cmdPi
      let s := windowWrites (hostRequester s.usb.owner) off (bytesToWords (wLength.toNat / 4) data) s
      (noteVia (mgmtBox u) before s, some [])
    else (s, none)
  | none => (s, none)

/-- Whether Karxo holds the namespaces of a port: taken in fall-back, its link up (R271, R306). -/
def karxoHolds (s : State) (p : PciePort) : Bool :=
  let x := s.pcie.ports[p]
  x.karxo && linkSends x && x.phase == .idle && ownerFallback s

/-- The LUNs a storage interface reports: its namespaces while Karxo holds the port, and otherwise one (R306). -/
def lunsOf (s : State) (p : PciePort) : Nat := if karxoHolds s p then s.pcie.ports[p].namespaces.val else 1

/-- A control request to the management function (Table 2.5): the vendor requests by bmRequestType and bRequest, Get Max
LUN of a storage interface, and the standard requests. -/
def mgmtControl (ss : Bool) (u : Up) (setup data : List Byte) (s : State) : State × Option (List Byte) :=
  let w (i : Nat) : Half := BitVec.ofNat 16 (fieldAt setup i 2)
  match suType setup, suReq setup with
  | 0xC0, 1 => vendorRead (w 2) (w 4) (w 6) s
  | 0x40, 2 => vendorWrite u (w 2) (w 4) (w 6) data s
  | 0xA1, 0xFE =>
    if suIndex setup = 1 ∨ suIndex setup = 2 then
      let p : PciePort := ⟨(suIndex setup - 1) % 2, Nat.mod_lt _ (by decide)⟩
      (s, some ([BitVec.ofNat 8 (lunsOf s p - 1)].take (suLength setup)))
    else (s, none)
  | _, _ => standardRequest ss 2 setup s

/-- What answers a control request on the upstream bus: data, the end of a request without, or STALL. -/
def answerEp0 (u : Up) (into : Bool) (r : State × Option (List Byte)) : State :=
  match r.2 with
  | some d => if into then egress (.ep0Data u d) r.1 else egress (.ep0Done u) r.1
  | none => egress (.ep0Stall u) r.1

/-- Complete slot images written into successive command slots, until the ring is full; a partial image at the end of the
transfer is discarded. What the full ring leaves is answered NAK, and given back (R66). -/
def takeImages (u : Up) : Nat → List Byte → State → State × List Byte
  | 0, d, s => (s, d)
  | n + 1, d, s =>
    let m := mgmtBox u
    let b := s.mb[m]
    if d.isEmpty then (s, [])
    else if 8 ≤ (b.cmdPi - b.cmdCi).toNat then (s, d)
    else if d.length < 512 then (updMb m (fun b => { b with fmtErr := true }) s, [])
    else
      let a := mbBase m + 512 * (b.cmdPi.toNat % 8)
      let t := { s with window := memWrite s.window a (d.take 512) }
      takeImages u n (d.drop 512)
        (updMb m (fun b => { b with cmdPi := b.cmdPi + 1, viaMgmt := b.viaMgmt ++ [b.cmdPi] }) t)

/-- The size in bytes of an endpoint's buffer, by its index in Table 7.8 (R304). -/
def carveBytes (s : State) (i : Nat) : Nat := 1024 * byteAt s.usb.carve i

/-! ### The storage interfaces (R306) -/

/-- A big-endian field of a CDB. -/
def cdbField (cdb : List Byte) (i n : Nat) : Nat := beNat ((cdb.drop i).take n)

/-- The length of the answer to a command answered from namespace data: none where it is not such a command (R306). -/
def namespaceData (cdb : List Byte) : Option Nat :=
  let op := byteAt cdb 0
  if op = 0x12 then some (min (cdbField cdb 3 2) 96)
  else if op = 0x00 then some 0
  else if op = 0x25 then some 8
  else if op = 0x9E && byteAt cdb 1 % 32 == 0x10 then some (min (cdbField cdb 10 4) 32)
  else if op = 0x1A then some (min (cdbField cdb 4 1) 64)
  else if op = 0x5A then some (min (cdbField cdb 7 2) 64)
  else none

/-- The NVMe command that a SCSI command becomes, with its logical block and its number of blocks: READ and WRITE (10,
16), SYNCHRONIZE CACHE, UNMAP (R306). -/
def nvmeCommand (cdb : List Byte) : Option (NvmeOp × Nat × Nat) :=
  let ten := (cdbField cdb 2 4, cdbField cdb 7 2)
  let sixteen := (cdbField cdb 2 8, cdbField cdb 10 4)
  match byteAt cdb 0 with
  | 0x28 => some (.read, ten)
  | 0x88 => some (.read, sixteen)
  | 0x2A => some (.write, ten)
  | 0x8A => some (.write, sixteen)
  | 0x35 => some (.flush, ten)
  | 0x91 => some (.flush, sixteen)
  | 0x42 => some (.deallocate, 0, 0)
  | _ => none

/-- REPORT LUNS of n LUNs, which are numbered from 0. -/
def lunList (n : Nat) : List Byte :=
  beBytes 4 (8 * n) ++ zeros 4 ++ (List.range n).flatMap (fun k => [0, BitVec.ofNat 8 k] ++ zeros 6)

/-- Fixed-format sense data of a key and an additional code. -/
def senseBytes (x : Byte × Byte) : List Byte := [0x70, 0, x.1] ++ zeros 4 ++ [10] ++ zeros 4 ++ [x.2] ++ zeros 5

/-- An answer to a SCSI command: sense key, additional code, data. -/
abbrev ScsiAnswer := Byte × Byte × List Byte

/-- A command on a LUN of an interface whose namespaces Karxo holds. The data of a Read, and what namespace data says, are
free values (log entry 2); a Read or Write goes to the k-th active namespace. -/
def namespaceCommand (p : PciePort) (lun : Byte) (cdb data : List Byte) (s : State) : State × ScsiAnswer :=
  match nvmeCommand cdb with
  | some (op, lba, blocks) =>
    let s := egress (.nvme p lun op lba blocks data) s
    if op = .read then
      let len := Config.nvmeBlock p.val lun.toNat * blocks
      let (v, s) := takeFree (8 * len) s
      (s, 0, 0, leBytes len v.toNat)
    else (s, 0, 0, [])
  | none =>
    match namespaceData cdb with
    | some n =>
      let (v, s) := takeFree (8 * n) s
      (s, 0, 0, leBytes n v.toNat)
    | none => (s, 5, 0x20, [])

/-- A command on a storage interface (R306). Without namespaces the interface reports one LUN that answers NOT READY, medium
not present; with them LUN k is the k-th active namespace. REPORT LUNS and REQUEST SENSE answer in both. -/
def scsiAnswer (p : PciePort) (lun : Byte) (cdb data : List Byte) (s : State) : State × ScsiAnswer :=
  let held := karxoHolds s p
  let luns := lunsOf s p
  if byteAt cdb 0 = 0xA0 then (s, 0, 0, (lunList luns).take (cdbField cdb 6 4))
  else if byteAt cdb 0 = 0x03 then
    (s, 0, 0, (senseBytes (if held then s.usb.sense[p] else (2, 0x3A))).take (cdbField cdb 4 1))
  else if luns ≤ lun.toNat then (s, 5, 0x25, [])
  else if !held then (s, 2, 0x3A, [])
  else namespaceCommand p lun cdb data s

/-- A command with its sense kept for REQUEST SENSE. -/
def storageReply (p : PciePort) (lun : Byte) (cdb data : List Byte) (s : State) : State × ScsiAnswer :=
  let r := scsiAnswer p lun cdb data s
  (updUsb (fun u => { u with sense := u.sense.set p (r.2.1, r.2.2.1) }) r.1, r.2)

/-- The endpoint a storage interface takes its commands on, in the order of Table 7.8, and its number: EP4 or EP6 OUT under
Bulk-Only Transport, EP3 or EP5 OUT under UAS (R306). -/
def storageEp (s : State) (p : PciePort) : Nat × Fin 16 :=
  if s.usb.altStorage[p] = 0 then (6 + 4 * p.val, if p = 0 then 4 else 6) else (4 + 4 * p.val, if p = 0 then 3 else 5)

/-- The endpoints, by their index, that a command of a storage interface needs for its data in and its status. -/
def storageReplyEps (s : State) (p : PciePort) : List Nat :=
  if s.usb.altStorage[p] = 0 then [7 + 4 * p.val] else [5 + 4 * p.val, 7 + 4 * p.val]

/-! ### Endpoint buffers (R305, R307) -/

/-- The bytes an endpoint's buffer holds. -/
def bufferBytes (s : State) (i : Fin 16) : Nat := (s.usb.waiting[i].map List.length).sum

def updWaiting (i : Fin 16) (f : List (List Byte) → List (List Byte)) (s : State) : State :=
  updUsb (fun u => { u with waiting := upd u.waiting i f }) s

/-- Packets enter the bulk loopback as far as the EP7 IN buffer has room; the rest is given back (R307). -/
def loopPackets : List (List Byte) → State → State × List (List Byte)
  | [], s => (s, [])
  | d :: ds, s =>
    if carveBytes s 13 < bufferBytes s 13 + d.length then (s, d :: ds)
    else loopPackets ds (updWaiting 13 (fun q => q ++ [d]) s)

/-- An isochronous loopback packet in microframe i: discarded with EP8 OUT carved to 0, lost with event 43 when the buffer
is full (R305, R307). -/
def loopIsoIn (i : Nat) (data : List Byte) (s : State) : State :=
  if carveBytes s 14 = 0 then s
  else if carveBytes s 14 < (s.usb.loopIso.map (fun x => x.2.length)).sum + data.length then endpointError 8 s
  else updUsb (fun u => { u with loopIso := u.loopIso ++ [(i, data)] }) s

/-- The isochronous loopback packet due on EP8 IN in microframe i, of length zero with EP8 IN carved to 0. -/
def loopIsoDue (s : State) (i : Nat) : Option (List Byte) :=
  if carveBytes s 15 = 0 then some []
  else (s.usb.loopIso.find? (fun x => (x.1 + 2) % 16384 == i)).map Prod.snd

/-- Packets whose microframe has come leave the buffer. -/
def dropIsoDue (i : Nat) (s : State) : State :=
  updUsb (fun u => { u with loopIso := u.loopIso.filter (fun x => (x.1 + 2) % 16384 != i) }) s

/-! ### Requests to the internal port (R303) -/

/-- What becomes of a request to the management function: its COMPLETION with status, actual length and data, or NAK, with
the data it still holds. -/
inductive MgmtAnswer where
  | done (status actual : Nat) (data : List Byte)
  | held (data : List Byte)
deriving DecidableEq, Repr

/-- IN packets taken from an endpoint's buffer up to a length, to the first short packet: what is taken, whether that ends
the request, and the rest. -/
def takePackets (mps : Nat) : Nat → List (List Byte) → List Byte × Bool × List (List Byte)
  | _, [] => ([], false, [])
  | len, d :: ds =>
    if len ≤ d.length || d.length < mps then (d.take len, true, ds)
    else
      let r := takePackets mps (len - d.length) ds
      (d ++ r.1, r.2.1, r.2.2)

/-- A bulk IN request served from an endpoint's buffer; `r.data` is what it has taken so far. -/
def serveIn (i : Fin 16) (mps : Nat) (r : UsbRequest) (s : State) : State × MgmtAnswer :=
  if carveBytes s i.val = 0 then (s, .held r.data)
  else
    let (d, ended, rest) := takePackets mps (umLen r.hdr - r.data.length) s.usb.waiting[i]
    let got := r.data ++ d
    (updWaiting i (fun _ => rest) s, if ended then .done 0 got.length got else .held got)

/-- A data-out request of a Bulk-Only interface: a command wrapper, answered by data and a status wrapper on its IN
endpoint, or data of an OUT stage, which a failed command discards (R306; log entry 117). -/
def serveBot (p : PciePort) (r : UsbRequest) (s : State) : State × MgmtAnswer :=
  let b := r.data
  let into : Fin 16 := ⟨7 + 4 * p.val, by omega⟩
  if s.usb.botSkip[p] != 0 then
    (updUsb (fun u => { u with botSkip := u.botSkip.set p (u.botSkip[p] - b.length) }) s, .done 0 b.length [])
  else if b.length != 31 || b.take 4 != [0x55, 0x53, 0x42, 0x43] then (s, .done 1 0 [])
  else
    let len := fieldAt b 8 4
    let isIn := (byteAt b 12).testBit 7
    let (s, key, _, d) := storageReply p (BitVec.ofNat 8 (byteAt b 13 % 16)) ((b.drop 15).take (byteAt b 14 % 32)) [] s
    let out := if isIn then d.take len else []
    let csw : List Byte := [0x55, 0x53, 0x42, 0x53] ++ (b.drop 4).take 4 ++ leBytes 4 (len - out.length)
      ++ [if key = 0 then 0 else 1]
    let s := updWaiting into (fun q => q ++ (if isIn && len != 0 then [out] else []) ++ [csw]) s
    (updUsb (fun u => { u with botSkip := u.botSkip.set p (if isIn then 0 else len) }) s, .done 0 31 [])

/-- A command IU of a UAS interface, answered by data and a sense IU on its IN endpoints (R306; log entry 117). -/
def serveUas (p : PciePort) (r : UsbRequest) (s : State) : State × MgmtAnswer :=
  let b := r.data
  let status : Fin 16 := ⟨5 + 4 * p.val, by omega⟩
  let into : Fin 16 := ⟨7 + 4 * p.val, by omega⟩
  if byteAt b 0 != 1 || b.length < 32 then (s, .done 1 0 [])
  else
    let (s, key, asc, d) := storageReply p (BitVec.ofNat 8 (byteAt b 9)) ((b.drop 16).take 16) [] s
    let sense := if key = 0 then [] else senseBytes (key, asc)
    let iu : List Byte := [3, 0] ++ (b.drop 2).take 2 ++ [0, 0, if key = 0 then 0 else 2] ++ zeros 7
      ++ beBytes 2 sense.length ++ sense
    let s := if d.isEmpty then s else updWaiting into (fun q => q ++ [d]) s
    (updWaiting status (fun q => q ++ [iu]) s, .done 0 b.length [])

/-- A request of the storage interfaces: on an interface's command or data endpoints. -/
def serveStorage (p : PciePort) (uasEp : Bool) (r : UsbRequest) (s : State) : State × MgmtAnswer :=
  let out : Nat := (if uasEp then 4 else 6) + 4 * p.val
  let into : Fin 16 := ⟨(if uasEp then 5 else 7) + 4 * p.val, by split <;> omega⟩
  let bot := s.usb.altStorage[p] == 0
  if umIn r.hdr then serveIn into 1024 r s
  else if carveBytes s out = 0 then (s, .held r.data)
  else if uasEp then (if bot then (s, .done 1 0 []) else serveUas p r s)
  else if bot then serveBot p r s
  else (s, .done 0 r.data.length [])

/-- A bulk loopback request: OUT data in packets, as far as EP7 IN has room; IN from the EP7 IN buffer (R307). -/
def serveLoop (r : UsbRequest) (s : State) : State × MgmtAnswer :=
  let mps := if umMps r.hdr = 0 then 1024 else umMps r.hdr
  if umIn r.hdr then serveIn 13 mps r s
  else if carveBytes s 12 = 0 then (s, .held r.data)
  else
    let (s, rest) := loopPackets (cutMessage mps r.data.length r.data) s
    (s, if rest.isEmpty then .done 0 (umLen r.hdr) [] else .held rest.flatten)

/-- An isochronous loopback request in its microframe. -/
def serveIso (i : Nat) (r : UsbRequest) (s : State) : State × MgmtAnswer :=
  if umIn r.hdr then
    match loopIsoDue s i with
    | some d => (s, .done 0 (min d.length (umLen r.hdr)) (d.take (umLen r.hdr)))
    | none => (endpointError 8 s, .done 2 0 [])
  else (loopIsoIn i r.data s, .done 0 r.data.length [])

/-- Whether the first packet of a bulk data-out request is longer than its endpoint takes: babble (R305). -/
def babbles (ss : Bool) (r : UsbRequest) : Bool :=
  umType r.hdr == 2 && !umIn r.hdr && decide ((if ss then 1024 else 512) < min (umLen r.hdr) (umMps r.hdr))

/-- A request to the management function over the tunnelled root (R303), at the address it was given. Unconfigured, it has only EP0, as a device that
does not answer; EP1 IN and EP2 IN answer NAK while the link is not in fall-back (R67, R68). -/
def mgmtAnswer (i : Nat) (r : UsbRequest) (s : State) : State × MgmtAnswer :=
  let ss := umSs r.hdr
  let u := mgmtUplink s
  if umAddr r.hdr != (s.usb.mgmtAddr[if ss then (1 : Fin 2) else 0]).toNat then (s, .done 2 0 [])
  else if umType r.hdr = 0 then
    let x := mgmtControl ss u (r.data.take 8) (r.data.drop 8) s
    match x.2 with
    | some d => (x.1, if (byteAt r.data 0).testBit 7 then .done 0 (min d.length (umLen r.hdr)) (d.take (umLen r.hdr))
        else .done 0 (umLen r.hdr) [])
    | none => (x.1, .done 1 0 [])
  else if !s.usb.mgmtConfig then (s, .done 2 0 [])
  else if babbles ss r then (endpointError ⟨umEp r.hdr % 16, Nat.mod_lt _ (by decide)⟩ s, .done 2 0 [])
  else match umEp r.hdr, umIn r.hdr with
    | 1, false =>
      if carveBytes s 1 = 0 || bridgeOff s then (s, .held r.data)
      else
        let x := takeImages u 9 r.data s
        (x.1, if x.2.isEmpty then .done 0 (umLen r.hdr) [] else .held x.2)
    | 1, true => (s, .held r.data)
    | 2, true => (s, .held r.data)
    | 3, _ => serveStorage 0 true r s
    | 4, _ => serveStorage 0 false r s
    | 5, _ => serveStorage 1 true r s
    | 6, _ => serveStorage 1 false r s
    | 7, _ => serveLoop r s
    | 8, _ => serveIso i r s
    | _, _ => (s, .done 2 0 [])

/-- One outstanding request of the internal port, when its turn has come: a periodic one in its microframe. -/
def serveOne (boundary : Bool) (s : State) (r : UsbRequest) : State :=
  let i := uframeNow s
  let due := match r.target with | none => true | some t => boundary && decide ((i + 16384 - t) % 16384 < 8192)
  if !isInternal s r || !isHead s r || !due || r.phase == .resuming then s
  else
    let x := mgmtAnswer i r s
    match x.2 with
    | .done st n d => finishUsb r st n d x.1
    | .held d => setRequest r { r with data := d } x.1

/-- The management function serves the requests of the internal port, in the order they came. -/
def serveInternal (boundary : Bool) (s : State) : State := s.usb.requests.foldl (serveOne boundary) s

end Sys2Proof.Machine
end

