-- ==== Sys2Proof/Machine/LinkFlow.lean ====
section
/-! DEFINITION. How a link moves (03): its commands' permissions, bring-up and its failures, reaching Active, lane turns, lane loss and spare turns, sleep and wake. -/
namespace Sys2Proof.Machine

/-! ### Commands of the Link group (R540) -/

/-- The link code in the target word. -/
def linkCode (c : Cmd) : Nat := bitsOf c.target.toNat 24 3

/-- The link a code names. -/
def linkOfCode (n : Nat) : Option LinkNo := if n = 0 then some 0 else if n = 1 then some 1 else if n = 4 then some 2 else none

/-- Whether a requester names its own uplink. -/
def ownsLink (s : State) (c : Cmd) (r : Requester) : Bool :=
  match hostOfRequester r with
  | some h => (match upOfHost s h with | some u => linkCode c == u.val | none => false)
  | none => false

/-- A Link command: `hosts` says which of its forms a host may issue, `changes` which of them change state. -/
def linkSpec (op : Half) (lens : Nat → Bool) (hosts changes : Cmd → Bool) (partner : Bool) : OpSpec :=
  { op := op, lens := lens
    absent := fun s c => s.variant != .qt9840 && (linkCode c == 1 || linkCode c == 4)
    perm := fun s c r => permO r || (ownsLink s c r && hosts c) || (partner && permP c r)
    block := fun _ _ => some 12
    write := changes
    target := 0x07000000 }

/-- Runs an effect on the uplink a Link command names; a code without one completes with BAD_ARG. -/
def onUplink (op : Half) (f : Up → Cmd → State → State) (c : Cmd) (s : State) : State :=
  if linkCode c = 0 then f 0 c s else if linkCode c = 1 then f 1 c s else fail op c stBadArg s

/-! ### Wake events (R459) -/

/-- Event 62 of a wake from Stop, and the events held back behind it, in their order: 8 and 12 (R459), and the CAN wake's
event 53, which carries the same hub time (R368). -/
def wakeEvent (s : State) : State :=
  match s.pm.wakeOwed with
  | none => s
  | some code =>
    let held := s.pm.heldBack
    let s := raise .all 62 code.toNat { s with pm := { s.pm with wakeOwed := none, heldBack := [] } }
    held.foldl (fun s e =>
      raise (if e.1 = 53 then .all else .uplink (hostOnUp s (if e.1 = 12 then 1 else 0))) e.1 e.2.toNat s) s

/-- Whether an uplink that was in Deep at entry into Stop has not reached Active. -/
def uplinkReturning (s : State) : Bool :=
  ([0, 1] : List LinkNo).any (fun l => s.links[l].state == 8 || s.links[l].state == 9)

/-- Active reported on a link. After a wake from Stop the event is held back until event 62 (R459), but at behaviour
levels 1 and 2 it stands first (Table 14.15). -/
def reportActive (l : LinkNo) (s : State) : State :=
  match upOfLink l, s.pm.wakeOwed with
  | some u, some _ =>
    if s.fw.level.toNat ≤ 2 then
      let s := setLinkState l 6 (updLink l (fun k => { k with wakeReason := none }) s)
      if uplinkReturning s then s else wakeEvent s
    else
    let s := updLink l (fun k => { k with state := 6, wakeReason := none })
      { s with pm := { s.pm with heldBack := s.pm.heldBack ++ [(linkEvent 8 u, 6)] } }
    if uplinkReturning s then s else wakeEvent s
  | _, _ => activeFromDeep l s

/-! ### Bring-up and retrain (R104 to R109) -/

/-- Whether a state ends: at a bring-up both primaries have met its condition, at a retrain a lane of each direction, and at
a wake one of each direction that was in Deep (R107, R136). -/
def stateMet (l : LinkNo) (k : Link) (ok : BitVec 4) : Bool :=
  let good (p : PairNo) : Bool := ok.getLsbD p.val
  if k.deepWake then
    ([true, false] : List Bool).all (fun d => (candidates l k d).isEmpty || (candidates l k d).any good)
  else if k.state = 8 then (candidates l k true).any good && (candidates l k false).any good
  else if l = 2 then good 0 else good 0 && good 1

/-- A free value within a range around 0, as a byte in two's complement. -/
def freeWithin (n : Nat) (s : State) : Byte × State :=
  let (v, s) := takeFree 8 s
  (BitVec.ofInt 8 ((v.toNat % (2 * n + 1) : Nat) - (n : Int)), s)

/-- Free values for taps. -/
def freeTaps : List Nat → State → List Byte × State
  | [], s => ([], s)
  | t :: r, s =>
    let (v, s) := freeWithin (tapRange t) s
    let (vs, s) := freeTaps r s
    (v :: vs, s)

/-- What adaptation has arrived at on the receiver of a pair: values the spec does not state, within the ranges of
Table 3.14 (R127, R129). -/
def adapt (l : LinkNo) (p : PairNo) (s : State) : State :=
  let (ctle, s) := takeFree 5 s
  let (gain, s) := freeWithin 12 s
  let (taps, s) := freeTaps (List.range 12) s
  let (v, s) := takeFree 16 s
  let (h, s) := takeFree 8 s
  updLink l (fun k => { k with eqHub := upd k.eqHub p (fun e => { e with
    ctle := ctle, gain := gain, vEye := v, hEye := h, taps := Vector.ofFn (fun i => taps.getD i.val 0) }) }) s

/-- TS1 or TS2 on the lanes in training (R104, R113).
Byte 3 is 0 on a turned pair too, this model's choice (log entry 144). -/
def sendTs (l : LinkNo) (code : Byte) (s : State) : State :=
  (candidates l s.links[l] false).foldl (fun s p => sendSetOn l p code [BitVec.ofNat 8 p.val, 0] s) s

/-- What the hub sends as a bring-up state begins (Table 3.5, R105): EIOS turning pair 2 and PRBS31 on pair 3 for the
reversed pass, PRBS31, TS1, or CAP.
Which lanes carry CAP is this model's choice: the primary alone (log entry 143). -/
def enterPhase (l : LinkNo) (ph : Fin 10) (reversed : Bool) (s : State) : State :=
  let s := updLink l (fun k => { k with phase := ph, reversed := reversed }) s
  let k := s.links[l]
  let s := if k.state = 8 || k.deepWake || ph = 6 then s else setLinkState l ph s
  if reversed then emit (.prbs l 3) (sendSetOn l 2 0x30 [4] s)
  else if ph = 2 || ph = 3 then sendPrbs l s
  else if ph = 4 then sendTs l 0x01 s
  else if ph = 5 then sendSet l 0x10 (hubCap s l ((candidates l s.links[l] true).foldl (fun m p => setBit m p.val true) 0)) s
  else s

/-- A lane becomes lost, with its event and counter (R144). -/
def loseLane (l : LinkNo) (p : PairNo) (s : State) : State := laneEvent l p false (markLost l p s)

/-- A lost lane carries again: its event and counter 9 (R147). -/
def rejoinLane (l : LinkNo) (p : PairNo) (s : State) : State :=
  let s := updLink l (fun k => { k with
    lost := setBit k.lost p.val false, restoring := setBit k.restoring p.val false
    neither := setBit k.neither p.val false, laneSeq := k.laneSeq.set p none }) s
  laneEvent l p true (linkCount l 9 1 s)

/-- A lost lane that carries again, with LANE_DOWN (R147). -/
def restoreLane (l : LinkNo) (p : PairNo) (s : State) : State :=
  sendLaneDown l 0 (setBit 0 p.val true) 0 (rejoinLane l p s)

/-- The guarantees of class 1 still fit the lanes that remain (R145); class 0 has none. -/
def classOneFits (u : Up) (s : State) : Bool :=
  let k := s.links[linkOfUp u]
  let ts := s.tunnels.filter (fun t => t.cls == 1)
  decide (sumCir ts (hostOnUp s u) true ≤ 45000 * (receiveLanes (linkOfUp u) k).length)
    && decide (sumCir ts (hostOnUp s u) false ≤ 45000 * (sendLanes (linkOfUp u) k).length)

/-- The reductions of an uplink follow its lanes, and event 16 each reduced tunnel (R145). -/
def settleLanes (l : LinkNo) (s : State) : State :=
  match upOfLink l with
  | some u => noteTunnels (hostOnUp s u) (setReductions u s)
  | none => s

/-- The reductions that the loss of a lane brings at once (R145). -/
def reduceLanes (l : LinkNo) (s : State) : State :=
  match upOfLink l with
  | some u => noteTunnels (hostOnUp s u) (lowerReductions u s)
  | none => s

/-- The lanes that the training left out are lost, and lost lanes among those that took part are restored (R107, R108). -/
def settleTrained (l : LinkNo) (took : List PairNo) (s : State) : State :=
  let out := s.links[l].leftOut
  let s := allPairs.foldl (fun s p =>
    if out.getLsbD p.val then (if s.links[l].lost.getLsbD p.val then s else loseLane l p s)
    else if took.contains p && s.links[l].lost.getLsbD p.val then restoreLane l p s else s) s
  updLink l (fun k => { k with leftOut := 0 }) s

/-- The lanes of a link as it enters the Active state: after a wake those that were in Deep are awake; otherwise all are,
and their frames count from 0 (R118, R136). -/
def wakeLanes (k : Link) : Link :=
  if k.deepWake then
    { k with
      phase := 6, deepWake := false, waking := false
      txSleep := Vector.ofFn (fun p => if k.fromDeep.getLsbD p.val then none else k.txSleep[p])
      rxSleep := Vector.ofFn (fun p => if k.fromDeep.getLsbD p.val then none else k.rxSleep[p]) }
  else
    { k with
      phase := 6, waking := false, retraining := k.state == 8, slotTx := Vector.replicate 4 0
      txSleep := Vector.replicate 4 none, rxSleep := Vector.replicate 4 none }

/-- The bond link's tunnels 0 to 2: fresh after a bring-up, with nothing from before it queued, and kept across a retrain (R63,
R108, R376). -/
def openBond (kept : Bool) (s : State) : State :=
  if kept && !s.pair.bond.isEmpty then s
  else updPair (fun p => { p with
    bond := ([0, 1, 2] : List Byte).map (fun k => { newTid0 0 s.clock.hubTime with tid := k })
    bondTx := [], bondSeen := s.out.length, replBytes := 0, replHold := false }) s

/-- A link enters the Active state (R104, R107, R108, R136, R158): its host's TID 0 opens, and its commands complete. -/
def reachActive (l : LinkNo) (s : State) : State :=
  let k := s.links[l]
  let took := candidates l k true ++ candidates l k false
  let s := allPairs.foldl (fun s p => adaptFrom l p s) (updLink l (fun k => { wakeLanes k with failed := 0 }) s)
  let s := if k.state = 6 then s
    else reportActive l (match upOfLink l with | some u => openTid0 (hostOnUp s u) s | none => openBond (k.state == 8) s)
  let s := sendOwed l (settleTrained l took s)
  if upOfLink l = none then s
  else
    let s := if k.deepWake || k.state = 8 then s else sendPolicy l s
    let s := finish (.retrain l) stOk [] (finish (.retrainFull l) stOk [] s)
    usbReturns (reduceLanes l (if s.links[l].restoring = 0 then finish (.retrainLanes l) stOk [] s else s))

/-- The first good frame ends the Active state of a bring-up, a retrain or a wake (R104); only now are the attempts that
failed forgotten (R106). -/
def settleActive (l : LinkNo) (s : State) : State :=
  updLink l (fun k => { k with phase := 0, attempts := 0, retraining := false, fromDeep := 0 }) s

/-- A bring-up attempt fails (R106): 10 ms of waiting, or, after the third on an uplink, Attention, suppression and
fall-back (Table 3.3). A failed retrain starts again at Training, in its Active state too, and a failed wake starts a retrain
(log entry 22). -/
def failAttempt (l : LinkNo) (s : State) : State :=
  let k := s.links[l]
  if k.state = 8 || k.retraining then
    enterPhase l 2 false (updLink l (fun k => { k with leftOut := 0, cap := none, retraining := false, resend := true })
      (setLinkState l 8 s))
  else if k.deepWake || k.fromDeep != 0 then startRetrain l true s
  else
    let s := updLink l (fun k => { k with attempts := k.attempts + 1, failed := k.failed + 1 }) s
    match upOfLink l with
    | some u =>
      if 3 ≤ s.links[l].attempts then
        let s := finish (.retrainFull l) stNoResource [] (emit (.attention u 1) s)
        updLink l (fun k => { k with suppressed := true, exitWait := true }) (fallBack u s)
      else
        updLink l (fun k => { clearLink k with phase := 1, retryWait := true }) (setLinkState l 1 (closeTid0 u s))
    | none => updLink l (fun k => { clearLink k with phase := 1, retryWait := true }) (setLinkState l 1 s)

/-- Whether a link is in a bring-up, a retrain or a wake that its states drive. -/
def bringingUp (k : Link) : Bool :=
  !k.retryWait && ((1 ≤ k.state.val && k.state.val ≤ 5) || k.state == 8 || k.deepWake || (k.state == 6 && k.phase == 6))

/-! ### Lane turns (R139 to R142) -/

/-- The allotment code of Table 3.16 for the directions of pairs 2 and 3. -/
def allotOf (two three : Bool) : Option (Fin 3) :=
  if !two && three then some 0 else if two && three then some 1 else if !two && !three then some 2 else none

/-- The directions of pairs 2 and 3 in force change; a pair of directions without a code leaves the code a free value
(log entry 23). -/
def setDirections (l : LinkNo) (two three : Bool) (s : State) : State :=
  match allotOf two three with
  | some a => updLink l (fun k => { k with allot := a, crossed := false }) s
  | none =>
    let (v, s) := takeFree 8 s
    updLink l (fun k => { k with allot := ⟨v.toNat % 3, Nat.mod_lt _ (by decide)⟩, crossed := true }) s

/-- The directions of pairs 2 and 3 with one pair turned. -/
def turnedDirs (k : Link) (p : PairNo) (toHub : Bool) : Bool × Bool :=
  (if p = 2 then toHub else runsToHub k 2, if p = 3 then toHub else runsToHub k 3)

/-- The pairs to turn to reach an allotment, in the order of R141. -/
def pairsToTurn (k : Link) (target : Fin 3) : List PairNo :=
  let ps := ([2, 3] : List PairNo).filter (fun p => runsToHub k p != pairToHub target p)
  if !k.crossed && k.allot = 2 then ps.reverse else ps

/-- Sends ALLOT for the next turn of a change to an allotment (steps 1 to 3 of Table 3.17), waking the lanes first; while
lanes the hub sends on are still in Deep, the turn waits for their wake (R140). -/
def beginTurn (u : Up) (final : Fin 3) (s : State) : State :=
  let l := linkOfUp u
  let s := allPairs.foldl (fun s q => wakeLane l q s) s
  let k := s.links[l]
  match pairsToTurn k final with
  | [] => s
  | p :: _ =>
    if (sendLanes l k).any (fun q => k.txSleep[q].isSome) then updLink l (fun k => { k with turnWait := some final }) s
    else
      let toHub := pairToHub final p
      let d := turnedDirs k p toHub
      let target := (allotOf d.1 d.2).getD final
      let s := updLink l (fun k => { k with
        turn := some ⟨.awaitAck, p, toHub, target, final, k.trans, false⟩, trans := k.trans + 1 }) (adaptTo l s p)
      sendSet l 0x40 [BitVec.ofNat 8 (target.val + 16 * p.val + 64 * bitNat toHub), k.trans] s

/-! ### Phases (R104, R105, R136) -/

/-- The state a link of a bring-up, a retrain or a wake from Deep enters when the condition of its phase has been met on
`ok` (Table 3.5, R105, R136). While its fabric port is isolated it does not reach Active (Table 13.4). -/
def nextPhase (l : LinkNo) (ok : BitVec 4) (s : State) : State :=
  let k := s.links[l]
  let met (toHub : Bool) : BitVec 4 := (candidates l k toHub).foldl (fun m p => setBit m p.val true) 0
  if k.reversed then
    enterPhase l 3 false (sendSetOn l 3 0x30 [4]
      (let s := if ok.getLsbD 2 then adapt l 2 s else s
       updLink l (fun k => { k with revFailed := (12 : BitVec 4) &&& ~~~ ok }) s))
  else
    let s := updLink l (fun k => { k with leftOut := k.leftOut ||| ((met true ||| met false) &&& ~~~ ok) }) s
    if k.phase = 1 then enterPhase l 2 false s
    else if k.phase = 2 then
      let s := (candidates l k true).foldl (fun s p => if ok.getLsbD p.val then adapt l p s else s) s
      if k.state = 8 || l = 2 then enterPhase l 3 false s else enterPhase l 2 true s
    else if k.phase = 3 then enterPhase l 4 false s
    else if k.phase = 6 then settleActive l s
    else
    let s := if k.phase = 4 then sendTs l 0x02 s else s
    if k.phase = 4 && !k.deepWake then enterPhase l 5 false s
    else if s.flt.isolated.getLsbD l.val then s
    else
      let s := reachActive l s
      match upOfLink l, s.links[l].turnWait with
      | some u, some f => beginTurn u f (updLink l (fun k => { k with turnWait := none }) s)
      | _, _ => s

/-- Event 9 or 13: the allotment in force changed (Table 2.15), with counter 10. -/
def allotEvent (u : Up) (s : State) : State :=
  raise (.uplink (hostOnUp s u)) (linkEvent 9 u) s.links[linkOfUp u].allot.val (linkCount (linkOfUp u) 10 1 s)

/-- Both directions have the lanes of the new allotment, admitted (R141). -/
def admitLanes (u : Up) (s : State) : State :=
  settleLanes (linkOfUp u) (updLink (linkOfUp u) (fun k => { k with
    admHub := allotToHub k.allot, admHost := allotToHost k.allot }) s)

/-- The turned pair carries frames: the directions change, and the change completes or its second turn starts (R141). A
spare turn keeps the lanes last admitted, so that R145 reduces both directions, and the link retrains when class 1 does not
fit them (R145, R146). -/
def completeTurn (u : Up) (t : Turn) (s : State) : State :=
  let l := linkOfUp u
  let d := turnedDirs s.links[l] t.pair t.toHub
  let s := adaptFrom l t.pair (setDirections l d.1 d.2 (updLink l (fun k => { k with turn := none, laneSeq := k.laneSeq.set t.pair none }) s))
  if t.spare then
    let s := settleLanes l (allotEvent u s)
    if classOneFits u s then s else startRetrain l true s
  else if t.target = t.final then finish (.allot u) stOk [] (admitLanes u (allotEvent u s))
  else beginTurn u t.final (admitLanes u s)

/-- A refused turn: the pair returns to its old direction, and LINK_ALLOT ends with NO_RESOURCE (R142). When it was the second
turn of a change, the 2:2 between the two stays in force; the spec raises event 9 or 13 "once, at the end", and does not say
whether this is one, so the model raises none (log entry 101). -/
def refuseTurn (u : Up) (s : State) : State :=
  let l := linkOfUp u
  let s := match s.links[l].turn with | some t => adaptFrom l t.pair s | none => s
  finish (.allot u) stNoResource [] (updLink l (fun k => { k with turn := none }) s)

/-- A pair is lost while it turns: it belongs to neither direction and reduces nothing; LINK_ALLOT ends with
NO_RESOURCE. When it turned as a spare, the hub starts a retrain (R142, R146). -/
def loseTurning (u : Up) (t : Turn) (s : State) : State :=
  let l := linkOfUp u
  let s := updLink l (fun k => { k with turn := none, neither := setBit k.neither t.pair.val true }) s
  let s := sendLaneDown l (setBit 0 t.pair.val true) 0 0 (loseLane l t.pair s)
  if t.spare then startRetrain l true s else finish (.allot u) stNoResource [] s

/-- Bytes 2 and 3 of the ordered sets of a turn; a spare turn names the new allotment, if Table 3.16 has a code for its
directions, and 0xFF (R141, R146). -/
def turnBytes (k : Link) (t : Turn) : Option Byte × Byte :=
  if t.spare then
    let d := turnedDirs k t.pair t.toHub
    ((allotOf d.1 d.2).map (fun a => BitVec.ofNat 8 a.val), 0xFF)
  else (some (BitVec.ofNat 8 (t.target.val + 16 * t.pair.val + 64 * bitNat t.toHub)), t.trans)

/-- Whether bytes received echo those of a turn; a byte that has no code of its own echoes any (log entry 23). -/
def turnEchoed (k : Link) (t : Turn) (b2 b3 : Byte) : Bool :=
  (match (turnBytes k t).1 with | some b => b == b2 | none => true) && (turnBytes k t).2 == b3

/-! ### Lane loss (R143 to R147) -/

/-- The spare pair of a leading end that sends it now: the lowest reversible pair that is not lost (R146). -/
def sparePair (k : Link) (toHub : Bool) : Option PairNo :=
  ([2, 3] : List PairNo).find? (fun p => runsToHub k p == toHub && !k.lost.getLsbD p.val)

/-- Whether policy 1 acts (R146). -/
def sparingOn (k : Link) : Bool := k.sparing && (match k.cap with | some c => c.turning | none => false)

/-- A spare turn begins on a pair; a LINK_ALLOT that was being carried out ends with NO_RESOURCE, since its turn can no
longer be answered (R142, R146). -/
def startSpare (u : Up) (p : PairNo) (toHub : Bool) (s : State) : State :=
  updLink (linkOfUp u) (fun k => { k with
    turn := some ⟨.turning, p, toHub, k.allot, k.allot, 0xFF, true⟩, turnWait := none })
    (finish (.allot u) stNoResource [] (adaptTo (linkOfUp u) s p))

/-- Starts a spare turn that the hub leads: EIOS on the pair, then its receiver on (steps 2 and 3 of R146). -/
def leadSpare (u : Up) (lostPair p : PairNo) (s : State) : State :=
  let l := linkOfUp u
  let s := sendLaneDown l (setBit 0 lostPair.val true) 0 (setBit 0 p.val true) s
  startSpare u p true (sendSetOn l p 0x30 [4] (wakeLane l p s))

/-- What follows the loss of a lane: LANE_DOWN for a lane toward the hub, then the reductions, a spare turn or a
retrain (R144 to R146). A spare pair in Deep would have to wake first, which with no lane left toward the hub no answer could
end, so the link retrains (R131, R136). -/
def afterLoss (l : LinkNo) (p : PairNo) (s : State) : State :=
  let k := s.links[l]
  let toHub := laneReceives l k p
  let down (s : State) : State := if toHub then sendLaneDown l (setBit 0 p.val true) 0 0 s else s
  match upOfLink l with
  | none => if (sendLanes l k).isEmpty then startRetrain l true (down s) else down s
  | some u =>
    if (receiveLanes l k).isEmpty then
      match sparePair k false with
      | some q => if sparingOn k && k.txSleep[q] != some .deep then leadSpare u p q s else startRetrain l true (down s)
      | none => startRetrain l true (down s)
    else if (sendLanes l k).isEmpty then
      if sparingOn k && (sparePair k true).isSome then down s else startRetrain l true (down s)
    else
      let s := reduceLanes l (down s)
      if classOneFits u s then s else startRetrain l true s

/-- A lane of a link that carries frames is lost. -/
def laneFails (l : LinkNo) (p : PairNo) (s : State) : State :=
  let k := s.links[l]
  match upOfLink l, k.turn with
  | some u, some t =>
    if t.pair = p then loseTurning u t s else if k.lost.getLsbD p.val then s else afterLoss l p (loseLane l p s)
  | _, _ => if k.lost.getLsbD p.val then s else afterLoss l p (loseLane l p s)

/-- A retry of a lost lane ends without success; LINK_RETRAIN option 2 completes with the last (R147, R542). -/
def retryFails (l : LinkNo) (p : PairNo) (s : State) : State :=
  let s := updLink l (fun k => { k with restoring := setBit k.restoring p.val false }) s
  if s.links[l].restoring = 0 then finish (.retrainLanes l) stOk [] s else s

/-! ### Sleep (R131 to R137) -/

/-- Whether every lane of a direction sleeps in Deep, or in Doze or Deep. -/
def allDeep (v : Vector (Option Sleep) 4) (ps : List PairNo) : Bool := !ps.isEmpty && ps.all (fun p => v[p] == some .deep)
def allDozing (v : Vector (Option Sleep) 4) (ps : List PairNo) : Bool :=
  !ps.isEmpty && ps.all (fun p => v[p] == some .deep || v[p] == some .doze)

/-- Both directions in Deep: state 9 (R132). -/
def settleDeep (l : LinkNo) (s : State) : State :=
  let k := s.links[l]
  if k.state = 6 && !k.deepWake && allDeep k.txSleep (sendLanes l k) && allDeep k.rxSleep (receiveLanes l k) then setLinkState l 9 s else s

/-- Whether a lane the hub sends on may enter a sleep state (R132, R133): the primary last, with an empty retry buffer;
Deep only while the opposite direction is in Doze or Deep. A lane that sleeps already may go deeper. -/
def maySleep (s : State) (l : LinkNo) (p : PairNo) (x : Sleep) : Bool :=
  let k := s.links[l]
  let others := (sendLanes l k).filter (· != p)
  let deeper := match k.txSleep[p] with | none => true | some y => decide (sleepCode y < sleepCode x)
  k.state == 6 && (sendLanes l k).contains p && deeper && sleepAllowed (sleepPermitted s l) x
    && (if p == sendPrimary l k then others.all (fun q => k.txSleep[q].isSome) && k.retry.isEmpty
        else k.txSleep[p].isSome || others.any (fun q => k.txSleep[q].isNone))
    && (x != .deep || p != sendPrimary l k || allDozing k.rxSleep (receiveLanes l k))

/-- The lanes that are in Deep and not lost. -/
def deepLanes (l : LinkNo) (k : Link) : BitVec 4 :=
  allPairs.foldl (fun m p => setBit m p.val (!k.lost.getLsbD p.val &&
    ((laneSends l k p && k.txSleep[p] == some .deep) || (laneReceives l k p && k.rxSleep[p] == some .deep)))) 0

/-- The lanes of a link that are in Deep leave it for Bit lock, Block lock and one frame (R136). -/
def leaveDeep (l : LinkNo) (s : State) : State :=
  let s := noteQueued l s
  let k := s.links[l]
  let n := (allPairs.filter (fun p => k.txSleep[p] == some .deep)).length
  let s := linkCount l 12 n s
  enterPhase l 3 false (updLink l (fun k => { k with
    waking := false, deepWake := true, fromDeep := deepLanes l k, leftOut := 0 }) s)

end Sys2Proof.Machine
end

