-- ==== Sys2Proof/Machine/Link.lean ====
section
/-! DEFINITION. Meanings of the Xansa link and the bond link (03, R540 to R546): the Link commands, the USB PD entry, bring-up, frames, lane turns, lane loss, sleep and counters. -/
namespace Sys2Proof.Machine

/-! ### Link commands -/

/-- A map of the pairs with a property. -/
def pairMap (f : PairNo → Bool) : Nat := (allPairs.filter f).foldl (fun m p => m + 2 ^ p.val) 0

/-- Two bits a pair of sleep states. -/
def sleepMap (v : Vector (Option Sleep) 4) (f : PairNo → Bool) : Nat :=
  (allPairs.filter f).foldl (fun m p => m + 4 ^ p.val * sleepField v[p]) 0

/-- The LINK_STATUS report (R540). -/
def linkReport (s : State) (l : LinkNo) : List Byte :=
  let k := s.links[l]
  ([k.state.val, if l = 2 then 0 else k.allot.val, k.lost.toNat + 16 * k.revFailed.toNat,
    if l = 2 then 0 else pairMap (runsToHub k), sleepMap k.txSleep (laneSends l k), sleepMap k.rxSleep (laneReceives l k),
    (sleepPermitted s l).toNat, bitNat k.sparing,
    (match k.cap with | some c => c.retryUnits.toNat | none => 0),
    (match k.cap with | some c => c.level.toNat | none => 0), bitNat (k.cc == 2), min 255 k.failed,
    0, 0, 0, 0] : List Nat).map (BitVec.ofNat 8)

def linkStatusSpec : OpSpec := linkSpec 0x0201 (lenIn [0]) (fun _ => true) (fun _ => false) true
def linkStatusBody (c : Cmd) (s : State) : State :=
  match linkOfCode (linkCode c) with
  | some l => ok 0x0201 c (linkReport s l) s
  | none => fail 0x0201 c stBadArg s

/-- LINK_STATUS (R540). -/
def execLinkStatus (c : Cmd) (s : State) : Answer := .next (runCmd linkStatusSpec linkStatusBody c s)

/-- The checks of R140 on a change to an allotment. The table has no row for a spare turn of R146 that runs; the model
answers BUSY as for a LINK_ALLOT (log entry 100). -/
def allotCheck (s : State) (u : Up) (target : Fin 3) : Option Half :=
  let l := linkOfUp u
  let k := s.links[l]
  if waitsFor s (.allot u) || k.state != 6 || k.turn.isSome then some stBusy
  else if (pairsToTurn k target).isEmpty then none
  else if (pairsToTurn k target).any (fun p => k.revFailed.getLsbD p.val || k.lost.getLsbD p.val) then some stNoResource
  else if !(match k.cap with | some c => c.turning | none => false) then some stNoResource
  else if !(admitA1 s.tunnels (hostOnUp s u) true target && admitA1 s.tunnels (hostOnUp s u) false target) then
    some stAdmission
  else none

def linkAllotSpec : OpSpec := linkSpec 0x0202 (lenIn [0, 4]) (fun _ => true) (fun c => !c.payload.isEmpty) false
def linkAllotBody : Cmd → State → State := onUplink 0x0202 fun u c s =>
  let l := linkOfUp u
  if c.payload.isEmpty then ok 0x0202 c [BitVec.ofNat 8 s.links[l].allot.val, 0, 0, 0] s
  else if h : byteAt c.payload 0 < 3 ∧ zeroAt c.payload 1 3 = true then
    let target : Fin 3 := ⟨byteAt c.payload 0, h.1⟩
    if plBusy s then holdRequest 0x0202 c s else
    match allotCheck s u target with
    | some st => fail 0x0202 c st s
    | none =>
      if (pairsToTurn s.links[l] target).isEmpty then ok 0x0202 c [] s
      else startPending 0x0202 c (.allot u) (beginTurn u target) s
  else fail 0x0202 c stBadArg s

/-- LINK_ALLOT (R39, R140, R541). -/
def execLinkAllot (c : Cmd) (s : State) : Answer := .next (runCmd linkAllotSpec linkAllotBody c s)

/-- Whether a LINK_RETRAIN on the link would disturb another (R531, R542). -/
def retrainBusy (s : State) (u : Up) (join : Bool) : Bool :=
  let l := linkOfUp u
  waitsFor s (.allot u) || waitsFor s (.retrainFull l) || waitsFor s (.retrainLanes l) || (!join && waitsFor s (.retrain l))

/-- The limit of R147 is cleared. -/
def clearLimit (l : LinkNo) (s : State) : State :=
  updLink l (fun k => { k with noRestore := 0, lossTimes := Vector.replicate 4 [] }) s

/-- Option 0: a retrain, or the one that runs (R542; during a bring-up, log entry 24). It takes lanes at the limit of R147
too. -/
def retrainOp (u : Up) (c : Cmd) (s : State) : State :=
  let l := linkOfUp u
  let k := s.links[l]
  if retrainBusy s u true || k.state = 0 || k.state = 7 then fail 0x0203 c stBusy s
  else startPending 0x0203 c (.retrain l) (fun s => startRetrain l true (clearLimit l s)) s

/-- Option 1: a new bring-up from Detect (R542). -/
def retrainFullOp (u : Up) (c : Cmd) (s : State) : State :=
  let l := linkOfUp u
  let k := s.links[l]
  if retrainBusy s u false || k.state = 0 then fail 0x0203 c stBusy s
  else
    let clear (s : State) : State := updLink l (fun k => { k with suppressed := false }) (clearLimit l s)
    if k.state = 7 then ok 0x0203 c [] (clear s)
    else startPending 0x0203 c (.retrainFull l) (fun s => startBringUp l (closeTid0 u (clear s))) s

/-- The retry of one lost lane begins (R147). On a lane that the hub sends on, the training goes out: PRBS31 for Bit lock with
the stored taps, and TS1 for Block lock. TS2 follows once the host names the pair as restored (Table 3.5; log entry 127). -/
def tryLane (l : LinkNo) (p : PairNo) (s : State) : State :=
  let s := updLink l (fun k => { k with restoring := setBit k.restoring p.val true }) s
  if laneSends l s.links[l] p then sendSetOn l p 0x01 [BitVec.ofNat 8 p.val, 0] (emit (.prbs l p) s) else s

/-- Every lost lane is retried at once (R542). -/
def tryLanes (l : LinkNo) (s : State) : State :=
  (allPairs.filter (fun p => s.links[l].lost.getLsbD p.val)).foldl (fun s p => tryLane l p s) s

/-- Option 2: the limit of R147 is cleared, and every lost lane is retried at once (R542). -/
def retrainLanesOp (u : Up) (c : Cmd) (s : State) : State :=
  let l := linkOfUp u
  if retrainBusy s u false then fail 0x0203 c stBusy s
  else if s.links[l].lost = 0 then ok 0x0203 c [] (clearLimit l s)
  else startPending 0x0203 c (.retrainLanes l)
    (fun s => tryLanes l (clearLimit l s)) s

/-- The option of a LINK_RETRAIN, its other bytes 0. -/
def retrainOption (n : Nat) (c : Cmd) : Bool := byteAt c.payload 0 == n && zeroAt c.payload 1 3

def linkRetrainSpec : OpSpec := linkSpec 0x0203 (lenIn [4]) (fun c => byteAt c.payload 0 == 0) (fun _ => true) false
def linkRetrainBody (c : Cmd) (s : State) : State :=
  if retrainOption 0 c then onUplink 0x0203 retrainOp c s
  else if retrainOption 1 c then onUplink 0x0203 retrainFullOp c s
  else onlyWhen (retrainOption 2) 0x0203 (onUplink 0x0203 retrainLanesOp) c s

/-- LINK_RETRAIN, option 0 (R542). -/
def execLinkRetrainRetrain (c : Cmd) (s : State) : Answer :=
  .next (runCmd linkRetrainSpec (onlyWhen (retrainOption 0) 0x0203 (onUplink 0x0203 retrainOp)) c s)

/-- LINK_RETRAIN, option 1 (R542). -/
def execLinkRetrainFull (c : Cmd) (s : State) : Answer :=
  .next (runCmd linkRetrainSpec (onlyWhen (retrainOption 1) 0x0203 (onUplink 0x0203 retrainFullOp)) c s)

/-- LINK_RETRAIN, option 2 (R542). -/
def execLinkRetrainLanes (c : Cmd) (s : State) : Answer :=
  .next (runCmd linkRetrainSpec (onlyWhen (retrainOption 2) 0x0203 (onUplink 0x0203 retrainLanesOp)) c s)

/-- The bytes of an equaliser record; one of a receiver not in use is 0 (R543). -/
def eqBytes (p : PairNo) (toHub inUse : Bool) (e : EqRecord) : List Byte :=
  [BitVec.ofNat 8 p.val, BitVec.ofNat 8 (bitNat toHub)] ++
  (if inUse then
    let ends := (List.finRange 12).filter (fun i =>
      let v := e.taps[i].toInt
      v == (tapRange i.val : Int) || v == -(tapRange i.val : Int))
    [BitVec.ofNat 8 e.ctle.toNat, e.gain] ++ e.taps.toList ++ leBytes 2 e.vEye.toNat
      ++ [e.hEye, BitVec.ofNat 8 ends.length] ++ leBytes 2 e.satBits.toNat ++ [0, 0]
  else zeros 22)

/-- Whether the hub's receiver on a pair is in use. -/
def receiverInUse (l : LinkNo) (k : Link) (p : PairNo) : Bool :=
  (k.state == 6 || k.state == 8 || k.state == 9) && (receiveLanes l k).contains p

/-- The report of each pair in the direction in force. -/
def eqReport (s : State) (l : LinkNo) : List Byte :=
  let k := s.links[l]
  allPairs.flatMap (fun p => eqBytes p (laneReceives l k p) (receiverInUse l k p) k.eqHub[p])

/-- The stored sets of pairs 2 and 3 for the direction not in force: the hub keeps one only where it would receive. -/
def eqStored (s : State) (l : LinkNo) : List Byte :=
  let k := s.links[l]
  ([2, 3] : List PairNo).flatMap (fun p =>
    let toHub := l != 2 && !runsToHub k p
    eqBytes p toHub (toHub && (k.state == 6 || k.state == 8 || k.state == 9) && !k.revFailed.getLsbD p.val) k.eqHub[p])

def linkEqSpec : OpSpec := linkSpec 0x0204 (lenIn [0, 1]) (fun _ => true) (fun _ => false) false
/-- The report of length 0. -/
def eqReportOp (c : Cmd) (s : State) : State :=
  match linkOfCode (linkCode c) with
  | some l => let t := adaptAll l s; ok 0x0204 c (eqReport t l) t
  | none => fail 0x0204 c stBadArg s
/-- The report of the stored sets. -/
def eqStoredOp (c : Cmd) (s : State) : State :=
  match linkOfCode (linkCode c) with
  | some l => ok 0x0204 c (eqStored s l) s
  | none => fail 0x0204 c stBadArg s
/-- Whether the payload is one byte of value 1. -/
def isOne (c : Cmd) : Bool := c.payload == [1]
def linkEqBody (c : Cmd) (s : State) : State :=
  if c.payload.isEmpty then eqReportOp c s else onlyWhen isOne 0x0204 eqStoredOp c s

/-- LINK_EQ_REPORT with length 0 (R543). -/
def execLinkEqReport (c : Cmd) (s : State) : Answer :=
  .next (runCmd linkEqSpec (onlyWhen (fun c => c.payload.isEmpty) 0x0204 eqReportOp) c s)

/-- LINK_EQ_REPORT of the stored sets (R543). -/
def execLinkEqReportStored (c : Cmd) (s : State) : Answer :=
  .next (runCmd linkEqSpec (onlyWhen isOne 0x0204 eqStoredOp) c s)

/-- The response of LINK_SLEEP_POLICY (R544). -/
def policyBytes (s : State) (l : LinkNo) : List Byte :=
  let p := s.links[l].policy
  [BitVec.ofNat 8 p.permitted.toNat, 0] ++ leBytes 2 p.quietUs.toNat ++ leBytes 2 p.dozeUs.toNat
    ++ leBytes 2 p.deepMs.toNat ++ [BitVec.ofNat 8 (sleepPermitted s l).toNat, 0, 0, 0]

def linkSleepSpec : OpSpec := linkSpec 0x0205 (lenIn [0, 8]) (fun _ => true) (fun c => !c.payload.isEmpty) false
def linkSleepBody : Cmd → State → State := onUplink 0x0205 fun u c s =>
  let l := linkOfUp u
  let p := c.payload
  if p.isEmpty then ok 0x0205 c (policyBytes s l) s
  else
    let q := fieldAt p 2 2
    let d := fieldAt p 4 2
    let e := fieldAt p 6 2
    if byteAt p 0 < 8 && byteAt p 1 = 0 && 1 ≤ q && q ≤ 1000 && 10 ≤ d && d ≤ 60000 && 1 ≤ e && e ≤ 60000 then
      let s := announce l (updLink l (fun k => { k with policy :=
        ⟨BitVec.ofNat 3 (byteAt p 0), BitVec.ofNat 16 q, BitVec.ofNat 16 d, BitVec.ofNat 16 e⟩ }) s)
      ok 0x0205 c (policyBytes s l) s
    else fail 0x0205 c stBadArg s

/-- LINK_SLEEP_POLICY (R133, R544). -/
def execLinkSleepPolicy (c : Cmd) (s : State) : Answer := .next (runCmd linkSleepSpec linkSleepBody c s)

def linkSpareSpec : OpSpec :=
  linkSpec 0x0206 (lenIn [0, 4]) (fun c => c.payload.isEmpty) (fun c => !c.payload.isEmpty) false
def linkSpareBody : Cmd → State → State := onUplink 0x0206 fun u c s =>
  let l := linkOfUp u
  if c.payload.isEmpty then ok 0x0206 c [BitVec.ofNat 8 (bitNat s.links[l].sparing), 0, 0, 0] s
  else if byteAt c.payload 0 < 2 && zeroAt c.payload 1 3 then
    let on := byteAt c.payload 0 == 1
    ok 0x0206 c [BitVec.ofNat 8 (bitNat on), 0, 0, 0] (announce l (updLink l (fun k => { k with sparing := on }) s))
  else fail 0x0206 c stBadArg s

/-- LINK_LANE_SPARE (R146, R545). -/
def execLinkLaneSpare (c : Cmd) (s : State) : Answer := .next (runCmd linkSpareSpec linkSpareBody c s)

/-- The counters and the fired bitmap (R546). -/
def counterReport (k : Link) : List Byte := k.counters.toList.flatMap wordBytes ++ leBytes 4 k.fired.toNat

def linkCountersSpec : OpSpec :=
  linkSpec 0x0207 (lenIn [0, 1, 12]) (fun _ => true) (fun c => !c.payload.isEmpty) false
/-- A read of the counters; it clears the bitmap, and `clear` the counters. -/
def countersOp (clear : Bool) : Cmd → State → State := onUplink 0x0207 fun u c s =>
  let l := linkOfUp u
  ok 0x0207 c (counterReport s.links[l]) (updLink l (fun k => { k with
    fired := 0, counters := if clear then Vector.replicate 16 0 else k.counters }) s)
/-- Sets a threshold and a window. -/
def countersSetOp : Cmd → State → State := onUplink 0x0207 fun u c s =>
  let p := c.payload
  let w := fieldAt p 8 4
  if byteAt p 1 < 16 && zeroAt p 2 2 && 1 ≤ w && w ≤ 3600000 then
    ok 0x0207 c [] (updLink (linkOfUp u) (fun k => { k with
      thresholds := upd k.thresholds ⟨byteAt p 1 % 16, Nat.mod_lt _ (by decide)⟩
        (fun _ => ⟨BitVec.ofNat 32 (fieldAt p 4 4), BitVec.ofNat 32 w, 0, false⟩) }) s)
  else fail 0x0207 c stBadArg s
/-- Whether the payload sets a threshold. -/
def setsThreshold (c : Cmd) : Bool := c.payload.length == 12 && byteAt c.payload 0 == 2
def linkCountersBody (c : Cmd) (s : State) : State :=
  if c.payload.isEmpty then countersOp false c s
  else if isOne c then countersOp true c s
  else onlyWhen setsThreshold 0x0207 countersSetOp c s

/-- LINK_COUNTERS, read (R546). -/
def execLinkCountersRead (c : Cmd) (s : State) : Answer :=
  .next (runCmd linkCountersSpec (onlyWhen (fun c => c.payload.isEmpty) 0x0207 (countersOp false)) c s)

/-- LINK_COUNTERS, read and clear (R546). -/
def execLinkCountersClear (c : Cmd) (s : State) : Answer :=
  .next (runCmd linkCountersSpec (onlyWhen isOne 0x0207 (countersOp true)) c s)

/-- LINK_COUNTERS, threshold (R148, R546). -/
def execLinkCountersThreshold (c : Cmd) (s : State) : Answer :=
  .next (runCmd linkCountersSpec (onlyWhen setsThreshold 0x0207 countersSetOp) c s)

/-! ### Entering and leaving the Xansa mode (R98 to R102) -/

/-- Whether the hub offers the Xansa mode on an uplink: the cable qualifies and entry is not suppressed. -/
def offersXansa (k : Link) : Bool := k.qualified && !k.suppressed

/-- The product identifier of the variant. -/
def productId (s : State) : Nat := match s.variant with | .qt9840 => 0x9840 | .qt9824 => 0x9824 | .qt9812 => 0x9812

/-- The Xansa mode VDO (Table 3.2). -/
def modeVdo (s : State) : Word :=
  BitVec.ofNat 32 (2 ^ 28 + 2 ^ 24 * 4 + 2 ^ 16 + 256 * s.fw.level.toNat + 16 * variantCode s
    + 8 * bitNat (s.variant == .qt9840) + 4)

/-- An answer to a Structured VDM on an attached uplink. -/
def answerVdm (u : Up) (answer : Fin 3) (command : Byte) (objects : List Word) (s : State) : State :=
  if s.links[linkOfUp u].cc = 0 then s else emit (.vdm u answer command objects) s

/-- VDM_DISCOVER_IDENTITY (R98): vendor, product, and product type 1, PDUSB Hub. -/
def execVdmDiscoverIdentity (u : Up) (s : State) : Answer :=
  runShell (fun s => answerVdm u 1 1 [0x3A71, BitVec.ofNat 32 (productId s), 1] s) s

/-- VDM_DISCOVER_SVIDS (R98). -/
def execVdmDiscoverSvids (u : Up) (s : State) : Answer :=
  runShell (fun s => answerVdm u 1 2 (if offersXansa s.links[linkOfUp u] then [0x3A71] else []) s) s

/-- VDM_DISCOVER_MODES (R98): the one mode; NAK for another SVID. -/
def execVdmDiscoverModes (u : Up) (svid : Half) (s : State) : Answer :=
  runShell (fun s => if svid = 0x3A71 then answerVdm u 1 3 [modeVdo s] s else answerVdm u 0 3 [] s) s

/-- Enter Mode while the chip runs (R99): ACK and bring-up from Detect, which ends a link that runs, or NAK. -/
def enterXansa (u : Up) (svid : Half) (s : State) : State :=
  let l := linkOfUp u
  let k := s.links[l]
  let parked := s.pm.setting[(⟨u.val, by omega⟩ : Island)] == 1
  if svid != 0x3A71 || s.power.pd[u].contract.isNone || !offersXansa k || parked then answerVdm u 0 4 [] s
  else
    let s := updLink l (fun k => { k with usbTerm := false, exitWait := false }) s
    let s := finish (.retrainFull l) stNoResource [] (endLinkCommands l stNoResource (closeTid0 u s))
    let s := startBringUp l (emit (.vdm u 1 4 []) s)
    if s.usb.owner = hostOnUp s u then presentUsb s else s

/-- ENTER_MODE (R99, R452): BUSY while the hub is in Stop or has not reached READY since. -/
def execEnterMode (u : Up) (svid : Half) (s : State) : Answer :=
  runShell (fun s => if dataOn s && s.pm.phase = .run && s.ready then enterXansa u svid s else answerVdm u 2 4 [] s) s

/-- EXIT_MODE (R101): the link ends and the uplink falls back; in Stop, once the hub is in Run again. -/
def execExitMode (u : Up) (s : State) : Answer :=
  runShell (fun s =>
    let k := s.links[linkOfUp u]
    if k.state = 0 then answerVdm u 0 5 [] s
    else
      let s := finish (.retrainFull (linkOfUp u)) stNoResource [] (fallBackOrOwe u (answerVdm u 1 5 [] s))
      updLink (linkOfUp u) (fun k => { k with exitWait := false }) s) s

/-- NO_CONTRACT_TIMEOUT (R101). -/
def execNoContractTimeout (u : Up) (s : State) : Answer :=
  runCore (fun s => if s.links[linkOfUp u].state = 0 && s.power.pd[u].contract.isNone then fallBack u s else s) s

/-- NO_ENTER_MODE_TIMEOUT (R101). -/
def execNoEnterModeTimeout (u : Up) (s : State) : Answer :=
  runCore (fun s => if s.links[linkOfUp u].state = 0 && s.power.pd[u].contract.isSome then fallBack u s else s) s

/-- EXIT_MODE_WAIT_TIMEOUT (R101): a Hard Reset where Exit Mode has not arrived. -/
def execExitModeWaitTimeout (u : Up) (s : State) : Answer :=
  runCore (fun s => if s.links[linkOfUp u].exitWait then hardReset u true s else s) s

/-! ### Bring-up and retrain (R103 to R109, R114) -/

/-- BRINGUP_STATE_EXIT (R104): `ok` maps the pairs that met the condition. -/
def execBringupStateExit (l : LinkNo) (ok : BitVec 4) (s : State) : Answer :=
  runCore (fun s =>
    let k := s.links[l]
    if !bringingUp k || (k.phase = 5 && k.cap.isNone) then s
    else if k.reversed || k.phase = 6 || stateMet l k ok then nextPhase l ok s else s) s

/-- BRINGUP_STATE_TIMEOUT (R104 to R107): the lanes that met the condition go on, unless a primary did not. -/
def execBringupStateTimeout (l : LinkNo) (ok : BitVec 4) (s : State) : Answer :=
  runCore (fun s =>
    let k := s.links[l]
    if !bringingUp k then s
    else if k.reversed then nextPhase l ok s
    else if k.phase = 6 || (k.phase = 5 && k.cap.isNone) || !stateMet l k ok then failAttempt l s
    else nextPhase l ok s) s

/-- BRINGUP_RETRY_WAIT (R106). -/
def execBringupRetryWait (l : LinkNo) (s : State) : Answer :=
  runCore (fun s => if s.links[l].retryWait then nextAttempt l s else s) s

/-- Byte `i` of a block. -/
def blockByte (b : Dword) (i : Nat) : Nat := bitsOf b.toNat (8 * i) 8

/-- Whether a peer's CAP is accepted (R114, R375). -/
def capAccepted (s : State) (l : LinkNo) (b : Dword) : Bool :=
  let units := blockByte b 3 % 32
  let role := (blockByte b 3).testBit 7
  blockByte b 2 / 16 == 1 && (blockByte b 3).testBit 5 && decide (4 ≤ units) && decide (units ≤ 16)
    && (if l = 2 then role && !(blockByte b 3).testBit 6 && (blockByte b 6).testBit 0 != s.pair.pos
          && blockByte b 7 == 0 && variantCode s == 0
        else !role)

/-- CAP_RECEIVED (R112, R114). -/
def execCapReceived (l : LinkNo) (b : Dword) (s : State) : Answer :=
  runCore (fun s =>
    let k := s.links[l]
    if !bringingUp k || k.phase != 5 then s
    else if !knownBlock b then linkCount l 1 1 s
    else if blockByte b 0 != 0x4B || blockByte b 1 != 0x10 then s
    else if capAccepted s l b then
      updLink l (fun k => { k with
        cap := some ⟨(blockByte b 3).testBit 6, BitVec.ofNat 5 (blockByte b 3), BitVec.ofNat 3 (blockByte b 4),
          BitVec.ofNat 3 (blockByte b 4 / 8), BitVec.ofNat 8 (blockByte b 5)⟩ }) s
    else failAttempt l s) s

/-- RETRAIN_RECEIVED (R108). -/
def execRetrainReceived (l : LinkNo) (s : State) : Answer := runCore (startRetrain l false) s

/-- RETRAIN_TIMEOUT (R109): the host is lost, and bring-up starts from Detect. -/
def execRetrainTimeout (l : LinkNo) (s : State) : Answer :=
  runCore (fun s =>
    if s.links[l].state != 8 then s
    else match upOfLink l with
      | some u => loseAttached u s
      | none => startBringUp l s) s

/-! ### Frames (R115 to R126) -/

/-- A frame with a failed CRC (R116, R126). -/
def badFrame (l : LinkNo) (p : PairNo) (s : State) : State :=
  let now := s.clock.hubTime
  let s := updLink l (fun k => { k with
    crcSeen := true
    crcTimes := k.crcTimes.set p ((now :: k.crcTimes[p]).filter (fun t => decide ((now - t).toNat < 1000000))) }) s
  let s := linkCount l 0 1 s
  if 4 ≤ s.links[l].crcTimes[p].length then
    laneFails l p (updLink l (fun k => { k with crcTimes := k.crcTimes.set p [] }) s)
  else s

/-- A lane's receiver resumes: its adaptation goes on (R128, R131). -/
def resumeLane (l : LinkNo) (p : PairNo) (s : State) : State :=
  if s.links[l].rxSleep[p].isNone then s
  else updLink l (fun k => { k with rxSleep := k.rxSleep.set p none }) (adaptFrom l p s)

/-- A good frame received on a lane of an Active link; on the receive primary it ends the Active state of a bring-up (R104).
What the packets of the bond link carry arrives as commands of its own (log entry 25). -/
def goodFrame (l : LinkNo) (p : PairNo) (f : RawFrame) (s : State) : State :=
  let k := s.links[l]
  let s := resumeLane l p (if k.phase = 6 && p = receivePrimary l k then settleActive l s else s)
  let s := receiveGood l p f s
  let s := if l = 2 then takeBond s else s
  if hdrIdle f.hdr || primaryDeep l s.links[l] then s else wakeLane l (sendPrimary l s.links[l]) s

/-- The frame that the blocks kept spell; blocks of a frame that are no whole frame fail its CRC (R110, R116). -/
def receiveFrame (l : LinkNo) (p : PairNo) (kept : List Block) (s : State) : State :=
  match frameIn kept with
  | some f => if frameGood f then goodFrame l p f s else badFrame l p s
  | none => if kept.any ofFrame then badFrame l p s else s

/-- LINK_FRAME_RECEIVE (R110 to R124): the blocks of a lane since its last frame, up to and with this one. From Block lock on
they run through the descrambler; frames count from Active onward. -/
def execLinkFrameReceive (l : LinkNo) (p : PairNo) (bs : List Block) (s : State) : Answer :=
  runCore (fun s =>
    let k := s.links[l]
    let turned := match k.turn with | some t => t.pair == p && t.toHub && t.phase == .awaitFrame | none => false
    if ((receiveLanes l k).contains p || turned) && (k.state = 6 || (bringingUp k && 4 ≤ k.phase.val)) then
      let r := takeBlocks l p bs s
      if k.state = 6 then receiveFrame l p r.1 r.2 else r.2
    else s) s

/-- NAK_RECEIVED (R112, R124, R125): ignored when its check fails; a block of an unknown type counts in counter 1. -/
def execNakReceived (l : LinkNo) (b : Dword) (s : State) : Answer :=
  runCore (fun s =>
    let q : BitVec 12 := b.extractLsb' 8 12
    if s.links[l].state != 6 then s
    else if !knownBlock b then linkCount l 1 1 s
    else if blockByte b 0 != 0x2D || b.extractLsb' 32 16 != ~~~ (b.extractLsb' 8 16) then s
    else
      let s := linkCount l 4 1 s
      updLink l (fun k => if k.retry.any (fun r => r.frame.seq == q) && !k.replayQ.contains q then
        { k with replayQ := k.replayQ ++ [q] } else k) s) s

/-- REPLAY_TIMEOUT (R125). -/
def execReplayTimeout (l : LinkNo) (s : State) : Answer :=
  runCore (fun s =>
    if s.links[l].state = 6 && !s.links[l].retry.isEmpty then
      linkCount l 6 1 (updLink l (fun k => { k with replayQ := k.retry.map (fun r => r.frame.seq) }) s)
    else s) s

/-- Sends the frame at the head of the replay queue again; after 16 replays the link retrains (R125, R126). The spec does not
say whether the count starts again with that retrain; the model keeps it until the frame is acknowledged (log entry 99). -/
def sendReplay (l : LinkNo) (p : PairNo) (q : BitVec 12) (s : State) : State :=
  match s.links[l].retry.find? (fun r => r.frame.seq == q) with
  | none => s
  | some r =>
    let s := updLink l (fun k => { k with
      replayQ := k.replayQ.drop 1
      retry := k.retry.map (fun x => if x.frame.seq == q then { x with replays := x.replays + 1 } else x) }) s
    let s := linkCount l 5 1 (putFrame l p false r.frame.mstream q r.frame.first.toNat r.frame.fill.toNat r.frame.payload s)
    if 16 ≤ r.replays + 1 then startRetrain l true s else s

/-- Moves packets of tunnel 0 into the management stream until a reserved frame is full (R86, R118). -/
def fillSlot (u : Up) : Nat → State → State
  | 0, s => s
  | n + 1, s =>
    if 496 ≤ (s.links[linkOfUp u].txMgmt.map (fun c => c.bytes.length)).sum then s
    else match tid0Head s (hostOnUp s u) with
      | some (t, p) => fillSlot u n (sendPacket u t p true true s)
      | none => s

/-- Sends the next frame on a lane: a replay, tunnel 0 in a reserved slot, data while the retry buffer has room, or an
idle frame (R86, R119 to R121, R125). -/
def sendFrame (l : LinkNo) (p : PairNo) (s : State) : State :=
  match s.links[l].replayQ with
  | q :: _ => sendReplay l p q s
  | [] =>
    let k := s.links[l]
    let slot := p == sendPrimary l k && k.slotTx[p] == 0
    let s := match upOfLink l with | some u => if slot then fillSlot u 64 s else s | none => serveBond slot s
    let k := s.links[l]
    if slot && !k.txMgmt.isEmpty && k.retry.length < 128 then putData l p true s
    else if !k.txMain.isEmpty && k.retry.length < 128 then putData l p false s
    else putFrame l p true false k.txSeq 63 0 [] s

/-- A Fill block, between the CAPs and the first frame (Table 3.7). -/
def sendFill (l : LinkNo) (p : PairNo) (s : State) : State :=
  let r := sendBlocks l p [controlBlock 0x1E] s
  emit (.fill l p r.1) r.2

/-- LINK_FRAME_SEND (R112, R120): on an awake lane of an Active link; during the change to it there is nothing but Fill to
send. -/
def execLinkFrameSend (l : LinkNo) (p : PairNo) (s : State) : Answer :=
  runCore (fun s =>
    let k := s.links[l]
    if k.state = 6 && (sendLanes l k).contains p && k.txSleep[p].isNone then sendFrame l p s
    else if bringingUp k && k.phase = 5 && k.cap.isSome && (candidates l k false).contains p then sendFill l p s
    else s) s

/-! ### Lane turns (R141, R142) -/

/-- The host's answer to the ALLOT that the hub awaits: the pair's EIOS where the hub sends on it, or the refusal. -/
def turnAnswered (u : Up) (refuse : Bool) (t : Turn) (s : State) : State :=
  let l := linkOfUp u
  if refuse then refuseTurn u s
  else
    let s := if t.toHub then sendSetOn l t.pair 0x30 [4] s else s
    updLink l (fun k => { k with turn := some { t with phase := .turning } }) s

/-- ALLOT_ACK_RECEIVED (R141, R142): its bytes 2 and 3 echo the ALLOT. -/
def execAllotAckReceived (u : Up) (b2 b3 : Byte) (refuse : Bool) (s : State) : Answer :=
  runCore (fun s =>
    let k := s.links[linkOfUp u]
    match k.turn with
    | some t => if t.phase = .awaitAck && turnEchoed k t b2 b3 then turnAnswered u refuse t s else s
    | none => s) s

/-- ALLOT_ACK_TIMEOUT (R142). -/
def execAllotAckTimeout (u : Up) (s : State) : Answer :=
  runCore (fun s => match s.links[linkOfUp u].turn with
    | some t => if t.phase = .awaitAck then refuseTurn u s else s
    | none => s) s

/-- TURN_BLOCK_LOCK (R141, R146): the hub's receiver on the turned pair is locked, and ALLOT_DONE goes out. -/
def execTurnBlockLock (u : Up) (s : State) : Answer :=
  runCore (fun s =>
    let l := linkOfUp u
    match s.links[l].turn with
    | some t =>
      if t.phase = .turning && t.toHub then
        let b := turnBytes s.links[l] t
        let (code, s) := match b.1 with | some x => (x, s) | none => takeFree 8 s
        sendSet l 0x42 [code, b.2] (updLink l (fun k => { k with turn := some { t with phase := .awaitFrame } }) s)
      else s
    | none => s) s

/-- TURN_BLOCK_LOCK_TIMEOUT (R142). -/
def execTurnBlockLockTimeout (u : Up) (s : State) : Answer :=
  runCore (fun s => match s.links[linkOfUp u].turn with
    | some t => if !t.spare && t.phase = .turning then loseTurning u t s else s
    | none => s) s

/-- TURN_FIRST_FRAME (R141). -/
def execTurnFirstFrame (u : Up) (s : State) : Answer :=
  runCore (fun s => match s.links[linkOfUp u].turn with
    | some t => if t.phase = .awaitFrame then completeTurn u t s else s
    | none => s) s

/-- ALLOT_DONE_RECEIVED (R141, R146): the hub begins frames on the pair that it now sends on. -/
def execAllotDoneReceived (u : Up) (b2 b3 : Byte) (s : State) : Answer :=
  runCore (fun s =>
    let k := s.links[linkOfUp u]
    match k.turn with
    | some t => if t.phase = .turning && !t.toHub && turnEchoed k t b2 b3 then completeTurn u t s else s
    | none => s) s

/-- SPARE_TURN_TIMEOUT (R146): the spare pair is lost, and the hub starts a retrain. -/
def execSpareTurnTimeout (u : Up) (s : State) : Answer :=
  runCore (fun s => match s.links[linkOfUp u].turn with
    | some t => if t.spare && t.phase = .turning then loseTurning u t s else s
    | none => s) s

/-! ### Lane loss and restoration (R143 to R147) -/

/-- LANE_LOST (R144). On a lane that is being retried, the retry has ended without success. -/
def execLaneLost (l : LinkNo) (p : PairNo) (blockLock : Bool) (s : State) : Answer :=
  runCore (fun s =>
    if s.links[l].state != 6 && s.links[l].state != 9 then s
    else
      let s := if blockLock then linkCount l 2 1 s else s
      if s.links[l].restoring.getLsbD p.val then retryFails l p s else laneFails l p s) s

/-- What LANE_DOWN says of one pair: lost, restored, or turned as a spare by the host (R144, R146, R147). -/
def laneDown (l : LinkNo) (lost restored spare : BitVec 4) (s : State) (p : PairNo) : State :=
  let k := s.links[l]
  let s := if lost.getLsbD p.val && laneSends l k p && !k.lost.getLsbD p.val then laneFails l p s else s
  let s := if restored.getLsbD p.val && laneSends l s.links[l] p && s.links[l].lost.getLsbD p.val
        && s.links[l].restoring.getLsbD p.val then
      let s := sendSetOn l p 0x02 [BitVec.ofNat 8 p.val, 0] (rejoinLane l p s)
      if s.links[l].restoring = 0 then finish (.retrainLanes l) stOk [] s else s
    else s
  match upOfLink l with
  | some u =>
    if spare.getLsbD p.val && runsToHub s.links[l] p
        && !(match s.links[l].turn with | some t => t.spare | none => false) then startSpare u p false s
    else s
  | none => s

/-- LANE_DOWN_RECEIVED (R144, R146). -/
def execLaneDownReceived (l : LinkNo) (lost restored spare : BitVec 4) (s : State) : Answer :=
  runCore (fun s => if s.links[l].state = 6 then allPairs.foldl (laneDown l lost restored spare) s else s) s

/-- LANE_RESTORE_ATTEMPT (R147): unless the lane has been lost 4 times within the hour. An attempt still marked has ended
without success. -/
def execLaneRestoreAttempt (l : LinkNo) (p : PairNo) (s : State) : Answer :=
  runCore (fun s =>
    let s := if s.links[l].restoring.getLsbD p.val then retryFails l p s else s
    let k := s.links[l]
    if k.lost.getLsbD p.val && !k.noRestore.getLsbD p.val && carries k then
      tryLane l p s
    else s) s

/-- LANE_RESTORED (R147): the attempt that runs on a lost lane succeeds. -/
def execLaneRestored (l : LinkNo) (p : PairNo) (s : State) : Answer :=
  runCore (fun s =>
    if s.links[l].lost.getLsbD p.val && s.links[l].restoring.getLsbD p.val then
      let s := adaptFrom l p (restoreLane l p s)
      if s.links[l].restoring = 0 then finish (.retrainLanes l) stOk [] s else s
    else s) s

/-! ### Sleep and wake (R131 to R137) -/

/-- LANE_IDLE_TIMEOUT (R132, R133): EIOS with the target, after an idle frame whose ACK covers what was received. A lane in
Quiet or Doze that goes deeper first leaves its sleep by RESUME (R131). -/
def execLaneIdleTimeout (l : LinkNo) (p : PairNo) (target : Sleep) (s : State) : Answer :=
  runCore (fun s =>
    if maySleep s l p target then
      let s := wakeLane l p s
      let s := putFrame l p true false s.links[l].txSeq 63 0 [] s
      let s := sendSetOn l p 0x30 [BitVec.ofNat 8 (sleepCode target)] s
      settleDeep l (linkCount l 11 1 (updLink l (fun k => { k with txSleep := k.txSleep.set p (some target) }) s))
    else s) s

/-- The sleep state an EIOS names. -/
def eiosTarget (b : Byte) : Option Sleep :=
  if b = 1 then some .quiet else if b = 2 then some .doze else if b = 3 then some .deep else none

/-- EIOS_RECEIVED (R132, R134, R141): a lane sleeps, counted and answered with POLICY where that was not permitted; or a
turning pair's receiver goes off and, after the gap, its transmitter on with TS1. -/
def execEiosReceived (l : LinkNo) (p : PairNo) (target : Byte) (s : State) : Answer :=
  runCore (fun s =>
    let k := s.links[l]
    if k.state != 6 then s
    else match eiosTarget target with
      | some x =>
        if (receiveLanes l k).contains p then
          let s := updLink l (fun k => { k with rxSleep := k.rxSleep.set p (some x), laneSeq := k.laneSeq.set p none })
            (adaptTo l s p)
          let s := if sleepAllowed (sleepPermitted s l) x then s else linkCount l 11 1 (announce l s)
          settleDeep l s
        else s
      | none => match k.turn with
        | some t => if target = 4 && t.pair = p && !t.toHub && t.phase = .turning then
            sendSetOn l p 0x01 [BitVec.ofNat 8 p.val, 1] s else s
        | none => s) s

/-- LANE_WAKE (R132, R135). -/
def execLaneWake (l : LinkNo) (p : PairNo) (s : State) : Answer :=
  runCore (fun s =>
    if (s.links[l].state = 6 || s.links[l].state = 9) && (sendLanes l s.links[l]).contains p then wakeLane l p s else s) s

/-- RESUME_RECEIVED (R131). -/
def execResumeReceived (l : LinkNo) (p : PairNo) (s : State) : Answer :=
  runCore (fun s =>
    if (s.links[l].state = 6 || s.links[l].state = 9) && s.links[l].rxSleep[p] != some .deep then
      resumeLane l p s
    else s) s

/-- Repeated bursts of the wake pattern (R135). -/
def repeatBursts (l : LinkNo) (n : Nat) (s : State) : State :=
  emits (List.replicate n (.wakeBurst l (sendPrimary l s.links[l]))) s

/-- The bursts that have followed the first of the hub's own pattern when one of the host's is recognised: one every 2 µs
± 100 ns, at most 31 (R135). Recognised within the 300 ns of R135 after the 1 µs of R137, the burst is no answer but the host's
own pattern, and the hub, now the answering side, sends no further one (log entry 126). -/
def burstsSince (k : Link) (s : State) : Nat × State :=
  let dt := (s.clock.hubTime - k.wakeStart).toNat
  if dt ≤ 1300 then (0, s)
  else
    let lo := min 31 (dt / 2100)
    let hi := min 31 (dt / 1900)
    let (v, s) := takeFree 5 s
    (lo + v.toNat % (hi - lo + 1), s)

/-- WAKE_BURST_RECEIVED (R135 to R137): counter 13. The hub answers with one burst; when it sends the pattern itself, the burst
ends its repetition. -/
def execWakeBurstReceived (u : Up) (s : State) : Answer :=
  runCore (fun s =>
    let l := linkOfUp u
    let k := s.links[l]
    let deep := k.rxSleep[receivePrimary l k] == some .deep || k.waking
    if (k.state = 6 || k.state = 9) && deep && !k.deepWake then
      let s := linkCount l 13 1 s
      if k.waking then
        let (n, s) := burstsSince k s
        leaveDeep l (repeatBursts l n s)
      else leaveDeep l (repeatBursts l 1 s)
    else s) s

/-- WAKE_PATTERN_TIMEOUT (R136): after 32 bursts without an answer, a retrain. -/
def execWakePatternTimeout (u : Up) (s : State) : Answer :=
  runCore (fun s => if s.links[linkOfUp u].waking then startRetrain (linkOfUp u) true (repeatBursts (linkOfUp u) 31 s) else s) s

/-! ### Equaliser and counters (R130, R148) -/

/-- TAP_SATURATION_TIMEOUT (R130). -/
def execTapSaturationTimeout (l : LinkNo) (p : PairNo) (tap : Fin 12) (s : State) : Answer :=
  runCore (fun s =>
    if receiverInUse l s.links[l] p then
      linkCount l 15 1 (updLink l (fun k => { k with
        eqHub := upd k.eqHub p (fun e => { e with satBits := setBit e.satBits tap.val true }) }) s)
    else s) s

/-- LINK_COUNTER_WINDOW (R148). -/
def execLinkCounterWindow (u : Up) (k : Fin 16) (s : State) : Answer :=
  runCore (fun s => updLink (linkOfUp u) (fun x => { x with
    thresholds := upd x.thresholds k (fun t => { t with count := 0, raised := false }) }) s) s

end Sys2Proof.Machine
end

