-- ==== Sys2Proof/Machine/Tunnel.lean ====
section
/-! DEFINITION. Meanings of the Tunnels group and of what the tunnels do (04): opening, closing, shaping, policing, reports, classes, sampling, reception, selection, the refill, and the tunnel timers. -/
namespace Sys2Proof.Machine

/-! ### Targets and permissions (R159, R160) -/

/-- The host and the TID a target names. -/
def tgHost (c : Cmd) : HostNo := ⟨bitsOf c.target.toNat 24 2, Nat.mod_lt _ (by decide)⟩
def tgTid (c : Cmd) : Byte := BitVec.ofNat 8 (c.target.toNat / 256)

/-- Whether a requester is the host that the target names. -/
def isTgHost (c : Cmd) (r : Requester) : Bool := hostOfRequester r == some (tgHost c)

/-- Whether the target names a tunnel that its owner pinned. -/
def pinnedTunnel (s : State) (c : Cmd) : Bool :=
  match findTunnel s (tgHost c) (tgTid c) with | some t => t.pinned | none => false

/-- The block of a TUN_OPEN (Table 14.2). -/
def openBlock (c : Cmd) : Option (Fin 32) :=
  let k := byteAt c.payload 0
  if k = 1 then some 4 else if k = 3 then some 6 else if k = 6 then some 9
  else if k = 2 || k = 5 || (k = 7 && fieldAt c.payload 4 2 % 32768 = 0x10) then some 7
  else if k = 4 || k = 7 then some 8 else none

/-- A tunnel command on the tunnel of its target. -/
def tunSpec (op : Half) (lens : Nat → Bool) (pin : Bool) : OpSpec :=
  { op := op, lens := lens
    absent := fun s c => s.variant != .qt9840 && tgHost c != 0
    perm := fun s c r => permO r || (isTgHost c r && !(pin && pinnedTunnel s c))
    write := fun c => !c.payload.isEmpty
    target := 0x0300FF00 }

/-- Runs an effect on the uplink a target names; a host on no uplink of this chip is of another role of a pair (R160; in
Span, log entry 26). -/
def onHost (op : Half) (f : Up → Cmd → State → State) (c : Cmd) (s : State) : State :=
  match upOfHost s (tgHost c) with
  | some u => f u c s
  | none => fail op c stPairRole s

/-! ### TUN_OPEN (R161, R162) -/

/-- A shaper block at a byte of a payload. -/
def shaperAt (p : List Byte) (i : Nat) : Shaper :=
  ⟨BitVec.ofNat 32 (fieldAt p i 4), BitVec.ofNat 32 (fieldAt p (i + 4) 4), BitVec.ofNat 32 (fieldAt p (i + 8) 4),
    BitVec.ofNat 32 (fieldAt p (i + 12) 4)⟩

/-- The ranges of rates and bursts (R162). -/
def rateOk (r : Word) : Bool := decide (r.toNat ≤ 200000)
def burstOk (b : Word) : Bool := decide (b.toNat ≤ 16777216)
def shaperInRange (x : Shaper) : Bool := rateOk x.cir && rateOk x.eir && burstOk x.cbs && burstOk x.ebs

/-- The endpoint field of a TUN_OPEN, and whether it crosses to the partner (R388). -/
def openEndpoint (p : List Byte) : Half := BitVec.ofNat 16 (fieldAt p 4 2 % 32768)
def openCrosses (p : List Byte) : Bool := (fieldAt p 4 2).testBit 15

/-- The tunnel a TUN_OPEN asks for; one that crosses gets its bond TID as it opens. -/
def openedTunnel (s : State) (c : Cmd) : Tunnel :=
  let p := c.payload
  let t := newTunnel (tgHost c) (tgTid c) (BitVec.ofNat 3 (byteAt p 0)) (fieldAt p 12 4) (fieldAt p 16 4) (fieldAt p 6 2)
    s.clock.hubTime
  { t with
    cross := if openCrosses p then some 0 else none
    guarded := (byteAt p 1).testBit 0
    pinned := (byteAt p 1).testBit 1
    channel := BitVec.ofNat 4 (byteAt p 2)
    endpoint := openEndpoint p
    keepalive := BitVec.ofNat 16 (fieldAt p 8 2)
    shHost := shaperAt p 20
    shHub := shaperAt p 36 }

/-- Order 1 of R162: every field in its range, and R161 kept; the tile decoder has the one endpoint 0 (R191). -/
def openFieldsOk (s : State) (c : Cmd) : Bool :=
  let p := c.payload
  let t := openedTunnel s c
  let k := byteAt p 0
  let ch : Fin 16 := ⟨byteAt p 2 % 16, Nat.mod_lt _ (by decide)⟩
  let m := 2 * tunM t
  tgTid c != 0 && decide (1 ≤ k) && decide (k < 8) && decide (byteAt p 1 < 4)
    && !(t.pinned && isHost (cmdRequester s c))
    && (if t.guarded then decide (byteAt p 2 < 16) && s.flt.channels[ch].width == 32 else byteAt p 2 == 0)
    && byteAt p 3 == 0 && decide (t.maxPl ≤ 4096) && zeroAt p 10 2
    && t.hubBuf % 64 == 0 && t.hostBuf % 64 == 0 && shaperInRange t.shHost && shaperInRange t.shHub
    && (if creditClass t.cls then decide (m ≤ t.hubBuf) && (t.cls == 1 || decide (m ≤ t.hostBuf))
        else t.hubBuf == 0 && t.hostBuf == 0 && t.shHub == noShaper)
    && (t.cls != 1 || (t.shHost == noShaper && t.endpoint == 0))
    && (!openCrosses p || inSpan s)

/-- The fabric ports of a tunnel's engine (Table 1.3, Table 4.3). -/
def enginePorts (s : State) (t : Tunnel) : List FabPort :=
  if t.cls == 1 then [3]
  else if t.cls == 3 then (if pciePresent s 1 then [6, 7] else [6])
  else if isUsbTunnel t then [8]
  else if t.cls == 6 then [11]
  else [9, 10]

/-- Whether every port of an engine is isolated, and whether a self-test of one still runs (Table 13.4). -/
def engineOut (s : State) (ps : List FabPort) : Bool := ps.all (fun p => s.flt.isolated.getLsbD p.val)
def engineTested (s : State) (ps : List FabPort) : Bool :=
  !ps.isEmpty && engineOut s ps && ps.any (fun p => s.flt.testing.getLsbD p.val)

/-- Another tunnel of the host of one class that ends on the same chip (R388). -/
def hasClass (s : State) (t : Tunnel) : Bool :=
  s.tunnels.any (fun x => x.host == t.host && x.cls == t.cls && x.cross.isSome == t.cross.isSome)

/-- Order 6 of R162: the endpoint checks of the engines (R238, R286, R317, R364). -/
def endpointCheck (s : State) (t : Tunnel) : Option Half :=
  if isUsbTunnel t then
    if (t.cls != 7 && t.endpoint != 0) || t.maxPl < 1024 then some stBadArg
    else if usbParked s || s.usb.owner != t.host
        || s.tunnels.any (fun x => x.host == t.host && x.cls == t.cls && isUsbTunnel x) then some stNoResource
    else none
  else if t.cls == 1 then none
  else if t.cls == 3 then
    if t.endpoint != 0 || t.maxPl < 536 then some stBadArg else if hasClass s t then some stBusy else none
  else if t.cls == 6 then
    if t.endpoint != 0 || t.maxPl < 1032 then some stBadArg else if hasClass s t then some stBusy else none
  else if 4 ≤ t.endpoint.toNat || t.maxPl < 1024 then some stBadArg
  else if s.tunnels.any (fun x => x.host == t.host && isNetTunnel x && x.cross.isSome == t.cross.isSome
      && x.endpoint == t.endpoint) then some stBusy
  else none

/-- What a tunnel's opening starts in its engine: the root, its ports as after an upstream reset (R281, R291), Karxo's ports (R272), the due signals (R360). -/
def engineOpens (t : Tunnel) (s : State) : State :=
  if t.cross.isSome then s
  else if t.cls == 5 then presentUsb (resetUsbPorts true s)
  else if t.cls == 3 then
    settlePorts (([0, 1] : List PciePort).foldl (fun s p =>
      if s.pcie.ports[p].assigned = some t.host && s.pcie.ports[p].karxo then
        emit (.nvmeShutdown p) (updPort p (fun x => { x with phase := .shutdown }) s)
      else s) s)
  else if t.cls == 6 then deliverAll (s.can.signals.map Prod.fst) s
  else s

/-- A free bond TID: the lead allots 3 to 128 to its hosts' cross tunnels, the follower 129 to 254 (log entry 133). -/
def freeBondTid (s : State) : Option Byte :=
  let used (b : Byte) : Bool := s.tunnels.any (fun t => t.cross == some b) || s.pair.opening.any (fun o => o.2.cross == some b)
  ((List.range 126).map (fun i => BitVec.ofNat 8 ((if isFollower s then 129 else 3) + i))).find? (fun b => !used b)

/-- Whether a cross tunnel with the number is being opened. -/
def openingTunnel (s : State) (t : Tunnel) : Bool := s.pair.opening.any (fun o => isTunnel t.host t.tid o.2)

/-- A tunnel to the partner's engine gets its bond TID, and the partner makes its engine's checks: the TUN_OPEN goes to it with
that TID in byte 3, and is answered with its status (R388; log entry 133). -/
def openAcross (c : Cmd) (t : Tunnel) (s : State) : State :=
  match freeBondTid s with
  | none => fail 0x0301 c stNoResource s
  | some b =>
    let id := s.pair.nextId
    let r := hostRequester t.host
    await 0x0301 c (.partner id)
      (emit (.forwardedCommand id r 0x0301 { c with src := .forwarded r id, payload := c.payload.set 3 b })
        (updPair (fun p => { p with
          nextId := id + 1, forwarded := p.forwarded ++ [⟨id, c.src, c.seq, c.tag, 0x0301, 0⟩]
          opening := p.opening ++ [(id, { t with cross := some b })] }) s))

/-- The checks of R162 from order 2 on, and the opening; on Night the tunnel is Standby (R391). -/
def openTunnel (u : Up) (c : Cmd) (s : State) : State :=
  let t := { openedTunnel s c with standby := isNight s }
  let ts := s.tunnels ++ [t]
  let engine := if t.cross.isSome then [] else enginePorts s t
  if !carries s.links[linkOfUp u] || (findTunnel s t.host t.tid).isSome || openingTunnel s t || engineTested s engine then
    fail 0x0301 c stBusy s
  else if (creditClass t.cls && 1572864 < poolUsed s t.host + t.hubBuf) || (!engine.isEmpty && engineOut s engine) then
    fail 0x0301 c stNoResource s
  else if !admitTunnel s ts t s.perf.pl then refuseOrRaise 0x0301 c (admitTunnel s ts t 2) s
  else if !shaperAgrees (tunM t) t.shHost || !shaperAgrees (tunM t) t.shHub then
    let s := if shaperAgrees (tunM t) t.shHost then s
      else shaperReject t.host (commitField 0 t.host false 0 t.tid.toNat) s
    let s := if shaperAgrees (tunM t) t.shHub then s
      else shaperReject t.host (commitField 0 t.host true 0 t.tid.toNat) s
    fail 0x0301 c stGroupMismatch s
  else if t.cross.isSome then openAcross c t s
  else match endpointCheck s t with
    | some st => fail 0x0301 c st s
    | none => engineOpens t (noteTunnel t.host t.tid (ok 0x0301 c [] { s with tunnels := ts }))

def tunOpenSpec : OpSpec :=
  { tunSpec 0x0301 (lenIn [52]) false with
    block := fun _ => openBlock
    absent := fun s c => s.variant != .qt9840 && (tgHost c != 0 || (byteAt c.payload 0 == 1 && outputs s == 0)) }
/-- Whether the partner asks for a tunnel of its host on this chip's engine (R388). -/
def opensFar (s : State) (c : Cmd) : Bool :=
  inSpan s && (upOfHost s (tgHost c)).isNone && openCrosses c.payload
    && (match c.src with | .forwarded _ _ => true | .mailbox _ => false | .mirror _ => false)

/-- The engine's part of opening a tunnel of the partner's host. -/
def openFar (c : Cmd) (s : State) : State :=
  let b := BitVec.ofNat 8 (byteAt c.payload 3)
  let t := { openedTunnel s c with cross := none, far := some b }
  let ts := s.tunnels ++ [t]
  if b.toNat < 3 then fail 0x0301 c stBadArg s
  else if (findTunnel s t.host t.tid).isSome || engineTested s (enginePorts s t) then fail 0x0301 c stBusy s
  else if engineOut s (enginePorts s t) then fail 0x0301 c stNoResource s
  else if !admitLevel s ts (modesNow s) s.net.ports s.perf.pl then
    refuseOrRaise 0x0301 c (admitLevel s ts (modesNow s) s.net.ports 2) s
  else match endpointCheck s t with
    | some st => fail 0x0301 c st s
    | none => engineOpens t (ok 0x0301 c [] { s with tunnels := ts })

def openOwn : Cmd → State → State := onHost 0x0301 fun u c s =>
  if !openFieldsOk s c then fail 0x0301 c stBadArg s
  else if plBusy s then holdRequest 0x0301 c s
  else openTunnel u c s

def tunOpenBody (c : Cmd) (s : State) : State := if opensFar s c then openFar c s else openOwn c s

/-- TUN_OPEN (R39, R161, R162, R388). -/
def execTunOpen (c : Cmd) (s : State) : Answer := .next (runCmd tunOpenSpec tunOpenBody c s)

/-! ### TUN_CLOSE (R164) -/

/-- A tunnel's record goes, and its engine follows. -/
def leaveEngine (t : Tunnel) (s : State) : State :=
  let s := dropTunnel t.host t.tid (tellClosed s t)
  if t.cls == 3 then settlePorts s else if t.cls == 5 then presentUsb s
  else if carriesPort t then downVirtual (virtualPort t.host t.endpoint.toNat) s else s

/-- A tunnel is Closed: its record goes, its engine follows, the final response is OK and event 16 reports it. -/
def closeTunnel (t : Tunnel) (s : State) : State :=
  tunEvent t.host t.tid 0 (finish (.tunClose t.host t.tid) stOk [] (leaveEngine t s))

def tunCloseSpec : OpSpec := { tunSpec 0x0302 (lenIn [0]) true with write := fun _ => true }
/-- The tunnel of a partner's host that ends on this chip's engine and that the partner names (R388). -/
def farTunnel (s : State) (c : Cmd) : Option Tunnel :=
  match c.src with
  | .forwarded _ _ => s.tunnels.find? (fun t => isTunnel (tgHost c) (tgTid c) t && t.far.isSome)
  | .mailbox _ => none
  | .mirror _ => none

def closeOwn : Cmd → State → State := onHost 0x0302 fun _ c s =>
  let h := tgHost c
  let tid := tgTid c
  if tid = 0 then fail 0x0302 c stBadArg s
  else match findTunnel s h tid with
    | none => ok 0x0302 c [] s
    | some t =>
      if t.closing then fail 0x0302 c stBusy s
      else startPending 0x0302 c (.tunClose h tid) (fun s =>
        let s := if isUsbTunnel t then cancelTunnel h tid s else s
        let s := noteTunnel h tid (updTunnel h tid (fun t => { t with closing := true }) s)
        if carriesPort t then downVirtual (virtualPort h t.endpoint.toNat) s else s) s

def tunCloseBody (c : Cmd) (s : State) : State :=
  match farTunnel s c with
  | some t => ok 0x0302 c [] (leaveEngine t s)
  | none => closeOwn c s

/-- TUN_CLOSE (R164). -/
def execTunClose (c : Cmd) (s : State) : Answer := .next (runCmd tunCloseSpec tunCloseBody c s)

/-- Whether the PCIe bridge still has a TLP of a tunnel that it has neither forwarded nor logged (R164). -/
def bridgeHolds (s : State) (h : HostNo) (tid : Byte) : Bool :=
  let mine (q : QueuedTlp) : Bool := q.host == h && q.tid == tid
  ([0, 1] : List PciePort).any (fun p => (s.pcie.ports[p].posted ++ s.pcie.ports[p].nonPosted ++ s.pcie.ports[p].completions).any mine)
    || s.pcie.lock.blocked.any mine
    || ([0, 1] : List PciePort).any (fun p => s.pcie.ports[p].prefetch.any (fun e => e.window == windowOf h p && !e.demand.isEmpty))
    || (s.pcie.overflow ++ s.pcie.lock.waiting).any (fun r => !r.toHost && r.host == h && r.tid == tid)

/-- TUN_CLOSE_DRAINED (R164): the queue is empty and the endpoint holds nothing more. -/
def execTunCloseDrained (h : HostNo) (tid : Byte) (s : State) : Answer :=
  runCore (fun s => match findTunnel s h tid with
    | some t =>
      if t.closing && t.queue.isEmpty && t.held.isEmpty && t.inbox.isEmpty && !bridgeHolds s h tid
          && !s.usb.requests.any (fun r => r.host == h && r.tid == tid) then closeTunnel t s else s
    | none => s) s

/-- TUN_CLOSE_TIMEOUT (R164): the rest of the queue and what the endpoint holds are given up. -/
def execTunCloseTimeout (h : HostNo) (tid : Byte) (s : State) : Answer :=
  runCore (fun s => match findTunnel s h tid with
    | some t => if t.closing then closeTunnel t (if t.cls == 3 then abandonStorage t s else s) else s
    | none => s) s

/-! ### TUN_SHAPE and TUN_POLICE (R172, R175) -/

/-- Whether a group commit of this level has to answer BUSY: at level 1 a second command for a group (Table 14.15). -/
def groupBusy (s : State) (k : CommitSet) : Bool := s.fw.level.toNat == 1 && s.commits.any (fun d => sameGroup d.set k)

/-- A commit waits for the refill, and its command with it (R174). -/
def addCommit (op : Half) (c : Cmd) (k : CommitSet) (s : State) : State :=
  if groupBusy s k then fail op c stBusy s
  else { s with commits := s.commits ++ [⟨k, c.src, c.seq, c.tag, c.flags, op⟩] }

/-- The tunnels with one of them as a shape would make it. -/
def withTunnel (s : State) (t : Tunnel) : List Tunnel := s.tunnels.map (fun x => if isTunnel t.host t.tid x then t else x)

/-- Admission of a shape at a level: where a CIR rises, A1, A3 and the formulas of the level (R180, R217).
Only rates and the allotment in force count, not those of a change still waiting, this model's choice (log entry 149). -/
def admitShape (s : State) (u : Up) (old new : Tunnel) (pl : Fin 4) : Bool :=
  let ts := withTunnel s new
  let up (toHub : Bool) : Bool := !(if toHub then decide (old.shHub.cir.toNat < new.shHub.cir.toNat)
    else decide (old.shHost.cir.toNat < new.shHost.cir.toNat)) ||
    (admitA1 ts new.host toHub s.links[linkOfUp u].allot && admitA2 ts new.host toHub pl && admitA3 new toHub
      && admitLevel s ts (modesNow s) s.net.ports pl)
  up true && up false

def tunShapeSpec : OpSpec := tunSpec 0x0303 (lenIn [36]) true
def tunShapeBody : Cmd → State → State := onHost 0x0303 fun u c s =>
  let p := c.payload
  let toHost := (byteAt p 0).testBit 0
  let toHub := (byteAt p 0).testBit 1
  let a := shaperAt p 4
  let b := shaperAt p 20
  if tgTid c = 0 || 4 ≤ byteAt p 0 || !zeroAt p 1 3 then fail 0x0303 c stBadArg s
  else match findTunnel s (tgHost c) (tgTid c) with
    | none => fail 0x0303 c stBadArg s
    | some t =>
      if (toHub && !creditClass t.cls) || (toHost && t.cls == 1) || (toHost && !shaperInRange a)
          || (toHub && !shaperInRange b) then fail 0x0303 c stBadArg s
      else if byteAt p 0 = 0 then ok 0x0303 c [] s
      else if t.closing then fail 0x0303 c stBusy s
      else if plBusy s then holdRequest 0x0303 c s
      else
        let new := { t with shHost := if toHost then a else t.shHost, shHub := if toHub then b else t.shHub }
        if !admitShape s u t new s.perf.pl then refuseOrRaise 0x0303 c (admitShape s u t new 2) s
        else addCommit 0x0303 c
          (.shape t.host t.tid (if toHost then some a else none) (if toHub then some b else none)) s

/-- TUN_SHAPE (R39, R172, R174, R180). -/
def execTunShape (c : Cmd) (s : State) : Answer := .next (runCmd tunShapeSpec tunShapeBody c s)

/-- Admission of a policer at a level: A1 and A2 toward the hub where it is enabled anew or its rate rises (R180), and the
formula of a pair (R395). -/
def admitPolice (s : State) (u : Up) (old new : Tunnel) (pl : Fin 4) : Bool :=
  let ts := withTunnel s new
  decide (committed true new ≤ committed true old) ||
    (admitA1 ts new.host true s.links[linkOfUp u].allot && admitA2 ts new.host true pl && admitPair s s.net.ports ts pl)

def tunPoliceSpec : OpSpec := tunSpec 0x0304 (lenIn [12]) true
def tunPoliceBody : Cmd → State → State := onHost 0x0304 fun u c s =>
  let p := c.payload
  let pol : Policer := ⟨byteAt p 0 == 1, BitVec.ofNat 32 (fieldAt p 4 4), BitVec.ofNat 32 (fieldAt p 8 4)⟩
  if tgTid c = 0 || 1 < byteAt p 0 || !zeroAt p 1 3 || !rateOk pol.rate || !burstOk pol.burst then
    fail 0x0304 c stBadArg s
  else match findTunnel s (tgHost c) (tgTid c) with
    | none => fail 0x0304 c stBadArg s
    | some t =>
      if creditClass t.cls then fail 0x0304 c stBadArg s
      else if t.closing then fail 0x0304 c stBusy s
      else
        let new := { t with police := pol }
        if !admitPolice s u t new s.perf.pl then refuseOrRaise 0x0304 c (admitPolice s u t new 2) s
        else addCommit 0x0304 c (.police t.host t.tid pol) s

/-- TUN_POLICE (R175, R180). -/
def execTunPolice (c : Cmd) (s : State) : Answer := .next (runCmd tunPoliceSpec tunPoliceBody c s)

/-! ### TUN_QUERY (R182, R547) -/

/-- The report of a tunnel as at the latest refill; one of a Closed TID is 0, and TID 0 adds the uplink counters. -/
def queryReport (s : State) (u : Up) (h : HostNo) (tid : Byte) : List Byte :=
  let body := match findTunnel s h tid with | some t => padTo 176 t.snap | none => zeros 176
  if tid = 0 then
    (match findTunnel s h tid with
    | some _ => body ++ leBytes 8 s.scheds[u].snapMalformed.toNat ++ leBytes 8 s.scheds[u].snapStrays.toNat
    | none => zeros 192)
  else body

/-- The counters of a tunnel cleared, and on TID 0 the uplink's. -/
def clearQuery (u : Up) (h : HostNo) (tid : Byte) (s : State) : State :=
  let s := updTunnel h tid (fun t => { t with counters := noCounters, snap := padTo 176 (t.snap.take 104) }) s
  if tid = 0 then
    { s with scheds := upd s.scheds u (fun x => { x with malformed := 0, strays := 0, snapMalformed := 0, snapStrays := 0 }) }
  else s

/-- The partner may read with length 0 (R159, R385). -/
def tunQuerySpec : OpSpec :=
  { tunSpec 0x0305 (lenIn [0, 1]) false with perm := fun _ c r => permO r || isTgHost c r, partnerReads := true }
def tunQueryOp : Cmd → State → State := onHost 0x0305 fun u c s => ok 0x0305 c (queryReport s u (tgHost c) (tgTid c)) s
def tunQueryClearOp : Cmd → State → State := onHost 0x0305 fun u c s =>
  ok 0x0305 c (queryReport s u (tgHost c) (tgTid c)) (clearQuery u (tgHost c) (tgTid c) s)
def tunQueryBody (c : Cmd) (s : State) : State :=
  if c.payload.isEmpty then tunQueryOp c s else onlyWhen isOne 0x0305 tunQueryClearOp c s

/-- TUN_QUERY (R547). -/
def execTunQuery (c : Cmd) (s : State) : Answer :=
  .next (runCmd tunQuerySpec (onlyWhen (fun c => c.payload.isEmpty) 0x0305 tunQueryOp) c s)

/-- TUN_QUERY, with clearing (R547). -/
def execTunQueryClear (c : Cmd) (s : State) : Answer :=
  .next (runCmd tunQuerySpec (onlyWhen isOne 0x0305 tunQueryClearOp) c s)

/-! ### CLASS_SET (R173, R548) -/

def classSetSpec : OpSpec :=
  { tunSpec 0x0306 (lenIn [1, 12]) false with
    perm := fun _ c r => permO r || isTgHost c r
    write := fun c => c.payload.length == 12
    target := 0x03010000 }
def classSetBody : Cmd → State → State := onHost 0x0306 fun u c s =>
  let p := c.payload
  let toHub := c.target.getLsbD 16
  if byteAt p 0 = 0 || 8 ≤ byteAt p 0 then fail 0x0306 c stBadArg s
  else
    let k : Fin 8 := ⟨byteAt p 0 % 8, Nat.mod_lt _ (by decide)⟩
    if p.length = 1 then
      ok 0x0306 c (classBytes k.val (if toHub then s.scheds[u].toHub[k] else s.scheds[u].toHost[k])) s
    else
      let rate : Word := BitVec.ofNat 32 (fieldAt p 4 4)
      let burst : Word := BitVec.ofNat 32 (fieldAt p 8 4)
      if !zeroAt p 2 2 || !rateOk rate || !burstOk burst then fail 0x0306 c stBadArg s
      else addCommit 0x0306 c (.cls u toHub k (BitVec.ofNat 8 (byteAt p 1)) rate burst) s

/-- CLASS_SET (R173, R174, R548). -/
def execClassSet (c : Cmd) (s : State) : Answer := .next (runCmd classSetSpec classSetBody c s)

/-! ### SCHED_SAMPLE (R183, R184, R548) -/

/-- The selectors of a start. -/
def smSelectors (c : Cmd) : List Word := bytesToWords (byteAt c.payload 4) (c.payload.drop 8)

/-- The host a selector names. -/
def selHost (w : Word) : HostNo := ⟨bitsOf w.toNat 24 2, Nat.mod_lt _ (by decide)⟩

/-- Whether the payload is that of an operation. -/
def smStart (c : Cmd) : Bool := byteAt c.payload 0 == 0 && c.payload.length == 8 + 4 * byteAt c.payload 4
def smStop (c : Cmd) : Bool := c.payload == [1]
def smRelease (c : Cmd) : Bool := c.payload.length == 2 && byteAt c.payload 0 == 2

/-- Whether a host may issue the operation: its own selectors, or its own session (R548); the command's own check refuses
an unknown operation. -/
def smHostMay (s : State) (c : Cmd) (r : Requester) : Bool :=
  if byteAt c.payload 0 = 0 then (smSelectors c).all (fun w => hostOfRequester r == some (selHost w))
  else decide (2 < byteAt c.payload 0) || s.sampling.issuer == requesterCode r

def schedSampleSpec : OpSpec :=
  { op := 0x0307
    lens := fun n => n == 1 || n == 2 || (n % 4 == 0 && decide (12 ≤ n) && decide (n ≤ 72))
    perm := fun s c r => permO r || (isHost r && smHostMay s c r)
    block := fun _ _ => some 10
    write := fun _ => true }

/-- Operation 0 (R183). -/
def schedStartOp (c : Cmd) (s : State) : State :=
  let p := c.payload
  let sels := smSelectors c
  let selOk (w : Word) : Bool := w.toNat &&& 0xFCFCFF00 == 0 && (!w.getLsbD 17 || decide (w.toNat % 256 ≤ 7))
  if byteAt p 4 = 0 || 16 < byteAt p 4 || fieldAt p 2 2 = 0 || !sels.all selOk then fail 0x0307 c stBadArg s
  else if sels.any (fun w => (upOfHost s (selHost w)).isNone || (s.variant != .qt9840 && selHost w != 0)) then
    fail 0x0307 c (if s.variant = .qt9840 then stPairRole else stNotInVariant) s
  else if s.sampling.running then fail 0x0307 c stBusy s
  else
    let m : MbNo := match c.src with | .mailbox m => m | .forwarded _ _ => 3 | .mirror _ => 3
    ok 0x0307 c [] { s with sampling :=
      { running := true, issuer := requesterCode (cmdRequester s c), mailbox := m, interval := BitVec.ofNat 16 (fieldAt p 2 2)
        count := ⟨byteAt p 4 % 17, Nat.mod_lt _ (by decide)⟩, elapsed := 0, selectors := sels, buf0 := 1, buf1 := 0
        cur := false, fill := 0, skipped := 0 } }

/-- Operation 1: the buffer that fills is closed as it stands, without event 18 (R558). -/
def schedStopOp (c : Cmd) (s : State) : State :=
  let m := s.sampling
  if !m.running then ok 0x0307 c [] s
  else
    let fills := bufState m m.cur == 1
    let m1 := if fills then setBuf m m.cur 2 else m
    ok 0x0307 c [] { s with sampling := { m1 with running := false } }

/-- Operation 2: a closed buffer is released, and fills next where none fills; the skipped refills are reported. -/
def schedReleaseOp (c : Cmd) (s : State) : State :=
  let m := s.sampling
  if 1 < byteAt c.payload 1 then fail 0x0307 c stBadArg s
  else
    let b := byteAt c.payload 1 == 1
    let m1 := if bufState m b = 2 then setBuf m b 0 else m
    let m2 := if m1.running && bufState m1 m1.cur != 1 && bufState m1 b == 0 then
        { setBuf m1 b 1 with cur := b, fill := 0 } else m1
    ok 0x0307 c (wordBytes m.skipped) { s with sampling := { m2 with skipped := 0 } }

def schedSampleBody (c : Cmd) (s : State) : State :=
  if smStart c then schedStartOp c s else if smStop c then schedStopOp c s
  else onlyWhen smRelease 0x0307 schedReleaseOp c s

/-- SCHED_SAMPLE, start (R183). -/
def execSchedSampleStart (c : Cmd) (s : State) : Answer :=
  .next (runCmd schedSampleSpec (onlyWhen smStart 0x0307 schedStartOp) c s)

/-- SCHED_SAMPLE, stop (R183). -/
def execSchedSampleStop (c : Cmd) (s : State) : Answer :=
  .next (runCmd schedSampleSpec (onlyWhen smStop 0x0307 schedStopOp) c s)

/-- SCHED_SAMPLE, release (R183, R184). -/
def execSchedSampleRelease (c : Cmd) (s : State) : Answer :=
  .next (runCmd schedSampleSpec (onlyWhen smRelease 0x0307 schedReleaseOp) c s)

/-! ### Packets, the scheduler and the tunnel timers -/

/-- The messages of a cross tunnel go on over the bond link to the partner's engine (R388). -/
def carryAcross (h : HostNo) (tid : Byte) (s : State) : State :=
  match findTunnel s h tid with
  | some t =>
    match t.cross with
    | some b => (match takeMessage h tid s with
      | some (m, s) => emit (.bondPacket b t.cls true m.bytes) s
      | none => s)
    | none => s
  | none => s

/-- The due signals that waited for a signal tunnel's credit are queued as it comes (R360). -/
def creditArrives (h : HostNo) (tid : Byte) (s : State) : State :=
  match findTunnel s h tid with
  | some t => if t.cls == 6 && t.cross.isNone then deliverAll (s.can.signals.map Prod.fst) s else s
  | none => s

/-- TUNNEL_PACKET_RECEIVE (R156): the oldest packet cut from the link's streams; Day replicates it (R392). -/
def execTunnelPacketReceive (u : Up) (s : State) : Answer :=
  runCore (fun s =>
    match s.links[linkOfUp u].rxPackets with
    | [] => s
    | p :: rest =>
      let s := receivePacket u p (updLink (linkOfUp u) (fun k => { k with rxPackets := rest }) s)
      let s := creditArrives (hostOnUp s u) (tpTid p.hdr.toNat) (carryAcross (hostOnUp s u) (tpTid p.hdr.toNat) s)
      if tpTid p.hdr.toNat = 0 || p.badHdr || !p.whole then s
      else replicate (.packet u p.hdr p.body) (8 + p.body.length) s) s

/-- SCHED_SELECT (R177). -/
def execSchedSelect (u : Up) (s : State) : Answer :=
  runCore (fun s => if s.links[linkOfUp u].state = 6 then selectNext u s else s) s

/-- SCHED_REFILL (R170, R174, R177, R183): island 12's 1 µs tick, with the storm-control buckets of R327. -/
def execSchedRefill (s : State) : Answer :=
  runCore (fun s => refill (updNet (fun n => { n with ports := n.ports.map refillStorm }) s)) s

/-- A change to the tunnel of an uplink's host, if its link is Active. -/
def onTunnel (u : Up) (tid : Byte) (f : Tunnel → State → State) (s : State) : State :=
  match findTunnel s (hostOnUp s u) tid with
  | some t => if s.links[linkOfUp u].state = 6 then f t s else s
  | none => s

/-- A zero-length packet is owed on a tunnel. -/
def owe (t : Tunnel) (s : State) : State :=
  updTunnel t.host t.tid (fun t => { t with owed := some (t.owed.getD s.clock.hubTime) }) s

/-- CREDIT_RETURN_TIMEOUT (R167). -/
def execCreditReturnTimeout (u : Up) (tid : Byte) (s : State) : Answer :=
  runCore (onTunnel u tid (fun t s => if 0 < t.release then owe t s else s)) s

/-- KEEPALIVE_SEND_TIMEOUT (R166). -/
def execKeepaliveSendTimeout (u : Up) (tid : Byte) (s : State) : Answer :=
  runCore (onTunnel u tid (fun t s => if t.keepalive = 0 then s else owe t s)) s

/-- TUNNEL_SILENT_TIMEOUT (R166). -/
def execTunnelSilentTimeout (u : Up) (tid : Byte) (s : State) : Answer :=
  runCore (onTunnel u tid (fun t s => if t.keepalive = 0 then s
    else noteTunnel t.host t.tid (updTunnel t.host t.tid (fun t => { t with silent := true }) s))) s

/-- CREDIT_STALL_TIMEOUT (R169): event 17 once for the wait of a head packet. -/
def execCreditStallTimeout (u : Up) (tid : Byte) (s : State) : Answer :=
  runCore (fun s => match findTunnel s (hostOnUp s u) tid with
    | none => s
    | some t => match t.queue with
      | [] => s
      | p :: _ => if peerOk t p || t.stalled then s
        else raise (.hosts (hostBit t.host)) 17 (tunArg t.host t.tid 0)
          (updTunnel t.host t.tid (fun t => { t with stalled := true }) s)) s

end Sys2Proof.Machine
end

