-- ==== Sys2Proof/Machine/Display.lean ====
section
/-! DEFINITION. Meanings of the Display group and of what the outputs do (05): modes, regions, layers, check-value regions, hold, reports, tiles and flips, vertical blanking, sinks. -/
namespace Sys2Proof.Machine

/-! ### Targets, blocks and permissions (R227) -/

/-- The output a target names. -/
def tgOut (c : Cmd) : OutNo := ⟨c.target.toNat % 4, Nat.mod_lt _ (by decide)⟩

/-- A command on the output its target names (Table 5.11, Table 14.2). -/
def outSpec (op : Half) (lens : Nat → Bool) (perm : State → Cmd → Requester → Bool) (write : Cmd → Bool) : OpSpec :=
  { op := op, lens := lens, perm := perm, write := write, target := 3, partnerReads := true
    absent := fun s c => !outPresent s (tgOut c)
    block := fun _ c => some ⟨(tgOut c).val, by omega⟩ }

/-- A command on the frame store: block 4. Its target names an output like that of every display command, which nothing
reads (R227). -/
def storeSpec (op : Half) (lens : Nat → Bool) (perm : State → Cmd → Requester → Bool) : OpSpec :=
  { op := op, lens := lens, perm := perm, write := fun _ => true, block := fun _ _ => some 4
    absent := fun s _ => outputs s == 0, target := 3 }

/-- Byte 0 or 1 of a payload selects an operation. -/
def opByte (i n : Nat) (c : Cmd) : Bool := byteAt c.payload i == n

/-- Whether the island of an output is parked (R465). -/
def outParked (s : State) (o : OutNo) : Bool :=
  s.pm.setting[(⟨o.val + 3, by omega⟩ : Island)] == 1

/-! ### DISP_MODE_SET (R212, R214, R228) -/

/-- Order 1 of R228. -/
def modeArgsOk (c : Cmd) : Bool :=
  let m := byteAt c.payload 0
  let d := byteAt c.payload 1
  let o := (tgOut c).val
  decide (m ≤ 20) && zeroAt c.payload 2 2
    && (m == 0 || ((d == 8 || d == 10) && !(d == 10 && decide (19 ≤ m)) && !(decide (19 ≤ m) && (o == 1 || o == 3))))

/-- Order 2 of R228: a layer of the output belongs to another requester or is orphaned. -/
def othersLayer (s : State) (o : OutNo) (r : Requester) : Bool :=
  isHost r && s.disp.outs[o].layers.toList.any (fun l => l.orphan || (l.owner != 7 && l.owner != requesterCode r))

/-- Order 4 of R228: R212, and a parked island. -/
def modeRefused (s : State) (o : OutNo) (m : Fin 21) : Bool :=
  m != 0 && (consumed s o || outParked s o
    || (decide (19 ≤ m.val) && (s.disp.outs[neighbour o].mode != 0 || s.disp.outs[neighbour o].change.isSome)))

/-- The sink's training at the mode in force starts, or fails at once where the sink cannot take its rate (R211, R215). -/
def trainSink (x : Output) : Output :=
  if !x.sink || x.mode = 0 then { x with link := 0, rate := 0 }
  else if modeRate x.mode x.bpc10 ≤ x.sinkRate.toNat && x.sinkLanes == 4 then
    { x with link := 1, rate := BitVec.ofNat 3 (modeRate x.mode x.bpc10) }
  else { x with link := 3, rate := BitVec.ofNat 3 (modeRate x.mode x.bpc10) }

/-- The output stops sending video: a change to mode 0 ends with it, and any other waits for the PLL (R214). -/
def stopVideo (o : OutNo) (s : State) : State :=
  match s.disp.outs[o].change with
  | some c =>
    if c.mode = 0 then
      let s := updOut o (fun x => trainSink { x with mode := 0, bpc10 := false, change := none }) s
      settleOff o (finish (.displayMode o) stOk [] s)
    else updOut o (fun x => { x with change := some { c with phase := .awaitPll } }) s
  | none => s

/-- Admission of a mode at a level: D1, D2 and D3 (R217). -/
def admitMode (s : State) (o : OutNo) (m : Fin 21) (bpc10 : Bool) (pl : Fin 4) : Bool :=
  admitD1 (modesWith s o m) pl && admitD2 (modesWith s o m) pl && admitD3 s o m bpc10

def dispModeSetSpec : OpSpec :=
  outSpec 0x0401 (lenIn [4]) (fun _ _ r => isHost r || permO r) (fun _ => true)
def dispModeSetBody (c : Cmd) (s : State) : State :=
  let o := tgOut c
  let m : Fin 21 := ⟨byteAt c.payload 0 % 21, Nat.mod_lt _ (by decide)⟩
  let bpc10 := m != 0 && byteAt c.payload 1 == 10
  let x := s.disp.outs[o]
  if !modeArgsOk c then fail 0x0401 c stBadArg s
  else if othersLayer s o (cmdRequester s c) then fail 0x0401 c stWorldDenied s
  else if x.change.isSome then fail 0x0401 c stBusy s
  else if modeRefused s o m then fail 0x0401 c stNoResource s
  else if x.mode = m && (m == 0 || x.bpc10 == bpc10) then ok 0x0401 c [] s
  else if plBusy s then holdRequest 0x0401 c s
  else if !admitMode s o m bpc10 s.perf.pl then refuseOrRaise 0x0401 c (admitMode s o m bpc10 2) s
  else startPending 0x0401 c (.displayMode o) (fun s =>
    let s := updOut o (fun x => { x with change := some ⟨m, bpc10, .awaitBlank⟩ }) s
    if x.mode = 0 then stopVideo o s else s) s

/-- DISP_MODE_SET (R214). -/
def execDispModeSet (c : Cmd) (s : State) : Answer := .next (runCmd dispModeSetSpec dispModeSetBody c s)

/-- How long before line 0 vertical blanking begins, in whole nanoseconds rounded up, so that DISP_LINE is 0 that long
after it (R214, R236). -/
def blankLength (m : Fin 21) : Nat := 
  let i := modeInfo m
  ((i.vtot - i.vact) * i.htot * 1000000 + i.khz - 1) / i.khz

/-- DISP_PLL_LOCKED (R214): the new timing starts at line 0, and link training runs alongside. -/
def execDispPllLocked (o : OutNo) (s : State) : Answer :=
  runCore (fun s => match s.disp.outs[o].change with
    | some c =>
      if c.phase = .awaitPll then
        updOut o (fun x => trainSink { x with
          mode := c.mode, bpc10 := c.bpc10, change := some { c with phase := .awaitFrame }
          blankAt := s.clock.hubTime - BitVec.ofNat 64 (blankLength c.mode) }) s
      else s
    | none => s) s

/-! ### DISP_REGION_ALLOC and DISP_REGION_RELEASE (R189, R208, R224, R229) -/

def dispRegionAllocSpec : OpSpec :=
  { storeSpec 0x0402 (lenIn [8]) (fun _ c r =>
      (isHost r && decide (byteAt c.payload 0 < 2)) || (permO r && opByte 0 2 c)) with
    absent := fun s c => outputs s == 0 || (opByte 0 2 c && s.variant != .qt9840 && decide (0 < byteAt c.payload 1)
      && decide (byteAt c.payload 1 < 4)) }

/-- The 8-byte response: a handle and a size in MiB. -/
def allocReply (h : Half) (mib : Nat) : List Byte := leBytes 2 h.toNat ++ [0, 0] ++ leBytes 4 mib

/-- The host a command comes from. -/
def cmdHost (s : State) (c : Cmd) : HostNo := (hostOfRequester (cmdRequester s c)).getD 0

def allocateOp (c : Cmd) (s : State) : State :=
  let p := c.payload
  let h := cmdHost s c
  let w := fieldAt p 4 2
  let ht := fieldAt p 6 2
  let n := unitsFor w ht
  if 4 ≤ byteAt p 1 || !zeroAt p 2 2 || 8192 < w || 8192 < ht then fail 0x0402 c stBadArg s
  else if w = 0 ∨ ht = 0 then ok 0x0402 c (allocReply 0 0) s
  else match findSpace s n with
    | none => fail 0x0402 c stNoResource s
    | some a =>
      if s.disp.quotas[h] < quotaUsed s h + 2 * n || 1024 ≤ s.disp.regions.length then fail 0x0402 c stNoResource s
      else
        let hd := nextHandle s 65535 s.disp.nextHandle
        let r : Region :=
          { handle := hd, width := w, height := ht, format := ⟨byteAt p 1 % 4, Nat.mod_lt _ (by decide)⟩, offset := a
            units := n, owner := h, orphan := false, leaving := false }
        let s := { s with disp := { s.disp with
          regions := s.disp.regions ++ [r], nextHandle := hd + 1
          mem := memClear s.disp.mem (regionBase r) (2097152 * n) } }
        let s := clearPoison (fun a => decide (regionBase r ≤ 8 * a) && decide (8 * a < regionBase r + 2097152 * n)) s
        raise (.hosts (hostBit h)) 31 hd.toNat (ok 0x0402 c (allocReply hd (2 * n)) s)

/-- Whether every output that shows an orphaned region permits its adoption (R224). -/
def adoptable (s : State) (hd : Half) : Bool :=
  s.disp.outs.toList.all (fun x => x.policy.adoption
    || !x.layers.toList.any (fun l => l.orphan && lyrHandle l.force == hd))

/-- Whether a host's link is back in the Active state, or has gone on from it to Retrain or a sleep (R224). -/
def linkBack (s : State) (h : HostNo) : Bool :=
  match upOfHost s h with
  | some u => let k := s.links[linkOfUp u]; k.state == 6 || k.state == 8 || k.state == 9
  | none => true

def adoptOp (c : Cmd) (s : State) : State :=
  let p := c.payload
  let h := cmdHost s c
  let hd : Half := BitVec.ofNat 16 (fieldAt p 4 2)
  if !zeroAt p 1 3 || !zeroAt p 6 2 then fail 0x0402 c stBadArg s
  else match findRegion s hd with
    | none => fail 0x0402 c stBadArg s
    | some r =>
      if !r.orphan || r.owner != h then fail 0x0402 c stBadArg s
      else if !linkBack s h || !adoptable s hd then fail 0x0402 c stWorldDenied s
      else
        let s := updRegion hd (fun r => { r with orphan := false }) s
        let s := { s with disp := { s.disp with outs := s.disp.outs.map (fun (x : Output) => { x with
          layers := x.layers.map (fun (l : Layer) =>
            if l.orphan && lyrHandle l.force == hd then { l with orphan := false, owner := hostCode h } else l) }) } }
        ok 0x0402 c (allocReply hd (2 * r.units)) ((List.finRange 4).foldl (fun s o => settleOff o s) s)

def quotaOp (c : Cmd) (s : State) : State :=
  let p := c.payload
  if 4 ≤ byteAt p 1 || !zeroAt p 2 2 then fail 0x0402 c stBadArg s
  else
    let h : HostNo := ⟨byteAt p 1 % 4, Nat.mod_lt _ (by decide)⟩
    ok 0x0402 c (allocReply 0 0) { s with disp := { s.disp with quotas := s.disp.quotas.set h (fieldAt p 4 4) } }

def dispRegionAllocBody (c : Cmd) (s : State) : State :=
  if opByte 0 0 c then allocateOp c s
  else if opByte 0 1 c then adoptOp c s
  else onlyWhen (opByte 0 2) 0x0402 quotaOp c s

/-- DISP_REGION_ALLOC, operation 0 (R189). -/
def execDispRegionAllocAllocate (c : Cmd) (s : State) : Answer :=
  .next (runCmd dispRegionAllocSpec (onlyWhen (opByte 0 0) 0x0402 allocateOp) c s)

/-- DISP_REGION_ALLOC, operation 1 (R224). -/
def execDispRegionAllocAdopt (c : Cmd) (s : State) : Answer :=
  .next (runCmd dispRegionAllocSpec (onlyWhen (opByte 0 1) 0x0402 adoptOp) c s)

/-- DISP_REGION_ALLOC, operation 2 (R188). -/
def execDispRegionAllocQuota (c : Cmd) (s : State) : Answer :=
  .next (runCmd dispRegionAllocSpec (onlyWhen (opByte 0 2) 0x0402 quotaOp) c s)

def dispRegionReleaseSpec : OpSpec := storeSpec 0x0403 (lenIn [4]) (fun _ _ r => isHost r || permO r)

/-- R208. At levels 1 and 2 a leased region answers BUSY (Table 14.15). -/
def dispRegionReleaseBody (c : Cmd) (s : State) : State :=
  let hd : Half := BitVec.ofNat 16 (fieldAt c.payload 0 2)
  if !zeroAt c.payload 2 2 then fail 0x0403 c stBadArg s
  else match findRegion s hd with
    | none => fail 0x0403 c stBadArg s
    | some r =>
      if isHost (cmdRequester s c) && (r.owner != cmdHost s c || r.orphan) then fail 0x0403 c stWorldDenied s
      else if r.leaving then fail 0x0403 c stBusy s
      else if !leased s hd then freeRegion hd (ok 0x0403 c [] s)
      else if s.fw.level.toNat ≤ 2 then fail 0x0403 c stBusy s
      else respond 0x0403 c stDeferred [] (updRegion hd (fun r => { r with leaving := true }) s)

/-- DISP_REGION_RELEASE (R208). -/
def execDispRegionRelease (c : Cmd) (s : State) : Answer := .next (runCmd dispRegionReleaseSpec dispRegionReleaseBody c s)

/-! ### DISP_LAYER_BIND (R224, R231) -/

/-- The layer a bind names. -/
def bindLayer (c : Cmd) : Fin 4 := ⟨byteAt c.payload 0 % 4, Nat.mod_lt _ (by decide)⟩

/-- Whether a requester may bind a layer (Table 5.11): a host a free layer, its own, or an orphaned one where the output's
policy permits takeover; the owner by operation 2. -/
def mayBind (s : State) (c : Cmd) (r : Requester) : Bool :=
  let x := s.disp.outs[tgOut c]
  let l := x.layers[bindLayer c]
  if isHost r then
    4 ≤ byteAt c.payload 0 || (if l.orphan then x.policy.takeover else l.owner == 7 || l.owner == requesterCode r)
  else permO r && opByte 1 2 c

/-- A command that commits a group posts PENDING; a set it replaces completes its own command with BUSY first (R203). -/
def commitFor (op : Half) (c : Cmd) (o : OutNo) (g : Fin 6) (claim : Option (Fin 8)) (release : Bool) (s : State) : State :=
  if pendingFull s c then fail op c stBusy s
  else startPending op c (groupKind o g) (settleOff o) (requestCommit o g claim release s)

/-- A layer command acts on an output that is not consumed (R212). -/
def bindArgsOk (s : State) (c : Cmd) : Bool :=
  decide (byteAt c.payload 0 < 4) && zeroAt c.payload 2 2 && !consumed s (tgOut c)

def dispLayerBindSpec : OpSpec := outSpec 0x0404 (lenIn [20]) mayBind (fun _ => true)

def layerClaimOp (c : Cmd) (s : State) : State :=
  let o := tgOut c
  let k := bindLayer c
  if !bindArgsOk s c then fail 0x0404 c stBadArg s
  else if pendingFull s c then fail 0x0404 c stBusy s
  else commitFor 0x0404 c o (layerGroup k) (some (requesterCode (cmdRequester s c))) false
    (setShadow o k (layerRegsAt c.payload 4) s)

def layerShadowOp (c : Cmd) (s : State) : State :=
  if !bindArgsOk s c then fail 0x0404 c stBadArg s
  else ok 0x0404 c [] (setShadow (tgOut c) (bindLayer c) (layerRegsAt c.payload 4) s)

def layerReleaseOp (c : Cmd) (s : State) : State :=
  if !bindArgsOk s c then fail 0x0404 c stBadArg s
  else commitFor 0x0404 c (tgOut c) (layerGroup (bindLayer c)) none true s

def dispLayerBindBody (c : Cmd) (s : State) : State :=
  if opByte 1 0 c then layerClaimOp c s
  else if opByte 1 1 c then layerShadowOp c s
  else onlyWhen (opByte 1 2) 0x0404 layerReleaseOp c s

/-- DISP_LAYER_BIND, operation 0 (R231). -/
def execDispLayerBindClaim (c : Cmd) (s : State) : Answer :=
  .next (runCmd dispLayerBindSpec (onlyWhen (opByte 1 0) 0x0404 layerClaimOp) c s)

/-- DISP_LAYER_BIND, operation 1 (R231). -/
def execDispLayerBindShadow (c : Cmd) (s : State) : Answer :=
  .next (runCmd dispLayerBindSpec (onlyWhen (opByte 1 1) 0x0404 layerShadowOp) c s)

/-- DISP_LAYER_BIND, operation 2 (R231). -/
def execDispLayerBindRelease (c : Cmd) (s : State) : Answer :=
  .next (runCmd dispLayerBindSpec (onlyWhen (opByte 1 2) 0x0404 layerReleaseOp) c s)

/-! ### DISP_CRC_REGION (R232) -/

/-- The check-value region a command names. -/
def crcRegion (c : Cmd) : Fin 8 := ⟨byteAt c.payload 0 % 8, Nat.mod_lt _ (by decide)⟩

def crcArgsOk (s : State) (c : Cmd) : Bool :=
  decide (byteAt c.payload 0 < 8) && zeroAt c.payload 3 1 && !consumed s (tgOut c)

def dispCrcRegionSpec : OpSpec :=
  { outSpec 0x0405 (lenIn [24]) (fun s c r =>
    permO r || (isHost r && decide (byteAt c.payload 1 < 2)
      && (match hostOfRequester r with
          | some h => s.disp.outs[tgOut c].checks[crcRegion c].grants.getLsbD h.val
          | none => false))) (fun _ => true) with
    absent := fun s c => !outPresent s (tgOut c)
      || ((byteAt c.payload 1 == 2 || byteAt c.payload 1 == 3) && hostAbsent s (byteAt c.payload 2)) }

/-- The registers a command carries. -/
def crcRegsOf (c : Cmd) : CheckRegs :=
  let w (i : Nat) : Word := BitVec.ofNat 32 (fieldAt c.payload i 4)
  ⟨w 4, w 8, w 12, w 16, w 20⟩

def crcShadow (c : Cmd) (s : State) : State :=
  updOut (tgOut c) (fun x => { x with checks := upd x.checks (crcRegion c) (fun r => { r with shadow := crcRegsOf c }) }) s

def crcWriteOp (c : Cmd) (s : State) : State :=
  if crcArgsOk s c && zeroAt c.payload 2 1 then ok 0x0405 c [] (crcShadow c s) else fail 0x0405 c stBadArg s

def crcCommitOp (c : Cmd) (s : State) : State :=
  if !crcArgsOk s c || !zeroAt c.payload 2 1 then fail 0x0405 c stBadArg s
  else if pendingFull s c then fail 0x0405 c stBusy s
  else commitFor 0x0405 c (tgOut c) 5 none false (crcShadow c s)

/-- A grant is made or withdrawn; it adds the host to those who reach the region's registers. -/
def crcGrantOp (on : Bool) (c : Cmd) (s : State) : State :=
  match hostOfCode (byteAt c.payload 2) with
  | some h =>
    if crcArgsOk s c then
      ok 0x0405 c [] (updOut (tgOut c) (fun x => { x with
        checks := upd x.checks (crcRegion c) (fun r => { r with grants := setBit r.grants h.val on }) }) s)
    else fail 0x0405 c stBadArg s
  | none => fail 0x0405 c stBadArg s

def dispCrcRegionBody (c : Cmd) (s : State) : State :=
  if opByte 1 0 c then crcWriteOp c s
  else if opByte 1 1 c then crcCommitOp c s
  else if opByte 1 2 c then crcGrantOp true c s
  else onlyWhen (opByte 1 3) 0x0405 (crcGrantOp false) c s

/-- DISP_CRC_REGION, operation 0 (R232). -/
def execDispCrcRegionWrite (c : Cmd) (s : State) : Answer :=
  .next (runCmd dispCrcRegionSpec (onlyWhen (opByte 1 0) 0x0405 crcWriteOp) c s)

/-- DISP_CRC_REGION, operation 1 (R232). -/
def execDispCrcRegionCommit (c : Cmd) (s : State) : Answer :=
  .next (runCmd dispCrcRegionSpec (onlyWhen (opByte 1 1) 0x0405 crcCommitOp) c s)

/-- DISP_CRC_REGION, operation 2 (R232). -/
def execDispCrcRegionGrant (c : Cmd) (s : State) : Answer :=
  .next (runCmd dispCrcRegionSpec (onlyWhen (opByte 1 2) 0x0405 (crcGrantOp true)) c s)

/-- DISP_CRC_REGION, operation 3 (R232). -/
def execDispCrcRegionRevoke (c : Cmd) (s : State) : Answer :=
  .next (runCmd dispCrcRegionSpec (onlyWhen (opByte 1 3) 0x0405 (crcGrantOp false)) c s)

/-! ### DISP_HOLD_POLICY (R233) -/

/-- A policy in force at once, in an output already in hold as well. -/
def setPolicy (p : HoldPolicy) (x : Output) : Output :=
  let y := { x with
    policy := p, holdExpired := false
    holdTimer := x.hold && p.action == 1 && p.timeoutMs != 0 }
  if outOff y then { y with shown := holdShows y } else y

def dispHoldPolicySpec : OpSpec := outSpec 0x0406 (lenIn [8]) (fun _ _ r => permO r) (fun _ => true)
def dispHoldPolicyBody (c : Cmd) (s : State) : State :=
  let p := c.payload
  if 4 ≤ byteAt p 0 || 4 ≤ byteAt p 1 || !zeroAt p 2 2 || !zeroAt p 6 2 then fail 0x0406 c stBadArg s
  else
    let a : Fin 4 := ⟨byteAt p 0 % 4, Nat.mod_lt _ (by decide)⟩
    let pol : HoldPolicy := ⟨a, (byteAt p 1).testBit 0, (byteAt p 1).testBit 1, BitVec.ofNat 16 (fieldAt p 4 2)⟩
    ok 0x0406 c [] (updOut (tgOut c) (setPolicy pol) s)

/-- DISP_HOLD_POLICY (R233). -/
def execDispHoldPolicy (c : Cmd) (s : State) : Answer := .next (runCmd dispHoldPolicySpec dispHoldPolicyBody c s)

/-! ### DISP_OUTPUT_STATUS (R235, R549) -/

/-- The distinct hosts that own a layer of an output, in ascending code. -/
def layerOwners (x : Output) : List HostNo :=
  (List.finRange 4).filter (fun h => x.layers.toList.any (fun l => l.owner == hostCode h))

/-- One owner record of Table 15.6. -/
def ownerRecord (s : State) (o : OutNo) (h : Option HostNo) : List Byte :=
  match h with
  | some h => leBytes 1 (hostCode h).val ++ [0, 0, 0] ++ wordBytes s.disp.tileBad[h] ++ wordBytes s.disp.tileDropped[h]
      ++ wordBytes s.disp.outs[o].flipRefused[h]
  | none => [7, 0, 0, 0] ++ zeros 12

/-- Table 15.6. -/
def outputReport (s : State) (o : OutNo) : List Byte :=
  let x := s.disp.outs[o]
  let os := layerOwners x
  leBytes 4 (dispStatus s o) ++ wordBytes x.frame ++ leBytes 1 x.sinkRate.toNat ++ leBytes 1 x.sinkLanes.toNat
    ++ leBytes 1 x.holdCause.val ++ leBytes 1 x.policy.action.val
    ++ x.layers.toList.map (fun l => BitVec.ofNat 8 (l.owner.val + 8 * bitNat l.orphan))
    ++ wordBytes x.underruns ++ wordBytes x.retrains
    ++ (List.range 4).flatMap (fun i => ownerRecord s o os[i]?)

def dispOutputStatusSpec : OpSpec :=
  outSpec 0x0407 (lenIn [0, 1, 2]) (fun s c r =>
    permO r || (match hostOfRequester r with
      | some h => s.disp.outs[tgOut c].layers.toList.any (fun l => l.owner == hostCode h && !l.orphan)
      | none => false)) (fun c => !c.payload.isEmpty)

def outStatusReadOp (c : Cmd) (s : State) : State := ok 0x0407 c (outputReport s (tgOut c)) s

def outStatusEdidOp (c : Cmd) (s : State) : State :=
  let x := s.disp.outs[tgOut c]
  let b := byteAt c.payload 1
  if x.sink && decide (128 * (b + 1) ≤ x.edid.length) then ok 0x0407 c ((x.edid.drop (128 * b)).take 128) s
  else fail 0x0407 c stBadArg s

def outStatusClearOp (c : Cmd) (s : State) : State :=
  let o := tgOut c
  let os := layerOwners s.disp.outs[o]
  let zap (v : Vector Word 4) : Vector Word 4 := os.foldl (fun (v : Vector Word 4) (h : HostNo) => v.set h 0) v
  let s := ok 0x0407 c (outputReport s o) s
  let s := updOut o (fun x => { x with underruns := 0, retrains := 0, flipRefused := zap x.flipRefused }) s
  { s with disp := { s.disp with
    tileBad := zap s.disp.tileBad, tileDropped := zap s.disp.tileDropped } }

/-- Which payload selects which form. -/
def statusIsRead (c : Cmd) : Bool := c.payload.isEmpty
def statusIsEdid (c : Cmd) : Bool := c.payload.length == 2 && opByte 0 1 c
def statusIsClear (c : Cmd) : Bool := c.payload.length == 1 && opByte 0 2 c

def dispOutputStatusBody (c : Cmd) (s : State) : State :=
  if statusIsRead c then outStatusReadOp c s
  else if statusIsEdid c then outStatusEdidOp c s
  else onlyWhen statusIsClear 0x0407 outStatusClearOp c s

/-- DISP_OUTPUT_STATUS of length 0 (R549). -/
def execDispOutputStatusRead (c : Cmd) (s : State) : Answer :=
  .next (runCmd dispOutputStatusSpec (onlyWhen statusIsRead 0x0407 outStatusReadOp) c s)

/-- DISP_OUTPUT_STATUS, byte 0 = 1 (R235). -/
def execDispOutputStatusEdid (c : Cmd) (s : State) : Answer :=
  .next (runCmd dispOutputStatusSpec (onlyWhen statusIsEdid 0x0407 outStatusEdidOp) c s)

/-- DISP_OUTPUT_STATUS, byte 0 = 2 (R549). -/
def execDispOutputStatusClear (c : Cmd) (s : State) : Answer :=
  .next (runCmd dispOutputStatusSpec (onlyWhen statusIsClear 0x0407 outStatusClearOp) c s)

/-! ### DISP_HOLD_SCREEN (R225, R226, R234) -/

/-- The outputs operations 2 and 3 name. -/
def holdMap (c : Cmd) : BitVec 4 := BitVec.ofNat 4 c.target.toNat

def dispHoldScreenSpec : OpSpec :=
  { op := 0x0408
    lens := fun n => n == 4 || (decide (12 ≤ n) && decide (n ≤ 496))
    absent := fun s c => outputs s == 0 || (opByte 0 1 c && !outPresent s (tgOut c))
      || (decide (2 ≤ byteAt c.payload 0) && (List.finRange 4).any (fun o => (holdMap c).getLsbD o.val && !outPresent s o))
    perm := fun _ _ r => permO r
    block := fun _ c => some ⟨(tgOut c).val, by omega⟩
    write := fun _ => true
    target := 2 ^ 31 - 1 }

/-- Whether the bits of a target above the low `n` are 0, bit 31 apart. -/
def targetLow (n : Nat) (c : Cmd) : Bool := decide (c.target.toNat % 2 ^ 31 < 2 ^ n)

def setAssembly (a : Option Assembly) (s : State) : State := { s with disp := { s.disp with assembly := a } }

/-- Writes a tile of the hold image, decoded from a whole TILE message: none when R194 or R226 refuse it. -/
def holdTile (b : List Byte) (m : Memory) : Option Memory :=
  if tileType b != 1 || !zeroAt b 12 4 || 3 ≤ tileCodec b || 16 ≤ tileCol b || 8 ≤ tileRow b || b.length < 16 then none
  else (tilePixels b 64 64).map (writePixels m 0 4096 (64 * tileCol b) (64 * tileRow b) 64)

/-- A part of a TILE message joins the message being assembled; a part that does not continue it, differs in its total or
runs past it discards what is assembled, whatever else is wrong with it (R234). -/
def holdLoadOp (c : Cmd) (s : State) : State :=
  let p := c.payload
  let off := fieldAt p 4 4
  let total := fieldAt p 8 4
  let part := p.drop 12
  let have_ : List Byte := if off = 0 then [] else match s.disp.assembly with | some a => a.bytes | none => []
  let fits : Bool := off == 0 || (match s.disp.assembly with
    | some a => off == a.bytes.length && total == a.total
    | none => false)
  if p.length < 12 then fail 0x0408 c stBadArg s
  else if !fits || total < off + part.length then fail 0x0408 c stBadArg (setAssembly none s)
  else if !zeroAt p 1 3 || total < 16 || 16432 < total then fail 0x0408 c stBadArg s
  else if off + part.length < total then ok 0x0408 c [] (setAssembly (some ⟨total, have_ ++ part⟩) s)
  else match holdTile (have_ ++ part) s.disp.mem with
    | some m =>
      ok 0x0408 c [] (landHold (cmdRequester s c) (have_ ++ part) m (setAssembly none s))
    | none => fail 0x0408 c stBadArg (setAssembly none s)

def holdPlaceOp (c : Cmd) (s : State) : State :=
  let p := c.payload
  let pl : Placement := ⟨fieldAt p 4 2, fieldAt p 6 2, fieldAt p 8 2, fieldAt p 10 2, BitVec.ofNat 32 (fieldAt p 12 4)⟩
  if p.length != 16 || !zeroAt p 1 3 || 1024 < pl.width || 512 < pl.height || bitsOf (fieldAt p 12 4) 30 2 != 0
      || !targetLow 2 c then fail 0x0408 c stBadArg s
  else ok 0x0408 c [] (updOut (tgOut c) (fun x =>
    if outOff x then { x with place := some pl, newPlace := none } else { x with newPlace := some pl }) s)

/-- The outputs of a map that are not yet in hold enter it with cause 2; the others keep theirs. -/
def holdEnterOp (c : Cmd) (s : State) : State :=
  let m := holdMap c
  if c.payload.length != 4 || !zeroAt c.payload 1 3 || !targetLow 4 c then fail 0x0408 c stBadArg s
  else
    let fresh := outMap (fun o => m.getLsbD o.val && !s.disp.outs[o].hold)
    let s := { s with disp := { s.disp with outs := s.disp.outs.mapFinIdx (fun i x _ =>
      if m.getLsbD i then { x with ownerHold := true } else x) } }
    holdOutputs 2 fresh (ok 0x0408 c [] s)

def holdLeaveOp (c : Cmd) (s : State) : State :=
  let m := holdMap c
  if c.payload.length != 4 || !zeroAt c.payload 1 3 || !targetLow 4 c then fail 0x0408 c stBadArg s
  else
    let s := { s with disp := { s.disp with outs := s.disp.outs.mapFinIdx (fun i x _ =>
      if m.getLsbD i then { x with ownerHold := false } else x) } }
    (List.finRange 4).foldl (fun s o => settleOff o s) (ok 0x0408 c [] s)

def dispHoldScreenBody (c : Cmd) (s : State) : State :=
  if opByte 0 0 c then holdLoadOp c s
  else if opByte 0 1 c then holdPlaceOp c s
  else if opByte 0 2 c then holdEnterOp c s
  else onlyWhen (opByte 0 3) 0x0408 holdLeaveOp c s

/-- DISP_HOLD_SCREEN, operation 0 (R234). -/
def execDispHoldScreenLoad (c : Cmd) (s : State) : Answer :=
  .next (runCmd dispHoldScreenSpec (onlyWhen (opByte 0 0) 0x0408 holdLoadOp) c s)

/-- DISP_HOLD_SCREEN, operation 1 (R234). -/
def execDispHoldScreenPlace (c : Cmd) (s : State) : Answer :=
  .next (runCmd dispHoldScreenSpec (onlyWhen (opByte 0 1) 0x0408 holdPlaceOp) c s)

/-- DISP_HOLD_SCREEN, operation 2 (R225). -/
def execDispHoldScreenEnter (c : Cmd) (s : State) : Answer :=
  .next (runCmd dispHoldScreenSpec (onlyWhen (opByte 0 2) 0x0408 holdEnterOp) c s)

/-- DISP_HOLD_SCREEN, operation 3 (R225). -/
def execDispHoldScreenLeave (c : Cmd) (s : State) : Answer :=
  .next (runCmd dispHoldScreenSpec (onlyWhen (opByte 0 3) 0x0408 holdLeaveOp) c s)

/-! ### Messages of class 1 tunnels (R191 to R196, R206) -/

/-- After a handover, a host that sends has been heard (R405). -/
def heard (h : HostNo) (s : State) : State :=
  if s.pair.silent = 0 then s else updPair (fun p => { p with silent := setBit p.silent h.val false }) s

/-- The message at the head of a class 1 tunnel while the tile decoder runs (Table 13.4). -/
def tileHead (s : State) (h : HostNo) (tid : Byte) : Option Message :=
  match findTunnel s h tid with
  | some t => if t.cls == 1 && !s.flt.isolated.getLsbD 3 && t.cross.isNone then t.inbox.head? else none
  | none => none

/-- Whether a message is a FLIP. -/
def isFlip (m : Message) : Bool := !m.broken && decide (m.bytes.length ≤ 16432) && tileType m.bytes == 2 && !m.bytes.isEmpty

/-- TILE_MESSAGE (R194): a TILE message, or a message that is neither a TILE nor a FLIP and counts as malformed. -/
def execTileMessage (h : HostNo) (tid : Byte) (s : State) : Answer :=
  runCore (fun s => match tileHead s h tid with
    | some m =>
      if isFlip m then s
      else match takeMessage h tid s with
        | some (m, s) =>
          let s := heard h s
          if m.broken || 16432 < m.bytes.length then countTileBad h s
          else if m.bytes.isEmpty then s
          else if tileType m.bytes = 1 then runTile h m.bytes s
          else countTileBad h s
        | none => s
    | none => s) s

/-- FLIP_MESSAGE (R206). -/
def execFlipMessage (h : HostNo) (tid : Byte) (s : State) : Answer :=
  runCore (fun s => match tileHead s h tid with
    | some m =>
      if isFlip m then
        match takeMessage h tid s with
        | some (m, s) => runFlip h m.bytes (heard h s)
        | none => s
      else s
    | none => s) s

/-! ### Vertical blanking (R202, R204, R214, R219, R223, R225, R234) -/

/-- The results of the frame are shown from its boundary on (R220). -/
def showResults (x : Output) : Output :=
  { x with checks := x.checks.map (fun (r : CheckRegion) => { r with result := r.newest }) }

/-- What an output shows and where the hold image stands change at vertical blanking (R223, R234). -/
def blankHold (x : Output) : Output :=
  let y := { x with place := x.newPlace.or x.place, newPlace := none }
  { y with shown := holdShows y }

/-- The mode change at a vertical blanking: the old mode stops, or the first blanking of the new one completes it. -/
def blankMode (o : OutNo) (s : State) : State :=
  match s.disp.outs[o].change with
  | some c =>
    if c.phase = .awaitBlank then stopVideo o s
    else if c.phase = .awaitFrame then finish (.displayMode o) stOk [] (updOut o (fun x => { x with change := none }) s)
    else s
  | none => s

/-- The event of an output: `base` for output 0. -/
def outEvent (base : Fin 60) (o : OutNo) : Fin 64 := ⟨base.val + o.val, by omega⟩

/-- VBLANK_START (R202); Day tells Night of it (R394). -/
def execVblankStart (o : OutNo) (s : State) : Answer :=
  runCore (fun s =>
    if timing s.disp.outs[o] && !consumed s o then
      let s := updOut o (fun x => showResults { x with frame := x.frame + 1, blankAt := s.clock.hubTime }) s
      let s := forgetLandings s
      let s := raise (.hosts (outputHosts s o)) (outEvent 20 o) s.disp.outs[o].frame.toNat s
      let s := leaveHold o (applyMirror o (safePoint o s))
      sendTiming (blankMode o (noteHoldReads o (updOut o blankHold s))) o
    else s) s

/-! ### Check values (R219 to R221) -/

/-- Whether a region is compared in this frame. -/
def comparedRegion (s : State) (r : CheckRegs) : Bool := !(frameComparisons s r).isEmpty

/-- Whether an output has a defined region. -/
def anyDefined (x : Output) : Bool := x.checks.toList.any (fun r => ckW r.force != 0 && ckH r.force != 0)

/-- The location of a class 0x0B fault. -/
def pathLoc (o : OutNo) (r : Nat) : Nat := o.val + 4 * r

/-- A mismatch: the flag, the count and event 24 + n; in path mode, or injected, a class 0x0B entry too. -/
def regionMismatch (o : OutNo) (r : Option (Fin 8)) (path injected : Bool) (s : State) : State :=
  let k := match r with | some r => r.val | none => 0
  let s := match r with
    | some r => updOut o (fun x => { x with checks := upd x.checks r (fun y => { y with mismatch := true, count := satInc y.count }) }) s
    | none => s
  let s := if path || injected then logFault 0x0B (pathLoc o k) { injected := injected } s else s
  raise (.hosts (outputHosts s o)) (outEvent 24 o) k s

/-- Whether a fault injected in the region makes this comparison mismatch (R492). -/
def injectedRegion (s : State) (o : OutNo) (k : Nat) : Bool :=
  injectedAt s 0x0B (pathLoc o k) || s.flt.mismatchOnce.contains (BitVec.ofNat 32 (pathLoc o k))

/-- One comparison: an injected mismatch is used up by it. -/
def compareRegion (o : OutNo) (r : Option (Fin 8)) (path differs : Bool) (s : State) : State :=
  let k := match r with | some r => r.val | none => 0
  let inj := injectedRegion s o k
  let w : Word := BitVec.ofNat 32 (pathLoc o k)
  let s := updFlt (fun f => { f with mismatchOnce := f.mismatchOnce.filter (fun x => x != w) }) s
  if differs || inj then regionMismatch o r path inj s else s

/-- CRC_REGION_FINAL (R220): region `r`, or the whole active area of R9. `pathDiffers` is the second computation's
verdict. Check values pause while fabric port 13 is isolated (Table 13.4).
CRC_RES of a region that is not enabled keeps its value, this model's choice (log entry 153). -/
def execCrcRegionFinal (o : OutNo) (r : Option (Fin 8)) (pathDiffers : Bool) (s : State) : Answer :=
  runCore (fun s =>
    let x := s.disp.outs[o]
    if !timing x || consumed s o || s.flt.isolated.getLsbD 13 then s
    else match r with
      | none => if s.perf.profile == .midnight && !anyDefined x then compareRegion o none true pathDiffers s else s
      | some r =>
        let f := x.checks[r].force
        if !comparedRegion s f then s
        else
          let v := regionValue s o f
          let s := updOut o (fun x => { x with checks := upd x.checks r (fun y => { y with newest := BitVec.ofNat 64 v }) }) s
          (frameComparisons s f).foldl (fun t p => compareRegion o (some r) p (regionDiffers s f v pathDiffers p) t) s) s

/-! ### Underruns and sinks (R215, R218) -/

/-- SCANOUT_UNDERRUN (R218): none is counted while the output's composition port is isolated (Table 13.4). -/
def execScanoutUnderrun (o : OutNo) (s : State) : Answer :=
  runCore (fun s =>
    if timing s.disp.outs[o] && !s.flt.isolated.getLsbD (composePort o) then
      logFault 0x0A o.val { reaction := 1 } (updOut o (fun x => { x with underruns := satInc x.underruns }) s)
    else s) s

/-- What a change of the hot-plug input does to an output. -/
def hpdChange (e : HpdEvent) (x : Output) : Output :=
  match e with
  | .plug rate lanes edid =>
    trainSink { x with sink := true, sinkChg := true, sinkRate := rate, sinkLanes := lanes, edid := edid }
  | .unplug =>
    { x with sink := false, sinkChg := true, sinkRate := 0, sinkLanes := 0, edid := [], link := 0, rate := 0 }
  | .irq lost =>
    if !x.sink || x.mode = 0 then x
    else if lost then { trainSink x with retrains := satInc x.retrains }
    else if x.link = 3 then trainSink x
    else x

/-- DP_HPD_CHANGE (R215). -/
def execDpHpdChange (o : OutNo) (e : HpdEvent) (s : State) : Answer :=
  runCore (fun s => if outPresent s o then updOut o (hpdChange e) s else s) s

/-- DP_LINK_TRAINING_DONE (R215): the drive settings that training arrives at are a free value (log entry 2). Night's
transmitters are idle and follow Day's training (R394). -/
def execDpLinkTrainingDone (o : OutNo) (trained : Bool) (s : State) : Answer :=
  runCore (fun s =>
    if s.disp.outs[o].link != 1 || isNight s then s
    else if trained then
      let (v, s) := takeFree 32 s
      showLink (sendTiming (updOut o (fun x => { x with link := 2, drive := v }) s) o) o
    else sendTiming (updOut o (fun x => { x with link := 3 }) s) o) s

/-- DP_LINK_RETRY_TIMEOUT (R215). -/
def execDpLinkRetryTimeout (o : OutNo) (s : State) : Answer :=
  runCore (updOut o (fun x => if x.link = 3 then trainSink x else x)) s

/-- HOLD_TIMEOUT (R223). -/
def execHoldTimeout (o : OutNo) (s : State) : Answer :=
  runCore (updOut o (fun x =>
    if x.hold && x.holdTimer then
      let y := { x with holdTimer := false, holdExpired := true }
      if outOff y then { y with shown := holdShows y } else y
    else x)) s

end Sys2Proof.Machine
end

