-- ==== Sys2Proof/Machine/PcieFlow.lean ====
section
/-! DEFINITION. How the bridge carries TLPs (06): configuration accesses and their effects, routing from hosts and from devices, access control, prefetch reads, and completions. -/
namespace Sys2Proof.Machine

/-! ### Answers and errors -/

/-- A completion with an error from a switch function, for a request that goes no further. -/
def refuseNp (h : HostNo) (f : SwitchFn) (status : Nat) (t : List Byte) (s : State) : State :=
  sendToHost h (makeCpl (tlpKind t == .memReadLocked) status (fnId s h f) (tlpRid t) (tlpTag t) 4 0 []) s

/-- A request of a host that matches nothing: Unsupported Request, and a posted one is dropped and recorded (R253,
R265). -/
def refuseHost (h : HostNo) (t : List Byte) (s : State) : State :=
  if tlpPosted (tlpKind t) then aerRecord h 0 20 t s else refuseNp h 0 cplUr t s

/-- A request of a device that the port refuses, with the AER bit of the port. -/
def refuseDevice (h : HostNo) (p : PciePort) (bit status : Nat) (t : List Byte) (s : State) : State :=
  let s := aerRecord h (portFn p) bit t s
  if tlpPosted (tlpKind t) then s
  else sendTlp p s (makeCpl false status (fnId s h (portFn p)) (tlpRid t) (tlpTag t) 4 0 [])

/-- Whether a port of a host takes requests now; with DPC containment, the status Completion Control selects (R269). -/
def portTakes (s : State) (p : PciePort) : Bool := linkSends s.pcie.ports[p] || linkWaits s.pcie.ports[p]
def downStatus (s : State) (h : HostNo) (p : PciePort) : Nat :=
  if s.pcie.ports[p].state = 7 && cfgBit s h (portFn p) 0x164 18 then cplCa else cplUr

/-- Whether a requester other than the holder must wait for the lock of a port (R264). -/
def lockedOut (s : State) (h : HostNo) (peer : Bool) (p : PciePort) : Bool :=
  match s.pcie.lock.holder with
  | some (g, q) => q == p && (peer || g != h)
  | none => false

def waitForLock (q : QueuedTlp) (s : State) : State :=
  { s with pcie := { s.pcie with lock := { s.pcie.lock with blocked := s.pcie.lock.blocked ++ [q] } } }

/-! ### Ports: hot reset, disable, power, containment through configuration (R242, R268, R269) -/

/-- A hot reset of a port: its traffic lost as R252 and R260 state, then training; containment lasts until the host ends it
(R269). -/
def hotReset (p : PciePort) (s : State) : State :=
  let s := quiescePort p 4 5 cplUr s
  let st := s.pcie.ports[p].state
  if st = 0 ∨ st = 1 ∨ st = 7 then s else dropLink p 2 s

/-- A reset of a downstream port's function through the upstream port (R242): its registers return to their defaults, but
for the error registers and DPC Status, which PCIe Base 4.0 keeps across a hot reset. -/
def resetFn (h : HostNo) (p : PciePort) (s : State) : State :=
  let keep (e : Nat × Word) : Bool := (decide (0x104 ≤ 4 * e.1) && decide (4 * e.1 < 0x138)) || 4 * e.1 == 0x168
  let s := { s with pcie := { s.pcie with cfg := upd s.pcie.cfg h (fun c => upd c (portFn p) (fun m => m.filter keep)) } }
  let s := mirrorSlot p s
  if s.pcie.ports[p].assigned = some h then mirrorPort p s else s

/-- The link taken down by Link Control, or allowed up again. -/
def linkDisable (h : HostNo) (p : PciePort) (on : Bool) (s : State) : State :=
  if s.pcie.ports[p].assigned != some h then s
  else if on then disablePort p (quiescePort p 1 5 cplUr s)
  else if s.pcie.ports[p].state = 0 then settlePort s p else s

/-- A retrain of a link that is up. -/
def retrainPort (p : PciePort) (s : State) : State := if linkSends s.pcie.ports[p] then setPortState p 6 s else s

/-- What a change of a configuration register does beyond the register: bits that rose or fell. -/
def cfgEffect (h : HostNo) (f : SwitchFn) (off : Nat) (old new : Word) (cleared : Word) (s : State) : State :=
  let rose (k : Nat) : Bool := !old.getLsbD k && new.getLsbD k
  let fell (k : Nat) : Bool := old.getLsbD k && !new.getLsbD k
  let mine (p : PciePort) : Bool := s.pcie.ports[p].assigned == some h
  if f = 0 then
    if off = 0x3C && rose 22 then
      ([0, 1] : List PciePort).foldl (fun s p =>
        if mine p then settlePort (resetFn h p (hotReset p s)) p else resetFn h p s) s
    else s
  else
    let p : PciePort := if f = 1 then 0 else 1
    if off = 0x1B8 then (if l1Substates s p then s else cfgClear h f 0x1B8 0xF s)
    else if off = 0x24 ∨ off = 0x28 ∨ off = 0x2C then dropPrefetch p (fun e => e.window == windowOf h p) 4 s
    else if !mine p then s
    else if off = 0x3C then (if rose 22 then hotReset p s else s)
    else if off = 0x50 then
      let s := if rose 4 then linkDisable h p true s else if fell 4 then linkDisable h p false s else s
      if new.getLsbD 5 then retrainPort p (cfgClear h f 0x50 0x20 s) else s
    else if off = 0x58 then
      if s.pcie.ports[p].flags.getLsbD 2 then
        if rose 10 then powerOffSlot p s else if fell 10 then powerOnSlot p s else s
      else s
    else if off = 0x164 then
      if new.getLsbD 22 && (new.getLsbD 16 || new.getLsbD 17) && s.pcie.ports[p].state != 7 then
        containPort p .software (cfgClear h f 0x164 0x400000 s)
      else s
    else if off = 0x168 then
      if cleared.getLsbD 0 && s.pcie.ports[p].state == 7 then trainPort p s else s
    else s

/-- The byte enables of a configuration request as a mask. -/
def cfgMask (t : List Byte) : Word :=
  let be := byteAt (tlpCore t) 7
  (List.range 4).foldl (fun m i => if be.testBit i then m ||| BitVec.ofNat 32 (255 * 256 ^ i) else m) 0

/-- A configuration write: writable bits, write-1-to-clear bits, and the effects. -/
def cfgWrite (h : HostNo) (f : SwitchFn) (off : Nat) (v mask : Word) (s : State) : State :=
  let old := cfgRead s h f off
  let w := BitVec.ofNat 32 (cfgWritable f off) &&& mask
  let c := BitVec.ofNat 32 (cfgW1c f off) &&& mask &&& v
  let new := ((old &&& ~~~ w) ||| (v &&& w)) &&& ~~~ c
  cfgEffect h f off old new (old &&& c) (cfgSet h f off new s)

/-- A configuration request to a function of the switch. -/
def cfgAccess (h : HostNo) (f : SwitchFn) (write : Bool) (t : List Byte) (s : State) : State :=
  let off := tlpReg t
  if write then
    let s := cfgWrite h f off (BitVec.ofNat 32 (leNat (tlpData t))) (cfgMask t) s
    sendToHost h (makeCpl false cplOk (fnId s h f) (tlpRid t) (tlpTag t) 4 0 []) s
  else
    sendToHost h (makeCpl false cplOk (fnId s h f) (tlpRid t) (tlpTag t) 4 0 (wordBytes (cfgRead s h f off))) s

/-! ### Prefetch (R254 to R256) -/

/-- Whether a byte range overlaps what an entry's hits have consumed. -/
def eaten (e : PrefetchEntry) (a n : Nat) : Bool := e.consumed.any (fun c => decide (c.1 < a + n) && decide (a < c.1 + c.2))

/-- The entry that a read of a requester lies wholly inside. -/
def prefetchHit (s : State) (h : HostNo) (p : PciePort) (rid : Half) (a n : Nat) : Option PrefetchEntry :=
  s.pcie.ports[p].prefetch.find? (fun e => e.rid == rid && e.window == windowOf h p && decide (e.base ≤ a)
    && decide (a + n ≤ e.base + e.len) && !eaten e a n)

/-- The completions of a read from data, cut at the maximum payload. -/
def cutCpl (mps completer : Nat) (rid : Half) (tag : BitVec 10) : Nat → Nat → List Byte → List (List Byte)
  | 0, a, d => [makeCpl false cplOk completer rid tag d.length a d]
  | n + 1, a, d =>
    if d.length ≤ mps then [makeCpl false cplOk completer rid tag d.length a d]
    else makeCpl false cplOk completer rid tag d.length a (d.take mps)
      :: cutCpl mps completer rid tag n (a + mps) (d.drop mps)

/-- Completes a host's read from an entry whose data has arrived. -/
def completeFrom (h : HostNo) (p : PciePort) (e : PrefetchEntry) (t : List Byte) (s : State) : State :=
  let n := 4 * tlpLenDw t
  let d := (e.data.drop (tlpAddr t - e.base)).take n
  (cutCpl (maxPayload s h) (fnId s h (portFn p)) (tlpRid t) (tlpTag t) 32 (tlpAddr t) d).foldl
    (fun s c => sendToHost h c s) s

/-- Changes one entry of a port; an entry all of whose bytes are consumed, and that holds no waiting read, is freed. -/
def updEntry (p : PciePort) (k : Fin 16) (f : PrefetchEntry → PrefetchEntry) (s : State) : State :=
  let live (e : PrefetchEntry) : Bool := unconsumed e || !e.demand.isEmpty
  let one (e : PrefetchEntry) : PrefetchEntry := if e.slot == k then f e else e
  updPort p (fun x => { x with prefetch := (x.prefetch.map one).filter live }) s

def countWindow (w : Fin 8) (f : PrefetchWindow → PrefetchWindow) (s : State) : State :=
  { s with pcie := { s.pcie with windows := upd s.pcie.windows w f } }

/-- A read answered from an entry (R256). -/
def useEntry (h : HostNo) (p : PciePort) (e : PrefetchEntry) (t : List Byte) (s : State) : State :=
  let n := 4 * tlpLenDw t
  let s := countWindow e.window (fun w => { w with hits := satInc w.hits }) s
  let s := if e.arrived then completeFrom h p e t s else s
  updEntry p e.slot (fun e => { e with
    consumed := (tlpAddr t, n) :: e.consumed, lastUse := s.clock.hubTime
    demand := if e.arrived then e.demand else e.demand ++ [t] }) s

/-- The bytes a prefetch after a demand read covers (R255). -/
def prefetchLen (w : PrefetchWindow) (b : Nat) : Nat := min (64 * effDepth w) ((b + 4095) / 4096 * 4096 - b)

/-- A place among a port's 16 entries: one in no use, or the least recently used, which is discarded. -/
def freeSlot (p : PciePort) (s : State) : Fin 16 × State :=
  let es := s.pcie.ports[p].prefetch
  match (List.finRange 16).find? (fun k => !es.any (fun e => e.slot == k)) with
  | some k => (k, s)
  | none =>
    let k := (es.foldl (fun (b : Option PrefetchEntry) e =>
      match b with | none => some e | some x => if e.lastUse.toNat < x.lastUse.toNat then some e else some x) none).elim
      0 (fun e => e.slot)
    (k, dropPrefetch p (fun e => e.slot == k) 3 s)

/-- A memory read request of `n` bytes; one of a single doubleword enables no byte of a second. -/
def makeRead (rid : Nat) (tag a n : Nat) : List Byte :=
  let wide := 2 ^ 32 ≤ a
  [if wide then 0x20 else 0x00, 0] ++ beBytes 2 (n / 4 % 1024) ++ beBytes 2 rid ++ [BitVec.ofNat 8 tag, if n = 4 then 0x0F else 0xFF]
    ++ (if wide then beBytes 8 a else beBytes 4 a)

/-- Issues the prefetch after a demand read where R255 has one. -/
def issuePrefetch (h : HostNo) (tid : Byte) (p : PciePort) (t : List Byte) (s : State) : State :=
  let w := s.pcie.windows[windowOf h p]
  let a := tlpAddr t
  let n := 4 * tlpLenDw t
  let b := a + n
  let len := prefetchLen w b
  if effOverride w || len == 0 || decide (a < prefBase s h (portFn p)) || decide (prefLimit s h (portFn p) < b)
      || inHole w a n || s.pcie.ports[p].prefetch.any (fun e => e.rid == tlpRid t && !e.arrived) then s
  else
    let (k, s) := freeSlot p s
    let e : PrefetchEntry :=
      { slot := k, rid := tlpRid t, window := windowOf h p, base := b, len := len, data := [], arrived := false
        arrivedAt := 0, lastUse := s.clock.hubTime, consumed := [], demand := [] }
    let s := updPort p (fun x => { x with prefetch := x.prefetch ++ [e] }) s
    let s := countWindow (windowOf h p) (fun w => { w with issued := satInc w.issued }) s
    toDevice h tid p (makeRead (fnId s h (portFn p)) k.val b len) s

/-! ### From the host (R248, R253, R263 to R266) -/

/-- Whether atomics are blocked toward a port. -/
def atomicBlocked (s : State) (h : HostNo) (p : PciePort) : Bool := cfgBit s h (portFn p) 0x68 7

/-- A request toward a port's device, from the host or, with `peer`, from the other port's device. Egress Blocking is tested
as the AtomicOp arrives, before any wait for the lock (R265). -/
def requestTo (h : HostNo) (tid : Byte) (p : PciePort) (peer : Bool) (t : List Byte) (s : State) : State :=
  let k := tlpKind t
  let s := if k = .memWrite ∨ k = .atomic then dropPrefetch p (fun _ => true) 2 s else s
  let r : NpRequest := ⟨p, false, tlpRid t, tlpTag t, h, tid, false, t⟩
  if k = .atomic && atomicBlocked s h p then answerNp r cplUr (aerRecord h (portFn p) 24 t s)
  else if lockedOut s h peer p then waitForLock ⟨h, tid, t⟩ s
  else if tlpPosted k then toDevice h tid p t s
  else
    if !portTakes s p && !isNight s then answerNp r (downStatus s h p) s
    else forwardNp r s

/-- A locked read of a host (R263). -/
def lockedRead (h : HostNo) (tid : Byte) (p : PciePort) (t : List Byte) (s : State) : State :=
  let r : NpRequest := ⟨p, false, tlpRid t, tlpTag t, h, tid, true, t⟩
  if !portTakes s p && !isNight s then answerNp r (downStatus s h p) s
  else match s.pcie.lock.holder with
    | some x =>
      if x = (h, p) then forwardNp r s
      else { s with pcie := { s.pcie with lock := { s.pcie.lock with waiting := s.pcie.lock.waiting ++ [r] } } }
    | none => grantLock { s with pcie := { s.pcie with lock := { s.pcie.lock with waiting := s.pcie.lock.waiting ++ [r] } } }

/-- A read of a host toward a port: from a prefetch entry, or forwarded, with a prefetch after it. A read that does not leave
at once, because of the lock, the link or a full table, starts none (R255). -/
def hostRead (h : HostNo) (tid : Byte) (p : PciePort) (t : List Byte) (s : State) : State :=
  match prefetchHit s h p (tlpRid t) (tlpAddr t) (4 * tlpLenDw t) with
  | some e => if lockedOut s h false p then waitForLock ⟨h, tid, t⟩ s else useEntry h p e t s
  | none =>
    if lockedOut s h false p || !portTakes s p || decide (256 ≤ (openOf s p false).length) then requestTo h tid p false t s
    else issuePrefetch h tid p t (requestTo h tid p false t s)

/-- The port of a host whose window holds an address, if it belongs to the host. -/
def portOfAddr (s : State) (h : HostNo) (a : Nat) : Option PciePort :=
  if pciePresent s 0 && inWindow s h 1 a then some 0
  else if pciePresent s 1 && inWindow s h 2 a then some 1
  else none

/-- A memory request of a host. -/
def hostMemory (h : HostNo) (tid : Byte) (t : List Byte) (s : State) : State :=
  let a := tlpAddr t
  if !inWindow s h 0 a then refuseHost h t s
  else match portOfAddr s h a with
    | none => refuseHost h t s
    | some p =>
      if s.pcie.ports[p].assigned != some h || s.pcie.ports[p].karxo then refuseHost h t s
      else if tlpKind t = .memRead then hostRead h tid p t s
      else if tlpKind t = .memReadLocked then lockedRead h tid p t s
      else requestTo h tid p false t s

/-- A Type 1 request as it leaves on the addressed bus: a Type 0. -/
def asType0 (t : List Byte) : List Byte := onFirst (fun b => b &&& 0xFE) t

/-- A Type 1 configuration request of a host (R240, R241, R253, R266). -/
def hostCfg1 (h : HostNo) (tid : Byte) (t : List Byte) (s : State) : State :=
  let bus := tlpBus t
  if bus = cfgBus s h 0 1 && bus != 0 then
    if tlpFn t != 0 || 2 ≤ tlpDev t || (tlpDev t == 1 && !pciePresent s 1) then refuseNp h 0 cplUr t s
    else cfgAccess h (if tlpDev t = 0 then 1 else 2) (tlpHasData t) t s
  else match portOfBus s h bus with
    | none => refuseNp h 0 cplUr t s
    | some p =>
      if s.pcie.ports[p].assigned != some h || s.pcie.ports[p].karxo then refuseNp h (portFn p) cplUr t s
      else if bus = cfgBus s h (portFn p) 1 then
        if tlpDev t != 0 && !cfgBit s h (portFn p) 0x68 5 then refuseNp h (portFn p) cplUr t s
        else requestTo h tid p false (asType0 t) s
      else requestTo h tid p false t s

/-- The code of a message, and its routing. -/
def msgCode (t : List Byte) : Nat := byteAt (tlpCore t) 7
def msgRoute (t : List Byte) : Nat := tlpType t % 8

/-- A message of a host: Unlock frees the lock it holds (R264); broadcasts go to its ports, others by ID. A port whose link
is down loses it (R258), and one routed to no port is an Unsupported Request. -/
def hostMessage (h : HostNo) (tid : Byte) (t : List Byte) (s : State) : State :=
  let toPort (s : State) (p : PciePort) : State :=
    if pciePresent s p && s.pcie.ports[p].assigned == some h && !s.pcie.ports[p].karxo then requestTo h tid p false t s
    else s
  if msgCode t = 0 && msgRoute t == 3 then
    let s := ([0, 1] : List PciePort).foldl toPort s
    match s.pcie.lock.holder with
    | some (g, _) => if g = h then releaseLock true s else s
    | none => s
  else if msgRoute t = 3 then ([0, 1] : List PciePort).foldl toPort s
  else if msgRoute t = 2 then
    match portOfBus s h (byteAt (tlpCore t) 8) with
    | some p => toPort s p
    | none => refuseHost h t s
  else s

/-- Whether a completion is the last of its request. -/
def lastCpl (t : List Byte) : Bool :=
  let bytes := let b := beField (tlpCore t) 6 2 % 4096; if b = 0 then 4096 else b
  tlpStatus t != 0 || !tlpHasData t || decide (bytes ≤ 4 * tlpLenDw t - byteAt (tlpCore t) 11 % 4)

/-- The open request a completion answers. -/
def openRequest (s : State) (p : PciePort) (toHost : Bool) (t : List Byte) : Option NpRequest :=
  s.pcie.tracked.find? (fun r => r.port == p && r.toHost == toHost && r.rid == tlpRid t && r.tag == tlpTag t)

/-- A completion that answers an open request: an error status is logged, and the last one frees the entry (R260). -/
def endByCpl (r : NpRequest) (t : List Byte) (s : State) : State :=
  let st := tlpStatus t
  let s := if st = 1 then logCompletion r.host r.tid r.port r.tlp 1 s
    else if st = 4 then logCompletion r.host r.tid r.port r.tlp 2 s else s
  if lastCpl t then { s with pcie := { s.pcie with tracked := s.pcie.tracked.erase r } } else s

/-- A completion of a host for a request of one of its devices. -/
def hostCompletion (h : HostNo) (tid : Byte) (t : List Byte) (s : State) : State :=
  match portOfBus s h ((tlpRid t).toNat / 256) with
  | none => aerRecord h 0 16 t s
  | some p =>
    match openRequest s p true t with
    | none => aerRecord h (portFn p) 16 t s
    | some r => if r.host = h then toDevice h tid p t (endByCpl r t s) else aerRecord h 0 16 t s

/-- A TLP of a host's storage tunnel (R239, R248, R253). -/
def fromHost (h : HostNo) (tid : Byte) (t : List Byte) (s : State) : State :=
  if t.isEmpty then s
  else if !tlpWellFormed t || (tlpHasData t && decide (maxPayload s h < 4 * tlpLenDw t)) then aerRecord h 0 18 t s
  else match tlpKind t with
    | .memRead => hostMemory h tid t s
    | .memReadLocked => hostMemory h tid t s
    | .memWrite => hostMemory h tid t s
    | .atomic => hostMemory h tid t s
    | .io => refuseHost h t s
    | .cfgRead0 => if tlpDev t = 0 && tlpFn t == 0 then cfgAccess h 0 false t s else refuseNp h 0 cplUr t s
    | .cfgWrite0 => if tlpDev t = 0 && tlpFn t == 0 then cfgAccess h 0 true t s else refuseNp h 0 cplUr t s
    | .cfgRead1 => hostCfg1 h tid t s
    | .cfgWrite1 => hostCfg1 h tid t s
    | .message => hostMessage h tid t s
    | .completion => hostCompletion h tid t s
    | .completionLocked => hostCompletion h tid t s
    | .unknown => aerRecord h 0 18 t s

/-! ### From a device (R248, R253, R260, R265, R269) -/

/-- A bit of a port's ACS Control register. -/
def acsBit (s : State) (h : HostNo) (p : PciePort) (k : Nat) : Bool := cfgBit s h (portFn p) 0x154 (16 + k)

/-- The Address Type of a TLP. -/
def tlpAt (t : List Byte) : Nat := byteAt (tlpCore t) 2 / 4 % 4

/-- Whether Source Validation or Translation Blocking refuses a device's request. -/
def acsViolation (s : State) (h : HostNo) (p : PciePort) (t : List Byte) : Bool :=
  (acsBit s h p 0 && portOfBus s h ((tlpRid t).toNat / 256) != some p)
    || (acsBit s h p 1 && (tlpKind t == .memRead || tlpKind t == .memWrite || tlpKind t == .atomic) && tlpAt t != 0)

/-- A device's memory request toward its host. -/
def deviceToHost (h : HostNo) (p : PciePort) (t : List Byte) (s : State) : State :=
  let tid := match storageTunnel s h with | some x => x.tid | none => 0
  if tlpPosted (tlpKind t) then
    if storageOpen s h then sendToHost h t s else lostWrite h tid p t 3 s
  else forwardNp ⟨p, true, tlpRid t, tlpTag t, h, tid, false, t⟩ s

/-- Another port of the same host. -/
def otherPort (p : PciePort) : PciePort := if p = 0 then 1 else 0

/-- How a request of one port's device travels to the other port's (R253; PRESUMED: PCIe Base 4.0, log entry 113): a
translated request directly where that is enabled; one that Egress Control selects redirected or blocked, and any other
directly; without Egress Control, redirected where Request Redirect says so. -/
inductive PeerRoute where
  | direct | redirect | blocked
deriving DecidableEq, Repr
def peerRoute (s : State) (h : HostNo) (p q : PciePort) (t : List Byte) : PeerRoute :=
  if acsBit s h p 6 && tlpAt t == 2 then .direct
  else if acsBit s h p 5 then
    if !cfgBit s h (portFn p) 0x158 q.val then .direct else if acsBit s h p 2 then .redirect else .blocked
  else if acsBit s h p 2 then .redirect else .direct

/-- A request of a device toward the other port of its host. -/
def toPeer (h : HostNo) (p q : PciePort) (t : List Byte) (s : State) : State :=
  let tid := match storageTunnel s h with | some x => x.tid | none => 0
  match peerRoute s h p q t with
  | .blocked => refuseDevice h p 21 cplCa t s
  | .redirect => deviceToHost h p t s
  | .direct =>
    if s.pcie.ports[q].assigned != some h || s.pcie.ports[q].karxo then refuseDevice h p 20 cplUr t s
    else requestTo h tid q true t s

/-- A memory request of a device: to the other port of its host where the windows and ACS say so, and otherwise to its
host (R253). -/
def deviceMemory (h : HostNo) (p : PciePort) (t : List Byte) (s : State) : State :=
  let q := otherPort p
  let a := tlpAddr t
  if !cfgBit s h (portFn p) 0x04 2 || !cfgBit s h 0 0x04 2 then refuseDevice h p 20 cplUr t s
  else if inWindow s h (portFn p) a && !acsBit s h p 4 then refuseDevice h p 20 cplUr t s
  else if pciePresent s q && inWindow s h (portFn q) a then toPeer h p q t s
  else deviceToHost h p t s

/-- Whether an error message triggers containment (R269). -/
def dpcTrigger (s : State) (h : HostNo) (p : PciePort) (code : Nat) : Bool :=
  let fatal := cfgBit s h (portFn p) 0x164 16
  let any := cfgBit s h (portFn p) 0x164 17
  (code == 0x33 && (fatal || any)) || (code == 0x31 && any)

/-- A message of a device. -/
def deviceMessage (h : HostNo) (p : PciePort) (t : List Byte) (s : State) : State :=
  let code := msgCode t
  let local_ := msgRoute t == 4 && !(decide (0x20 ≤ code) && decide (code ≤ 0x27))
  if dpcTrigger s h p code then
    let rid := (tlpRid t).toNat
    if s.pcie.ports[p].state = 7 then s else containPort p (if code = 0x33 then .fatal rid else .nonFatal rid) s
  else if local_ then s
  else if msgRoute t = 2 then
    match portOfBus s h (byteAt (tlpCore t) 8) with
    | some q => if q != p && s.pcie.ports[q].assigned == some h then toPeer h p q t s else refuseDevice h p 20 cplUr t s
    | none => deviceToHost h p t s
  else deviceToHost h p t s

/-- A completion as it returns for a locked read: CplDLk or CplLk (R263). -/
def asLocked (t : List Byte) : List Byte := onFirst (fun b => b ||| 1) t

/-- A completion that crosses to the other port `q` of its host: by way of the host where Completion Redirect says so and it
has no Relaxed Ordering (R253; PRESUMED: PCIe Base 4.0, log entry 113), where its request is then tracked, and otherwise
directly. A request that was itself redirected is tracked toward the host, and ends with it. -/
def peerCompletion (h : HostNo) (p q : PciePort) (r : NpRequest) (cpl : List Byte) (s : State) : State :=
  let back := openRequest s q true cpl
  if acsBit s h p 3 && !(byteAt (tlpCore cpl) 2).testBit 5 then
    let s := if back.isSome then s
      else { s with pcie := { s.pcie with tracked := s.pcie.tracked ++ [{ r with port := q, toHost := true }] } }
    sendToHost h cpl s
  else
    let s := match back with
      | some b => if lastCpl cpl then { s with pcie := { s.pcie with tracked := s.pcie.tracked.erase b } } else s
      | none => s
    returnCpl h r.rid cpl s

/-- A completion of a device. One for the bridge's own requester ID answers a prefetch and goes no further. -/
def deviceCompletion (h : HostNo) (p : PciePort) (t : List Byte) (s : State) : State :=
  if (tlpRid t).toNat = fnId s h (portFn p) then s
  else match openRequest s p false t with
    | none => aerRecord h (portFn p) 16 t s
    | some r =>
      let s := endByCpl r t s
      match portOfBus s r.host (r.rid.toNat / 256) with
      | some q => peerCompletion r.host p q r t s
      | none => sendToHost r.host (if r.locked then asLocked t else t) s

/-- A TLP of a downstream link (R248, R253). -/
def fromDevice (p : PciePort) (t : List Byte) (s : State) : State :=
  match s.pcie.ports[p].assigned with
  | none => s
  | some h =>
    let k := tlpKind t
    let tid := match storageTunnel s h with | some x => x.tid | none => 0
    if s.pcie.ports[p].karxo || !linkSends s.pcie.ports[p] then s
    else if s.flt.isolated.getLsbD (6 + p.val) then (if tlpPosted k then lostWrite h tid p t 5 s else s)
    else if !tlpWellFormed t || (tlpHasData t && decide (payloadOf s h (portFn p) < 4 * tlpLenDw t)) then
      aerRecord h (portFn p) 18 t s
    else if acsViolation s h p t && !tlpCompletion k then refuseDevice h p 21 cplCa t s
    else match k with
      | .memRead => deviceMemory h p t s
      | .memWrite => deviceMemory h p t s
      | .atomic => deviceMemory h p t s
      | .message => deviceMessage h p t s
      | .completion => deviceCompletion h p t s
      | .completionLocked => deviceCompletion h p t s
      | _ => refuseDevice h p 20 cplUr t s

end Sys2Proof.Machine
end

