-- ==== Sys2Proof/Machine/Pcie.lean ====
section
/-! DEFINITION. Meanings of the PCIe group and of what the bridge does (06): port configuration and reassignment, windows, logs, hot-plug, the lock, TLPs, prefetch data, timers, slot inputs and link states. -/
namespace Sys2Proof.Machine

/-! ### Targets and settings -/

/-- The port a target names. -/
def tgPort (c : Cmd) : PciePort := ⟨c.target.toNat % 2, Nat.mod_lt _ (by decide)⟩

/-- Whether a port belongs to a requester that is a host. -/
def ownPort (s : State) (p : PciePort) (r : Requester) : Bool :=
  match hostOfRequester r with | some h => s.pcie.ports[p].assigned == some h | none => false

/-- A command on a port (R273). On the QT9824 PCIE1 is absent; under an x8 split it answers BAD_ARG. -/
def portSpec (op : Half) (lens : Nat → Bool) (perm : State → Cmd → Requester → Bool) (write : Cmd → Bool) : OpSpec :=
  { op := op, lens := lens, perm := perm, write := write, block := fun _ _ => some 6, target := 1
    partnerReads := true
    absent := fun s c => s.variant == .qt9824 && tgPort c == 1 }

/-- Whether the port named exists, its variant apart. -/
def noPort (s : State) (c : Cmd) : Bool := !pciePresent s (tgPort c)

/-- Setting 6: for each port its uplink, rate and flags; the next split; and the slot numbers (log entry 11). -/
def storePorts (s : State) : State :=
  let one (p : PciePort) : List Byte :=
    let x := s.pcie.ports[p]
    [(match x.assigned with | some h => BitVec.ofNat 8 h.val | none => 0xFF), BitVec.ofNat 8 x.maxRate.toNat,
      BitVec.ofNat 8 x.flags.toNat]
  storeSetting 6 (one 0 ++ one 1 ++ [BitVec.ofNat 8 (bitNat s.pcie.splitNext)] ++ leBytes 2 s.pcie.ports[0].slotNo.toNat
    ++ leBytes 2 s.pcie.ports[1].slotNo.toNat) s

/-! ### PCIE_PORT_CFG (R250, R270, R274) -/

/-- The 8-byte report of a port. -/
def portReport (s : State) (p : PciePort) : List Byte :=
  let x := s.pcie.ports[p]
  [BitVec.ofNat 8 x.state.val, (match x.assigned with | some h => BitVec.ofNat 8 h.val | none => 0xFF),
    BitVec.ofNat 8 x.maxRate.toNat, BitVec.ofNat 8 x.flags.toNat, BitVec.ofNat 8 (bitNat s.pcie.split),
    BitVec.ofNat 8 (bitNat s.pcie.splitNext), BitVec.ofNat 8 x.rate.toNat, BitVec.ofNat 8 x.width.toNat]

/-- The uplink a payload assigns a port to. -/
def cfgUplink (c : Cmd) : Option HostNo :=
  if byteAt c.payload 1 < 4 then some ⟨byteAt c.payload 1 % 4, Nat.mod_lt _ (by decide)⟩ else none

def pciePortCfgSpec : OpSpec :=
  { portSpec 0x0501 (lenIn [0, 8]) (fun s c r => permO r || (ownPort s (tgPort c) r && c.payload.isEmpty))
      (fun c => !c.payload.isEmpty) with
    absent := fun s c => (s.variant == .qt9824 && tgPort c == 1)
      || (s.variant != .qt9840 && !c.payload.isEmpty && opByte 0 1 c && byteAt c.payload 4 == 1)
      || (s.variant != .qt9840 && !c.payload.isEmpty && opByte 0 0 c && decide (0 < byteAt c.payload 1)
          && decide (byteAt c.payload 1 < 4)) }

/-- Whether the fields of operation 0 are in range. -/
def portArgsOk (c : Cmd) : Bool :=
  let p := c.payload
  (decide (byteAt p 1 < 4) || byteAt p 1 == 0xFF) && decide (1 ≤ byteAt p 2) && decide (byteAt p 2 ≤ 4)
    && decide (byteAt p 3 < 32) && zeroAt p 4 4

/-- Steps 2 and 3 of Table 6.8, toward a new uplink or toward none. -/
def movePort (p : PciePort) (up : Option HostNo) (s : State) : State :=
  let s := leaveUplink p s
  let s := updPort p (fun x => { x with assigned := up, karxo := false, shown := false }) s
  match up with
  | some _ => settleKarxo p (resetPort p s)
  | none => parkPort p s

/-- A presence input: without presence the link is down and its traffic ends; with it, training begins (R267). -/
def presenceChange (p : PciePort) (on : Bool) (s : State) : State :=
  let x := s.pcie.ports[p]
  if x.present = on then s
  else
    let s := updPort p (fun x => { x with present := on, shown := true }) s
    let s := noteSlot p (2 ^ 19) 1 (mirrorPort p s)
    if on then (if x.state = 8 then trainPort p s else s)
    else if x.state = 0 ∨ x.state = 1 ∨ x.state = 8 then s
    else dropLink p 8 (quiescePort p 1 5 cplUr s)

/-- The source of presence is the pin or the link itself, by the owner's flag (R267, R274). -/
def settlePresence (p : PciePort) (s : State) : State :=
  let x := s.pcie.ports[p]
  if x.flags.getLsbD 1 then presenceChange p x.pin s
  else if x.present = linkIsUp x then s
  else noteSlot p (2 ^ 19) 1 (mirrorPort p (updPort p (fun x => { x with present := linkIsUp x }) s))

/-- What operation 0 applies beside a new uplink. -/
def applyPort (p : PciePort) (rate : BitVec 3) (flags : BitVec 5) (s : State) : State :=
  let old := s.pcie.ports[p].maxRate
  let s := mirrorSlot p (updPort p (fun x => { x with maxRate := rate, flags := flags }) s)
  let s := if rate.toNat < old.toNat then retrainPort p s else s
  settlePort (settleKarxo p (settlePresence p s)) p

/-- Length 0 reads. Operation 0 checks A4 for the uplinks it concerns where it lowers the rate or moves the port (R243,
Table 6.8 step 1). -/
def portSetOp (c : Cmd) (s : State) : State :=
  let p := tgPort c
  if noPort s c then fail 0x0501 c stBadArg s
  else if c.payload.isEmpty then ok 0x0501 c (portReport s p) s
  else
    let rate := BitVec.ofNat 3 (byteAt c.payload 2)
    let flags := BitVec.ofNat 5 (byteAt c.payload 3)
    let up := cfgUplink c
    let after := updPort p (fun x => { x with assigned := up, maxRate := rate }) s
    let lowers := up != s.pcie.ports[p].assigned || decide (rate.toNat < s.pcie.ports[p].maxRate.toNat)
    let fits := !lowers || ([0, 1, 2, 3] : List HostNo).all (fun h =>
      !(s.pcie.ports[p].assigned == some h || up == some h) || admitStorage after s.tunnels h)
    if !portArgsOk c then fail 0x0501 c stBadArg s
    else if waitsFor s (.pciePort p) then fail 0x0501 c stBusy s
    else if !fits then fail 0x0501 c stAdmission s
    else if up = s.pcie.ports[p].assigned then
      let s := storePorts (applyPort p rate flags s)
      ok 0x0501 c (portReport s p) s
    else if up.isNone then
      let s := storePorts (movePort p up (applyPort p rate flags s))
      ok 0x0501 c (portReport s p) s
    else startPending 0x0501 c (.pciePort p) (fun s =>
      let s := leaveUplink p s
      let s := updPort p (fun x => { x with assigned := none, maxRate := rate, flags := flags }) s
      storePorts (movePort p up (settlePresence p (mirrorSlot p s)))) s

def portSplitOp (c : Cmd) (s : State) : State :=
  let p := c.payload
  if noPort s c || 2 ≤ byteAt p 4 || !zeroAt p 5 3 then fail 0x0501 c stBadArg s
  else if waitsFor s (.pciePort (tgPort c)) then fail 0x0501 c stBusy s
  else
    let s := storePorts { s with pcie := { s.pcie with splitNext := byteAt p 4 == 1 } }
    ok 0x0501 c (portReport s (tgPort c)) s

/-- Which payload selects which operation: length 0 reads. -/
def isPortSet (c : Cmd) : Bool := c.payload.isEmpty || opByte 0 0 c
def isPortSplit (c : Cmd) : Bool := !c.payload.isEmpty && opByte 0 1 c

def pciePortCfgBody (c : Cmd) (s : State) : State :=
  if isPortSet c then portSetOp c s else onlyWhen isPortSplit 0x0501 portSplitOp c s

/-- PCIE_PORT_CFG, length 0 and operation 0 (R274). -/
def execPciePortCfgSet (c : Cmd) (s : State) : Answer :=
  .next (runCmd pciePortCfgSpec (onlyWhen isPortSet 0x0501 portSetOp) c s)

/-- PCIE_PORT_CFG, operation 1 (R245, R274). -/
def execPciePortCfgSplit (c : Cmd) (s : State) : Answer :=
  .next (runCmd pciePortCfgSpec (onlyWhen isPortSplit 0x0501 portSplitOp) c s)

/-- Whether a port held in reset may be released: wanted, and its slot's power good. -/
def mayTrain (s : State) (p : PciePort) : Bool :=
  let x := s.pcie.ports[p]
  x.phase == .reset && x.state == 1 && portWanted s p && (!x.flags.getLsbD 2 || x.powerGood)

/-- PCIE_REASSIGN_PERST_DONE (R270): step 4 of Table 6.8, where the uplink has an Open storage tunnel. -/
def execPcieReassignPerstDone (p : PciePort) (s : State) : Answer :=
  runCore (fun s => if mayTrain s p then trainPort p s else s) s

/-! ### PCIE_WINDOW_SET (R254, R275) -/

/-- The window a target names, its host and its port. -/
def tgWindow (c : Cmd) : Fin 8 := ⟨c.target.toNat % 8, Nat.mod_lt _ (by decide)⟩
def windowHost (w : Fin 8) : HostNo := ⟨w.val / 2, by omega⟩
def windowPort (w : Fin 8) : PciePort := ⟨w.val % 2, Nat.mod_lt _ (by decide)⟩

def pcieWindowSetSpec : OpSpec :=
  { op := 0x0502
    lens := fun n => n == 0 || (decide (4 ≤ n) && decide (n ≤ 68))
    perm := fun _ c r => permO r || hostOfRequester r == some (windowHost (tgWindow c))
    block := fun _ _ => some 6
    write := fun c => !c.payload.isEmpty
    target := 7
    partnerReads := true
    absent := fun s c => (s.variant == .qt9824 && windowPort (tgWindow c) == 1)
      || (s.variant != .qt9840 && windowHost (tgWindow c) != 0) }

/-- The holes a payload gives. -/
def holesOf (p : List Byte) (n : Nat) : List (Dword × Dword) :=
  (List.range n).map (fun i => (BitVec.ofNat 64 (fieldAt p (4 + 16 * i) 8), BitVec.ofNat 64 (fieldAt p (12 + 16 * i) 8)))

def windowArgsOk (p : List Byte) : Bool :=
  let n := byteAt p 2
  decide (byteAt p 0 < 2) && decide (byteAt p 1 ≤ 8) && decide (n ≤ 4) && byteAt p 3 == 0 && p.length == 4 + 16 * n
    && (holesOf p n).all (fun h => h.1.toNat % 4096 == 0 && h.2.toNat % 4096 == 0)

/-- The 16-byte report of a window. -/
def windowReport (w : PrefetchWindow) : List Byte :=
  [BitVec.ofNat 8 (bitNat (effOverride w)), BitVec.ofNat 8 (effDepth w), BitVec.ofNat 8 (effHoles w).length, 0]
    ++ wordBytes w.issued ++ wordBytes w.hits ++ wordBytes w.discards

def pcieWindowSetBody (c : Cmd) (s : State) : State :=
  let w := tgWindow c
  let p := c.payload
  if !pciePresent s (windowPort w) then fail 0x0502 c stBadArg s
  else if p.isEmpty then ok 0x0502 c (windowReport s.pcie.windows[w]) s
  else if !windowArgsOk p then fail 0x0502 c stBadArg s
  else
    let set : WindowSetting :=
      ⟨byteAt p 0 == 1, ⟨byteAt p 1 % 9, Nat.mod_lt _ (by decide)⟩, holesOf p (byteAt p 2)⟩
    let owner := permO (cmdRequester s c)
    let s := countWindow w (fun x => if owner then { x with owner := set } else { x with host := set }) s
    let s := dropPrefetch (windowPort w) (fun e => e.window == w) 4 s
    ok 0x0502 c (windowReport s.pcie.windows[w]) s

/-- PCIE_WINDOW_SET (R275). -/
def execPcieWindowSet (c : Cmd) (s : State) : Answer := .next (runCmd pcieWindowSetSpec pcieWindowSetBody c s)

/-! ### PCIE_ERRLOG_READ (R261, R262) -/

/-- An entry's 32 bytes (Table 6.5). -/
def bridgeBytes (e : BridgeEntry) : List Byte :=
  leBytes 8 e.addr.toNat ++ leBytes 2 e.rid.toNat
    ++ [BitVec.ofNat 8 e.tag.toNat,
        BitVec.ofNat 8 (64 * (e.tag.toNat / 256) + 16 * e.uplink.val + 8 * e.port.val + e.kind.val), e.tid, e.status]
    ++ leBytes 2 e.length.toNat ++ leBytes 8 e.time.toNat ++ leBytes 4 e.count.toNat ++ zeros 4

/-- The entries a requester receives of a log. -/
def logEntries (l : BridgeLog) (r : Requester) (first count : Nat) : List BridgeEntry :=
  ((List.range count).filterMap (fun i => l.entries[(⟨(first + i) % 32, Nat.mod_lt _ (by decide)⟩ : Fin 32)])).filter
    (fun e => match hostOfRequester r with | some h => e.uplink == h | none => true)

def pcieErrlogReadSpec : OpSpec :=
  { op := 0x0503, lens := lenIn [4], perm := fun _ _ r => isHost r || permO r, block := fun _ _ => some 6
    write := opByte 1 1 }

/-- The log read, and emptied where `empty` says so. -/
def errlogOp (empty : Bool) (c : Cmd) (s : State) : State :=
  let p := c.payload
  if 3 ≤ byteAt p 0 || 32 ≤ byteAt p 2 || 16 ≤ byteAt p 3 then fail 0x0503 c stBadArg s
  else
    let n : Fin 3 := ⟨byteAt p 0 % 3, Nat.mod_lt _ (by decide)⟩
    let l := s.pcie.logs[n]
    let es := logEntries l (cmdRequester s c) (byteAt p 2) (byteAt p 3)
    let hdr := wordBytes l.written ++ wordBytes l.overwritten
      ++ [(match l.newest with | some i => BitVec.ofNat 8 i.val | none => 0xFF), BitVec.ofNat 8 es.length] ++ zeros 6
    let s := ok 0x0503 c (hdr ++ es.flatMap bridgeBytes) s
    if empty then { s with pcie := { s.pcie with logs := s.pcie.logs.set n BridgeLog.reset } } else s

def pcieErrlogReadBody (c : Cmd) (s : State) : State :=
  if opByte 1 0 c then errlogOp false c s else onlyWhen (opByte 1 1) 0x0503 (errlogOp true) c s

/-- PCIE_ERRLOG_READ, byte 1 = 0 (R262). -/
def execPcieErrlogRead (c : Cmd) (s : State) : Answer :=
  .next (runCmd pcieErrlogReadSpec (onlyWhen (opByte 1 0) 0x0503 (errlogOp false)) c s)

/-- PCIE_ERRLOG_READ, byte 1 = 1 (R262). -/
def execPcieErrlogReadEmpty (c : Cmd) (s : State) : Answer :=
  .next (runCmd pcieErrlogReadSpec (onlyWhen (opByte 1 1) 0x0503 (errlogOp true)) c s)

/-! ### PCIE_HOTPLUG (R267, R276) -/

/-- The 8-byte report of a slot. -/
def slotReport (s : State) (p : PciePort) : List Byte :=
  let x := s.pcie.ports[p]
  let v := match x.assigned with | some h => (cfgRead s h (portFn p) 0x58).toNat | none => 0
  leBytes 2 (v / 65536) ++ leBytes 2 v ++ leBytes 2 x.slotNo.toNat
    ++ [BitVec.ofNat 8 (bitNat x.pwren + 2 * bitNat x.powerGood), 0]

def pcieHotplugSpec : OpSpec :=
  portSpec 0x0504 (lenIn [4]) (fun s c r => permO r || (ownPort s (tgPort c) r && decide (byteAt c.payload 0 < 2)))
    (fun c => !opByte 0 0 c)

/-- An operation of PCIE_HOTPLUG whose argument is 0; the response reports the slot after it. One that changes the port
waits for no reassignment (R531). -/
def slotOp (f : PciePort → State → State) (needsPower : Bool) (c : Cmd) (s : State) : State :=
  let p := tgPort c
  if noPort s c || !zeroAt c.payload 1 3 then fail 0x0504 c stBadArg s
  else if needsPower && !s.pcie.ports[p].flags.getLsbD 2 then fail 0x0504 c stNoResource s
  else if !opByte 0 0 c && waitsFor s (.pciePort p) then fail 0x0504 c stBusy s
  else
    let s := f p s
    ok 0x0504 c (slotReport s p) s

/-- Attention Button Pressed in the owning host's port, with event code 8 (R276). -/
def requestRemoval (p : PciePort) (s : State) : State := slotChange p (2 ^ 16) 8 s

def slotNumberOp (c : Cmd) (s : State) : State :=
  let p := tgPort c
  let n := fieldAt c.payload 1 2
  if noPort s c || 8192 ≤ n || byteAt c.payload 3 != 0 then fail 0x0504 c stBadArg s
  else if waitsFor s (.pciePort p) then fail 0x0504 c stBusy s
  else
    let s := storePorts (mirrorSlot p (updPort p (fun x => { x with slotNo := BitVec.ofNat 13 n }) s))
    ok 0x0504 c (slotReport s p) s

def pcieHotplugBody (c : Cmd) (s : State) : State :=
  if opByte 0 0 c then slotOp (fun _ s => s) false c s
  else if opByte 0 1 c then slotOp requestRemoval false c s
  else if opByte 0 2 c then slotOp powerOffSlot true c s
  else if opByte 0 3 c then slotOp powerOnSlot true c s
  else onlyWhen (opByte 0 4) 0x0504 slotNumberOp c s

/-- PCIE_HOTPLUG, operation 0 (R276). -/
def execPcieHotplugRead (c : Cmd) (s : State) : Answer :=
  .next (runCmd pcieHotplugSpec (onlyWhen (opByte 0 0) 0x0504 (slotOp (fun _ s => s) false)) c s)

/-- PCIE_HOTPLUG, operation 1 (R276). -/
def execPcieHotplugRemove (c : Cmd) (s : State) : Answer :=
  .next (runCmd pcieHotplugSpec (onlyWhen (opByte 0 1) 0x0504 (slotOp requestRemoval false)) c s)

/-- PCIE_HOTPLUG, operation 2 (R252, R276). -/
def execPcieHotplugPowerOff (c : Cmd) (s : State) : Answer :=
  .next (runCmd pcieHotplugSpec (onlyWhen (opByte 0 2) 0x0504 (slotOp powerOffSlot true)) c s)

/-- PCIE_HOTPLUG, operation 3 (R268). -/
def execPcieHotplugPowerOn (c : Cmd) (s : State) : Answer :=
  .next (runCmd pcieHotplugSpec (onlyWhen (opByte 0 3) 0x0504 (slotOp powerOnSlot true)) c s)

/-- PCIE_HOTPLUG, operation 4 (R276). -/
def execPcieHotplugSlotNumber (c : Cmd) (s : State) : Answer :=
  .next (runCmd pcieHotplugSpec (onlyWhen (opByte 0 4) 0x0504 slotNumberOp) c s)

/-! ### PCIE_LOCK_STATUS (R264, R277) -/

/-- The 20-byte report. -/
def lockReport (s : State) : List Byte :=
  let l := s.pcie.lock
  let us := match l.holder with | some _ => min ((s.clock.hubTime - l.since).toNat / 1000) (2 ^ 32 - 1) | none => 0
  [BitVec.ofNat 8 (bitNat l.holder.isSome), (match l.holder with | some (h, _) => BitVec.ofNat 8 h.val | none => 0),
    (match l.holder with | some (_, p) => BitVec.ofNat 8 p.val | none => 0), BitVec.ofNat 8 (min 255 l.waiting.length)]
    ++ leBytes 4 us ++ wordBytes l.granted ++ wordBytes l.timeouts ++ wordBytes l.others

/-- A payload of 1 forces release; length 0 or a payload of 0 reports. -/
def lockForces (c : Cmd) : Bool := !c.payload.isEmpty && opByte 0 1 c
def lockReports (c : Cmd) : Bool := c.payload.isEmpty || opByte 0 0 c

def pcieLockStatusSpec : OpSpec :=
  { op := 0x0505, lens := lenIn [0, 1], perm := fun _ c r => permO r || (isHost r && lockReports c)
    block := fun _ _ => some 6, write := lockForces, partnerReads := true }

def lockReportOp (c : Cmd) (s : State) : State := ok 0x0505 c (lockReport s) s
def lockForceOp (c : Cmd) (s : State) : State :=
  let s := releaseLock false s
  ok 0x0505 c (lockReport s) s

def pcieLockStatusBody (c : Cmd) (s : State) : State :=
  if lockReports c then lockReportOp c s else onlyWhen lockForces 0x0505 lockForceOp c s

/-- PCIE_LOCK_STATUS, reporting (R277). -/
def execPcieLockStatus (c : Cmd) (s : State) : Answer :=
  .next (runCmd pcieLockStatusSpec (onlyWhen lockReports 0x0505 lockReportOp) c s)

/-- PCIE_LOCK_STATUS, payload 1 (R264). -/
def execPcieLockForceRelease (c : Cmd) (s : State) : Answer :=
  .next (runCmd pcieLockStatusSpec (onlyWhen lockForces 0x0505 lockForceOp) c s)

/-! ### TLPs (R248) -/

/-- PCIE_TLP_FROM_HOST (R248): the TLP at the head of a storage tunnel. -/
def execPcieTlpFromHost (h : HostNo) (tid : Byte) (s : State) : Answer :=
  runCore (fun s => match findTunnel s h tid with
    | some t =>
      if t.cls == 3 && t.cross.isNone then
        match takeMessage h tid s with
        | some (m, s) => if m.broken then aerRecord h 0 18 m.bytes s else fromHost h tid m.bytes s
        | none => s
      else s
    | none => s) s

/-- PCIE_TLP_FROM_DEVICE (R248). -/
def execPcieTlpFromDevice (p : PciePort) (tlp : List Byte) (s : State) : Answer := runCore (fromDevice p tlp) s

/-- A request that waits for the lock of a port counts that wait toward its 50 ms (R264): it ends like an open one. -/
def blockedTimeout (p : PciePort) (rid : BitVec 16) (tag : BitVec 10) (s : State) : State :=
  let mine (q : QueuedTlp) : Bool := !tlpPosted (tlpKind q.tlp) && tlpRid q.tlp == rid && tlpTag q.tlp == tag
  match s.pcie.lock.holder, s.pcie.lock.blocked.find? mine with
  | some (_, lp), some q =>
    if lp != p then s
    else
      let s := { s with pcie := { s.pcie with lock := { s.pcie.lock with blocked := s.pcie.lock.blocked.erase q } } }
      logCompletion q.host q.tid p q.tlp 3 (answerNp ⟨p, false, rid, tag, q.host, q.tid, false, q.tlp⟩ cplCa s)
  | _, _ => s

/-- PCIE_COMPLETION_TIMEOUT (R260, R264). -/
def execPcieCompletionTimeout (p : PciePort) (towardHost : Bool) (rid : BitVec 16) (tag : BitVec 10) (s : State) : Answer :=
  runCore (fun s =>
    match s.pcie.tracked.find? (fun r => r.port == p && r.toHost == towardHost && r.rid == rid && r.tag == tag) with
    | some r =>
      logCompletion r.host r.tid p r.tlp 3 (answerNp r cplCa
        { s with pcie := { s.pcie with tracked := s.pcie.tracked.erase r } })
    | none => if towardHost then s else blockedTimeout p rid tag s) s

/-- PCIE_NP_OVERFLOW_FORWARD (R249). -/
def execPcieNpOverflowForward (p : PciePort) (towardHost : Bool) (s : State) : Answer := runCore (forwardHeld p towardHost) s

/-! ### Prefetch (R256) -/

/-- PREFETCH_EXPIRY (R256): an entry without a hit. -/
def execPrefetchExpiry (p : PciePort) (k : Fin 16) (s : State) : Answer :=
  runCore (dropPrefetch p (fun e => e.slot == k && e.arrived && e.consumed.isEmpty) 1) s

/-- Prefetch data arrives: reads that wait are completed from it. Without data the entry is dropped without a trace, and
the reads that waited go to the device. -/
def prefetchArrives (p : PciePort) (k : Fin 16) (data : Option (List Byte)) (s : State) : State :=
  match s.pcie.ports[p].prefetch.find? (fun e => e.slot == k && !e.arrived) with
  | none => s
  | some e =>
    let h := windowHost e.window
    let tid := match storageTunnel s h with | some t => t.tid | none => 0
    match data with
    | some d =>
      let full : PrefetchEntry := { e with data := padTo e.len d, arrived := true, arrivedAt := s.clock.hubTime, demand := [] }
      let s := e.demand.foldl (fun s t => completeFrom h p full t s) s
      updEntry p k (fun _ => full) s
    | none =>
      let s := updPort p (fun x => { x with prefetch := x.prefetch.filter (fun y => y.slot != k) }) s
      e.demand.foldl (fun s t => requestTo h tid p false t s) s

/-- PREFETCH_DATA_ARRIVED (R256). -/
def execPrefetchDataArrived (p : PciePort) (k : Fin 16) (data : Option (List Byte)) (s : State) : Answer :=
  runCore (prefetchArrives p k data) s

/-! ### The lock's timers (R263, R264) -/

/-- LOCK_WAIT_TIMEOUT (R263): the oldest waiting locked read. -/
def execLockWaitTimeout (s : State) : Answer :=
  runCore (fun s => match s.pcie.lock.waiting with
    | r :: rest =>
      let s := { s with pcie := { s.pcie with
        lock := { s.pcie.lock with waiting := rest, timeouts := satInc s.pcie.lock.timeouts } } }
      logCompletion r.host r.tid r.port r.tlp 4 (answerNp r cplCa s)
    | [] => s) s

/-- LOCK_IDLE_TIMEOUT (R264). -/
def execLockIdleTimeout (s : State) : Answer := runCore (releaseLock false) s

/-! ### Slots and links (R251, R252, R267 to R272) -/

/-- PCIE_SLOT_INPUT_CHANGE (R267, R268). The presence ball counts where the owner selected it; without a power controller
or an attention button their inputs mean nothing. -/
def execPcieSlotInputChange (p : PciePort) (e : SlotInput) (s : State) : Answer :=
  runCore (fun s =>
    let x := s.pcie.ports[p]
    if !pciePresent s p then s
    else match e with
      | .presence on =>
        let s := updPort p (fun x => { x with pin := on }) s
        if x.flags.getLsbD 1 then presenceChange p on s else s
      | .attention => if x.flags.getLsbD 3 then slotChange p (2 ^ 16) 4 s else s
      | .powerFault true =>
        if x.flags.getLsbD 2 then
          let s := quiescePort p 1 5 cplUr s
          slotChange p (2 ^ 17) 5 (disablePort p (updPort p (fun x => { x with pwren := false, powerGood := false }) s))
        else s
      | .powerFault false => updPort p (fun x => { x with powerGood := x.pwren }) s) s

/-- PCIE_SLOT_POWER_GOOD (R268): 100 ms after power good, training begins. -/
def execPcieSlotPowerGood (p : PciePort) (s : State) : Answer :=
  runCore (fun s =>
    let x := s.pcie.ports[p]
    if x.flags.getLsbD 2 && x.pwren then
      let s := updPort p (fun x => { x with powerGood := true }) s
      if mayTrain s p then trainPort p s else s
    else s) s

/-- The credits advertised toward every downstream link, header and data: posted, non-posted, completion (R247). -/
def creditsPosted : Nat × Nat := (64, 2048)
def creditsNonPosted : Nat × Nat := (64, 64)
def creditsCompletion : Nat × Nat := (64, 2048)

/-- Flow control is initialised on a link that has come up (R247). -/
def advertise (p : PciePort) (s : State) : State :=
  emit (.pcieCredits p creditsPosted creditsNonPosted creditsCompletion) s

/-- In-band presence follows the link (R267). -/
def inBand (p : PciePort) (on : Bool) (s : State) : State :=
  let x := s.pcie.ports[p]
  if x.flags.getLsbD 1 || x.present == on then s
  else noteSlot p (2 ^ 19) 1 (mirrorPort p (updPort p (fun x => { x with present := on }) s))

/-- A link that is up: its rate and width, and state 3 or 4 by its configuration (R244). A link that was training has come
up: its credits, presence, event 36, and the sequence of R270 ends. Karxo leaves a device that is not an NVMe controller in
reset, from which no timer takes it (R271); how many active namespaces an NVMe controller has, up to 8, is a free value
(R306). -/
def linkUp (p : PciePort) (rate : BitVec 3) (width : BitVec 4) (s : State) : State :=
  let x := s.pcie.ports[p]
  let st : Fin 9 := if rate.toNat < x.maxRate.toNat || width.toNat < portLanes s then 4 else 3
  let fresh := x.state == 2
  let bits := 2 ^ 24 + (if x.shown then 0 else 2 ^ 19)
  let s := updPort p (fun x => { x with rate := rate, width := width, phase := .idle, shown := true }) s
  let s := setPortState p st s
  if !fresh then drainPort p s
  else
    let s := noteSlot p bits 2 (inBand p true (advertise p s))
    let s := finish (.pciePort p) stOk (portReport s p) s
    if x.karxo then
      let notNvme := Config.freeBool s.freeCtr
      let s := { s with freeCtr := s.freeCtr + 1 }
      if notNvme then updPort p (fun x => { x with phase := .idle }) (resetPort p s)
      else
        let (v, s) := takeFree 4 s
        updPort p (fun x => { x with namespaces := ⟨v.toNat % 9, Nat.mod_lt _ (by decide)⟩ }) s
    else drainPort p s

/-- A link that goes down by surprise (R258, R260). -/
def linkDown (p : PciePort) (s : State) : State :=
  let s := updPort p (fun x => { x with phase := .idle }) (quiescePort p 1 5 cplUr s)
  inBand p false (dropLink p 8 s)

/-- PCIE_LINK_STATE_CHANGE (R251): what the link does of itself; a port disabled, in reset or contained does nothing. -/
def execPcieLinkStateChange (p : PciePort) (st : BitVec 4) (rate : BitVec 3) (width : BitVec 4) (s : State) : Answer :=
  runCore (fun s =>
    let x := s.pcie.ports[p]
    if x.state = 0 ∨ x.state = 1 ∨ x.state = 7 then s
    else if st = 2 ∨ st = 6 then setPortState p (if st = 2 then 2 else 6) s
    else if st = 3 ∨ st = 4 then linkUp p rate width s
    else if st = 5 then (if x.state = 3 ∨ x.state = 4 then setPortState p 5 s else s)
    else if st = 8 then linkDown p s
    else s) s

/-- NVME_SHUTDOWN_DONE (R272): Karxo gives the port back, and it is presented to the host. -/
def execNvmeShutdownDone (p : PciePort) (s : State) : Answer :=
  runCore (fun s =>
    let x := s.pcie.ports[p]
    if x.karxo && x.phase == .shutdown then
      let s := updPort p (fun x => { x with karxo := false, phase := .idle, namespaces := 0 }) s
      if portWanted s p then resetPort p s else disablePort p s
    else s) s

end Sys2Proof.Machine
end

