-- ==== Sys2Proof/Machine/Usb.lean ====
section
/-! DEFINITION. Meanings of the USB group and of what the USB block does (07): port settings, carve, status, charging, messages of the tunnelled root, the microframe, port changes, wakes, fall-back requests, and the management function's storage and loopback. -/
namespace Sys2Proof.Machine

/-! ### Targets and permissions (R311) -/

/-- The port a target names, and whether it names an external port of the variant. -/
def tgUsb (c : Cmd) : Fin 8 := ⟨c.target.toNat % 8, Nat.mod_lt _ (by decide)⟩
def usbTargetOk (s : State) (c : Cmd) : Bool := decide (c.target.toNat % 16 < 8) && usbExternal s (tgUsb c).val

/-- The USB owner's host, as a requester. -/
def isUsbOwner (s : State) (r : Requester) : Bool := hostOfRequester r == some s.usb.owner

/-- A USB command. A port of another variant only is absent from the QT9824: 6 and 7, whose internal port is 5. -/
def usbSpec (op : Half) (lens : Nat → Bool) (perm : State → Cmd → Requester → Bool) : OpSpec :=
  { op := op, lens := lens, perm := perm, write := fun c => !c.payload.isEmpty, block := fun _ _ => some 7, target := 15
    partnerReads := true
    absent := fun s c => s.variant == .qt9824 && (c.target.toNat % 16 == 6 || c.target.toNat % 16 == 7) }

/-! ### USB_PORT_CFG (R280, R281, R312) -/

/-- Setting 7: owner, policy and the flags of ports 1 to 6 (log entry 11). -/
def storeUsb (s : State) : State :=
  storeSetting 7 ([BitVec.ofNat 8 s.usb.named.val, BitVec.ofNat 8 s.usb.policy.val]
    ++ ([1, 2, 3, 4, 5, 6] : List (Fin 8)).map (fun n => BitVec.ofNat 8 s.usb.ports[n].flags.toNat)) s

/-- The owner a setting gives (R280): the named uplink, or under policy 1, while it is not attached, another that is. -/
def ownerFor (s : State) : HostNo :=
  if s.usb.policy = 0 || usbAttached s s.usb.named then s.usb.named
  else match (([0, 1] : List Up).filter (mayOwnUsb s)).map (hostOnUp s) with
    | h :: _ => h
    | [] => s.usb.named

def usbOwnerOp (c : Cmd) (s : State) : State :=
  let p := c.payload
  if 4 ≤ byteAt p 0 || 2 ≤ byteAt p 1 || !zeroAt p 2 6 then fail 0x0601 c stBadArg s
  else
    let h : HostNo := ⟨byteAt p 0 % 4, Nat.mod_lt _ (by decide)⟩
    let pol : Fin 2 := ⟨byteAt p 1 % 2, Nat.mod_lt _ (by decide)⟩
    if (upOfHost s h).isNone && !inSpan s then fail 0x0601 c stPairRole s
    else
      let set (s : State) : State := storeUsb (updUsb (fun u => { u with named := h, policy := pol }) s)
      if ownerFor (set s) = s.usb.owner then
        let s := set s
        ok 0x0601 c (usbSetting s 0) s
      else startPending 0x0601 c .usbOwner (fun s => moveUsb (ownerFor (set s)) (set s)) s

/-- Disabling a port acts as a disconnect (R312). -/
def unplugPort (n : Fin 8) (s : State) : State :=
  let one (s : State) (ss : Bool) : State :=
    let had := stConnected (usbHalf s ss n)
    let s := endUsb (onHalf ss n) 5 (setStatus ss n 0xFCFF false s)
    if had then setChange ss n 1 s else s
  settleVbus n (one (one s false) true)

def usbFlagsOp (c : Cmd) (s : State) : State :=
  let p := c.payload
  let n := tgUsb c
  let f : BitVec 6 := BitVec.ofNat 6 (byteAt p 0)
  if 64 ≤ byteAt p 0 || !zeroAt p 1 7 || (f.getLsbD 1 && decide (usbPortsS s < n.val)) then fail 0x0601 c stBadArg s
  else
    let set (s : State) : State := updUsbPort n (fun x => { x with flags := f }) s
    let off := upEnabled s.usb.ports[n] && !f.getLsbD 0
    if off && !admitUsb (set s) s.tunnels s.usb.owner then fail 0x0601 c stAdmission s
    else
      let s := storeUsb (set s)
      let kept := s.usb.ports[n].vbus && f.getLsbD 2
        && !(stPowered false (extHalf s false n) || stPowered true (extHalf s true n))
      let s := if off then unplugPort n s else if kept then s else settleVbus n s
      ok 0x0601 c (usbSetting s n) s

def usbPortCfgSpec : OpSpec :=
  { usbSpec 0x0601 (lenIn [0, 8]) (fun s c r =>
      permO r || (isHost r && c.payload.isEmpty && (isUsbOwner s r || c.target.toNat % 16 == 0))) with
    absent := fun s c => (s.variant == .qt9824 && (c.target.toNat % 16 == 6 || c.target.toNat % 16 == 7))
      || (s.variant != .qt9840 && !c.payload.isEmpty && c.target.toNat % 16 == 0 && decide (0 < byteAt c.payload 0)
          && decide (byteAt c.payload 0 < 4)) }
def usbPortCfgBody (c : Cmd) (s : State) : State :=
  if c.target.toNat % 16 != 0 && !usbTargetOk s c then fail 0x0601 c stBadArg s
  else if c.payload.isEmpty then ok 0x0601 c (usbSetting s (tgUsb c)) s
  else if c.target.toNat % 16 = 0 then usbOwnerOp c s
  else usbFlagsOp c s

/-- USB_PORT_CFG (R312). -/
def execUsbPortCfg (c : Cmd) (s : State) : Answer := .next (runCmd usbPortCfgSpec usbPortCfgBody c s)

/-! ### USB_EP_CARVE (R304, R313) -/

/-- Whether a carve meets R304. -/
def carveOk (p : List Byte) : Bool :=
  decide ((p.map (fun b => b.toNat)).sum ≤ 64) && decide (1 ≤ byteAt p 0) && decide (byteAt p 14 ≤ 3)
    && decide (byteAt p 15 ≤ 3)

def usbEpCarveSpec : OpSpec :=
  usbSpec 0x0602 (lenIn [0, 16]) (fun s c r => permO r || (isUsbOwner s r && c.payload.isEmpty))
def usbEpCarveBody (c : Cmd) (s : State) : State :=
  if !usbTargetOk s c then fail 0x0602 c stBadArg s
  else if c.payload.isEmpty then ok 0x0602 c (s.usb.carve ++ s.usb.carveNext) s
  else if !carveOk c.payload then fail 0x0602 c stBadArg s
  else
    let s := storeSetting 8 c.payload (updUsb (fun u => { u with carveNext := c.payload }) s)
    ok 0x0602 c (s.usb.carve ++ s.usb.carveNext) s

/-- USB_EP_CARVE (R313). Its target names an external port, as R311 leaves port 0 to USB_PORT_CFG alone (log entry 54). -/
def execUsbEpCarve (c : Cmd) (s : State) : Answer := .next (runCmd usbEpCarveSpec usbEpCarveBody c s)

/-! ### USB_PORT_STATUS (R302, R314) -/

/-- The power state of a port: its SuperSpeedPlus half's while a device is on it, else its USB 2.0 half's. -/
def portPower (s : State) (n : Fin 8) : Fin 5 :=
  if stConnected (extHalf s true n) then usbPower true (extHalf s true n) else usbPower false (extHalf s false n)

/-- The 24-byte report; VBUS is on while the port's channel conducts. -/
def usbReport (s : State) (n : Fin 8) : List Byte :=
  let p := s.usb.ports[n]
  let a := s.usb.halves2[n]
  let b := if n.val ≤ usbPortsS s then s.usb.halvesS[n] else ⟨0, 0, 0⟩
  leBytes 2 a.status.toNat ++ leBytes 2 a.change.toNat ++ leBytes 2 b.status.toNat ++ leBytes 2 b.change.toNat
    ++ [BitVec.ofNat 8 p.speed.val, BitVec.ofNat 8 (portPower s n).val,
        BitVec.ofNat 8 (bitNat p.wake + 2 * bitNat p.overCurrent + 4 * bitNat s.power.efuses[efuseOf n.val].on + 8 * bitNat p.attached
          + 16 * bitNat p.cc2),
        BitVec.ofNat 8 (p.role.val + 16 * p.detected.toNat), BitVec.ofNat 8 (rpInForce s n), 0, 0, 0]
    ++ wordBytes p.txErrors ++ wordBytes p.missed

def usbPortStatusSpec : OpSpec := usbSpec 0x0603 (lenIn [0, 1]) (fun s _ r => permO r || isUsbOwner s r)

/-- The status read, which clears the latched wake, and with `clear` the counters. -/
def usbStatusOp (clear : Bool) (c : Cmd) (s : State) : State :=
  let n := tgUsb c
  if !usbTargetOk s c then fail 0x0603 c stBadArg s
  else
    let s := ok 0x0603 c (usbReport s n) s
    updUsbPort n (fun p => { p with
      wake := false, txErrors := if clear then 0 else p.txErrors, missed := if clear then 0 else p.missed }) s

def statusLen0 (c : Cmd) : Bool := c.payload.isEmpty
def statusClears (c : Cmd) : Bool := !c.payload.isEmpty && opByte 0 1 c

def usbPortStatusBody (c : Cmd) (s : State) : State :=
  if statusLen0 c then usbStatusOp false c s else onlyWhen statusClears 0x0603 (usbStatusOp true) c s

/-- USB_PORT_STATUS of length 0 (R314). -/
def execUsbPortStatus (c : Cmd) (s : State) : Answer :=
  .next (runCmd usbPortStatusSpec (onlyWhen statusLen0 0x0603 (usbStatusOp false)) c s)

/-- USB_PORT_STATUS, payload 1 (R314). -/
def execUsbPortStatusClear (c : Cmd) (s : State) : Answer :=
  .next (runCmd usbPortStatusSpec (onlyWhen statusClears 0x0603 (usbStatusOp true)) c s)

/-! ### USB_CHARGE_CFG (R308, R309, R315) -/

/-- Setting 9: mode and Rp request of ports 1 to 6 (log entry 11). -/
def storeCharge (s : State) : State :=
  storeSetting 9 (([1, 2, 3, 4, 5, 6] : List (Fin 8)).map (fun n =>
    BitVec.ofNat 8 (s.usb.ports[n].mode.val + 16 * s.usb.ports[n].rpReq.val))) s

def chargeReport (s : State) (n : Fin 8) : List Byte :=
  let p := s.usb.ports[n]
  [BitVec.ofNat 8 p.mode.val, BitVec.ofNat 8 p.rpReq.val, BitVec.ofNat 8 p.role.val, BitVec.ofNat 8 (rpInForce s n)]

def usbChargeCfgSpec : OpSpec :=
  usbSpec 0x0604 (lenIn [0, 4]) (fun s c r => permO r || (isUsbOwner s r && c.payload.isEmpty))
def usbChargeCfgBody (c : Cmd) (s : State) : State :=
  let n := tgUsb c
  let p := c.payload
  if !usbTargetOk s c then fail 0x0604 c stBadArg s
  else if p.isEmpty then ok 0x0604 c (chargeReport s n) s
  else if 4 ≤ byteAt p 0 || 3 ≤ byteAt p 1 || !zeroAt p 2 2 || (byteAt p 1 != 0 && !s.usb.ports[n].flags.getLsbD 1) then
    fail 0x0604 c stBadArg s
  else
    let s := updUsbPort n (fun x => { x with
      mode := ⟨byteAt p 0 % 4, Nat.mod_lt _ (by decide)⟩, rpReq := ⟨byteAt p 1 % 3, Nat.mod_lt _ (by decide)⟩ }) s
    let s := settleEfuses (settleRole (storeCharge s) n)
    ok 0x0604 c (chargeReport s n) s

/-- USB_CHARGE_CFG (R315). -/
def execUsbChargeCfg (c : Cmd) (s : State) : Answer := .next (runCmd usbChargeCfgSpec usbChargeCfgBody c s)

/-! ### Messages of the tunnelled root (R286 to R291) -/

/-- Takes the head message of a USB tunnel when it is of one kind. A broken message of class 7 is discarded (R286); while
fabric port 8 is isolated the message is discarded (Table 13.4); an empty one has no effect (R154). -/
def usbTake (h : HostNo) (tid : Byte) (kind : UsbMessage) (f : Tunnel → List Byte → State → State) (s : State) : State :=
  match findTunnel s h tid with
  | none => s
  | some t =>
    match t.inbox.head? with
    | none => s
    | some m =>
      let is : UsbMessage := if m.broken then .malformed else classifyUsb s t m.bytes
      if !isUsbTunnel t || t.cross.isSome || is != kind then s
      else match takeMessage h tid s with
        | some (m, s) =>
          if m.bytes.isEmpty || s.flt.isolated.getLsbD 8 || (m.broken && t.cls == 7) then s else f t m.bytes s
        | none => s

/-- USB_REQUEST (R289); one for the internal port is the management function's (R303). -/
def execUsbRequest (h : HostNo) (tid : Byte) (s : State) : Answer :=
  runCore (usbTake h tid .request (fun t b s => serveInternal false (runRequest t b s))) s

/-- USB_HUB_REQUEST (R291). -/
def execUsbHubRequest (h : HostNo) (tid : Byte) (s : State) : Answer := runCore (usbTake h tid .hub runHubRequest) s

/-- USB_CANCEL (R290). -/
def execUsbCancel (h : HostNo) (tid : Byte) (s : State) : Answer :=
  runCore (usbTake h tid .cancel (fun t b s => runCancel t.host b s)) s

/-- USB_MALFORMED_MESSAGE (R288). -/
def execUsbMalformedMessage (h : HostNo) (tid : Byte) (s : State) : Answer :=
  runCore (usbTake h tid .malformed runMalformed) s

/-- USB_TRANSFER_DONE (R289, R290, R296). -/
def execUsbTransferDone (h : HostNo) (tid : Byte) (xid : BitVec 16) (status : Byte) (actual : Nat) (data : List Byte)
    (s : State) : Answer :=
  runCore (fun s => match findRequest s h xid.toNat with
    | some r =>
      let iso := umType r.hdr == 1
      let into := umIn r.hdr
      let n := min actual (umLen r.hdr)
      if r.tid != tid || r.phase != .onBus then s
      else if iso && !into then finishUsb r 0 n [] s
      else if iso && status == 2 then finishUsb r 2 0 [] s
      else finishUsb r status.toNat n (if into then padTo n data else []) s
    | none => s) s

/-- The interval of an interrupt request that the device answers with NAK, as the next request of its endpoint gives it;
every microframe where none does (R295; log entry 117). -/
def retryInterval (s : State) (r : UsbRequest) (target : Nat) : Nat :=
  match (s.usb.requests.filter (sameEndpoint r))[1]? with
  | some q => if umAsap q.hdr then 1 else max 1 ((umFrame q.hdr + 16384 - target) % 16384)
  | none => 1

/-- What a microframe does to a periodic request of an external port (R295 to R297): it is issued in its microframe, an
interrupt one that waited for another of its endpoint in the first microframe after that; one that still waits for its port
to resume, for another or for a buffer has missed its interval; an interrupt request on the bus is retried. -/
def stepPeriodic (i : Nat) (s : State) (r : UsbRequest) : State :=
  match r.target with
  | none => s
  | some t =>
    let past := (i + 16384 - t) % 16384
    let interrupt := umType r.hdr == 3
    let early := decide (8192 ≤ past) && r.phase != .onBus
    if isInternal s r || early || !(s.usb.requests.contains r) then s
    else match r.phase with
      | .resuming => finishUsb r 4 0 [] s
      | .scheduled =>
        if isHead s r && ttRoom s r && (interrupt || past == 0) then issueUsb r s
        else if interrupt then (if past = 8191 then setRequest r { r with target := some i } s else s)
        else finishUsb r 4 0 [] s
      | .onBus => if interrupt && past != 0 && past % retryInterval s r t == 0 then putOnBus r s else s

/-- The order in which a port half serves its bulk and control endpoints in a microframe: round-robin, from another endpoint
in each (R289). -/
def roundOf (i : Nat) (rs : List UsbRequest) : List Nat :=
  let k := i % rs.length
  (rs.drop k ++ rs.take k).map (fun r => umXid r.hdr)

/-- The bulk and control requests of every port half are served (R289). -/
def serveRounds (i : Nat) (s : State) : State :=
  ([false, true] : List Bool).foldl (fun s ss => externals.foldl (fun s n =>
    let rs := s.usb.requests.filter (fun r => onHalf ss n r && r.phase == .onBus && r.target.isNone)
    if rs.isEmpty then s else egress (.usbRound ss (BitVec.ofNat 8 n.val) (roundOf i rs)) s) s) s

/-- The ports whose half passes a test, bit n for port n. -/
def portMap (f : Fin 8 → Bool) : Nat := ((allPorts.filter f).map (fun n => 2 ^ n.val)).sum

/-- SOF of a microframe on every enabled high-speed port that is not suspended or in L1, on full-speed ports at a frame
boundary, and an ITP on every SuperSpeedPlus port in U0 (R292). -/
def sendSofs (i : Nat) (s : State) : State :=
  let high (n : Fin 8) : Bool := usbPortOf s false n && stEnabled (usbHalf s false n) && !halfAsleep s false n
  let fast (n : Fin 8) : Bool := (usbHalf s false n).status.getLsbD 10
  let low (n : Fin 8) : Bool := (usbHalf s false n).status.getLsbD 9
  egress (.usbSof i (portMap (fun n => high n && fast n))
    (if i % 8 = 0 then portMap (fun n => high n && !fast n && !low n) else 0)
    (portMap (fun n => usbPortOf s true n && stEnabled (usbHalf s true n) && usbPower true (usbHalf s true n) == 0))) s

/-- Up to `n` packets leave the EP7 IN buffer (R307). -/
def drainLoop : Nat → State → State
  | 0, s => s
  | n + 1, s =>
    match s.usb.waiting[(13 : Fin 16)] with
    | [] => s
    | d :: r => drainLoop n (egress (.usbLoop false d) (updWaiting 13 (fun _ => r) s))

/-- The host takes a free number of packets from EP7 IN in fall-back (log entry 117). -/
def drainSome (s : State) : State :=
  let (n, s) := takeFree 7 s
  drainLoop n.toNat s

/-- The loopback interface in fall-back at a microframe: EP7 IN drains, and EP8 IN sends the packet received two
microframes ago; whether the host asks for one where none is due is a free value, and then data is lost (R305, R307). -/
def loopFallback (i : Nat) (s : State) : State :=
  if !s.usb.mgmtConfig then s
  else
    let s := drainSome s
    match loopIsoDue s i with
    | some d =>
      if carveBytes s 15 = 0 then
        let asked := Config.freeBool s.freeCtr
        let s := { s with freeCtr := s.freeCtr + 1 }
        if asked then egress (.usbLoop true d) s else s
      else egress (.usbLoop true d) s
    | none =>
      let asked := Config.freeBool s.freeCtr
      let s := { s with freeCtr := s.freeCtr + 1 }
      if asked then endpointError 8 s else s

/-- TIME, once each millisecond while the class 2 tunnel is Open (R293). -/
def sendTime (i : Nat) (s : State) : State :=
  match usbTunnel s 2 with
  | some t =>
    if i % 8 = 0 then
      sendMessage t.host t.tid (usbHeader 6 false 0 i 0 ++ leBytes 8 (s.clock.hubTime.toNat / 125000 * 125000)) s
    else s
  | none => s

/-- A microframe boundary on the Xansa link: SOF and ITP, the periodic requests, the rounds, and the management function. -/
def rootMicroframe (i : Nat) (s : State) : State :=
  let s := sendSofs i s
  serveInternal true (serveRounds i (s.usb.requests.foldl (stepPeriodic i) s))

/-- USB_MICROFRAME_BOUNDARY (R292, R293, R307). In fall-back the hub repeats the host's SOF and generates none (R294). -/
def execUsbMicroframeBoundary (s : State) : Answer :=
  runCore (fun s =>
    let i := uframeNow s
    if ownerOnXansa s then sendTime i (dropIsoDue i (if s.usb.presented then rootMicroframe i s else s))
    else if ownerFallback s && s.usb.presented then dropIsoDue i (loopFallback i s)
    else dropIsoDue i s) s

/-! ### Ports (R291, R299 to R302) -/

/-- What a port shows of its bus: nothing connected while it is a DCP, which presents no USB signalling (R308). -/
def seenStatus (s : State) (port : Fin 8) (status : Half) : Half :=
  if s.usb.ports[port].role = 2 then status &&& 0xFFFC else status

/-- USB_PORT_CHANGE (R291): nothing on Night, whose ports stay in state 0 (R392). What a powered port's bus shows; a device that has gone ends its requests. -/
def execUsbPortChange (ss : Bool) (port : Fin 8) (status change : BitVec 16) (s : State) : Answer :=
  runCore (fun s =>
    let x := usbHalf s ss port
    if !usbPortOf s ss port || !stPowered ss x || !upEnabled s.usb.ports[port] || s.flt.isolated.getLsbD 8 || isNight s then s
    else
      let power : Half := BitVec.ofNat 16 (2 ^ powerBit ss)
      let s := updHalf ss port (fun y => { y with status := (seenStatus s port status &&& ~~~ power) ||| power }) s
      let s := updUsbPort port (fun p => { p with overCurrent := status.getLsbD 3 }) s
      let s := if stConnected x && !(seenStatus s port status).getLsbD 0 then endUsb (onHalf ss port) 5 s else s
      setChange ss port change (settleVbus port s)) s

/-- The change bit of a finished resume: C_PORT_SUSPEND, C_PORT_L1, or C_PORT_LINK_STATE. -/
def resumeBit (ss : Bool) (power : Fin 5) : Half := if ss then 0x40 else if power = 1 then 0x20 else 0x04

/-- A port half resumes. -/
def resumeHalf (ss : Bool) (n : Fin 8) (s : State) : State :=
  setChange ss n (resumeBit ss (usbPower ss (usbHalf s ss n))) (setUsbPower ss n 0 s)

/-- USB_REMOTE_WAKE (R301, R302): latched once, reported, and propagated. -/
def execUsbRemoteWake (ss : Bool) (port : Fin 8) (s : State) : Answer :=
  runCore (fun s =>
    if !usbPortOf s ss port || !stEnabled (usbHalf s ss port) || !halfAsleep s ss port then s
    else
      let fresh := !s.usb.ports[port].wake
      let s := updUsbPort port (fun p => if ss then { p with wake := true, wakeChangeS := true }
        else { p with wake := true, wakeChange2 := true }) s
      let s := noteReason s.usb.owner 0x31 s
      let s := if fresh then raise (.uplink s.usb.owner) 41 port.val s else s
      let s := resumeHalf ss port s
      match upOfHost s s.usb.owner with
      | some _ => if ownerFallback s && s.usb.upSuspended then egress .usbUpResume s else s
      | none => s) s

/-- USB_UPSTREAM_SUSPEND (R301). -/
def execUsbUpstreamSuspend (resume : Bool) (s : State) : Answer :=
  runCore (fun s =>
    if ownerFallback s && s.usb.presented then
      raise (.uplink s.usb.owner) 39 (bitNat resume)
        (updUsb (fun u => { u with upSuspended := !resume, upL1 := u.upL1 && !resume }) s)
    else s) s

/-- USB_LPM_TOKEN (R300). -/
def execUsbLpmToken (s : State) : Answer :=
  runCore (fun s =>
    if ownerFallback s && s.usb.presented then
      let ack := ([1, 2, 3, 4, 5, 6] : List (Fin 8)).all (fun n =>
        !usbExternal s n.val || !stEnabled s.usb.halves2[n] || halfAsleep s false n)
      egress (.usbLpm ack) (updUsb (fun u => { u with upL1 := u.upL1 || ack }) s)
    else s) s

/-- One half of a port has resumed: its requests that waited go on (R299). -/
def resumeWaiting (port : Fin 8) (s : State) (ss : Bool) : State :=
  let waits (r : UsbRequest) : Bool := r.phase == .resuming && onHalf ss port r
  if !s.usb.requests.any waits then s
  else
    let s := if halfAsleep s ss port then resumeHalf ss port s else s
    updUsb (fun u => { u with
      requests := u.requests.map (fun r => if waits r then { r with phase := .scheduled } else r) }) s

/-- USB_RESUME_DONE (R299): the requests that waited for the port are issued, a periodic one in its microframe. -/
def execUsbResumeDone (port : Fin 8) (s : State) : Answer :=
  runCore (fun s => serveInternal false (startReady (resumeWaiting port (resumeWaiting port s false) true))) s

/-! ### Charging and Type-C (R308, R310) -/

/-- BC12_DETECTION (R308). -/
def execBc12Detection (port : Fin 8) (kind : BitVec 4) (s : State) : Answer :=
  runCore (fun s =>
    if usbExternal s port.val && (kind == 1 || kind == 2) then
      raise (.uplink s.usb.owner) 42 (16 * kind.toNat + port.val) (updUsbPort port (fun p => { p with detected := kind }) s)
    else s) s

/-- CHARGE_ROLE_CHANGE_DONE (R308). -/
def execChargeRoleChangeDone (port : Fin 8) (s : State) : Answer :=
  runCore (fun s => match s.usb.ports[port].swap with
    | some r => settleVbus port (updUsbPort port (fun p => { p with role := r, swap := none }) s)
    | none => s) s

/-- TYPEC_RD_ATTACH (R310). -/
def execTypecRdAttach (port : Fin 8) (cc2 : Bool) (s : State) : Answer :=
  runCore (fun s =>
    if usbPortOf s true port && s.usb.ports[port].typeC && !s.usb.ports[port].attached then
      raise (.uplink s.usb.owner) 42 (48 + port.val) (settleVbus port
        (updUsbPort port (fun p => { p with attached := true, cc2 := cc2, detected := 3 }) s))
    else s) s

/-- TYPEC_RD_ABSENT (R310). -/
def execTypecRdAbsent (port : Fin 8) (s : State) : Answer :=
  runCore (fun s =>
    if s.usb.ports[port].attached then settleVbus port (updUsbPort port (fun p => { p with attached := false }) s)
    else s) s

/-! ### The management function (R303 to R307) -/

/-- USB_STORAGE_COMMAND (R306): answered with sense key and code, 0 for none, and data. An interface whose command, data
or status endpoint is carved to 0 answers NAK there (R305). -/
def execUsbStorageCommand (p : PciePort) (lun : Byte) (cdb : List Byte) (data : List Byte) (s : State) : Answer :=
  runCore (fun s =>
    if !s.usb.presented then s
    else if carveBytes s (storageEp s p).1 = 0 then egress (.epNak (mgmtUplink s) (storageEp s p).2) s
    else
      let r := storageReply p lun cdb data s
      if (storageReplyEps s p).any (fun i => carveBytes s i == 0) then egress (.epNak (mgmtUplink s) (storageEp s p).2) r.1
      else egress (.usbStorage p r.2.1 r.2.2.1 r.2.2.2) r.1) s

/-- USB_LOOPBACK_PACKET (R305, R307): a bulk packet is held for EP7 IN, from which a free number has left since the packet
before it, or answered NAK; a packet longer than its endpoint takes is babble (log entry 117). -/
def execUsbLoopbackPacket (iso : Bool) (data : List Byte) (s : State) : Answer :=
  runCore (fun s =>
    if !s.usb.presented then s
    else if iso then (if 3072 < data.length then endpointError 8 s else loopIsoIn (uframeNow s) data s)
    else if 1024 < data.length then endpointError 7 s
    else if carveBytes s 12 = 0 then egress (.epNak (mgmtUplink s) 7) s
    else
      let wrong := Config.freeBool s.freeCtr
      let s := { s with freeCtr := s.freeCtr + 1 }
      let r := if wrong then (endpointError 7 s, []) else loopPackets [data] (drainSome s)
      if r.2.isEmpty then r.1 else egress (.epNak (mgmtUplink s) 7) r.1) s

/-! ### The hub in fall-back (R283) -/

/-- The function that a standard, class or vendor request on the upstream bus addresses, by its recipient and wIndex: 0 the
USB 2.0 hub, 1 the SuperSpeedPlus hub, 2 the management function (log entry 53). -/
def requestFunction (s : State) (ss : Bool) (b : List Byte) : Nat :=
  let named := suIndex b == hubPorts s ss
  let mgmt := suClass b == 2 || (suClass b == 1 && suInterface b)
    || (suType b == 0x01 && suReq b == 11 && suIndex b != 0)
    || (suClass b == 0 && named && (suReq b == 6 || suReq b == 8 || suReq b == 9))
  if mgmt then 2 else if ss then 1 else 0

/-- HUB_CLASS_REQUEST (R283, R291, R303). -/
def execHubClassRequest (ss : Bool) (setup : BitVec 64) (data : List Byte) (s : State) : Answer :=
  runCore (fun s =>
    let b := leBytes 8 setup.toNat
    let f := requestFunction s ss b
    let u := mgmtUplink s
    let r := if f = 2 then mgmtControl ss u b data s else if suClass b = 1 then hubRequest ss b s
      else standardRequest ss f b s
    if !ownerFallback s || !s.usb.presented || 49152 < data.length then s
    else answerEp0 u ((byteAt b 0).testBit 7) r) s

end Sys2Proof.Machine
end

