-- ==== Sys2Proof/Machine/Net.lean ====
section
/-! DEFINITION. Meanings of the network group and of what the switch core does (08): port settings, VLANs and addresses, marking, overflow, the resequencer, counters, frames in and out, pauses and timers. -/
namespace Sys2Proof.Machine

/-! ### Targets and permissions (R344) -/

/-- The switch port a target names. -/
def tgSw (c : Cmd) : SwPort := ⟨c.target.toNat % 32 % 18, Nat.mod_lt _ (by decide)⟩
def swTargetOk (c : Cmd) : Bool := decide (c.target.toNat % 32 < 18)

/-- A virtual port of the requester's own. -/
def ownVirtual (c : Cmd) (r : Requester) : Bool := swTargetOk c && (hostOfRequester r).isSome && swHost (tgSw c) == hostOfRequester r
def physicalTarget (c : Cmd) : Bool := decide (c.target.toNat % 32 < 2)

/-- A network command on a switch port. -/
def netSpec (op : Half) (lens : Nat → Bool) (perm : State → Cmd → Requester → Bool) : OpSpec :=
  { op := op, lens := lens, perm := perm, write := fun c => !c.payload.isEmpty, block := fun _ _ => some 8, target := 31, partnerReads := true
    absent := fun s c => swTargetOk c && !swPresent s (tgSw c) }

/-! ### NET_PORT_CFG (R345, R346) -/

/-- Setting 10: the 32 bytes of each physical port (log entry 11). -/
def storeNetPorts (s : State) : State :=
  storeSetting 10 (s.net.ports[(0 : SwPort)].cfg ++ s.net.ports[(1 : SwPort)].cfg) s

/-- Whether pause is resolved for transmit and receive (R333). -/
def pauseResolved (s : State) (e : EthPort) (tx : Bool) : Bool :=
  let x := s.net.ports[swOfEth e]
  ncFlow x == 1 && s.net.eth[e].up
    && (ncIface x != 3 || !ncFlag x 1 || (if tx then s.net.eth[e].pauseTx else s.net.eth[e].pauseRx))

/-- The 40-byte response. -/
def netPortReport (s : State) (p : SwPort) : List Byte :=
  let x := s.net.ports[p]
  x.cfg ++ match ethOf p with
    | some e =>
      [BitVec.ofNat 8 (bitNat s.net.eth[e].up), BitVec.ofNat 8 s.net.eth[e].speed.val,
       BitVec.ofNat 8 (bitNat (s.net.eth[e].up && ncIface x == 1 && ncFlag x 0) + 2 * bitNat (pauseResolved s e true)
         + 4 * bitNat (pauseResolved s e false)), 0] ++ leBytes 2 (headroomOf x) ++ [0, 0]
    | none => [BitVec.ofNat 8 (bitNat (swUp s p)), 0, 0, 0, 0, 0, 0, 0]

/-- Whether a recipient byte names a virtual port of the variant or none. -/
def recipientOk (n : Nat) : Bool := n == 255 || (decide (2 ≤ n) && decide (n < 18))

/-- Whether a byte names a switch port that the variant lacks (R2). -/
def swAbsent (s : State) (n : Nat) : Bool := (List.finRange 18).any (fun p => p.val == n && !swPresent s p)

/-- Whether every field of the payload is in its range and applies to the port's kind (Table 8.7). -/
def netCfgOk (p : SwPort) (b : List Byte) : Bool :=
  let physical := (ethOf p).isSome
  decide (byteAt b 0 ≤ 4) && decide (byteAt b 1 < 128) && decide (byteAt b 2 ≤ 2)
    && decide (1518 ≤ fieldAt b 4 2) && decide (fieldAt b 4 2 ≤ 9216) && decide (fieldAt b 6 2 ≤ 1000)
    && decide (byteAt b 8 ≤ 7) && decide (1 ≤ fieldAt b 10 2) && decide (fieldAt b 10 2 ≤ 4094)
    && decide (fieldAt b 12 2 ≤ 16384) && zeroAt b 14 2 && zeroAt b 30 2
    && (if physical then !(byteAt b 1).testBit 3 && recipientOk (byteAt b 9)
        else zeroAt b 0 1 && decide (byteAt b 1 % 8 = 0) && zeroAt b 2 2 && zeroAt b 6 2 && zeroAt b 9 1)

/-- The port settings with one port's replaced. -/
def portsWith (s : State) (p : SwPort) (b : List Byte) : Vector NetPort 18 := upd s.net.ports p (fun x => { x with cfg := b })

/-- A4 for new port settings at a level, and the pair's formula with them (R342). -/
def admitPorts (s : State) (ports : Vector NetPort 18) (pl : Fin 4) : Bool :=
  admitNet s ports s.tunnels pl && admitPair s ports s.tunnels pl

/-- The new setting takes force; a change of interface or FEC first takes the link down (R345). -/
def applyNetCfg (p : SwPort) (b : List Byte) (s : State) : State :=
  let old := s.net.ports[p]
  let s := match ethOf p with
    | some e => if byteAt b 0 != ncIface old || (byteAt b 1).testBit 0 != ncFlag old 0 then ethDown e s else s
    | none => s
  let s := settleNet (updSw p (fun x => { x with cfg := b }) s)
  if (ethOf p).isSome then storeNetPorts s else s

def netPortCfgSpec : OpSpec :=
  let sp := netSpec 0x0701 (lenIn [0, 32]) (fun _ c r =>
    permO r || (isHost r && c.payload.isEmpty && (physicalTarget c || ownVirtual c r)))
  { sp with absent := fun s c => sp.absent s c || (!c.payload.isEmpty && physicalTarget c && swAbsent s (byteAt c.payload 9)) }
def netPortCfgBody (c : Cmd) (s : State) : State :=
  let p := tgSw c
  let b := c.payload
  let old := s.net.ports[p]
  if !swTargetOk c then fail 0x0701 c stBadArg s
  else if b.isEmpty then ok 0x0701 c (netPortReport s p) s
  else if !netCfgOk p b then fail 0x0701 c stBadArg s
  else if s.variant == .qt9824 && byteAt b 0 == 1 then fail 0x0701 c stNotInVariant s
  else
    let ports := portsWith s p b
    let enables := ncIface old == 0 && byteAt b 0 != 0
    let rises := decide (ifaceRate (ncIface old) < ifaceRate (byteAt b 0))
    if 2048 < headroomOf ports[(0 : SwPort)] + headroomOf ports[(1 : SwPort)]
        || (enables && s.pm.setting[(9 : Fin 12)] == 1) then fail 0x0701 c stNoResource s
    else if rises && !admitPorts s ports s.perf.pl then refuseOrRaise 0x0701 c (admitPorts s ports 2) s
    else
      let s := applyNetCfg p b s
      ok 0x0701 c (netPortReport s p) s

/-- NET_PORT_CFG (R346). -/
def execNetPortCfg (c : Cmd) (s : State) : Answer := .next (runCmd netPortCfgSpec netPortCfgBody c s)

/-! ### NET_VLAN_SET (R347) -/

/-- The VID at bytes 3:2, and whether it is one of 1 to 4,094. -/
def vlanVid (c : Cmd) : Nat := fieldAt c.payload 2 2
def vidOk (n : Nat) : Bool := decide (1 ≤ n) && decide (n ≤ 4094)

/-- Whether a switch port byte names a port, or 0xFF. -/
def swByteOk (n : Nat) : Bool := n == 255 || decide (n < 18)

def vlanSets (c : Cmd) : Bool := byteAt c.payload 0 == 0 && c.payload.length == 12
def vlanSetOp (c : Cmd) (s : State) : State :=
  let m := fieldAt c.payload 4 4
  let u := fieldAt c.payload 8 4
  if !zeroAt c.payload 1 1 || !vidOk (vlanVid c) || 2 ^ 18 ≤ m || 2 ^ 18 ≤ u || u &&& m != u then fail 0x0702 c stBadArg s
  else
    let v : Vlan := if m = 0 then ⟨0, 0⟩ else ⟨BitVec.ofNat 18 m, BitVec.ofNat 18 u⟩
    ok 0x0702 c [] (updNet (fun n => { n with vlans := sparsePut ⟨0, 0⟩ n.vlans (vlanVid c) v }) s)

/-- The address of operations 1 and 2, in wire order. -/
def vlanAddr (c : Cmd) : BitVec 48 := addrOf (c.payload.drop 4)
def sameAddr (a : BitVec 48) (vid : BitVec 12) (e : NetAddr) : Bool := e.addr == a && e.vid == vid

def vlanAdds (c : Cmd) : Bool := byteAt c.payload 0 == 1 && c.payload.length == 12
def vlanAddOp (c : Cmd) (s : State) : State :=
  let a := vlanAddr c
  let vid := BitVec.ofNat 12 (vlanVid c)
  let port := BitVec.ofNat 8 (byteAt c.payload 10)
  let fixed := (s.net.addrs.filter (fun e => e.fixed)).length
  if !zeroAt c.payload 1 1 || !vidOk (vlanVid c) || !zeroAt c.payload 11 1 || !swByteOk (byteAt c.payload 10) then
    fail 0x0702 c stBadArg s
  else match findAddr s a vid with
    | some e =>
      if !e.fixed && decide (1024 ≤ fixed) then fail 0x0702 c stNoResource s
      else ok 0x0702 c [] (updNet (fun n => { n with addrs := n.addrs.map (fun x =>
        if sameAddr a vid x then { x with port := port, fixed := true } else x) }) s)
    | none =>
      if 1024 ≤ fixed then fail 0x0702 c stNoResource s
      else match addrRoom s a vid with
        | some sp =>
          ok 0x0702 c [] (updNet (fun n => { n with addrs := n.addrs ++ [⟨a, vid, port, true, sp, s.clock.hubTime⟩] }) s)
        | none => fail 0x0702 c stNoResource s

def vlanRemoves (c : Cmd) : Bool := byteAt c.payload 0 == 2 && c.payload.length == 12
def vlanRemoveOp (c : Cmd) (s : State) : State :=
  let a := vlanAddr c
  let vid := BitVec.ofNat 12 (vlanVid c)
  if !zeroAt c.payload 1 1 || !vidOk (vlanVid c) || !zeroAt c.payload 11 1 then fail 0x0702 c stBadArg s
  else if s.net.addrs.any (fun e => sameAddr a vid e && e.fixed) then
    ok 0x0702 c [] (updNet (fun n => { n with addrs := n.addrs.filter (fun e => !(sameAddr a vid e && e.fixed)) }) s)
  else fail 0x0702 c stBadArg s

def vlanFlushes (c : Cmd) : Bool := byteAt c.payload 0 == 3 && c.payload.length == 4
def vlanFlushOp (c : Cmd) (s : State) : State :=
  let port := byteAt c.payload 1
  let vid := vlanVid c
  if !swByteOk port || 4094 < vid then fail 0x0702 c stBadArg s
  else
    ok 0x0702 c [] (updNet (fun n => { n with addrs := n.addrs.filter (fun e =>
      e.fixed || !(port == 255 || e.port.toNat == port) || !(vid == 0 || e.vid.toNat == vid)) }) s)

def vlanAges (c : Cmd) : Bool := byteAt c.payload 0 == 4 && c.payload.length == 8
def vlanAgeOp (c : Cmd) (s : State) : State :=
  let t := fieldAt c.payload 4 4
  if !zeroAt c.payload 1 3 || t < 10 || 1000000 < t then fail 0x0702 c stBadArg s
  else ok 0x0702 c [] (updNet (fun n => { n with aging := BitVec.ofNat 32 t }) s)

def vlanReads (c : Cmd) : Bool := byteAt c.payload 0 == 5 && c.payload.length == 4
def vlanReadOp (c : Cmd) (s : State) : State :=
  if !zeroAt c.payload 1 1 || !vidOk (vlanVid c) then fail 0x0702 c stBadArg s
  else
    let v := vlanOf s (BitVec.ofNat 12 (vlanVid c))
    ok 0x0702 c (leBytes 2 (vlanVid c) ++ [0, 0] ++ leBytes 4 v.members.toNat ++ leBytes 4 v.untagged.toNat) s

/-- Whether the members a VLAN is given name a port that the variant lacks (R2). -/
def vlanAbsent (s : State) (c : Cmd) : Bool :=
  (List.finRange 18).any (fun p => (fieldAt c.payload 4 4).testBit p.val && !swPresent s p)

def netVlanSetSpec : OpSpec :=
  { op := 0x0702, lens := lenIn [4, 8, 12], perm := fun _ c r => permO r || (isHost r && byteAt c.payload 0 == 5)
    write := fun c => byteAt c.payload 0 != 5, block := fun _ _ => some 8
    absent := fun s c => (vlanAdds c && swAbsent s (byteAt c.payload 10))
      || (vlanFlushes c && swAbsent s (byteAt c.payload 1)) || (vlanSets c && vlanAbsent s c) }
def netVlanSetBody (c : Cmd) (s : State) : State :=
  if vlanSets c then vlanSetOp c s else if vlanAdds c then vlanAddOp c s else if vlanRemoves c then vlanRemoveOp c s
  else if vlanFlushes c then vlanFlushOp c s else if vlanAges c then vlanAgeOp c s
  else onlyWhen vlanReads 0x0702 vlanReadOp c s

/-- NET_VLAN_SET, operation 0 (R347). -/
def execNetVlanSetVlan (c : Cmd) (s : State) : Answer :=
  .next (runCmd netVlanSetSpec (onlyWhen vlanSets 0x0702 vlanSetOp) c s)
/-- NET_VLAN_SET, operation 1 (R347). -/
def execNetVlanAddStatic (c : Cmd) (s : State) : Answer :=
  .next (runCmd netVlanSetSpec (onlyWhen vlanAdds 0x0702 vlanAddOp) c s)
/-- NET_VLAN_SET, operation 2 (R347). -/
def execNetVlanRemoveStatic (c : Cmd) (s : State) : Answer :=
  .next (runCmd netVlanSetSpec (onlyWhen vlanRemoves 0x0702 vlanRemoveOp) c s)
/-- NET_VLAN_SET, operation 3 (R347). -/
def execNetVlanFlush (c : Cmd) (s : State) : Answer :=
  .next (runCmd netVlanSetSpec (onlyWhen vlanFlushes 0x0702 vlanFlushOp) c s)
/-- NET_VLAN_SET, operation 4 (R347). -/
def execNetVlanAging (c : Cmd) (s : State) : Answer :=
  .next (runCmd netVlanSetSpec (onlyWhen vlanAges 0x0702 vlanAgeOp) c s)
/-- NET_VLAN_SET, operation 5 (R347). -/
def execNetVlanRead (c : Cmd) (s : State) : Answer :=
  .next (runCmd netVlanSetSpec (onlyWhen vlanReads 0x0702 vlanReadOp) c s)

/-! ### NET_MARK_CFG (R348) -/

/-- Setting 11: 8 bytes for each queue of ETH0, then of ETH1: K, limit, marking (log entry 11). -/
def storeNetQueues (s : State) : State :=
  let one (q : NetQueue) : List Byte := leBytes 4 q.k ++ leBytes 2 q.limit ++ [BitVec.ofNat 8 (bitNat q.mark), 0]
  storeSetting 11 (s.net.ports[(0 : SwPort)].queues.toList.flatMap one ++ s.net.ports[(1 : SwPort)].queues.toList.flatMap one) s

/-- The 16-byte response. -/
def netMarkReport (s : State) (p : SwPort) (q : Fin 8) : List Byte :=
  let x := s.net.ports[p].queues[q]
  let k := if (ethOf p).isSome then x.k else 0
  [BitVec.ofNat 8 q.val, BitVec.ofNat 8 (bitNat x.mark), 0, 0] ++ leBytes 4 k ++ leBytes 4 x.limit
    ++ leBytes 4 (queueDepth s x)

def netMarkCfgSpec : OpSpec :=
  { netSpec 0x0703 (lenIn [1, 12]) (fun _ c r => permO r || (isHost r && (c.payload.length == 1 || ownVirtual c r))) with
    write := fun c => c.payload.length != 1 }
def netMarkCfgBody (c : Cmd) (s : State) : State :=
  let p := tgSw c
  let b := c.payload
  let q : Fin 8 := ⟨byteAt b 0 % 8, Nat.mod_lt _ (by decide)⟩
  if !swTargetOk c || 8 ≤ byteAt b 0 then fail 0x0703 c stBadArg s
  else if b.length = 1 then ok 0x0703 c (netMarkReport s p q) s
  else if 2 ≤ byteAt b 1 || !zeroAt b 2 2 || 4194304 < fieldAt b 4 4 || 8192 < fieldAt b 8 4
      || ((ethOf p).isNone && (byteAt b 1 != 0 || fieldAt b 4 4 != 0)) then fail 0x0703 c stBadArg s
  else
    let s := settleNet (updQueue p q (fun x => { x with
      mark := byteAt b 1 == 1
      k := if (ethOf p).isSome then fieldAt b 4 4 else x.k
      limit := fieldAt b 8 4 }) s)
    let s := if (ethOf p).isSome then storeNetQueues s else s
    ok 0x0703 c (netMarkReport s p q) s

/-- NET_MARK_CFG (R348). -/
def execNetMarkCfg (c : Cmd) (s : State) : Answer := .next (runCmd netMarkCfgSpec netMarkCfgBody c s)

/-! ### NET_OVERFLOW_CFG (R336, R349) -/

/-- Setting 12: for each port an enable byte, 0, and its limit in MiB (log entry 11). -/
def storeOverflow (s : State) : State :=
  let one (e : EthState) : List Byte := [BitVec.ofNat 8 (bitNat e.overflow), 0] ++ leBytes 2 e.limitMiB
  storeSetting 12 (one s.net.eth[(0 : EthPort)] ++ one s.net.eth[(1 : EthPort)]) s

/-- The 16-byte response; an incomplete KiB counts as one. -/
def overflowReport (s : State) (e : EthPort) : List Byte :=
  leBytes 4 s.perf.overflowMiB ++ leBytes 4 ((overflowUsed s + 1023) / 1024)
    ++ leBytes 4 ((heldBytes s (swOfEth e) + 1023) / 1024) ++ leBytes 4 (heldEntries s (swOfEth e)).length

/-- The physical port a target names. -/
def tgEth (c : Cmd) : EthPort := ⟨c.target.toNat % 2, Nat.mod_lt _ (by decide)⟩

def overflowSpec : OpSpec := netSpec 0x0704 (lenIn [0, 8]) (fun _ c r => permO r || (isHost r && c.payload.isEmpty))

def overflowPorts (c : Cmd) : Bool := c.payload.isEmpty || byteAt c.payload 0 == 0
def overflowPortOp (c : Cmd) (s : State) : State :=
  let b := c.payload
  let e := tgEth c
  if !physicalTarget c then fail 0x0704 c stBadArg s
  else if b.isEmpty then ok 0x0704 c (overflowReport s e) s
  else if 2 ≤ byteAt b 1 || !zeroAt b 2 2 || 1024 < fieldAt b 4 4 then fail 0x0704 c stBadArg s
  else
    let s := storeOverflow (updEth e (fun x => { x with overflow := byteAt b 1 == 1, limitMiB := fieldAt b 4 4 }) s)
    ok 0x0704 c (overflowReport s e) s

def overflowShrinks (c : Cmd) : Bool := byteAt c.payload 0 == 1
def overflowShrinkOp (c : Cmd) (s : State) : State :=
  let n := fieldAt c.payload 4 4
  if c.target.toNat % 32 != 0 || !zeroAt c.payload 1 3 || n % 64 != 0 || s.perf.overflowMiB < n then fail 0x0704 c stBadArg s
  else if s.net.shrink.isSome then fail 0x0704 c stBusy s
  else startPending 0x0704 c .netShrink (updNet (fun x => { x with shrink := some n })) s

def netOverflowCfgBody (c : Cmd) (s : State) : State :=
  if overflowPorts c then overflowPortOp c s else onlyWhen overflowShrinks 0x0704 overflowShrinkOp c s

/-- NET_OVERFLOW_CFG, operation 0 and the read (R349). -/
def execNetOverflowCfgPort (c : Cmd) (s : State) : Answer :=
  .next (runCmd overflowSpec (onlyWhen overflowPorts 0x0704 overflowPortOp) c s)

/-- NET_OVERFLOW_CFG, operation 1 (R336). -/
def execNetOverflowCfgShrink (c : Cmd) (s : State) : Answer :=
  .next (runCmd overflowSpec (onlyWhen overflowShrinks 0x0704 overflowShrinkOp) c s)

/-- A shrink completes: the size, PB_DRAM_MAP as R54 states, and the final OK. -/
def endShrink (n : Nat) (s : State) : State :=
  let s := updNet (fun x => { x with shrink := none }) (updPerf (fun p => { p with overflowMiB := n }) s)
  let w := 2 ^ 31 + 65536 * (s.perf.stagingMiB / 64) + 256 * (n / 64) + s.perf.frameMiB / 64
  let s := pbWrite s 256 (BitVec.ofNat 32 w)
  finish .netShrink stOk (overflowReport s 0) s

/-- OVERFLOW_SHRINK_DRAINED (R336): the area given up is empty, as it can be once what is held fits the rest. -/
def execOverflowShrinkDrained (s : State) : Answer :=
  runCore (fun s => match s.net.shrink with
    | some n => if overflowUsed s ≤ 1048576 * n then endShrink n s else s
    | none => s) s

/-- Discards one frame that is still in the area given up, or whose place there is open and may be (log entry 61): what
stays fits the new size. -/
def dropGivenUp (n : Nat) (e : EthPort) (q : Fin 8) (s : State) (id : Nat) : State :=
  let stays := Config.freeBool s.freeCtr && decide (overflowUsed s ≤ 1048576 * n)
  let s := { s with freeCtr := s.freeCtr + 1 }
  match stays with
  | true => s
  | false =>
    settleQueue e q (netCount (swOfEth e) 20 1
      (updQueue (swOfEth e) q (fun x => { x with entries := x.entries.filter (fun y => y.frame != id) }) s))

/-- The frames of the port's DRAM in the area given up are discarded (R336). -/
def dropArea (n : Nat) (s : State) (e : EthPort) : State :=
  (List.finRange 8).foldl (fun s q =>
    ((s.net.ports[swOfEth e].queues[q].entries.filter (fun y => y.place != .onDie)).map (fun y => y.frame)).foldl
      (dropGivenUp n e q) s) s

/-- OVERFLOW_SHRINK_TIMEOUT (R336). -/
def execOverflowShrinkTimeout (s : State) : Answer :=
  runCore (fun s => match s.net.shrink with
    | some n =>
      let s := if n < s.perf.overflowMiB then settleNet (([0, 1] : List EthPort).foldl (dropArea n) s) else s
      endShrink n s
    | none => s) s

/-! ### NET_RESEQ_CFG (R350) -/

def reseqBytes (x : EthState) : List Byte :=
  [BitVec.ofNat 8 (bitNat x.reseq), 0] ++ leBytes 2 x.reseqW.toNat ++ leBytes 4 x.reseqUs.toNat

/-- Setting 13 (log entry 11). -/
def storeReseq (s : State) : State :=
  storeSetting 13 (reseqBytes s.net.eth[(0 : EthPort)] ++ reseqBytes s.net.eth[(1 : EthPort)]) s

def netReseqCfgSpec : OpSpec := netSpec 0x0705 (lenIn [0, 8]) (fun _ c r => permO r || (isHost r && c.payload.isEmpty))
def netReseqCfgBody (c : Cmd) (s : State) : State :=
  let b := c.payload
  let e := tgEth c
  let w := fieldAt b 2 2
  let t := fieldAt b 4 4
  if !physicalTarget c then fail 0x0705 c stBadArg s
  else if b.isEmpty then ok 0x0705 c (reseqBytes s.net.eth[e]) s
  else if 2 ≤ byteAt b 0 || !zeroAt b 1 1 || w < 16 || 1024 < w || t < 1 || 10000 < t then fail 0x0705 c stBadArg s
  else
    let s := updEth e (fun x => { x with
      reseq := byteAt b 0 == 1, reseqW := BitVec.ofNat 16 w, reseqUs := BitVec.ofNat 32 t }) s
    let s := storeReseq ((List.finRange 8).foldl (fun s q => settleQueue e q s) s)
    ok 0x0705 c (reseqBytes s.net.eth[e]) s

/-- NET_RESEQ_CFG (R350). -/
def execNetReseqCfg (c : Cmd) (s : State) : Answer := .next (runCmd netReseqCfgSpec netReseqCfgBody c s)

/-! ### NET_COUNTERS (R343, R351) -/

/-- The 196-byte response; the read clears the bitmap. -/
def netCounterReport (s : State) (p : SwPort) : List Byte :=
  s.net.ports[p].counters.toList.flatMap (fun v => leBytes 8 v.toNat) ++ leBytes 4 s.net.ports[p].fired.toNat

def netCountersSpec : OpSpec :=
  netSpec 0x0706 (lenIn [0, 1, 12]) (fun _ c r =>
    permO r || (isHost r && (ownVirtual c r || (physicalTarget c && c.payload.length != 12))))

def netCountsRead (c : Cmd) : Bool := c.payload.isEmpty
def netCountersReadOp (c : Cmd) (s : State) : State :=
  if !swTargetOk c then fail 0x0706 c stBadArg s
  else ok 0x0706 c (netCounterReport s (tgSw c)) (updSw (tgSw c) (fun x => { x with fired := 0 }) s)

def netCountsClear (c : Cmd) : Bool := c.payload.length == 1 && byteAt c.payload 0 == 1
def netCountersClearOp (c : Cmd) (s : State) : State :=
  if !swTargetOk c then fail 0x0706 c stBadArg s
  else
    ok 0x0706 c (netCounterReport s (tgSw c))
      (updSw (tgSw c) (fun x => { x with fired := 0, counters := Vector.replicate 24 0 }) s)

def netCountsThreshold (c : Cmd) : Bool := c.payload.length == 12 && byteAt c.payload 0 == 2
def netCountersThresholdOp (c : Cmd) (s : State) : State :=
  let b := c.payload
  let w := fieldAt b 8 4
  if !swTargetOk c || 24 ≤ byteAt b 1 || !zeroAt b 2 2 || w < 1 || 3600000 < w then fail 0x0706 c stBadArg s
  else
    let k : Fin 24 := ⟨byteAt b 1 % 24, Nat.mod_lt _ (by decide)⟩
    ok 0x0706 c [] (updSw (tgSw c) (fun x => { x with
      thresholds := x.thresholds.set k ⟨BitVec.ofNat 32 (fieldAt b 4 4), BitVec.ofNat 32 w, 0, false⟩ }) s)

def netCountersBody (c : Cmd) (s : State) : State :=
  if netCountsRead c then netCountersReadOp c s else if netCountsClear c then netCountersClearOp c s
  else onlyWhen netCountsThreshold 0x0706 netCountersThresholdOp c s

/-- NET_COUNTERS, length 0 (R351). -/
def execNetCountersRead (c : Cmd) (s : State) : Answer :=
  .next (runCmd netCountersSpec (onlyWhen netCountsRead 0x0706 netCountersReadOp) c s)
/-- NET_COUNTERS, payload 1 (R351). -/
def execNetCountersClear (c : Cmd) (s : State) : Answer :=
  .next (runCmd netCountersSpec (onlyWhen netCountsClear 0x0706 netCountersClearOp) c s)
/-- NET_COUNTERS, a threshold (R351). -/
def execNetCountersThreshold (c : Cmd) (s : State) : Answer :=
  .next (runCmd netCountersSpec (onlyWhen netCountsThreshold 0x0706 netCountersThresholdOp) c s)

/-! ### Frames in and out -/

/-- The PCS errors and RS-FEC codewords that came with a frame: counters 7 to 9, by free numbers, since no row brings them;
an uncorrectable codeword or a PCS error spoils the frame (R343; log entry 120). -/
def countCoding (p : EthPort) (fcsOk : Bool) (s : State) : State :=
  let sp := swOfEth p
  let fec := ncIface s.net.ports[sp] == 1 && ncFlag s.net.ports[sp] 0
  let (a, s) := takeFree 8 s
  let (b, s) := takeFree 8 s
  let (c, s) := takeFree 8 s
  let s := if fcsOk then s else netCount sp 7 a.toNat s
  if !fec then s else netCount sp 8 b.toNat (if fcsOk then s else netCount sp 9 c.toNat s)

/-- ETH_FRAME_RECEIVE (R324): the frame without its FCS, and whether that was good. Day sends it to Night too (R392). -/
def execEthFrameReceive (p : EthPort) (frame : List Byte) (fcsOk : Bool) (s : State) : Answer :=
  runCore (fun s =>
    if s.net.eth[p].up then
      receiveEth p frame fcsOk (countCoding p fcsOk (replicate (.eth p frame fcsOk) frame.length s))
    else s) s

/-- NET_MESSAGE_RECEIVE (R318): the message at the head of a virtual port's tunnel, discarded while both ports of the
core are isolated (Table 13.4). -/
def execNetMessageReceive (h : HostNo) (tid : Byte) (s : State) : Answer :=
  runCore (fun s => match findTunnel s h tid with
    | some t =>
      if isNetTunnel t && t.cross.isNone then
        match takeMessage h tid s with
        | some (m, s) =>
          if engineOut s [9, 10] then s
          else receiveVirtual (virtualPort h t.endpoint.toNat) m.bytes m.broken (!t.guarded) s
        | none => s
      else s
    | none => s) s

/-- Whether a physical port can bring its link up: it exists, is enabled, its fabric port is not isolated, the hub is in
Run, and the chip is not Night (R321, R392, R452, Table 13.4). -/
def linkAllowed (s : State) (p : EthPort) : Bool :=
  swPresent s (swOfEth p) && ncIface s.net.ports[swOfEth p] != 0 && !s.flt.isolated.getLsbD (9 + p.val)
    && s.pm.phase == .run && !isNight s

/-- The speed code of a link: SGMII takes it from the PHY, the others from the interface (R320, R346). -/
def linkSpeed (iface : Nat) (given : BitVec 3) : Fin 6 :=
  if iface = 1 then 5 else if iface = 2 then 4 else if iface = 3 then 3
  else if given = 1 then 1 else if given = 2 then 2 else 3

/-- ETH_LINK_CHANGE (R321). -/
def execEthLinkChange (p : EthPort) (up : Bool) (speed : BitVec 3) (pauseTx pauseRx : Bool) (s : State) : Answer :=
  runCore (fun s =>
    if !up then ethDown p s
    else if linkAllowed s p then
      let was := s.net.eth[p].up
      let s := updEth p (fun x => { x with
        up := true, speed := linkSpeed (ncIface s.net.ports[swOfEth p]) speed, pauseTx := pauseTx, pauseRx := pauseRx }) s
      if was then s else raise .all (ethEvent p) 1 s
    else s) s

/-- NET_EGRESS_SELECT (R329). -/
def execNetEgressSelect (sp : SwPort) (s : State) : Answer := runCore (selectEgress sp) s

/-! ### Pauses and timers -/

/-- PAUSE_REFRESH_TIMEOUT (R334): each unit above XON is sent again. -/
def execPauseRefreshTimeout (p : EthPort) (s : State) : Answer :=
  runCore (fun s => (List.range 8).foldl (fun s u =>
    if s.net.ports[swOfEth p].xoff.getLsbD u then sendPause p u 0xFFFF s else s) s) s

/-- PAUSE_QUANTA_EXPIRY (R333). -/
def execPauseQuantaExpiry (p : EthPort) (prios : Byte) (s : State) : Answer :=
  runCore (updSw (swOfEth p) (fun x => { x with paused := x.paused &&& ~~~prios })) s

/-- Whether T has passed since an entry was last refreshed (R323). -/
def aged (s : State) (e : NetAddr) : Bool :=
  decide (s.net.aging.toNat * 1000000000 ≤ (s.clock.hubTime - e.seen).toNat)

/-- ADDRESS_AGING_TIMEOUT (R323): a dynamic entry that no frame has refreshed for T goes. -/
def execAddressAgingTimeout (addr : BitVec 48) (vid : BitVec 12) (s : State) : Answer :=
  runCore (fun s => updNet (fun n => { n with
    addrs := n.addrs.filter (fun e => !(sameAddr addr vid e && !e.fixed && aged s e)) }) s) s

/-- OVERFLOW_READBACK_DONE (R337, R338): a frame read back is on-die; one that met an uncorrectable error is lost, and its
number missing; one whose number has been given up is discarded in counter 21. Event 47 follows the
last held frame that has been read back (R336). -/
def readbackDone (p : EthPort) (q : Fin 8) (seq : Half) (good : Bool) (s : State) : State :=
  let sp := swOfEth p
  let x := s.net.ports[sp].queues[q]
  match x.entries.find? (fun e => e.seq == seq && e.place == .reading) with
  | none => s
  | some r =>
    let late := decide (32768 ≤ (seq - x.nextRel).toNat)
    let left (es : List NetEntry) : List NetEntry := match good && !late with
      | true => es.map (fun e => if e.frame == r.frame then { e with place := .onDie } else e)
      | false => es.filter (fun e => e.frame != r.frame)
    let s := updQueue sp q (fun x => { x with entries := left x.entries }) s
    let s := if good && late then netCount sp 21 1 s else s
    let s := settleQueue p q (settleNet s)
    if good && (heldEntries s sp).isEmpty then raise .all 47 (256 * p.val) s else s

/-- OVERFLOW_READBACK_DONE (R337). -/
def execOverflowReadbackDone (p : EthPort) (q : Fin 8) (seq : BitVec 16) (good : Bool) (s : State) : Answer :=
  runCore (readbackDone p q seq good) s

/-- RESEQ_TIMEOUT (R338): the missing number is given up, where a later-numbered frame waits for it. -/
def execReseqTimeout (p : EthPort) (q : Fin 8) (s : State) : Answer :=
  runCore (fun s =>
    let x := s.net.ports[swOfEth p].queues[q]
    if s.net.eth[p].reseq && missingNext x && x.entries.any (fun e => e.place == .onDie && decide ((e.seq - x.nextRel).toNat < 32768)) then
      settleQueue p q (giveUp p q s)
    else s) s

/-- NET_COUNTER_WINDOW (R343). -/
def execNetCounterWindow (sp : SwPort) (k : Fin 24) (s : State) : Answer :=
  runCore (updSw sp (fun x => { x with thresholds := upd x.thresholds k (fun t => { t with count := 0, raised := false }) })) s

end Sys2Proof.Machine
end

