-- ==== Sys2Proof/Machine/Can.lean ====
section
/-! DEFINITION. Meanings of the CAN group and of what the signal bridge does (09): port settings, the map, signal reads and writes, legacy routes, frames in and out, schedules, delivery and staleness. -/
namespace Sys2Proof.Machine

/-! ### Specs (R369) -/

/-- A CAN command with target 0. -/
def canSpec (op : Half) (lens : Nat → Bool) (reads : Cmd → Bool) (perm : State → Cmd → Requester → Bool) : OpSpec :=
  { op := op, lens := lens, perm := perm, write := fun c => !reads c, block := fun _ _ => some 9 }

/-- Lengths from `a` to `b`. -/
def lenFrom (a b n : Nat) : Bool := decide (a ≤ n) && decide (n ≤ b)

/-! ### CAN_PORT_CFG (R354, R370) -/

/-- The port a target names. -/
def tgCan (c : Cmd) : CanPort := ⟨c.target.toNat % 2, Nat.mod_lt _ (by decide)⟩

/-- The code of a bus state (event 50). -/
def busCode (b : BusState) : Nat := match b with | .errorActive => 0 | .errorPassive => 1 | .busOff => 2

/-- The 48-byte response. -/
def canPortReport (s : State) (p : CanPort) : List Byte :=
  let x := s.can.ports[p]
  x.setting ++ [BitVec.ofNat 8 (busCode x.bus), x.tecCount, x.recCount, 0] ++ x.counters.toList.flatMap wordBytes

/-- Setting 14: the 16 bytes of each port, as last written (R370; log entry 11). -/
def storeCan (p : CanPort) (b : List Byte) (s : State) : State :=
  let old := match loadSetting s 14 with | .bytes r => r | .unset => zeros 32 | .rejected => zeros 32
  storeSetting 14 (if p = 0 then b ++ old.drop 16 else old.take 16 ++ b) s

def canPortCfgSpec : OpSpec :=
  { op := 0x0801, lens := lenIn [0, 16], perm := fun _ c r => permO r || (isHost r && c.payload.isEmpty)
    write := fun c => !c.payload.isEmpty, block := fun _ _ => some 9, target := 1
    partnerReads := true
    absent := fun s c => !canPresent s (tgCan c) }
def canPortCfgBody (c : Cmd) (s : State) : State :=
  let p := tgCan c
  if c.payload.isEmpty then ok 0x0801 c (canPortReport s p) s
  else if !canSettingOk c.payload then fail 0x0801 c stBadArg s
  else
    let s := storeCan p c.payload (applyCanPort p c.payload s)
    ok 0x0801 c (canPortReport s p) s

/-- CAN_PORT_CFG (R370). -/
def execCanPortCfg (c : Cmd) (s : State) : Answer := .next (runCmd canPortCfgSpec canPortCfgBody c s)

/-! ### CAN_MAP_LOAD (R371) -/

def canMapSpec : OpSpec :=
  canSpec 0x0802 (lenFrom 16 496) (fun c => byteAt c.payload 0 == 4)
    (fun _ c r => permO r || (isHost r && byteAt c.payload 0 == 4))

/-- Whether the payload is 16 bytes whose bytes from `i` on are 0. -/
def bare (i : Nat) (c : Cmd) : Bool := c.payload.length == 16 && zeroAt c.payload i (16 - i)

/-- First index and count of operations 1 and 2, and whether they are well formed: the entries follow from byte 16. -/
def loadFirst (c : Cmd) : Nat := fieldAt c.payload 2 2
def loadCount (c : Cmd) : Nat := fieldAt c.payload 4 2
def loadOk (c : Cmd) (limit : Nat) : Bool :=
  zeroAt c.payload 1 1 && zeroAt c.payload 6 10 && decide (loadCount c ≤ 30)
    && c.payload.length == 16 + 16 * loadCount c && decide (loadFirst c + loadCount c ≤ limit)
def loadEntries (c : Cmd) : List (List Byte) := entriesOf (loadCount c) (c.payload.drop 16)

/-- A table with entries put at successive indices. -/
def putEntries (t : Sparse (List Byte)) : Nat → List (List Byte) → Sparse (List Byte)
  | _, [] => t
  | i, e :: r => putEntries (sparsePut [] t i e) (i + 1) r

def mapBegins (c : Cmd) : Bool := byteAt c.payload 0 == 0
def canMapBeginOp (c : Cmd) (s : State) : State :=
  if !bare 1 c then fail 0x0802 c stBadArg s
  else ok 0x0802 c [] (updCan (fun x => { x with staging := ⟨[], []⟩ }) s)

def mapFrames (c : Cmd) : Bool := byteAt c.payload 0 == 1
def canMapFramesOp (c : Cmd) (s : State) : State :=
  if !loadOk c 256 then fail 0x0802 c stBadArg s
  else ok 0x0802 c [] (updCan (fun x => { x with
    staging := { x.staging with frames := putEntries x.staging.frames (loadFirst c) (loadEntries c) } }) s)

def mapSignals (c : Cmd) : Bool := byteAt c.payload 0 == 2
def canMapSignalsOp (c : Cmd) (s : State) : State :=
  if !loadOk c 1024 then fail 0x0802 c stBadArg s
  else ok 0x0802 c [] (updCan (fun x => { x with
    staging := { x.staging with signals := putEntries x.staging.signals (loadFirst c) (loadEntries c) } }) s)

def mapCommits (c : Cmd) : Bool := byteAt c.payload 0 == 3
def canMapCommitOp (c : Cmd) (s : State) : State :=
  if !bare 2 c || 2 ≤ byteAt c.payload 1 then fail 0x0802 c stBadArg s
  else match mapFault s s.can.staging with
    | some k => respond 0x0802 c stBadArg (leBytes 4 k) s
    | none =>
      let m := s.can.staging
      let keep := byteAt c.payload 1 == 1
      let s := updCan (fun x => { x with mapIsStored := keep }) (commitMap m s)
      ok 0x0802 c [] (if keep then updCan (fun x => { x with stored := some m, storedRoutes := [] }) s else s)

def mapStatus (c : Cmd) : Bool := byteAt c.payload 0 == 4
def canMapReport (s : State) : List Byte :=
  let x := s.can
  leBytes 4 x.generation.toNat ++ leBytes 2 x.map.frames.length ++ leBytes 2 x.map.signals.length
    ++ leBytes 2 x.routes.length ++ [0, 0] ++ wordBytes x.badMessages ++ wordBytes x.badEntries
    ++ leBytes 4 (bitNat x.stored.isSome + 2 * bitNat (!x.storedRoutes.isEmpty) + 4 * bitNat x.mapIsStored)
def canMapStatusOp (c : Cmd) (s : State) : State :=
  if !bare 1 c then fail 0x0802 c stBadArg s else ok 0x0802 c (canMapReport s) s

def canMapBody (c : Cmd) (s : State) : State :=
  if mapBegins c then canMapBeginOp c s else if mapFrames c then canMapFramesOp c s
  else if mapSignals c then canMapSignalsOp c s else if mapCommits c then canMapCommitOp c s
  else onlyWhen mapStatus 0x0802 canMapStatusOp c s

/-- CAN_MAP_LOAD, operation 0 (R371). -/
def execCanMapBegin (c : Cmd) (s : State) : Answer := .next (runCmd canMapSpec (onlyWhen mapBegins 0x0802 canMapBeginOp) c s)
/-- CAN_MAP_LOAD, operation 1 (R371). -/
def execCanMapFrames (c : Cmd) (s : State) : Answer := .next (runCmd canMapSpec (onlyWhen mapFrames 0x0802 canMapFramesOp) c s)
/-- CAN_MAP_LOAD, operation 2 (R371). -/
def execCanMapSignals (c : Cmd) (s : State) : Answer :=
  .next (runCmd canMapSpec (onlyWhen mapSignals 0x0802 canMapSignalsOp) c s)
/-- CAN_MAP_LOAD, operation 3 (R358, R371). -/
def execCanMapCommit (c : Cmd) (s : State) : Answer :=
  .next (runCmd canMapSpec (onlyWhen mapCommits 0x0802 canMapCommitOp) c s)
/-- CAN_MAP_LOAD, operation 4 (R371). -/
def execCanMapStatus (c : Cmd) (s : State) : Answer :=
  .next (runCmd canMapSpec (onlyWhen mapStatus 0x0802 canMapStatusOp) c s)

/-! ### CAN_SIGNAL_READ and CAN_SIGNAL_WRITE (R372, R373) -/

def readFirst (c : Cmd) : Nat := fieldAt c.payload 0 2
def readCount (c : Cmd) : Nat := fieldAt c.payload 2 2

/-- Whether a host is on the HOSTS list of every signal a read names. -/
def mayReadAll (s : State) (c : Cmd) (h : HostNo) : Bool :=
  (List.range (readCount c)).all (fun k => (seHosts (signalAt s.can.map (readFirst c + k))).testBit h.val)

def canSignalReadSpec : OpSpec :=
  canSpec 0x0803 (lenIn [4]) (fun _ => true) (fun s c r =>
    permO r || (match hostOfRequester r with | some h => mayReadAll s c h | none => false))
def canSignalReadBody (c : Cmd) (s : State) : State :=
  if 30 < readCount c || 1024 < readFirst c + readCount c then fail 0x0803 c stBadArg s
  else
    ok 0x0803 c (leBytes 4 s.can.generation.toNat ++ zeros 4
      ++ (List.range (readCount c)).flatMap (fun k => updateEntry s (readFirst c + k) false)) s

/-- CAN_SIGNAL_READ (R372). -/
def execCanSignalRead (c : Cmd) (s : State) : Answer := .next (runCmd canSignalReadSpec canSignalReadBody c s)

/-- Whether every signal that a write's entries name is one its requester writes: a host its own, the owner all but the
LEGACY ones. -/
def mayWriteAll (s : State) (c : Cmd) (r : Requester) : Bool :=
  (entriesOf (min (fieldAt c.payload 4 2) ((c.payload.length - 8) / 16)) (c.payload.drop 8)).all (fun e =>
    let g := signalAt s.can.map (weIndex e)
    match hostOfRequester r with
    | some h => isTx s.can.map g && (seHosts g).testBit h.val
    | none => permO r && !(isTx s.can.map g && seLegacy g))

def canSignalWriteSpec : OpSpec :=
  canSpec 0x0804 (lenFrom 8 488) (fun _ => false) (fun s c r => (permO r || isHost r) && mayWriteAll s c r)
def canSignalWriteBody (c : Cmd) (s : State) : State :=
  let n := fieldAt c.payload 4 2
  let h := hostOfRequester (cmdRequester s c)
  let es := entriesOf n (c.payload.drop 8)
  if 30 < n || !zeroAt c.payload 6 2 || c.payload.length != 8 + 16 * n
      || fieldAt c.payload 0 4 != s.can.generation.toNat then fail 0x0804 c stBadArg s
  else if !es.all (fun e => zeroAt e 2 6 && writeOk s h e) then fail 0x0804 c stBadArg s
  else ok 0x0804 c [] (applyEntries h es s)

/-- CAN_SIGNAL_WRITE (R373). -/
def execCanSignalWrite (c : Cmd) (s : State) : Answer := .next (runCmd canSignalWriteSpec canSignalWriteBody c s)

/-! ### CAN_LEGACY_ROUTE (R374) -/

def canRouteSpec : OpSpec :=
  canSpec 0x0805 (lenFrom 16 496) (fun c => byteAt c.payload 0 == 3)
    (fun _ c r => permO r || (isHost r && byteAt c.payload 0 == 3))

def routesClear (c : Cmd) : Bool := byteAt c.payload 0 == 0
def canRouteClearOp (c : Cmd) (s : State) : State :=
  if !bare 1 c then fail 0x0805 c stBadArg s else ok 0x0805 c [] (updCan (fun x => { x with routes := [] }) s)

def routesLoad (c : Cmd) : Bool := byteAt c.payload 0 == 1
def canRouteLoadOp (c : Cmd) (s : State) : State :=
  let rs := putEntries s.can.routes (loadFirst c) (loadEntries c)
  if !loadOk c 128 || !(loadEntries c).all (routeOk s.can.map) || !routesDistinct rs then fail 0x0805 c stBadArg s
  else ok 0x0805 c [] (updCan (fun x => { x with routes := rs }) s)

def routesStore (c : Cmd) : Bool := byteAt c.payload 0 == 2
def canRouteStoreOp (c : Cmd) (s : State) : State :=
  if !bare 1 c then fail 0x0805 c stBadArg s
  else if !s.can.mapIsStored then fail 0x0805 c stNoResource s
  else ok 0x0805 c [] (updCan (fun x => { x with storedRoutes := x.routes }) s)

def routesRead (c : Cmd) : Bool := byteAt c.payload 0 == 3
def canRouteReadOp (c : Cmd) (s : State) : State :=
  if !zeroAt c.payload 1 1 || !zeroAt c.payload 6 10 || c.payload.length != 16 || 30 < loadCount c
      || 128 < loadFirst c + loadCount c then fail 0x0805 c stBadArg s
  else
    ok 0x0805 c ((List.range (loadCount c)).flatMap (fun k => sparseGet (zeros 16) s.can.routes (loadFirst c + k))) s

def canRouteBody (c : Cmd) (s : State) : State :=
  if routesClear c then canRouteClearOp c s else if routesLoad c then canRouteLoadOp c s
  else if routesStore c then canRouteStoreOp c s else onlyWhen routesRead 0x0805 canRouteReadOp c s

/-- CAN_LEGACY_ROUTE, operation 0 (R374). -/
def execCanLegacyRouteClear (c : Cmd) (s : State) : Answer :=
  .next (runCmd canRouteSpec (onlyWhen routesClear 0x0805 canRouteClearOp) c s)
/-- CAN_LEGACY_ROUTE, operation 1 (R366, R374). -/
def execCanLegacyRouteLoad (c : Cmd) (s : State) : Answer :=
  .next (runCmd canRouteSpec (onlyWhen routesLoad 0x0805 canRouteLoadOp) c s)
/-- CAN_LEGACY_ROUTE, operation 2 (R374). -/
def execCanLegacyRouteStore (c : Cmd) (s : State) : Answer :=
  .next (runCmd canRouteSpec (onlyWhen routesStore 0x0805 canRouteStoreOp) c s)
/-- CAN_LEGACY_ROUTE, operation 3 (R374). -/
def execCanLegacyRouteRead (c : Cmd) (s : State) : Answer :=
  .next (runCmd canRouteSpec (onlyWhen routesRead 0x0805 canRouteReadOp) c s)

/-! ### The bus -/

/-- Whether the bridge is on its buses: in Run, its fabric port in service, and not Night, which takes its frames from Day
(R392, R452, Table 13.4). -/
def canOnBus (s : State) : Bool := s.pm.phase == .run && !s.flt.isolated.getLsbD 11 && !isNight s

/-- CAN_FRAME_RECEIVE (R359). Day sends the frame to Night too (R392). -/
def execCanFrameReceive (p : CanPort) (f : CanFrame) (s : State) : Answer :=
  runCore (fun s =>
    if canOnBus s && (cpMode s.can.ports[p] == 1 || cpMode s.can.ports[p] == 2) then
      receiveCan p f (replicate (.can p f) (8 + f.data.length) s)
    else s) s

/-- CAN_BUS_STATE_CHANGE (R353, R355): the counts that the bus gives the port, and the state that goes with them. Bus-off
ends only by recovery or by CAN_PORT_CFG. -/
def execCanBusStateChange (p : CanPort) (st : BusState) (tec : BitVec 8) (rc : BitVec 8) (s : State) : Answer :=
  runCore (fun s =>
    let x := s.can.ports[p]
    if canOnBus s && canPresent s p && (cpMode x == 1 || cpMode x == 2) && x.bus != .busOff then
      setBus p (busOf st tec rc) tec rc s
    else s) s

/-- CAN_BUS_OFF_RECOVERED (R355): automatic recovery. -/
def execCanBusOffRecovered (p : CanPort) (s : State) : Answer :=
  runCore (fun s =>
    let x := s.can.ports[p]
    if x.bus == .busOff && cpFlag x 1 && (cpMode x == 1 || cpMode x == 2) then setBus p .errorActive 0 0 s else s) s

/-- CAN_PERIOD_DUE (R362): a boundary of the smallest nonzero PERIOD of the frame's signals. -/
def execCanPeriodDue (f : Fin 256) (s : State) : Answer :=
  runCore (fun s => if (signalsOf s.can.map f.val).any (fun x => sePeriod x.2 != 0) then queueFrame f s else s) s

/-- CAN_GAP_EXPIRY (R362). -/
def execCanGapExpiry (f : Fin 256) (s : State) : Answer :=
  runCore (fun s =>
    let t := txState s f.val
    if t.gap then
      let s := setTx f.val (fun _ => ⟨false, false⟩) s
      offerFrame (fePort (frameAt s.can.map f.val)) (if t.held then queueFrame f s else s)
    else s) s

/-- A frame leaves: counter 1, the GAP of its entry, and the next frame is offered. -/
def frameSent (p : CanPort) (s : State) : State :=
  match s.can.ports[p].buffer with
  | none => s
  | some (f, data) =>
    offerFrame p (putCan p f data (updCanPort p (fun x => { x with buffer := none }) s))

/-- CAN_FRAME_SENT (R362): none leaves while the port is off its bus. -/
def execCanFrameSent (p : CanPort) (s : State) : Answer :=
  runCore (fun s => if cpMode s.can.ports[p] == 1 && !canStb s p then frameSent p s else s) s

/-! ### Hosts -/

/-- CAN_DELIVERY_DUE (R360): once the minimum interval has passed. -/
def execCanDeliveryDue (h : HostNo) (sig : Fin 1024) (s : State) : Answer :=
  runCore (fun s => if intervalOver s sig.val (sigState s sig.val).hosts[h] then deliverSigs h [sig.val] s else s) s

/-- CAN_SIGNAL_STALE (R361). -/
def execCanSignalStale (sig : Fin 1024) (s : State) : Answer := runCore (staleSig sig.val) s

/-- CAN_WRITE_MESSAGE (R365): the message at the head of a signal tunnel. A message that lost a packet to the policer is
malformed, and so is an empty one, which has no header (R154); all are discarded while fabric port 11 is isolated
(Table 13.4). -/
def execCanWriteMessage (h : HostNo) (tid : Byte) (s : State) : Answer :=
  runCore (fun s => match findTunnel s h tid with
    | some t =>
      if t.cls == 6 && t.cross.isNone then
        match takeMessage h tid s with
        | some (m, s) =>
          if s.flt.isolated.getLsbD 11 then s
          else if m.broken then updCan (fun c => { c with badMessages := satInc c.badMessages }) s
          else runWrite h m.bytes s
        | none => s
      else s
    | none => s) s

end Sys2Proof.Machine
end

