-- ==== Sys2Proof/Machine/Pairing.lean ====
section
/-! DEFINITION. Meanings of the pairing group and of what a pair does (10): joining, leaving, the loss of the partner, what crosses the bond link, the interlock, signatures and the handover. -/
namespace Sys2Proof.Machine

/-- A pairing command: present on the QT9840 only (R407). -/
def pairSpec (op : Half) (lens : Nat → Bool) : OpSpec :=
  { op := op, lens := lens, perm := fun _ _ r => permO r, write := fun _ => true
    absent := fun s _ => s.variant != .qt9840 }

/-! ### Joining (R381 to R384, R408) -/

/-- The mode and role of a PAIR_JOIN. -/
def joinMode (c : Cmd) : Fin 3 := ⟨byteAt c.payload 0 % 3, Nat.mod_lt _ (by decide)⟩
def joinDay (c : Cmd) : Bool := byteAt c.payload 1 == 1
def joinFieldsOk (c : Cmd) : Bool :=
  let p := c.payload
  (byteAt p 0 == 1 && byteAt p 1 == 0 || byteAt p 0 == 2 && decide (byteAt p 1 < 2)) && decide (byteAt p 2 < 2)
    && zeroAt p 3 5

/-- Order 1 of R381: the bond link Active, and this chip Unpaired, or in state 9 and to be Day in Mirror. -/
def joinAllowed (s : State) (c : Cmd) : Bool :=
  bondActive s && (s.pair.state == 0 || (s.pair.state == 9 && joinMode c == 2 && joinDay c))

/-- A PAIR_JOIN that has posted PENDING ends with BUSY (R381 order 1). -/
def joinBusy (c : Cmd) (s : State) : State :=
  if pendingFull s c then fail 0x0901 c stBusy s
  else fail 0x0901 c stBusy (respondTo c.src c.seq c.tag c.flags 0x0901 stPending true [] s)

def pairJoinSpec : OpSpec := pairSpec 0x0901 (lenIn [8])
def pairJoinBody (c : Cmd) (s : State) : State :=
  if !joinFieldsOk c then fail 0x0901 c stBadArg s
  else if s.pm.setting[(2 : Fin 12)] == 1 then fail 0x0901 c stNoResource s
  else if waitsFor s .pairJoin then fail 0x0901 c stBusy s
  else if !joinAllowed s c then joinBusy c s
  else startPending 0x0901 c .pairJoin (fun s =>
    let s := storePairing (updPair (fun p => { p with
      join := some ⟨joinMode c, joinDay c⟩, autoRejoin := byteAt c.payload 2 == 1 }) s)
    let s := if s.pair.state = 0 then setPairState 1 s else s
    emit (.pairControl 2 (BitVec.ofNat 64 ((joinMode c).val + 4 * bitNat (joinDay c)))) s) s

/-- PAIR_JOIN (R381). -/
def execPairJoin (c : Cmd) (s : State) : Answer := .next (runCmd pairJoinSpec pairJoinBody c s)

/-- A join that does not form the pair ends with a status; a chip that was Joining is Unpaired again. -/
def joinFails (st : Half) (s : State) : State :=
  let s := finish .pairJoin st [] (updPair (fun p => { p with join := none }) s)
  if s.pair.state = 1 then setPairState 0 s else s

/-- PAIR_JOIN_TIMEOUT (R381 order 2). -/
def execPairJoinTimeout (s : State) : Answer :=
  runCore (fun s => if s.pair.join.isSome && (s.pair.state == 1 || s.pair.state == 9) then joinFails stNoResource s else s) s

/-- Night takes Day's profile, and the level it sets as for SYS_PROFILE_SET (R12, R382). -/
def takeProfile (p : Profile) (s : State) : State :=
  if profilePl p = s.perf.pl || plBusy s || !hasConv s then enterProfile p s else startChange (profilePl p) (.profile p) s

/-- The Mirror copy starts: states 5 and 6. Day holds ILK_N, drives and sends its configuration (R382, R396); Night takes
Day's profile, and its ports stay in state 0 (R392). -/
def startMirror (day : Bool) (j : PartnerJoin) (s : State) : State :=
  let s := updPair (fun p => { p with
    ilkDrive := day, bndDay := day, ilkLow := true, mismatches := 0, records := [], streams := [], partnerPl := j.pl }) s
  if day then sendCopy (emit (.pairControl 1 0) (setPairState 5 s))
  else
    let s := disablePortsOf (setPairState 6 s)
    match profileOfCode j.profile.val with | some p => takeProfile p s | none => s

/-- The copy and the timing are aligned: states 7 and 8 (R382, R394). Day holds the interlock line low (R377). -/
def syncDone (s : State) : State :=
  if s.pair.state = 5 then
    finish .pairJoin stOk [] (persistPair [2, 3] (setPairState 7 (updPair (fun p => { p with join := none }) ((List.finRange 4).foldl sendTiming s))))
  else if s.pair.state = 6 then
    finish .pairJoin stOk [] (persistPair [2] (setPairState 8 (updPair (fun p => { p with join := none, ilkLow := true }) s)))
  else s

/-- PAIR_JOIN_MATCHED (R381 orders 3 to 5, R382). -/
def execPairJoinMatched (j : PartnerJoin) (s : State) : Answer :=
  runCore (fun s => match s.pair.join with
    | some q =>
      if !bondActive s || !(s.pair.state == 1 || s.pair.state == 9) then s
      else
        let s := updPair (fun p => { p with partnerPl := j.pl }) s
        match joinChecks s q.mode q.day j with
        | some st => joinFails st s
        | none => if q.mode = 2 then startMirror q.day j s else enterSpan s
    | none => s) s

/-- AUTO_REJOIN (R384): the chip in state 9 is to be Day, the newcomer Night; the newcomer reports Joining. -/
def execAutoRejoin (j : PartnerJoin) (s : State) : Answer :=
  runCore (fun s =>
    if !bondActive s || s.pair.join.isSome then s
    else if s.pair.state = 9 then
      if s.pair.autoRejoin && (joinChecks s 2 true { j with mode := 2, wantsDay := false }).isNone then startMirror true j s
      else s
    else if s.pair.state = 0 then
      let s := setPairState 1 s
      if (joinChecks s 2 false { j with mode := 2, wantsDay := true }).isNone then startMirror false j s
      else setPairState 0 s
    else s) s

/-- MIRROR_SYNC_DONE (R382). -/
def execMirrorSyncDone (s : State) : Answer := runCore syncDone s

/-! ### The partner's hosts (R390) -/

/-- Commands and accesses carried to the partner come to nothing: the commands end with NO_RESOURCE (log entry 27). -/
def dropForwarded (s : State) : State :=
  let ids := s.pair.forwarded.map (fun f => f.id)
  ids.foldl (fun s id => finish (.partner id) stNoResource [] s)
    (updPair (fun p => { p with forwarded := [], held := [], fwd := [], opening := [] }) s)

/-- Every host of the partner is handled as lost, and every cross tunnel is closed. -/
def losePartnerHosts (s : State) : State :=
  let far := ([0, 1, 2, 3] : List HostNo).filter (fun h => (upOfHost s h).isNone)
  let s := far.foldl (fun s h => loseHost h s) s
  (s.tunnels.filter (fun t => t.cross.isSome)).foldl (fun s t => closeTunnel t s) s

/-- Night ends its part of a Mirror pair: Standby tunnels closed, regions freed, every output in mode 0 (R383). -/
def nightLeaves (s : State) : State :=
  let s := (s.tunnels.filter (fun t => t.standby)).foldl (fun s t => closeTunnel t s) s
  let s := (s.disp.regions.map (fun r => r.handle)).foldl (fun s h => freeRegion h s) s
  (List.finRange 4).foldl (fun s o =>
    settleOff o (finish (.displayMode o) stOk [] (updOut o (fun x =>
      trainSink { x with mode := 0, bpc10 := false, change := none, layers := Vector.replicate 4 Layer.reset }) s))) s

/-- The chip is Unpaired after a leave (R383): the roles of the pair end; ILK_N stays as a former Day drives it. A chip that has
not asked to leave itself has been told to by its partner. -/
def leaveDone (s : State) : State :=
  let told := 2 ≤ s.pair.state.val && s.pair.state.val ≤ 8 && s.pair.state != 4 && !partnerGone s
  if s.pair.state != 11 && !told then s
  else
    let f := if s.pair.state = 11 then s.pair.leftFrom else s.pair.state
    let span := f == 2 || f == 3 || f == 4
    let s := if f = 2 ∨ f = 3 then losePartnerHosts (dropForwarded s)
      else if f = 6 ∨ f = 8 ∨ f = 10 then nightLeaves s else s
    let s := movePair 0 s
    let s := if span then leaveQuotas s else s
    finish .pairLeave stOk [] (finish .handover stNoResource [] (finish .pairJoin stNoResource [] (updPair (fun p => { p with
      join := none, records := [], streams := [], selfTest := none, silent := 0, gap := 0, replBytes := 0,
      replHold := false, takeover := false, claimWait := false }) s)))

def pairLeaveSpec : OpSpec := pairSpec 0x0902 (lenIn [0])
def pairLeaveBody (c : Cmd) (s : State) : State :=
  let st := s.pair.state
  if st = 0 then ok 0x0902 c [] s
  else if st = 1 || st = 11 || waitsFor s .pairJoin || waitsFor s .handover then fail 0x0902 c stBusy s
  else startPending 0x0902 c .pairLeave (fun s =>
    let s := setPairState 11 (updPair (fun p => { p with leftFrom := st }) s)
    if st = 4 || partnerGone s then leaveDone s else emit (.pairControl 3 0) s) s

/-- PAIR_LEAVE (R383). -/
def execPairLeave (c : Cmd) (s : State) : Answer := .next (runCmd pairLeaveSpec pairLeaveBody c s)

/-- PAIR_LEAVE_DONE (R383). -/
def execPairLeaveDone (s : State) : Answer := runCore leaveDone s

/-! ### PAIR_STATUS, PAIR_HANDOVER, PAIR_COMPARE_CFG (R403, R409 to R411) -/

def pairStatusSpec : OpSpec :=
  { pairSpec 0x0903 (lenIn [0, 1]) with
    perm := fun _ c r => permO r || (isHost r && c.payload.isEmpty) || permP c r
    write := fun c => !c.payload.isEmpty, block := fun _ _ => some 15 }

def pairReads (c : Cmd) : Bool := c.payload.isEmpty
def pairStatusOp (c : Cmd) (s : State) : State :=
  let s := seeIlk s
  ok 0x0903 c (pairReport s) s

def pairClears (c : Cmd) : Bool := c.payload.length == 1 && byteAt c.payload 0 == 1
def pairStatusClearOp (c : Cmd) (s : State) : State :=
  let s := seeIlk s
  ok 0x0903 c (pairReport s)
    (updLink 2 (fun k => { k with counters := (k.counters.set 0 0).set 5 0 })
      (updPair (fun p => { p with mismatches := 0, transients := 0, selfFails := 0, handovers := 0 }) s))

def pairStatusBody (c : Cmd) (s : State) : State :=
  if pairReads c then pairStatusOp c s else onlyWhen pairClears 0x0903 pairStatusClearOp c s

/-- PAIR_STATUS, length 0 (R411). -/
def execPairStatus (c : Cmd) (s : State) : Answer := .next (runCmd pairStatusSpec (onlyWhen pairReads 0x0903 pairStatusOp) c s)

/-- PAIR_STATUS, payload 1 (R411). -/
def execPairStatusClear (c : Cmd) (s : State) : Answer :=
  .next (runCmd pairStatusSpec (onlyWhen pairClears 0x0903 pairStatusClearOp) c s)

def pairHandoverSpec : OpSpec := pairSpec 0x0904 (lenIn [1])

/-- Either form of PAIR_HANDOVER. A planned one waits for its blanking, unless no output is in a mode. -/
def handoverOp (planned : Bool) (c : Cmd) (s : State) : State :=
  if !isDay s then fail 0x0904 c stPairRole s
  else if waitsFor s .handover then fail 0x0904 c stBusy s
  else if s.pair.state != 7 then fail 0x0904 c stNoResource s
  else startPending 0x0904 c .handover (fun s =>
    if planned && s.disp.outs.toList.any (fun x => x.mode != 0) then s else yieldDay planned s) s

def handsPlanned (c : Cmd) : Bool := byteAt c.payload 0 == 0
def handsAtOnce (c : Cmd) : Bool := byteAt c.payload 0 == 1

def pairHandoverBody (c : Cmd) (s : State) : State :=
  if handsPlanned c then handoverOp true c s else onlyWhen handsAtOnce 0x0904 (handoverOp false) c s

/-- PAIR_HANDOVER, planned (R403). -/
def execPairHandoverPlanned (c : Cmd) (s : State) : Answer :=
  .next (runCmd pairHandoverSpec (onlyWhen handsPlanned 0x0904 (handoverOp true)) c s)

/-- PAIR_HANDOVER, immediate (R403). -/
def execPairHandoverImmediate (c : Cmd) (s : State) : Answer :=
  .next (runCmd pairHandoverSpec (onlyWhen handsAtOnce 0x0904 (handoverOp false)) c s)

def pairCompareSpec : OpSpec := { pairSpec 0x0905 (lenIn [0, 8]) with write := fun c => !c.payload.isEmpty }
def pairCompareBody (c : Cmd) (s : State) : State :=
  let p := c.payload
  if p.isEmpty then ok 0x0905 c s.pair.compareCfg s
  else if 16 ≤ byteAt p 0 || 16 ≤ byteAt p 1 || 16 ≤ byteAt p 2 || !zeroAt p 3 1 || 64 ≤ fieldAt p 4 2 || !zeroAt p 7 1 then
    fail 0x0905 c stBadArg s
  else
    let s := storePairing (updPair (fun x => { x with compareCfg := p }) s)
    ok 0x0905 c s.pair.compareCfg s

/-- PAIR_COMPARE_CFG (R410). -/
def execPairCompareCfg (c : Cmd) (s : State) : Answer := .next (runCmd pairCompareSpec pairCompareBody c s)

/-! ### The partner (R375, R380) -/

/-- BND_PRES_LOW (R375): bring-up of the bond link starts at Detect. -/
def execBndPresLow (s : State) : Answer :=
  runCore (fun s =>
    let s := updPair (fun p => { p with bndPres := true }) s
    startBond s) s

/-- What the loss of the partner does in each pair state (R380, R383, R390, R397). -/
def losePartner (s : State) : State :=
  let st := s.pair.state
  let s := if st = 8 then seeIlk s else s
  if st = 2 || st = 3 then movePair 4 (losePartnerHosts (dropForwarded s))
  else if st = 5 || st = 7 then
    setPairState 9 (finish .handover stNoResource [] (finish .pairJoin stNoResource [] (updPair (fun p => { p with join := none }) s)))
  else if st = 6 then setPairState 10 (finish .pairJoin stNoResource [] (updPair (fun p => { p with join := none }) s))
  else if st = 8 && s.pair.ilkLow then setPairState 10 s
  else if st = 11 then leaveDone s
  else s

/-- PARTNER_LOST (R380): BND_PRES_N high, or the bond link away from Active for 100 ms. -/
def execPartnerLost (presHigh : Bool) (s : State) : Answer :=
  runCore (fun s =>
    if presHigh then losePartner (endLink 2 0 (updPair (fun p => { p with bndPres := false }) s))
    else if bondActive s then s
    else losePartner (if s.links[(2 : LinkNo)].state = 8 then startBringUp 2 s else s)) s

/-! ### What crosses the bond link (R385 to R387, R392) -/

/-- RELAYED_EVENT (R386): delivered with flag bit 18 and the time converted to this chip's hub time. -/
def execRelayedEvent (ev : Fin 64) (hosts : Option (BitVec 2)) (time : BitVec 64) (arg : Word) (s : State) : Answer :=
  runCore (fun s =>
    if !inSpan s then s
    else
      let ms : List MbNo := match hosts with
        | none => ([0, 1, 2, 3] : List MbNo).filter (mailboxExists s)
        | some m => ([0, 1] : List MbNo).filter (fun k => m.getLsbD k.val)
      ms.foldl (deliver ev false true (time - s.pair.timeOffset) arg) s) s

/-- PAIR_TIME_MEASURE (R387). -/
def execPairTimeMeasure (offset : BitVec 64) (s : State) : Answer :=
  runCore (fun s => if inSpan s then updPair (fun p => { p with timeOffset := offset }) s else s) s

/-- The completion of a forwarded window access goes to the host on tunnel 0 (R385). -/
def relayCompletion (f : Forwarded) (payload : List Byte) (s : State) : State :=
  match f.src with
  | .mailbox m =>
    if h : m.val < 2 then
      let count := f.tag.toNat
      let data := if f.opcode = 0x81 then padTo (4 * count) payload else []
      sendZero (hostOnUp s ⟨m.val, h⟩)
        (mgmtHeader 0 count f.seq.toNat f.opcode.toNat true f.off.toNat ++ data) s
    else s
  | .forwarded _ _ => s
  | .mirror _ => s

/-- The partner's engine has answered for a cross tunnel: it is Open where that went well (R388). -/
def openedAcross (id : Nat) (status : Half) (s : State) : State :=
  match s.pair.opening.find? (fun o => o.1 == id) with
  | none => s
  | some o =>
    let s := updPair (fun p => { p with opening := p.opening.filter (fun o => o.1 != id) }) s
    if status = stOk && (findTunnel s o.2.host o.2.tid).isNone then
      noteTunnel o.2.host o.2.tid { s with tunnels := s.tunnels ++ [o.2] }
    else s

/-- A response of the partner to a forwarded command: PENDING, or the final one (R385). -/
def relayAnswer (id : Nat) (final : Bool) (status : Half) (payload : List Byte) (s : State) : State :=
  if final then finish (.partner id) status payload (openedAcross id status s)
  else match s.pend.find? (fun p => p.kind == .partner id) with
    | some p =>
      respondTo p.src p.seq p.tag p.flags p.opcode status true payload
        { s with pend := s.pend.map (fun q => if q.kind == .partner id then { q with posted := true } else q) }
    | none => s

/-- RELAYED_RESPONSE (R385), and Night's answer to a change forwarded to it (R391). -/
def execRelayedResponse (id : Nat) (final : Bool) (status : BitVec 16) (payload : List Byte) (s : State) : Answer :=
  runCore (fun s => match s.pair.forwarded.find? (fun f => f.id == id) with
    | none => if final && isDay s then persistPair [1] (nightApplied id s) else s
    | some f =>
      let s := if final then updPair (fun p => { p with forwarded := p.forwarded.filter (fun g => g.id != id) }) s else s
      if waitsFor s (.partner id) then relayAnswer id final status payload s else relayCompletion f payload s) s

/-- REPLICATED_TRAFFIC (R392): what Day received, as if at Night's own balls. -/
def execReplicatedTraffic (t : Replica) (s : State) : Answer :=
  runCore (fun s =>
    if !isNight s then s
    else match t with
      | .packet u hdr payload =>
        let h := hostOnUp s u
        (match findTunnel s h (tpTid hdr.toNat) with
          | some x => if x.tid != 0 && x.cls == tpClass hdr.toNat then receiveOn h x ⟨hdr, payload, true, true, false⟩ s else s
          | none => s)
      | .eth p frame fcsOk => receiveEth p frame fcsOk s
      | .can p f => receiveCan p f s) s

/-- MIRROR_FORWARD_TIMEOUT (R391): Night yields with a fault; Day stands alone. -/
def execMirrorForwardTimeout (s : State) : Answer :=
  runCore (fun s => if isNight s then nightFails (pairFault 1 0 s) else nightFails s) s

/-! ### The interlock (R396 to R398) -/

/-- ILK_RISE_SEEN (R396): the claim wait starts, afresh at each rise. -/
def execIlkRiseSeen (planned : Bool) (s : State) : Answer :=
  runCore (fun s =>
    let s := updPair (fun p => { p with ilkLow := false }) s
    if s.pair.state = 8 then updPair (fun p => { p with claimWait := true, planned := planned }) s else s) s

/-- ILK_CLAIM_WAIT_EXPIRY (R396): ILK_N is pulled low and BND_DAY set. -/
def execIlkClaimWaitExpiry (s : State) : Answer :=
  runCore (fun s =>
    if s.pair.state = 8 && s.pair.claimWait && !s.pair.ilkLow then
      updPair (fun p => { p with claimWait := false, confirming := true, ilkDrive := true, ilkLow := true, bndDay := true }) s
    else s) s

/-- ILK_CLAIM_CONFIRM (R396, R397): read low, this chip is Day; read high, it yields with a fault. -/
def execIlkClaimConfirm (low : Bool) (s : State) : Answer :=
  runCore (fun s =>
    if !s.pair.confirming then s
    else if low then becomeDay s
    else setPairState 10 (releaseIlk (pairFault 2 7 s))) s

/-- ILK_HIGH_WHILE_DAY (R397). -/
def execIlkHighWhileDay (s : State) : Answer :=
  runCore (fun s => if s.pair.ilkDrive then faultRelease 2 s else s) s

/-- ILK_NO_HOLDER_TIMEOUT (R397): both chips raise event 4 and report an interlock fault. -/
def execIlkNoHolderTimeout (s : State) : Answer :=
  runCore (fun s =>
    if (isDay s || isNight s) && !s.pair.ilkDrive then
      pairFault 2 0 (updPair (fun p => { p with ilkFault := true, ilkLow := true, claimWait := false }) s)
    else s) s

/-- PAIR_WATCHDOG_EXPIRY (R398): it pauses while MB_STATUS.ACTIVATING is set. -/
def execPairWatchdogExpiry (s : State) : Answer :=
  runCore (fun s => if s.activating then s else faultRelease 3 s) s

/-! ### Signatures (R399 to R402) -/

/-- SIGNATURE_BOUNDARY (R400). -/
def execSignatureBoundary (k : SigKey) (s : State) : Answer := runCore (sigBoundary k) s

/-- SIGNATURE_RECORD_RECEIVED (R400). -/
def execSignatureRecordReceived (k : SigKey) (seq : Word) (sig : BitVec 64) (s : State) : Answer :=
  runCore (fun s => if isDay s || isNight s then joinRecord ⟨k, seq, false, sig, false, 0⟩ s else s) s

/-- SIGNATURE_RECORD_TIMEOUT (R400): the partner's record is absent, a mismatch while the bond link is Active. -/
def execSignatureRecordTimeout (k : SigKey) (seq : Word) (s : State) : Answer :=
  runCore (fun s =>
    let mine (r : SigRecord) : Bool := r.key == k && r.seq == seq && r.own
    match s.pair.records.find? mine with
    | some r =>
      let s := dropCompared r (updPair (fun p => { p with records := p.records.filter (fun r => !mine r) }) s)
      if bondActive s && r.counts then mismatch k s else s
    | none => s) s

/-- A mismatch that the partner alone saw, of which only the results reach this chip: its event and its test, of a kind that the
row does not name (R402; log entry 134). -/
def toldMismatch (s : State) : State :=
  let (k, s) := takeFree 2 s
  mismatch ⟨⟨1 + k.toNat % 4, by omega⟩, 0, 0⟩ s

/-- PAIR_SELFTEST_DONE (R402): the verdict of Table 10.5. -/
def execPairSelftestDone (own partner : Bool) (s : State) : Answer :=
  runCore (fun s =>
    let own := own && !injectedAt s 0x15 4
    if s.pair.selfTest.isSome then verdict own partner s
    else if s.pair.state = 7 || s.pair.state = 8 then verdict own partner (toldMismatch s)
    else s) s

/-! ### The handover (R403 to R405) -/

/-- HANDOVER_PLANNED_START (R403). -/
def execHandoverPlannedStart (s : State) : Answer :=
  runCore (fun s => if waitsFor s .handover && s.pair.state == 7 then yieldDay true s else s) s

/-- DAY_PRSNT_RISE (R403). -/
def execDayPrsntRise (s : State) : Answer := runCore (fun s => if s.pair.state = 7 then yieldDay false s else s) s

/-- A Standby tunnel is Open again: both SEQ at 0, credit equal to the buffers, empty buckets (R405). -/
def reopen (now : Dword) (t : Tunnel) : Tunnel :=
  if t.tid == 0 || !t.standby then t
  else
    { t with
      standby := false, silent := false, txSeq := 0, rxSeq := 0, peerCredit := t.hostBuf / 64, granted := t.hubBuf / 64
      freed := 0, release := 0, owed := none, cbHost := 0, ebHost := 0, cbHub := 0, ebHub := 0, polBits := 0, queue := [], held := [], msg := []
      msgUnits := 0, msgTime := now, inMsg := false, msgBroken := false, inbox := [], stalled := false, lastState := 7 }

/-- The hosts that own a layer of some output. -/
def awaitedOwners (s : State) : BitVec 4 :=
  s.disp.outs.toList.foldl (fun m x => x.layers.toList.foldl (fun m l =>
    match hostOfCode l.owner.val with | some h => setBit m h.val true | none => m) m) 0

/-- NEW_DAY_TAKEOVER (R405): event 56, hold with cause 3 on every output with a bound layer, the tunnels Open, with the signals
that are due for them (R360), and the
ports brought up, the USB ports from the state of R284; posted writes held for them are logged with status 5. -/
def execNewDayTakeover (s : State) : Answer :=
  runCore (fun s =>
    if !(isDay s && s.pair.takeover) then s
    else
      let s := updPair (fun p => { p with
        takeover := false, gap := 0, streams := [], silent := awaitedOwners s, handovers := satInc p.handovers
        handoverTime := s.clock.hubTime }) s
      let s := raise .all 56 1 s
      let s := holdOutputs 3 (outMap (fun o => s.disp.outs[o].layers.toList.any (fun l => l.owner != 7))) s
      let back := s.tunnels.filter (fun t => t.standby)
      let s := { s with tunnels := s.tunnels.map (reopen s.clock.hubTime) }
      let s := back.foldl (fun s t => noteTunnel t.host t.tid s) s
      let s := deliverAll (s.can.signals.map Prod.fst) s
      let s := settlePorts (([0, 1] : List PciePort).foldl (fun s p => updPort p (fun x => { x with compared := 0 }) (losePosted p 5 s)) s)
      presentUsb (resetUsbPorts false (updUsb (fun u => { u with requests := [] }) s))) s

/-- LAYER_OWNER_SILENT_TIMEOUT (R405): the owner is handled as lost (R222). -/
def execLayerOwnerSilentTimeout (h : HostNo) (s : State) : Answer :=
  runCore (fun s =>
    if isDay s && s.pair.silent.getLsbD h.val then
      loseHost h (updPair (fun p => { p with silent := setBit p.silent h.val false }) s)
    else s) s

end Sys2Proof.Machine
end

