-- ==== Sys2Proof/Machine/WakeOps.lean ====
section
/-! DEFINITION. Wake sources (12): the sources of Table 12.4, how they are latched, the abort of an entry into Stop, and the start of the wake sequence. -/
namespace Sys2Proof.Machine

def updPm (f : Pm → Pm) (s : State) : State := { s with pm := f s.pm }

/-- A PM_WAKE_CFG field: the enable bits and the active level of each WAKE pin. -/
def wakeEnable (s : State) (k : Nat) : Bool := (byteAt s.pm.wakeCfg 0).testBit k

/-- The enable bit of PM_WAKE_CFG and the bit of the PM_STATUS bitmap of a source that can wake the hub from Stop. -/
def sourceBits (code : Byte) : Option (Nat × Nat) :=
  match code.toNat with
  | 0x01 => some (0, 0) | 0x02 => some (1, 1) | 0x03 => some (2, 2) | 0x04 => some (3, 3)
  | 0x05 => some (4, 4) | 0x06 => some (4, 5)
  | 0x10 => some (5, 6) | 0x11 => some (5, 7) | 0x12 => some (5, 8) | 0x13 => some (5, 9)
  | 0x14 => some (6, 10) | 0x15 => some (6, 11) | 0x20 => some (7, 12)
  | _ => none

/-- Whether PM_WAKE_CFG enables a source. -/
def sourceEnabled (s : State) (code : Byte) : Bool :=
  match sourceBits code with | some (e, _) => wakeEnable s e | none => false

/-- Latches a source: the first counts, and of those of one ref cycle the lowest code (R460). -/
def latchSource (code : Byte) (s : State) : State :=
  let bit := match sourceBits code with | some (_, b) => b | none => 0
  let first := s.pm.sources == 0
  let together := s.pm.wakeTime == s.clock.hubTime && decide (code.toNat < s.pm.lastSource.toNat)
  let last := if first || together then code else s.pm.lastSource
  updPm (fun p => { p with
    sources := setBit p.sources bit true
    lastSource := last
    wakeOwed := p.wakeOwed.map (fun _ => last)
    wakeTime := if first then s.clock.hubTime else p.wakeTime
    noRetention := if first then false else p.noRetention }) s

/-- Starts the wake sequence: Twilight is left and VDD_FAB commanded to the profile's level (Table 12.5 steps 2 and 3). -/
def startWake (s : State) : State :=
  let pl := profilePl s.perf.profile
  let s := updPerf (fun p => { p with pl := pl, change := none }) s
  emits [.pmbus .vddFab 0x01 0x80, .pmbus .vddFab 0x21 (plMv pl)]
    (updPm (fun p => { p with phase := .waking, twilight := false, resumed := false, wakeOwed := some p.lastSource }) s)

/-- The USB ports that entry into Stop suspended are again as they were (R461). -/
def restoreUsb (s : State) : State :=
  let one (s : State) (x : Fin 8 × Bool × Fin 5) : State :=
    egress (.usbResume (BitVec.ofNat 8 x.1.val)) (setUsbPower x.2.1 x.1 x.2.2 s)
  updPm (fun p => { p with usbSlept := [] }) (s.pm.usbSlept.foldl one s)

/-- CAN ports in standby with resume-on-wake return to normal mode (R368). -/
def resumeCan (s : State) : State :=
  ([0, 1] : List CanPort).foldl (fun s p =>
    if cpMode s.can.ports[p] = 3 && cpFlag s.can.ports[p] 7 then wakeCanPort p s else s) s

/-- The blocks come back (Table 12.5 step 7), the uplinks in Deep apart. -/
def resumeBlocks (s : State) : State :=
  let s := ([0, 1] : List PciePort).foldl (fun s p => if portWanted s p then trainPort p s else s) s
  settleUplinks (resumeCan (restoreUsb s))

/-- A source recognised before the point of no return: the entry aborts, the hub is back in Run and raises event 62
(R454; log entry 81). -/
def abortStop (s : State) : State :=
  let code := s.pm.lastSource.toNat
  raise .all 62 code (updateInt (resumeBlocks (updPm (fun p => { p with phase := .run }) s)))

/-- A source as it is recognised, where PM_WAKE_CFG enables it. In Run, only a WAKE pin and a feed change raise event 62
(R456). -/
def recognise (code : Byte) (s : State) : State :=
  if !sourceEnabled s code then s
  else match s.pm.phase with
    | .run => if code.toNat ≤ 4 || code = 0x20 then raise .all 62 code.toNat s else s
    | .entering => abortStop (latchSource code s)
    | .committed => latchSource code s
    | .stop => startWake (latchSource code s)
    | .waking => latchSource code s

/-- The always-on part of the chip: powered, and not held in reset. -/
def aonOn (s : State) : Bool := s.clock.powered && !s.clock.inReset

/-- A source that another row brings with it is recognised as the always-on part sees it: the feed change of event 58, and the
attach of R433 (Table 12.4). -/
def recogniseToo (code : Byte) (s : State) : State :=
  if aonOn s && s.flt.safe.isNone then recognise code s else s

end Sys2Proof.Machine
end

