-- ==== Sys2Proof/Machine/PowerPath.lean ====
section
/-! DEFINITION. Meanings of the power group and of what the power-path shell does (11): settings and status, feeds, hot swap and its retry, eFuse trips, and the USB PD source of each uplink. -/
namespace Sys2Proof.Machine

/-! ### Commands (R439 to R445) -/

/-- A power command with target 0 that a host may only read. -/
def pwrSpec (op : Half) (lens : Nat → Bool) : OpSpec :=
  { op := op, lens := lens, perm := fun _ c r => permO r || (isHost r && c.payload.isEmpty)
    write := fun c => !c.payload.isEmpty, block := fun _ _ => some 11 }

/-- R440: the ranges of PWR_FEED_CFG. -/
def feedCfgOk (p : List Byte) : Bool :=
  decide (byteAt p 0 < 2) && decide (byteAt p 1 < 2) && decide (2 ≤ fieldAt p 2 2) && decide (fieldAt p 2 2 ≤ 20)
    && decide (800 ≤ fieldAt p 4 2) && decide (fieldAt p 4 2 ≤ 5800)
    && decide (1000 ≤ fieldAt p 6 2) && decide (fieldAt p 6 2 ≤ 6400) && decide (fieldAt p 4 2 + 200 ≤ fieldAt p 6 2)
    && decide (10 ≤ fieldAt p 8 4) && decide (fieldAt p 8 4 ≤ 60000) && zeroAt p 12 4

/-- What a change of the feeds does beyond it: a change of the feed in use is also a wake source (Table 12.4). -/
def noteFeed (f : State → State) (s : State) : State :=
  let t := f s
  if t.power.inUse = s.power.inUse then t else recogniseToo 0x20 t

/-- New settings of the feeds are stored and applied to both feeds: one that takes the feed in use out of its window acts as
R415 states (R440). -/
def newFeedCfg (b : List Byte) (s : State) : State :=
  noteFeed (fun s => rewindow (rewindow s .a) .b) (storeSetting 16 b (updPower (fun p => { p with feedCfg := b }) s))

def pwrFeedCfgSpec : OpSpec := pwrSpec 0x0A01 (lenIn [0, 16])
def pwrFeedCfgBody (c : Cmd) (s : State) : State :=
  if c.payload.isEmpty then ok 0x0A01 c s.power.feedCfg s
  else if !feedCfgOk c.payload then fail 0x0A01 c stBadArg s
  else ok 0x0A01 c c.payload (newFeedCfg c.payload s)

/-- PWR_FEED_CFG (R440). -/
def execPwrFeedCfg (c : Cmd) (s : State) : Answer := .next (runCmd pwrFeedCfgSpec pwrFeedCfgBody c s)

/-- R441: the ranges of PWR_HOTSWAP_CFG. -/
def hswCfgOk (p : List Byte) : Bool :=
  let within (i n lo hi : Nat) : Bool := decide (lo ≤ fieldAt p i n) && decide (fieldAt p i n ≤ hi)
  within 0 2 100 10000 && within 2 1 10 50 && within 3 1 6 16 && within 4 2 10 200 && within 6 2 10 10000
    && within 8 2 1 1000 && within 10 2 10 6000 && within 12 1 0 15 && zeroAt p 13 1 && within 14 2 500 5800

def pwrHotswapCfgSpec : OpSpec := pwrSpec 0x0A02 (lenIn [0, 16])
def pwrHotswapCfgBody (c : Cmd) (s : State) : State :=
  if c.payload.isEmpty then ok 0x0A02 c s.power.hswCfg s
  else if !hswCfgOk c.payload then fail 0x0A02 c stBadArg s
  else ok 0x0A02 c c.payload (storeSetting 17 c.payload (updPower (fun p => { p with hswCfg := c.payload }) s))

/-- PWR_HOTSWAP_CFG (R441). -/
def execPwrHotswapCfg (c : Cmd) (s : State) : Answer := .next (runCmd pwrHotswapCfgSpec pwrHotswapCfgBody c s)

/-- R442: a limit of 0, or 100 to 3,500 in steps of 50. -/
def efuseCfgOk (p : List Byte) : Bool :=
  let lim := fieldAt p 0 2
  (lim == 0 || (decide (100 ≤ lim) && decide (lim ≤ 3500) && lim % 50 == 0))
    && decide (10 ≤ fieldAt p 2 2) && decide (fieldAt p 2 2 ≤ 1000) && decide (1 ≤ byteAt p 4) && decide (byteAt p 4 ≤ 100)
    && zeroAt p 5 3

/-- The response of PWR_EFUSE_CFG; the measured current is free. -/
def efuseReport (ch : Fin 6) (s : State) : List Byte × State :=
  let (ma, s) := takeFree 16 s
  let e := s.power.efuses[ch]
  (e.setting ++ [BitVec.ofNat 8 (bitNat e.on + 2 * bitNat e.tripped), 0] ++ leBytes 2 ma.toNat ++ leBytes 4 e.trips.toNat, s)

/-- PWR_EFUSE_CFG arms a tripped channel again (R429): it conducts, where the port it feeds may have VBUS, although the port
reports Powered-off until its host sets PORT_POWER, as after R284. -/
def resumeEfuse (ch : Fin 6) (s : State) : State :=
  if !mayRearm s ch then s
  else
    let s := rearmEfuse ch s
    let n : Fin 8 := ⟨ch.val + 1, by omega⟩
    if usbExternal s n.val && mayDrive s n then updUsbPort n (fun p => { p with vbus := true }) s else s

def pwrEfuseCfgSpec : OpSpec := { pwrSpec 0x0A03 (lenIn [0, 8]) with target := 7 }
def pwrEfuseCfgBody (c : Cmd) (s : State) : State :=
  if h : c.target.toNat % 8 < 6 then
    let ch : Fin 6 := ⟨c.target.toNat % 8, h⟩
    if c.payload.isEmpty then
      let (b, s) := efuseReport ch s
      ok 0x0A03 c b s
    else if !efuseCfgOk c.payload then fail 0x0A03 c stBadArg s
    else
      let s := updPower (fun p => { p with efuses := upd p.efuses ch (fun e => { e with setting := c.payload }) }) s
      let s := storeSetting 18 (s.power.efuses.toList.flatMap (fun e => e.setting)) s
      let s := resumeEfuse ch s
      let s := if fieldAt c.payload 0 2 = 0 && usbExternal s (ch.val + 1) then portOff ⟨ch.val + 1, by omega⟩ s else s
      let (b, s) := efuseReport ch (settlePorts7 s)
      ok 0x0A03 c b s
  else fail 0x0A03 c stBadArg s

/-- PWR_EFUSE_CFG (R442). -/
def execPwrEfuseCfg (c : Cmd) (s : State) : Answer := .next (runCmd pwrEfuseCfgSpec pwrEfuseCfgBody c s)

/-- `n` measured values of 2 bytes each, free (R444). -/
def freeReadings : Nat → State → List Byte × State
  | 0, s => ([], s)
  | n + 1, s =>
    let (v, s) := takeFree 16 s
    let (r, s) := freeReadings n s
    (leBytes 2 v.toNat ++ r, s)

/-- The 48-byte response of PWR_STATUS; what the shell measures is free. -/
def pwrReport (s : State) : List Byte × State :=
  let p := s.power
  let (v, s) := freeReadings 6 s
  let (i, s) := if uplinks s < 2 then (fun (x : List Byte × State) => (x.1 ++ zeros 4, x.2)) (freeReadings 8 s) else freeReadings 10 s
  let flags := bitNat p.pd[0].convAbsent + 2 * bitNat p.pd[1].convAbsent + 4 * bitNat p.pd[0].lockedOut
    + 8 * bitNat p.pd[1].lockedOut
  (leBytes 4 (pwrSts s) ++ v ++ leBytes 4 p.retryMs ++ i ++ leBytes 1 flags ++ zeros 7, s)

def pwrStatusSpec : OpSpec :=
  { pwrSpec 0x0A04 (lenIn [0, 1]) with perm := fun _ c r => permO r || ((isHost r || r == .partner) && c.payload.isEmpty) }
def pwrStatusOp (c : Cmd) (s : State) : State :=
  let (b, s) := pwrReport s
  ok 0x0A04 c b s
def pwrClears (c : Cmd) : Bool := c.payload.length == 1 && byteAt c.payload 0 == 1
def pwrStatusClearOp (c : Cmd) (s : State) : State :=
  let (b, s) := pwrReport s
  ok 0x0A04 c b (updPower (fun p => { p with trip := 0 }) s)
def pwrStatusBody (c : Cmd) (s : State) : State :=
  if c.payload.isEmpty then pwrStatusOp c s else onlyWhen pwrClears 0x0A04 pwrStatusClearOp c s

/-- PWR_STATUS, length 0 (R444). -/
def execPwrStatus (c : Cmd) (s : State) : Answer :=
  .next (runCmd pwrStatusSpec (onlyWhen (fun c => c.payload.isEmpty) 0x0A04 pwrStatusOp) c s)

/-- PWR_STATUS, payload 1 (R444). -/
def execPwrStatusClear (c : Cmd) (s : State) : Answer :=
  .next (runCmd pwrStatusSpec (onlyWhen pwrClears 0x0A04 pwrStatusClearOp) c s)

/-- The uplink a PWR_PD_POLICY names. -/
def tgUp (c : Cmd) : Up := ⟨c.target.toNat % 2, Nat.mod_lt _ (by decide)⟩

/-- R443: the ranges of PWR_PD_POLICY. -/
def pdPolicyOk (p : List Byte) : Bool :=
  (byteAt p 0).testBit 0 && zeroAt p 1 1 && decide (15 ≤ fieldAt p 2 2) && decide (fieldAt p 2 2 ≤ 240)
    && decide (30 ≤ fieldAt p 4 2) && decide (fieldAt p 4 2 ≤ 480)
    && decide (0x08 ≤ byteAt p 6) && decide (byteAt p 6 ≤ 0x77) && byteAt p 6 != 0x40 && zeroAt p 7 1

/-- The 16-byte response. -/
def pdPolicyReport (s : State) (u : Up) : List Byte :=
  let x := s.power.pd[u]
  x.policy ++ (match x.contract with
    | some k => [k.idx, 0, 0, 0] ++ leBytes 2 k.mv ++ leBytes 2 k.ma
    | none => zeros 8)

/-- A policy is stored and takes force: the budget applies to both uplinks (R443), and capabilities go out where they
changed (R436). -/
def setPdPolicy (u : Up) (b : List Byte) (s : State) : State :=
  let budget := (b.drop 4).take 2
  let s := updPower (fun p => { p with
    pd := (p.pd.map (fun (x : PdSource) => { x with policy := x.policy.take 4 ++ budget ++ x.policy.drop 6 })) }) s
  let moved := byteAt b 6 != byteAt s.power.pd[u].policy 6
  let s := updPd u (fun x => { x with policy := b, convAbsent := x.convAbsent && !moved }) s
  let s := if moved then updPerf (fun p => { p with abandoned := p.abandoned.set (⟨u.val + 1, by omega⟩ : Fin 3) 0 }) s else s
  let s := storeSetting 19 (s.power.pd[0].policy ++ s.power.pd[1].policy) s
  policyOffer (otherUp u) (policyOffer u (if moved then emit (.pmbus (.vbus u) 0x27 25) s else s))

def pwrPdPolicySpec : OpSpec :=
  { pwrSpec 0x0A05 (lenIn [0, 8]) with
    target := 1
    absent := fun s c => decide (uplinks s ≤ (tgUp c).val)
    perm := fun s c r => permO r || (r == hostRequester (hostOnUp s (tgUp c)) && c.payload.isEmpty) }
def pwrPdPolicyBody (c : Cmd) (s : State) : State :=
  let u := tgUp c
  if c.payload.isEmpty then ok 0x0A05 c (pdPolicyReport s u) s
  else if !pdPolicyOk c.payload then fail 0x0A05 c stBadArg s
  else
    let s := setPdPolicy u c.payload s
    ok 0x0A05 c (pdPolicyReport s u) s

/-- PWR_PD_POLICY (R443). -/
def execPwrPdPolicy (c : Cmd) (s : State) : Answer := .next (runCmd pwrPdPolicySpec pwrPdPolicyBody c s)

/-- A latched state or a retry time that runs is cleared with the count; where there is neither, nothing changes (R426;
log entry 80). -/
def clearHsw (s : State) : State :=
  if s.power.latched || s.power.retryMs != 0 then
    settleHsw (storeRetry (updPower (fun p => { p with latched := false, retryMs := 0, count := 0 }) s))
  else s

/-- The trip of a channel is cleared; what makes it conduct again is as R429 states. -/
def clearEfuse (s : State) (ch : Fin 6) : State :=
  updPower (fun p => { p with efuses := upd p.efuses ch (fun e => { e with tripped := false }) }) s

/-- A lockout of R435 ends, and an attached uplink gets its 5 V again; where there is none, nothing changes (R426). -/
def clearLockout (u : Up) (s : State) : State :=
  if s.power.pd[u].lockedOut then startFive u (updPd u (fun x => { x with lockedOut := false, faultTimes := [] }) s) else s

def pwrFaultClearSpec : OpSpec :=
  { pwrSpec 0x0A06 (lenIn [2]) with
    perm := fun _ _ r => permO r
    write := fun _ => true
    absent := fun s c => (byteAt c.payload 1).testBit 1 && decide (uplinks s < 2) }
def pwrFaultClearBody (c : Cmd) (s : State) : State :=
  let a := byteAt c.payload 0
  let b := byteAt c.payload 1
  if 128 ≤ a || 4 ≤ b then fail 0x0A06 c stBadArg s
  else
    let s := if a.testBit 0 then clearHsw s else s
    let s := ((List.finRange 6).filter (fun ch => a.testBit (ch.val + 1))).foldl clearEfuse s
    let s := if b.testBit 0 then clearLockout 0 s else s
    ok 0x0A06 c [] (if b.testBit 1 then clearLockout 1 s else s)

/-- PWR_FAULT_CLEAR (R426, R445). -/
def execPwrFaultClear (c : Cmd) (s : State) : Answer := .next (runCmd pwrFaultClearSpec pwrFaultClearBody c s)

/-! ### The shell's start and the feeds (R413 to R417) -/

/-- Whether the retry word holds only what the shell writes there (R519). -/
def retryWordOk (s : State) : Bool :=
  decide ((pbWord s 175).toNat < 2 ^ 20) && decide ((pbWord s 175).toNat % 65536 ≤ 60000)

/-- What a record of the shell gives its settings; one that is unset or rejected leaves the defaults. -/
def shellRecord (n : Nat) (f : List Byte → State → State) (s : State) : State :=
  match loadSetting s n with | .bytes b => f b s | .rejected => s | .unset => s

/-- The stored settings of the shell (R413, R424, R519): a rejected retry word is count 0 with the full retry timer. The
reset that follows logs what was rejected (`checkShell`). -/
def loadShell (s : State) : State :=
  let s := shellRecord 16 (fun b => updPower (fun p => { p with feedCfg := b })) s
  let s := shellRecord 17 (fun b => updPower (fun p => { p with hswCfg := b })) s
  let s := shellRecord 18 (fun b => updPower (fun p => { p with
    efuses := p.efuses.mapFinIdx (fun i e _ => { e with setting := (b.drop (8 * i)).take 8 }) })) s
  let s := shellRecord 19 (fun b s =>
    updPd 0 (fun x => { x with policy := b.take 8 }) (updPd 1 (fun x => { x with policy := b.drop 8 }) s)) s
  let w := (pbWord s 175).toNat
  if retryWordOk s then
    let n := w / 65536
    updPower (fun p => { p with
      count := ⟨n % 16, Nat.mod_lt _ (by decide)⟩, retryMs := w % 65536
      latched := n != 0 && decide (pwRetryLimit p ≤ n) && w % 65536 == 0 }) s
  else updPower (fun p => { p with count := 0, retryMs := pwRetryMs p }) s

/-- SHELL_START (R413, R574): VIN_AON has reached 3.0 V; the core stays in reset until RST_N is released. -/
def execShellStart (s : State) : Answer :=
  .next (if s.power.shell then s
  else
    let s := { s with clock := { s.clock with powered := true, inReset := true, coldNext := true }, power := Power.reset }
    let s := emits (((List.finRange 2).filter (fun (u : Up) => decide (u.val < uplinks s))).map
      (fun u => .pmbus (.vbus u) 0x27 25)) (loadShell s)
    settleHsw s)

/-- What a feed row does. -/
def runFeed (f : State → State) (s : State) : Answer := runShell (noteFeed f) s

/-- FEED_WINDOW_LEAVE (R414, R415): after the filter, the feed's voltage is outside its window. A voltage within it leaves
nothing. -/
def execFeedWindowLeave (f : Feed) (mv : BitVec 16) (s : State) : Answer :=
  runFeed (fun s =>
    if (senseFeed s.power mv.toNat (feedOf s.power f)).inWindow then s
    else if (feedOf s.power f).inWindow then feedLeave f mv.toNat s
    else updPower (fun p => setFeed f (senseFeed p mv.toNat) p) s) s

/-- FEED_WINDOW_ENTER (R414): A_WIN or B_WIN; the 10 ms of qualification begin. A voltage outside the window enters
nothing. -/
def execFeedWindowEnter (f : Feed) (mv : BitVec 16) (s : State) : Answer :=
  runShell (fun s =>
    if (feedOf s.power f).inWindow || !(senseFeed s.power mv.toNat (feedOf s.power f)).inWindow then s
    else updPower (fun p => setFeed f (senseFeed p mv.toNat) p) s) s

/-- FEED_QUALIFIED (R414, R415). -/
def execFeedQualified (f : Feed) (s : State) : Answer :=
  runFeed (fun s =>
    if (feedOf s.power f).inWindow then feedPick (updPower (setFeed f (fun x => { x with qualified := true })) s) else s) s

/-- FEED_RETURN_DELAY_EXPIRY (R415): the outgoing gate is pulled down and the gap begins. -/
def execFeedReturnDelayExpiry (s : State) : Answer :=
  runShell (fun s =>
    let p := s.power
    let want := pwPreferred p
    if pwRevertive p && p.inUse == some (otherFeed want) && (feedOf p want).qualified && p.toFeed.isNone then
      updPower (fun p => { p with toFeed := some want }) s
    else s) s

/-- FEED_GAP_EXPIRY (R416): the incoming gate is driven. -/
def execFeedGapExpiry (s : State) : Answer :=
  runFeed (fun s => match s.power.toFeed with
    | some f => useFeed (some f) (updPower (fun p => { p with toFeed := none }) s)
    | none => s) s

/-- NO_FEED_TIMEOUT (R417). -/
def execNoFeedTimeout (s : State) : Answer :=
  runShell (fun s =>
    if s.power.inUse.isSome then s else gateOff 0 (updPower (fun p => { p with inserted := false }) s)) s

/-! ### Hot swap (R418 to R426) -/

/-- INSERTION_DELAY_EXPIRY (R418). -/
def execInsertionDelayExpiry (s : State) : Answer :=
  runShell (fun s =>
    if s.power.seated && s.power.inUse.isSome then settleHsw (updPower (fun p => { p with inserted := true }) s) else s) s

/-- POWER_GOOD (R420). -/
def execPowerGood (s : State) : Answer :=
  runShell (fun s => if s.power.gate && !s.power.pg then pgRise s else s) s

/-- VBUS_GATE_DELAY_EXPIRY (Table 11.1). -/
def execVbusGateDelayExpiry (s : State) : Answer :=
  runShell (fun s => if s.power.pg then updPower (fun p => { p with vbusGate := true }) s else s) s

/-- POWER_FAIL (R420): PG_OUT falls and the gate stays driven. -/
def execPowerFail (s : State) : Answer :=
  runShell (fun s => if s.power.pg then updPower (fun p => { p with hsw := if p.hsw = 3 then 2 else p.hsw }) (pgFall s) else s) s

/-- FAST_TRIP (R421). -/
def execFastTrip (vds : BitVec 16) (s : State) : Answer :=
  runShell (fun s => if s.power.gate then hswFault 1 vds s else s) s

/-- RAMP_TIMER_EXPIRY (R421). -/
def execRampTimerExpiry (vds : BitVec 16) (s : State) : Answer :=
  runShell (fun s => if s.power.gate && s.power.ramping then hswFault 2 vds s else s) s

/-- HOTSWAP_REGULATION (R419, R421): a gate that is on enters regulation and the ramp timer restarts; regulation that ends
with VDS, in units of 10 mV, below 100 mV stops it. While the gate ramps from its insertion, the timer runs until power-good
(Table 11.4). -/
def execHotswapRegulation (enter : Bool) (vds : BitVec 16) (s : State) : Answer :=
  runShell (fun s =>
    if !s.power.gate then s
    else if enter then updPower (fun p => { p with ramping := true, hsw := if p.inserting then 2 else 4 }) s
    else if s.power.inserting then s
    else if vds.toNat < 10 then updPower (fun p => { p with ramping := false, hsw := if p.pg then 3 else 2 }) s
    else s) s

/-- RETRY_TIMER_EXPIRY (R423). -/
def execRetryTimerExpiry (s : State) : Answer :=
  runShell (fun s =>
    if s.power.retryMs = 0 then s else settleHsw (storeRetry (updPower (fun p => { p with retryMs := 0 }) s))) s

/-- RETRY_STATE_CHECKPOINT (R424): another millisecond of the retry time has passed, and the word is written. -/
def execRetryStateCheckpoint (s : State) : Answer :=
  runShell (fun s =>
    if s.power.retryMs = 0 then s else storeRetry (updPower (fun p => { p with retryMs := max 1 (p.retryMs - 1) }) s)) s

/-- RETRY_COUNT_RESET (R423). -/
def execRetryCountReset (s : State) : Answer :=
  runShell (fun s => if s.power.pg then storeRetry (updPower (fun p => { p with count := 0 }) s) else s) s

/-- PRSNT_REMOVED (R425). -/
def execPrsntRemoved (s : State) : Answer :=
  runShell (fun s => gateOff 0 (updPower (fun p => { p with seated := false, inserted := false }) s)) s

/-- PRSNT_INSERTED (R418, R424): the full insertion delay runs, and the stored retry time from this edge. -/
def execPrsntInserted (s : State) : Answer :=
  runShell (fun s =>
    if s.power.seated then s else settleHsw (updPower (fun p => { p with seated := true, inserted := false }) s)) s

/-! ### eFuse channels (R429) -/

/-- EFUSE_OVERLOAD_TRIP (R429). -/
def execEfuseOverloadTrip (ch : Fin 6) (ma : BitVec 16) (s : State) : Answer := runShell (efuseTrip ch 1 ma) s

/-- EFUSE_SEVERE_TRIP (R429). -/
def execEfuseSevereTrip (ch : Fin 6) (ma : BitVec 16) (s : State) : Answer := runShell (efuseTrip ch 2 ma) s

/-- EFUSE_OFF_TIME_EXPIRY (R429). -/
def execEfuseOffTimeExpiry (ch : Fin 6) (s : State) : Answer :=
  runShell (updPower (fun p => { p with efuses := upd p.efuses ch (fun e => { e with offTime := false }) })) s

/-! ### USB PD sources (R431 to R437) -/

/-- PD_ATTACH (R433, steps 1 and 2): the CC pin and the cable are found, and VBUS goes to 5 V where it may. A converter that
is absent leaves the uplink without Rp, so that no sink attaches (R432). An attachment that lasted through a loss of PG_OUT starts afresh (R437). An attach is also a wake source (Table 12.4). -/
def execPdAttach (u : Up) (cc2 : Bool) (cable : Cable) (s : State) : Answer :=
  runShell (fun s =>
    if uplinks s ≤ u.val || s.power.pd[u].vbus || s.power.pd[u].convAbsent then s
    else
      let s := updLink (linkOfUp u) (fun k => { k with
        cc := if cc2 then 2 else 1, qualified := cable.emarker && cable.speed == 3 }) s
      let s := updPd u (fun x => { x with cable := some cable }) s
      let s := startFive u (if mayVbus s u then updPd u (fun x => { x with vbus := true }) s else s)
      recogniseToo (BitVec.ofNat 8 (0x14 + u.val)) (refreshOffer (otherUp u) s)) s

/-- PD_VBUS_READY (R433, step 3): VBUS is in range, after an attach or after the recovery of a Hard Reset. -/
def execPdVbusReady (u : Up) (s : State) : Answer :=
  runShell (fun s =>
    if pdAttached s u && mayVbus s u && s.power.pd[u].offer.isEmpty then
      let k : Fin 3 := ⟨u.val + 1, by omega⟩
      sendCaps u (updPd u (fun x => { x with vbus := true })
        (updPerf (fun p => { p with abandoned := p.abandoned.set k 0 }) s))
    else s) s

/-- PD_REQUEST (R433, R436): accepted where the offer holds it. -/
def execPdRequest (u : Up) (rq : PdRequest) (s : State) : Answer :=
  runShell (fun s =>
    if !s.power.pd[u].vbus || s.power.pd[u].offer.isEmpty then s
    else match requestFits s.power u rq with
      | some k => emit (.pd u "Accept" []) (updPd u (fun x => { x with accepted := some k, newCaps := false }) s)
      | none => emit (.pd u "Reject" []) s) s

/-- PD_TRANSITION_START (R433, step 4; R434). -/
def execPdTransitionStart (u : Up) (s : State) : Answer :=
  runShell (fun s => match s.power.pd[u].accepted with
    | some k => setConverter u k s
    | none => s) s

/-- PD_TRANSITION_DONE (R433, steps 5 and 6): PS_RDY and event 61; the other uplink's offer follows (R436), and a cable
that does not qualify makes the uplink fall back at once (R101). -/
def execPdTransitionDone (u : Up) (s : State) : Answer :=
  runShell (fun s => match s.power.pd[u].accepted with
    | some k =>
      let first := s.power.pd[u].contract.isNone
      let s := emit (.pd u "PS_RDY" []) (updPd u (fun x => { x with contract := some k, accepted := none }) s)
      let s := refreshOffer (otherUp u) (raise .all 61 (256 * u.val + k.idx.toNat) s)
      let l := s.links[linkOfUp u]
      if first && !l.qualified && l.state == 0 then fallBackOrOwe u s else s
    | none => s) s

/-- PD_PS_RDY_TIMEOUT (R433). -/
def execPdPsRdyTimeout (u : Up) (s : State) : Answer :=
  runShell (fun s => if s.power.pd[u].accepted.isSome then hardReset u true s else s) s

/-- PD_DETACH (R433, R109): the switch opens, the contract is lost, and so is the host. -/
def execPdDetach (u : Up) (s : State) : Answer :=
  runShell (fun s =>
    if !pdAttached s u then s
    else
      let s := dropUplink u 0 (cutVbus u s)
      let s := updPd u (fun x => { x with cable := none, lockedOut := false, faultTimes := [] }) s
      updLink (linkOfUp u) (fun k => { k with cc := 0, qualified := false, suppressed := false, due := 0 }) s) s

/-- PD_HARD_RESET (R433). -/
def execPdHardReset (u : Up) (s : State) : Answer :=
  runShell (fun s => if pdAttached s u then hardReset u false s else s) s

/-- PD_PPS_REQUEST_TIMEOUT (R434). -/
def execPdPpsRequestTimeout (u : Up) (s : State) : Answer :=
  runShell (fun s => match s.power.pd[u].contract with
    | some k => if k.pps then hardReset u true s else s
    | none => s) s

/-- PD_NEW_CAPS_TIMEOUT (R436). -/
def execPdNewCapsTimeout (u : Up) (s : State) : Answer :=
  runShell (fun s => if s.power.pd[u].newCaps then hardReset u true s else s) s

/-- An answer on an uplink's PD port. -/
def pdAnswer (u : Up) (name : String) (objects : List Word) (s : State) : State := emit (.pd u name objects) s

/-- The PDP of an uplink's limit, in W, as Source_Capabilities_Extended carries it. -/
def pdpWord (s : State) (u : Up) : Word := BitVec.ofNat 32 (fieldAt s.power.pd[u].policy 2 2)

/-- Whether an uplink may enter EPR mode: a contract, and an e-marker that declares EPR (Table 11.6). -/
def mayEpr (x : PdSource) : Bool := x.contract.isSome && (match x.cable with | some c => c.emarker && c.epr | none => false)

/-- PD_OTHER_MESSAGE (R431): what Table 11.6 lists is answered, and everything else with Not_Supported. -/
def execPdOtherMessage (u : Up) (msg : PdOther) (s : State) : Answer :=
  runShell (fun s =>
    if !pdAttached s u then s
    else match msg with
      | .getSourceCap => if s.power.pd[u].offer.isEmpty then s else sendCaps u s
      | .getStatus => pdAnswer u "Not_Supported" [] s
      | .getPpsStatus =>
        let (v, s) := takeFree 32 s
        pdAnswer u "PPS_Status" [v] s
      | .softReset => (let s := pdAnswer u "Accept" [] s; if s.power.pd[u].offer.isEmpty then s else sendCaps u s)
      | .eprEnter _ =>
        if mayEpr s.power.pd[u] then
          sendCaps u (pdAnswer u "EPR_Mode Enter_Succeeded" [] (updPd u (fun x => { x with epr := true }) s))
        else pdAnswer u "EPR_Mode Enter_Failed" [] s
      | .eprKeepAlive =>
        if s.power.pd[u].epr then pdAnswer u "EPR_KeepAlive_Ack" [] s else pdAnswer u "Not_Supported" [] s
      | .eprExit =>
        if !s.power.pd[u].epr then pdAnswer u "Not_Supported" [] s
        else if (match s.power.pd[u].contract with | some k => decide (8 ≤ k.idx.toNat) | none => false) then
          hardReset u true s
        else sendCaps u (updPd u (fun x => { x with epr := false }) s)
      | .drSwap => pdAnswer u "Not_Supported" [] s
      | .prSwap => pdAnswer u "Not_Supported" [] s
      | .vconnSwap => pdAnswer u "Not_Supported" [] s
      | .other code =>
        if code = 0x11 then pdAnswer u "Source_Capabilities_Extended" [pdpWord s u] s
        else pdAnswer u "Not_Supported" [] s) s

/-! ### The VBUS converters (R432, R435, R585) -/

/-- PMBUS_ALERT (R435). -/
def execPmbusAlert (u : Up) (s : State) : Answer :=
  runShell (fun s => if decide (u.val < uplinks s) && !s.power.pd[u].convAbsent then converterFault u s else s) s

/-- PMBUS_STATUS_POLL (R435). -/
def execPmbusStatusPoll (u : Up) (faulted : Bool) (s : State) : Answer :=
  runShell (fun s => if faulted && decide (u.val < uplinks s) && !s.power.pd[u].convAbsent then converterFault u s else s) s

end Sys2Proof.Machine
end

