-- ==== Sys2Proof/Machine/ResetOps.lean ====
section
/-! DEFINITION. Resets and the safe state: what each kind of reset keeps (Table 14.9, Table 16.3), how the boot ROM chooses an image (R511, R520), how every stored setting is read back (R519), and the entry into the safe state (R476, R477). -/
namespace Sys2Proof.Machine

/-! ### Images (R510, R511, R520) -/

/-- Whether a kind of image is accepted in the life-cycle state (Table 14.5). The part already scrapped still boots the image
it has (log entry 84). -/
def kindAccepted (s : State) (boot : Bool) (kind : Byte) : Bool :=
  match s.ident.lc with
  | .scrapped => boot && decide (kind.toNat ≤ 1)
  | .returned => decide (kind.toNat ≤ 1)
  | .blank => kind == 0
  | .provisioned => kind == 0
  | .deployed => kind == 0

/-- Why an image is not acceptable, by the reason codes of R512, at a behaviour level. -/
def imageFault (s : State) (boot : Bool) (level : Nat) (i : Image) : Option Nat :=
  if !i.formatOk then some 1
  else if !i.digestOk then some 2
  else if !i.sigOk then some 3
  else if i.stepping != 0xB0 || !i.variants.getLsbD (variantCode s) then some 4
  else if i.secVersion.toNat < s.ident.secVersion.toNat then some 5
  else if level < i.lowest.toNat || i.highest.toNat < level then some 6
  else if !kindAccepted s boot i.kind then some 7
  else none

/-- Setting 1: the pinned level and the lock, 0 where it is unset or rejected (R519 to R521). -/
def pinWord (s : State) : Nat :=
  let w := (pbWord s 4).toNat
  if w < 512 && w % 256 ≤ 4 then w else 0

/-- The level an image would run at: the pinned one, or the highest it supports (R520). -/
def levelFor (s : State) (i : Image) : Nat := if pinWord s % 256 = 0 then i.highest.toNat else pinWord s % 256

/-- Whether the boot ROM takes the image of a slot. -/
def bootable (s : State) (n : Fin 2) : Option Image :=
  match s.fw.slots[n].image with
  | some i => if (imageFault s true (levelFor s i) i).isNone then some i else none
  | none => none

/-- The active slot's image, and otherwise the other's. Without one, READY stays clear (R511). -/
def boot (s : State) : State :=
  let a := s.fw.active
  match bootable s a, bootable s (if a = 0 then 1 else 0) with
  | some i, _ => { s with fw := { s.fw with running := i, level := BitVec.ofNat 3 (levelFor s i), bootFail := false } }
  | none, some i => { s with fw := { s.fw with running := i, level := BitVec.ofNat 3 (levelFor s i), bootFail := false } }
  | none, none => { s with fw := { s.fw with bootFail := true } }

/-! ### Stored settings (R519) -/

/-- Applies a stored record, or logs its rejection. -/
def withSetting (n : Nat) (f : List Byte → State → State) (s : State) : State :=
  match loadSetting s n with
  | .bytes b => f b s
  | .rejected => logFault 0x0D n {} s
  | .unset => s

/-- The DRAM map of R51 in units of 64 MiB: frame store, overflow, staging. -/
def mapDefault (v : Variant) : Nat × Nat × Nat :=
  match v with | .qt9840 => (64, 16, 8) | .qt9824 => (24, 8, 8) | .qt9812 => (0, 16, 8)

/-- PB_DRAM_MAP, checked as R52 states. -/
def loadMap (s : State) : State :=
  let w := (pbWord s 256).toNat
  let cap := capacityMiB s / 64
  let put (m : Nat × Nat × Nat) (s : State) : State :=
    { s with
      perf := { s.perf with frameMiB := 64 * m.1, overflowMiB := 64 * m.2.1, stagingMiB := 64 * m.2.2 }
      worlds := { s.worlds with region := regionsOf m.1 m.2.1 m.2.2 cap } }
  if !w.testBit 31 then put (mapDefault s.variant) s
  else
    let f := bitsOf w 0 8
    let o := bitsOf w 8 8
    let g := bitsOf w 16 8
    if 64 < f || 16 < o || 8 < g || cap < 4 + f + o + g then logFault 0x0D 2 {} (put (mapDefault s.variant) s)
    else put (f, o, g) s

/-- PB_FAB_CONV: whether a converter supplies VDD_FAB, and its address. -/
def loadConv (s : State) : State :=
  let w := (pbWord s 257).toNat
  let a := w % 128
  let taken := ([0, 1] : List Up).any (fun u => decide (u.val < uplinks s) && byteAt s.power.pd[u].policy 6 == a)
  if !w.testBit 31 then updPerf (fun p => { p with fabConv := true, fabAddr := 0x40 }) s
  else if a < 0x08 || 0x77 < a || taken then
    logFault 0x0D 3 {} (updPerf (fun p => { p with fabConv := true, fabAddr := 0x40 }) s)
  else updPerf (fun p => { p with fabConv := w.testBit 8, fabAddr := BitVec.ofNat 7 a }) s

/-- The starting profile and the commands to the converter (R11, R34, R575). A DRAM wipe at PL2 or PL3 runs at PL1, and the
profile's level is restored after it (R508). -/
def startLevel (keep : Option Profile) (s : State) : State :=
  let p := match keep with
    | some k => if s.perf.fabConv then k else defaultProfile s.variant
    | none => defaultProfile s.variant
  let pl := profilePl p
  let s := updPerf (fun x => { x with
    profile := p, pl := pl, change := if x.fabConv then some ⟨pl, pl, .start⟩ else none }) s
  if s.perf.fabConv then
    let wipe : List Emit := if 2 ≤ pl.val then [.pmbus .vddFab 0x21 (plMv 1), .pmbus .vddFab 0x21 (plMv pl)] else []
    emits ([.pmbus .vddFab 0x27 1, .pmbus .vddFab 0x21 (plMv pl), .pmbus .vddFab 0x01 0x80] ++ wipe) s
  else s

/-- The world tables (R498, R503): settings 4 and 5. -/
def loadWorlds (s : State) : State :=
  let s := withSetting 4 (fun b s =>
    let ws := bytesToWords 32 b
    { s with worlds := { s.worlds with block := Vector.ofFn (fun i => (ws[i.val]?).getD 0) } }) s
  withSetting 5 (fun b s =>
    let entry (i : Nat) (e : RegionEntry) : RegionEntry :=
      let v := byteAt b (i / 2) / (if i % 2 = 0 then 1 else 16) % 16
      if e.purpose = 4 then { e with secure := decide (8 ≤ v), assignee := ⟨v % 8, Nat.mod_lt _ (by decide)⟩ } else e
    { s with worlds := { s.worlds with region := s.worlds.region.mapFinIdx (fun i e _ => entry i e) } }) s

/-- PCIe ports, the split in force, slot numbers: setting 6 (R245, R250, R276). -/
def loadPcie (s : State) : State :=
  let s := withSetting 6 (fun b s =>
    let port (i : Nat) (x : PciePortState) : PciePortState := { x with
      assigned := if byteAt b (3 * i) < 4 then some ⟨byteAt b (3 * i) % 4, Nat.mod_lt _ (by decide)⟩ else none
      maxRate := BitVec.ofNat 3 (byteAt b (3 * i + 1)), flags := BitVec.ofNat 5 (byteAt b (3 * i + 2))
      slotNo := BitVec.ofNat 13 (fieldAt b (7 + 2 * i) 2) }
    let split := byteAt b 6 == 1 && s.variant == .qt9840
    { s with pcie := { s.pcie with
      ports := s.pcie.ports.mapFinIdx (fun i x _ => port i x), split := split, splitNext := byteAt b 6 == 1 } }) s
  mirrorSlot 1 (mirrorSlot 0 s)

/-- The USB owner, policy, port flags, carve and charging: settings 7, 8 and 9, and the roles these give (R280, R304,
R308, R312, R315). -/
def loadUsb (s : State) : State :=
  let s := withSetting 7 (fun b s =>
    let named : HostNo := ⟨byteAt b 0 % 4, by omega⟩
    let flags (i : Nat) : BitVec 6 := BitVec.ofNat 6 (byteAt b (i + 1))
    updUsb (fun u => { u with
      named := named, owner := named, policy := ⟨byteAt b 1 % 2, Nat.mod_lt _ (by decide)⟩
      ports := u.ports.mapFinIdx (fun i p _ => if 1 ≤ i && i ≤ 6 then
        { p with flags := flags i, typeC := (flags i).getLsbD 1, removable := (flags i).getLsbD 5 } else p) }) s) s
  let s := withSetting 8 (fun b s => updUsb (fun u => { u with carve := b, carveNext := b }) s) s
  settlePorts7 (withSetting 9 (fun b s => updUsb (fun u => { u with
    ports := u.ports.mapFinIdx (fun i p _ => if 1 ≤ i && i ≤ 6 then
      { p with mode := ⟨byteAt b (i - 1) % 4, Nat.mod_lt _ (by decide)⟩
               rpReq := ⟨byteAt b (i - 1) / 16 % 3, Nat.mod_lt _ (by decide)⟩ } else p) }) s) s)

/-- The Ethernet ports, their queues, overflow and resequencers: settings 10 to 13 (R345). -/
def loadNet (s : State) : State :=
  let s := withSetting 10 (fun b s => updSw 0 (fun x => { x with cfg := b.take 32 })
    (updSw 1 (fun x => { x with cfg := b.drop 32 }) s)) s
  let s := withSetting 11 (fun b s =>
    let queue (base : Nat) (i : Nat) (q : NetQueue) : NetQueue :=
      let a := base + 8 * i
      { q with k := fieldAt b a 4, limit := fieldAt b (a + 4) 2, mark := byteAt b (a + 6) == 1 }
    let port (base : Nat) (x : NetPort) : NetPort :=
      { x with queues := x.queues.mapFinIdx (fun i q _ => queue base i q) }
    updSw 0 (port 0) (updSw 1 (port 64) s)) s
  let s := withSetting 12 (fun b s =>
    let eth (i : Nat) (x : EthState) : EthState :=
      { x with overflow := byteAt b (4 * i) == 1, limitMiB := fieldAt b (4 * i + 2) 2 }
    { s with net := { s.net with eth := s.net.eth.mapFinIdx (fun i x _ => eth i x) } }) s
  let s := if s.fw.level.toNat ≤ 3 then
      { s with net := { s.net with eth := s.net.eth.map (fun x => { x with reseqUs := 50 }) } }
    else s
  withSetting 13 (fun b s =>
    let eth (i : Nat) (x : EthState) : EthState :=
      { x with reseq := byteAt b (8 * i) == 1, reseqW := BitVec.ofNat 16 (fieldAt b (8 * i + 2) 2)
               reseqUs := BitVec.ofNat 32 (fieldAt b (8 * i + 4) 4) }
    { s with net := { s.net with eth := s.net.eth.mapFinIdx (fun i x _ => eth i x) } }) s

/-- The CAN ports and the stored map and routes (R356, R370, R371): setting 14 and the flash. -/
def loadCan (s : State) : State :=
  commitStored (withSetting 14 (fun b s =>
    updCanPort 0 (fun x => { x with setting := b.take 16 }) (updCanPort 1 (fun x => { x with setting := b.drop 16 }) s)) s)

/-- Auto-rejoin and the comparison setting: setting 15 (R384, R410). -/
def loadPair (s : State) : State :=
  withSetting 15 (fun b s => updPair (fun p => { p with
    autoRejoin := byteAt b 0 == 1, compareCfg := (b.drop 1).take 8 }) s) s

/-- Setting 23: the Stop entries and the brown-out starts (log entry 82). -/
def storePm (s : State) : State := storeSetting 23 (wordBytes s.pm.stops ++ wordBytes s.pm.brownOuts) s

/-- The wake setting, the parks and the counters: settings 21 to 23 (R465, R467, R468). A brown-out start sets the flag and
counts (R455). -/
def loadPm (s : State) : State :=
  let s := withSetting 21 (fun b s => updPm (fun p => { p with wakeCfg := b }) s) s
  let s := withSetting 22 (fun b s => updPm (fun p => { p with
    setting := p.setting.mapFinIdx (fun i v _ => if (fieldAt b 0 4).testBit i then 1 else v)
    island := p.island.mapFinIdx (fun i v _ => if (fieldAt b 0 4).testBit i then 2 else v) }) s) s
  let s := withSetting 23 (fun b s => updPm (fun p => { p with
    stops := BitVec.ofNat 32 (fieldAt b 0 4), brownOuts := BitVec.ofNat 32 (fieldAt b 4 4) }) s) s
  if s.pm.brownNote then
    storePm (updPm (fun p => { p with
      brownNote := false, brownOut := true, brownOuts := satInc p.brownOuts, brownEvent := true }) s)
  else s

/-- The scrub periods: setting 24 (R494). -/
def loadScrub (s : State) : State :=
  let w := (pbWord s 185).toNat
  let ms := w % 256
  let dh := w / 65536
  if w = 0 then s
  else if 1 ≤ ms && ms ≤ 10 && w / 256 % 256 == 0 && 10 ≤ dh && dh ≤ 240 then
    updFlt (fun f => { f with scrub := { f.scrub with sramMs := BitVec.ofNat 8 ms, dramDeciH := BitVec.ofNat 16 dh } }) s
  else logFault 0x0D 24 {} s

/-- A rejected setting 1 is logged (R519). -/
def checkPin (s : State) : State :=
  if pbWord s 4 != 0 && pinWord s != (pbWord s 4).toNat then logFault 0x0D 1 {} s else s

/-- The power path's records are handled at every reset as the others are, though only the shell's start applies them
(R413, R519): a rejected one, or a rejected retry word, is logged. -/
def checkShell (s : State) : State :=
  let s := ([16, 17, 18, 19] : List Nat).foldl (fun s n => withSetting n (fun _ s => s) s) s
  if retryWordOk s then s else logFault 0x0D 20 {} s

/-! ### The reset itself -/

/-- Every word of the persistent bank written to 0 (Table 14.8 step 4). -/
def wipeBank (s : State) : State :=
  (List.range 1024).foldl (fun s w => pbWrite s w 0) { s with pm := { s.pm with brownOut := false } }

/-- A wipe that power loss or the reset left pending is completed first (R507). -/
def finishWipe (s : State) : State :=
  if s.ident.wipePending then wipeBank { s with ident := { s.ident with wipePending := false } } else s

/-- What is left of a fault record by a reset: a cold one empties the log; the hour of R477 runs on. -/
def keepFaults (cold : Bool) (s : State) : Faults :=
  let times := s.flt.safeTimes.map (fun t => t - s.clock.hubTime)
  let log := s.flt.log.map (fun e => { e with since := e.since - s.clock.hubTime })
  if cold then { Faults.reset with safeTimes := times }
  else { Faults.reset with log := log, next := s.flt.next, written := s.flt.written, safeTimes := times }

/-- A link's attachment outlives a reset; nothing else of it does. -/
def keepLink (k : Link) : Link := { Link.reset with cc := k.cc, qualified := k.qualified }

/-- Everything at its reset value, but for what Table 14.9 and Table 16.3 keep: the identity, the flash, the persistent
bank, the power path with its eFuse gates (R413), a warm reset's fault log, and the levels of the pins (log entry 83). -/
def clearedState (cold : Bool) (s : State) : State :=
  { State.reset with
    variant := s.variant
    ident := s.ident
    fw := { s.fw with stageLen := 0, stageData := [], staging := false, nonce := none }
    persist := s.persist
    clock := ⟨0, !s.clock.refclk, s.clock.refclk, false, false, s.clock.powered⟩
    flt := keepFaults cold s
    links := s.links.map keepLink
    pcie := { Pcie.reset with ports := Vector.ofFn (fun p => { PciePortState.reset with
      present := s.pcie.ports[p].present, pin := s.pcie.ports[p].pin }) }
    usb := { Usb.reset with ports := Vector.ofFn (fun n =>
      let p := s.usb.ports[n]
      { UsbPort.reset with vbus := p.vbus, attached := p.attached, cc2 := p.cc2 }) }
    net := Net.reset (if s.variant = .qt9824 then 2 else 1)
    can := { Can.reset with stored := s.can.stored, storedRoutes := s.can.storedRoutes }
    pair := { Pair.reset with
      pos := s.pair.pos, bndPres := s.pair.bndPres, ilkLow := s.pair.ilkLow && !s.pair.ilkDrive }
    power := { s.power with
      flog := Vector.replicate 16 none, newest := none, total := 0
      pd := s.power.pd.map (fun x => { x with faultTimes := x.faultTimes.map (fun t => t - s.clock.hubTime) }) }
    pm := { Pm.reset with pinActive := s.pm.pinActive, brownNote := s.pm.brownNote, brownOut := s.pm.brownOut }
    out := s.out, freeCtr := s.freeCtr, pending := s.pending }

/-- Every setting read back and the start of VDD_FAB. -/
def loadSettings (keep : Option Profile) (s : State) : State :=
  let s := checkPin (boot s)
  let s := startLevel keep (loadConv (loadMap s))
  let s := { s with disp := Display.reset (ownQuota s) }
  checkShell (loadScrub (loadPm (loadPair (loadCan (loadNet (loadUsb (loadPcie (loadWorlds s))))))))

/-- A scrapped part is held as in the safe state (Table 14.5). -/
def holdScrapped (s : State) : State :=
  if s.ident.lc = .scrapped then
    { s with flt := { s.flt with safe := some .scrapped }, ev := { s.ev with active := true } }
  else s

/-! ### The safe state (R476, R477) -/

/-- The entries of the last hour, this one included. -/
def safeEntries (s : State) : List Dword :=
  (s.clock.hubTime :: s.flt.safeTimes).filter (fun t => decide ((s.clock.hubTime - t).toNat < 3600000000000))

/-- PERST is asserted on a port that was up; what it carried is discarded by a fault reaction (Table 6.6). -/
def assertPerst (s : State) (p : PciePort) : State :=
  if s.pcie.ports[p].state = 0 then updPort p (fun x => { x with perst := true }) s else resetPort p (quiescePort p 5 5 cplUr s)

/-- Entry into the safe state; a hub that is in it stays for the cause it entered with. -/
def enterSafe (cause : SafeCause) (s : State) : State :=
  if s.flt.safe.isSome then s
  else
    let ts := safeEntries s
    let s := { s with disp := { s.disp with outs := s.disp.outs.map (fun x => { x with link := 0 }) } }
    let s := ([0, 1] : List PciePort).foldl assertPerst s
    let s := resetUsbPorts false (([0, 1] : List EthPort).foldl (fun s e => ethDown e s) s)
    let s := if isDay s then yieldDay false s
      else if s.pair.ilkDrive then releaseIlk s else s
    let s := updFlt (fun f => { f with
      safe := some cause, safeTimes := ts, safeStays := decide (3 ≤ ts.length) }) s
    (List.finRange 4).foldl showLink { s with ev := { s.ev with active := true } }

/-- The loss of REFCLK is declared (R46): by the core that runs, or as soon as it runs again with REFCLK still absent. -/
def declareRefclk (s : State) : State :=
  if s.clock.refclk || s.flt.safe.isSome then s else enterSafe .refclk (logFault 0x09 0 { reaction := 6 } s)

/-! ### The reset as a whole -/

/-- A reset, complete up to the start of Karxo: `keep` is the profile a wake without retention keeps (R458). -/
def restart (cold : Bool) (keep : Option Profile) (s : State) : State :=
  let cold := cold || s.ident.wipePending
  declareRefclk (holdScrapped (loadSettings keep (clearedState cold (finishWipe s))))

end Sys2Proof.Machine
end

