-- ==== Sys2Proof/Machine/PowerStates.lean ====
section
/-! DEFINITION. Power states and waking (12): island sleep and parking, PM_ISLAND_SET to PM_STATUS, entry into Stop and its abort, wake sources and the wake sequence, and brown-out starts. -/
namespace Sys2Proof.Machine

/-! ### Islands (R447 to R450) -/

/-- Whether every hub transmit lane of an uplink is in Deep. -/
def uplinkDeep (s : State) (u : Up) : Bool :=
  let k := s.links[linkOfUp u]
  k.state == 9 || (k.state == 6 && allPairs.all (fun p => !laneSends (linkOfUp u) k p || k.txSleep[p] == some .deep))

/-- Whether the upstream port of the USB block is suspended or not presented. -/
def usbUpQuiet (s : State) : Bool := !s.usb.presented || s.usb.upSuspended

/-- The external USB ports of the variant. -/
def usbExternals (s : State) : List (Fin 8) :=
  (List.finRange 8).filter (fun n => usbExternal s n.val)

/-- Whether an island may enter S1 (Table 12.1). -/
def s1Allowed (s : State) (i : Island) : Bool :=
  match i.val with
  | 0 => uplinkDeep s 0
  | 1 => uplinkDeep s 1
  | 7 => ([0, 1] : List PciePort).all (fun p => !pciePresent s p ||
      (match s.pcie.ports[p] with | x => x.state == 0 || x.state == 8 || x.state == 5))
  | 8 => usbUpQuiet s && (usbExternals s).all (fun n =>
      !upEnabled s.usb.ports[n] || ([false, true] : List Bool).all (fun ss =>
        !stConnected (extHalf s ss n) || usbPower ss (extHalf s ss n) == 4))
  | _ => false

/-- Whether an island may enter S2 (Table 12.1). -/
def s2Allowed (s : State) (i : Island) : Bool :=
  match i.val with
  | 0 => s.links[(0 : LinkNo)].state == 0 || s.links[(0 : LinkNo)].state == 7
  | 1 => s.links[(1 : LinkNo)].state == 0 || s.links[(1 : LinkNo)].state == 7
  | 2 => s.pair.state == 0 && !s.pair.bndPres
  | 7 => ([0, 1] : List PciePort).all (fun p => !pciePresent s p ||
      (match s.pcie.ports[p] with | x => x.state == 0 && !x.karxo))
  | 8 => !s.usb.presented && (usbExternals s).all (fun n => !upEnabled s.usb.ports[n])
  | 9 => ([0, 1] : List SwPort).all (fun p => !swPresent s p || ncIface s.net.ports[p] == 0)
  | 10 => false
  | 11 => false
  | n => match s.disp.outs[(⟨(n - 3) % 4, Nat.mod_lt _ (by decide)⟩ : OutNo)] with
    | x => x.mode == 0 && x.change.isNone || consumed s ⟨(n - 3) % 4, Nat.mod_lt _ (by decide)⟩

/-- Whether the profile and the setting let an island enter S1 on its own (R449). -/
def s1Automatic (s : State) (i : Island) : Bool :=
  match s.perf.profile with
  | .morning => false
  | .dusk => true
  | .noon => decide (i.val ≤ 1) || s.pm.setting[i] == 0
  | .midnight => decide (i.val ≤ 1) || s.pm.setting[i] == 0

/-- ISLAND_SLEEP_ENTRY (R449): S2 where it is allowed, S1 where it is allowed and automatic. -/
def execIslandSleepEntry (i : Island) (off : Bool) (s : State) : Answer :=
  runCore (fun s =>
    if s.pm.setting[i] = 1 then s
    else if off then (if s2Allowed s i then updPm (fun p => { p with island := p.island.set i 2 }) s else s)
    else if s.pm.island[i] = 0 && s1Allowed s i && s1Automatic s i then
      updPm (fun p => { p with island := p.island.set i 1 }) s
    else s) s

/-- ISLAND_SLEEP_EXIT (R448): a parked island is left only by PM_ISLAND_SET. -/
def execIslandSleepExit (i : Island) (s : State) : Answer :=
  runCore (fun s => if s.pm.setting[i] = 1 then s else updPm (fun p => { p with island := p.island.set i 0 }) s) s

/-! ### Commands (R464 to R468) -/

def pmSpec (op : Half) (lens : Nat → Bool) (write : Cmd → Bool) : OpSpec :=
  { op := op, lens := lens
    perm := fun _ c r => permO r || (permH r && c.payload.isEmpty && !write c)
    partnerReads := true
    write := write }

/-- The 12-byte response of PM_ISLAND_SET. -/
def islandReport (s : State) : List Byte :=
  (List.finRange 12).map (fun i => BitVec.ofNat 8 ((s.pm.island[i] : Fin 3).val + 16 * (s.pm.setting[i] : Fin 4).val))

/-- The parked islands, as setting 22 stores them. -/
def parkMap (s : State) : Nat :=
  ((List.finRange 12).map (fun i => if s.pm.setting[i] = 1 then 2 ^ i.val else 0)).sum

/-- What an island that is no longer parked serves again (R450). -/
def unpark (i : Island) (s : State) : State :=
  let s := updPm (fun p => { p with island := p.island.set i 0 }) s
  if i = 2 then startBond s else if i = 7 then settlePorts s else if i = 8 then presentUsb s else s

/-- Islands, numbered from 1, that serve only functions absent from the variant: uplink B, the bond link, and the outputs
(R2, Table 1.6). -/
def islandAbsent (s : State) (n : Nat) : Bool :=
  match s.variant with
  | .qt9840 => false
  | .qt9824 => n == 2 || n == 3 || n == 6 || n == 7
  | .qt9812 => decide (2 ≤ n) && decide (n ≤ 7)

def pmIslandSetSpec : OpSpec :=
  { pmSpec 0x0B01 (lenIn [0, 4]) (fun c => !c.payload.isEmpty) with
    absent := fun s c => !c.payload.isEmpty && islandAbsent s (byteAt c.payload 0) }
def pmIslandSetBody (c : Cmd) (s : State) : State :=
  let n := byteAt c.payload 0
  let v := byteAt c.payload 1
  if c.payload.isEmpty then ok 0x0B01 c (islandReport s) s
  else if n < 1 || 10 < n || 2 < v || !zeroAt c.payload 2 2 then fail 0x0B01 c stBadArg s
  else
    let i : Island := ⟨(n - 1) % 12, Nat.mod_lt _ (by decide)⟩
    let was := s.pm.setting[i] == 1
    if v = 1 && !was && !s2Allowed s i then fail 0x0B01 c stBusy s
    else
      let s := updPm (fun p => { p with setting := p.setting.set i ⟨v % 4, Nat.mod_lt _ (by decide)⟩ }) s
      let s := if v = 1 then updPm (fun p => { p with island := p.island.set i 2 }) s
        else if was then unpark i s else s
      let s := if was == (v == 1) then s else storeSetting 22 (leBytes 4 (parkMap s)) s
      ok 0x0B01 c (islandReport s) s

/-- PM_ISLAND_SET (R450, R465). -/
def execPmIslandSet (c : Cmd) (s : State) : Answer := .next (runCmd pmIslandSetSpec pmIslandSetBody c s)

def pmWakeCfgSpec : OpSpec := pmSpec 0x0B03 (lenIn [0, 8]) (fun c => !c.payload.isEmpty)
def pmWakeCfgBody (c : Cmd) (s : State) : State :=
  if c.payload.isEmpty then ok 0x0B03 c s.pm.wakeCfg s
  else if 15 < byteAt c.payload 1 || !zeroAt c.payload 6 2 then fail 0x0B03 c stBadArg s
  else
    let turned := BitVec.ofNat 4 (byteAt c.payload 1) ^^^ BitVec.ofNat 4 (byteAt s.pm.wakeCfg 1)
    ok 0x0B03 c c.payload (storeSetting 21 c.payload
      (updPm (fun p => { p with wakeCfg := c.payload, pinActive := p.pinActive ^^^ turned }) s))

/-- PM_WAKE_CFG (R467). A pin whose polarity changes is at the other of its two levels (R457). -/
def execPmWakeCfg (c : Cmd) (s : State) : Answer := .next (runCmd pmWakeCfgSpec pmWakeCfgBody c s)

/-- The 24-byte report of PM_STATUS. -/
def pmReport (s : State) : List Byte :=
  [s.pm.lastSource, BitVec.ofNat 8 (bitNat s.pm.brownOut + 2 * bitNat s.pm.noRetention), 0, 0]
    ++ leBytes 4 s.pm.sources.toNat ++ leBytes 8 s.pm.wakeTime.toNat ++ wordBytes s.pm.stops ++ wordBytes s.pm.brownOuts

def pmStatusSpec : OpSpec := pmSpec 0x0B04 (lenIn [0, 1]) (fun c => !c.payload.isEmpty)
def pmClears (c : Cmd) : Bool := c.payload.length == 1 && byteAt c.payload 0 == 1
def pmStatusOp (c : Cmd) (s : State) : State := ok 0x0B04 c (pmReport s) s
def pmStatusClearOp (c : Cmd) (s : State) : State :=
  let had := s.pm.brownOut
  let r := pmReport s
  let s := updPm (fun p => { p with brownOut := false, sources := 0 }) s
  ok 0x0B04 c r (if had then storePm s else s)
def pmStatusBody (c : Cmd) (s : State) : State :=
  if c.payload.isEmpty then pmStatusOp c s else onlyWhen pmClears 0x0B04 pmStatusClearOp c s

/-- PM_STATUS, length 0 (R468). -/
def execPmStatus (c : Cmd) (s : State) : Answer :=
  .next (runCmd pmStatusSpec (onlyWhen (fun c => c.payload.isEmpty) 0x0B04 pmStatusOp) c s)

/-- PM_STATUS, payload 1 (R468). -/
def execPmStatusClear (c : Cmd) (s : State) : Answer :=
  .next (runCmd pmStatusSpec (onlyWhen pmClears 0x0B04 pmStatusClearOp) c s)

/-! ### Wake sources (R456, R457, R460) -/

/-- A CAN wake on a port in standby with wake enabled: event 53, and the port resumes where it is set so (R367, R368).
In Stop it is a wake source, and event 53 follows event 62. -/
def canWakeOn (p : CanPort) (s : State) : State :=
  let x := s.can.ports[p]
  if !canPresent s p || cpMode x != 3 || !cpFlag x 3 then s
  else
    let code : Byte := BitVec.ofNat 8 (5 + p.val)
    let resume (s : State) : State :=
      if cpFlag x 7 then wakeCanPort p s else s
    let held : Fin 64 × Word := (53, BitVec.ofNat 32 p.val)
    let hold (s : State) : State :=
      updPm (fun q => { q with heldBack := if q.heldBack.contains held then q.heldBack else q.heldBack ++ [held] }) s
    match s.pm.phase with
    | .run => resume (raise .all 53 p.val s)
    | .entering => resume (raise .all 53 p.val (recognise code s))
    | .committed => if sourceEnabled s code then recognise code (hold s) else s
    | .stop => if sourceEnabled s code then recognise code (hold s) else s
    | .waking => if sourceEnabled s code then recognise code (hold s) else s

/-- The CAN ports that have taken a WAKE pin for their wake source (R367). -/
def canOfPin (s : State) (pin : Fin 4) : List CanPort :=
  ([0, 1] : List CanPort).filter (fun p =>
    let x := s.can.ports[p]
    canPresent s p && cpMode x != 0 && cpFlag x 3 && cpFlag x 4 && byteAt x.setting 1 / 32 % 4 == pin.val)

/-- What reaches the always-on part has its effect while that part runs, in Run and in Stop (R452, R455). -/
def runAon (f : State → State) (s : State) : Answer := .next (if aonOn s && s.flt.safe.isNone then f s else s)

/-- WAKE_PIN_DEBOUNCED (R456, R457): one recognition for each transition to the active level. -/
def execWakePinDebounced (pin : Fin 4) (active : Bool) (s : State) : Answer :=
  runAon (fun s =>
    let was := s.pm.pinActive.getLsbD pin.val
    let s := updPm (fun p => { p with pinActive := setBit p.pinActive pin.val active }) s
    if was || !active then s
    else match canOfPin s pin with
      | [] => recognise (BitVec.ofNat 8 (1 + pin.val)) s
      | ps => ps.foldl (fun s p => canWakeOn p s) s) s

/-- WAKE_SOURCE_RECOGNISED (R456). A CAN wake or a pin has its own row and is here the bare source. -/
def execWakeSourceRecognised (src : WakeSource) (s : State) : Answer := runAon (recognise src.code) s

/-- CAN_WAKE (R367, R368): the bus pattern, on a port that has chosen it. -/
def execCanWake (p : CanPort) (s : State) : Answer :=
  runAon (fun s => if cpFlag s.can.ports[p] 4 then s else canWakeOn p s) s

/-! ### Entry into Stop (R453, R454) -/

/-- A firmware stage or activation in progress. -/
def fwBusy (s : State) : Bool :=
  s.fw.staging || s.activating || waitsFor s .fwErase || waitsFor s .fwCheck || waitsFor s .fwActivate

/-- Whether an uplink lets the hub enter Stop (order 2). -/
def uplinkStops (s : State) (u : Up) : Bool :=
  let k := s.links[linkOfUp u]
  k.state == 0 || k.state == 9 || (k.state == 7 && (s.usb.owner != hostOnUp s u || s.usb.upSuspended))

/-- Order 2 of R453. -/
def stopBusy (s : State) : Bool :=
  s.disp.outs.toList.any (fun x => x.mode != 0 || x.change.isSome)
    || ([0, 1] : List Up).any (fun u => !uplinkStops s u) || fwBusy s
    || s.pend.any (fun p => p.posted && (match p.src with | .mailbox _ => true | .forwarded _ _ => false | .mirror _ => false))

/-- Whether a WAKE pin is at its active level, enabled or not (order 4, R457). -/
def pinWaiting (s : State) : Bool := s.pm.pinActive != 0

/-- Step 2 of Table 12.3 on one PCIe port: queued posted writes are logged with status 4. -/
def stopPort (s : State) (p : PciePort) : State := disablePort p (quiescePort p 4 5 cplUr s)

/-- Step 2 on one CAN port; its queue is discarded only at a wake (R461). -/
def stopCan (s : State) (p : CanPort) : State :=
  if cpMode s.can.ports[p] = 0 then s
  else updCanPort p (fun x => { x with setting := 3 :: x.setting.drop 1 }) (pauseCan p s)

/-- Step 2 on one USB port. -/
def stopUsb (s : State) (n : Fin 8) : State :=
  ([false, true] : List Bool).foldl (fun s ss =>
    let x := extHalf s ss n
    if !stEnabled x || usbPower ss x = 4 then s
    else setUsbPower ss n 4 (updPm (fun p => { p with usbSlept := p.usbSlept ++ [(n, ss, usbPower ss x)] }) s)) s

/-- Step 2 of Table 12.3. -/
def stopBlocks (s : State) : State :=
  let s := ([0, 1] : List EthPort).foldl (fun s e => ethDown e s) s
  let s := ([0, 1] : List CanPort).foldl stopCan (([0, 1] : List PciePort).foldl stopPort s)
  updateInt ((usbExternals s).foldl stopUsb s)

def pmStopSpec : OpSpec := { pmSpec 0x0B02 (lenIn [4]) (fun _ => true) with perm := fun _ _ r => permO r }
def pmStopBody (c : Cmd) (s : State) : State :=
  if 1 < byteAt c.payload 0 || !zeroAt c.payload 1 3 then fail 0x0B02 c stBadArg s
  else if s.pair.state != 0 then fail 0x0B02 c stPairRole s
  else if stopBusy s then fail 0x0B02 c stBusy s
  else if byteAt s.pm.wakeCfg 0 = 0 || !hasConv s then fail 0x0B02 c stNoResource s
  else if pinWaiting s then fail 0x0B02 c stBusy s
  else
    stopBlocks (updPm (fun p => { p with
      phase := .entering, retain := byteAt c.payload 0 == 1, sources := 0, heldBack := [], wakeOwed := none })
      (ok 0x0B02 c [] s))

/-- PM_STOP (R453, R454, R466). -/
def execPmStop (c : Cmd) (s : State) : Answer := .next (runCmd pmStopSpec pmStopBody c s)

/-- STOP_POINT_OF_NO_RETURN (R454): step 6 of Table 12.3. -/
def execStopPointOfNoReturn (s : State) : Answer :=
  runAon (fun s =>
    if s.pm.phase != .entering then s
    else storePm (emit (.pmbus .vddFab 0x01 0)
      (updPm (fun p => { p with phase := .committed, stops := satInc p.stops }) { s with ready := false }))) s

/-- TWILIGHT_ENTRY (R454, R455): VDD_FAB is off. A source that is latched starts the wake sequence at once. -/
def execTwilightEntry (s : State) : Answer :=
  runAon (fun s =>
    if s.pm.phase != .committed then s
    else
      let dram : Fin 3 := if s.pm.retain then 1 else 2
      let s := updPm (fun p => { p with phase := .stop, twilight := true, island := p.island.set 10 dram }) s
      if s.pm.sources = 0 then s else startWake s) s

/-! ### Waking (R458 to R461) -/

/-- WAKE_VDD_FAB_READY (Table 12.5 step 4). -/
def execWakeVddFabReady (s : State) : Answer :=
  runAon (fun s => if s.pm.phase = .waking then updPm (fun p => { p with resumed := true }) s else s) s

/-- What a wake with retention discards: queued Ethernet frames, dynamic addresses, CAN transmit queues and the
non-posted state of PCIe ports (R461). -/
def discardQueues (s : State) : State :=
  let empty (x : NetPort) : NetPort :=
    { x with queues := x.queues.map (fun q => { q with entries := [], nextRel := q.nextSeq, deficit := 0 }) }
  let s := { s with net := { s.net with
    ports := s.net.ports.map empty, frames := [], addrs := s.net.addrs.filter (fun a => a.fixed) } }
  let s := dropQueue 0 (dropQueue 1 (checkUnits s))
  { s with pcie := { s.pcie with tracked := [], overflow := [] } }

/-- An uplink held in Deep starts a retrain (Table 12.5 step 7). -/
def wakeLink (s : State) (l : LinkNo) : State := if s.links[l].state = 9 then startRetrain l true s else s

/-- The wake with retention ends: READY, and event 62 where no uplink is still to come back (R459). -/
def wakeRetained (s : State) : State :=
  let s := updPm (fun p => { p with phase := .run, island := p.island.set 10 0, resumed := false }) { s with ready := true }
  let s := updateInt (([0, 1] : List LinkNo).foldl wakeLink (resumeBlocks (discardQueues s)))
  let s := declareRefclk s
  if uplinkReturning s then s else wakeEvent s

/-- The wake without retention ends in a cold start that keeps the profile; its event 62 follows at READY (R458, R459). -/
def wakeCold (s : State) : State :=
  let old := s.pm
  updPm (fun p => { p with
    lastSource := old.lastSource, sources := old.sources, wakeTime := old.wakeTime, noRetention := true,
    wakeOwed := some old.lastSource, heldBack := old.heldBack }) (restart true (some s.perf.profile) s)

/-- WAKE_COMPLETE (R458). -/
def execWakeComplete (s : State) : Answer :=
  runAon (fun s =>
    if s.pm.phase != .waking || !s.pm.resumed then s
    else if s.pm.retain then wakeRetained s else wakeCold s) s

/-- WAKE_EVENT_TIMEOUT (R459): 100 ms after recognition. -/
def execWakeEventTimeout (s : State) : Answer :=
  runAon (fun s => if s.ready && s.pm.phase = .run then wakeEvent s else s) s

/-- TWILIGHT_BROWNOUT (R455): everything but the power-path shell starts again as from a cold reset. -/
def execTwilightBrownout (s : State) : Answer :=
  runAon (fun s =>
    if s.pm.twilight then restart true none (updPm (fun p => { p with brownNote := true }) s) else s) s

end Sys2Proof.Machine
end

