-- ==== Sys2Proof/Machine/Integrity.lean ====
section
/-! DEFINITION. Faults, integrity and self-repair (13): port isolation and its effects, the processor restart, memory errors with repair and scrubbing, REFCLK loss and the end of the safe state, and the commands FLT_STATUS to REPAIR_STATUS. -/
namespace Sys2Proof.Machine

/-! ### The processor restart (R484, R485) -/

/-- Whether the change of a command that waits has been committed when Karxo restarts: engines carry out what they have
been given; what Karxo itself still had to do has not happened (log entry 85). -/
def committedKind : PendKind → Bool
  | .held => false | .profile _ => false | .fwErase => false | .fwCheck => false | .fwActivate => false
  | .allot _ => true | .retrain _ => true | .retrainFull _ => true | .retrainLanes _ => true
  | .tunClose _ _ => true | .displayMode _ => true | .layer _ _ => true | .region _ => true
  | .pciePort _ => true | .usbOwner => true | .netShrink => true
  | .pairJoin => false | .pairLeave => true | .handover => true | .lcTransition => true
  | .partner _ => false | .security => false | .restart c => c

/-- The voltage point that a change left is commanded again (R37). -/
def revertChange (s : State) : State :=
  match s.perf.change with | some c => startChange c.fromPl .restore s | none => s

/-- What Karxo had begun and not committed has no effect. -/
def dropWork (s : State) : State :=
  let s := updFlt (fun f => { f with secWait := [] }) (updPerf (fun p => { p with held := [] }) s)
  let s := if profileChanging s then revertChange s else s
  let s := updPair (fun p => { p with join := none }) s
  let s := { s with
    fw := { s.fw with staging := false, stageLen := 0, stageData := [] }
    commits := s.commits.map (fun d => { d with src := .mirror .owner }) }
  s

/-- The commands whose responses are owed wait for the restart to end. -/
def holdResponses (s : State) : State :=
  let waits (d : Commit) : Pending := ⟨d.src, d.tag, d.seq, d.flags, d.opcode, .restart true, false⟩
  { s with
    pend := s.pend.map (fun p => { p with kind := .restart (committedKind p.kind) }) ++ s.commits.map waits }

/-- A processor restart for a fault; a second one within 1 s enters the safe state. -/
def processorRestart (cls : Fin 24) (loc : Nat) (s : State) : State :=
  let now := s.clock.hubTime
  let second := match s.flt.lastRestart with
    | some t => decide ((now - t).toNat < 1000000000)
    | none => false
  let s := updFlt (fun f => { f with restarting := true, lastRestart := some now })
    { dropWork (holdResponses s) with ready := false, activating := false }
  if second then enterSafe .other (setReaction cls loc 6 s) else setReaction cls loc 5 s

/-- Day in state 7 releases ILK_N for some faults (R475). -/
def releaseFor (cls : Fin 24) (loc : Nat) (s : State) : State :=
  if s.pair.state = 7 then setReaction cls loc 7 (yieldDay false s) else s

/-- A core mismatch or a watchdog expiry, unless its detection is disabled (R484, R490). -/
def coreFault (cls : Fin 24) (loc : Nat) (injected : Bool) (s : State) : State :=
  let s := logFault cls loc { injected := injected } s
  if s.flt.disabled.getLsbD cls.val then s else releaseFor cls loc (processorRestart cls loc s)

/-- LOCKSTEP_MISMATCH (R484). -/
def execLockstepMismatch (stage : BitVec 4) (s : State) : Answer :=
  .next (if coreOn s && !s.flt.restarting then coreFault 0x07 stage.toNat false s else s)

/-- PROCESSOR_WATCHDOG_EXPIRY (R484); the watchdog pauses while ACTIVATING is set. -/
def execProcessorWatchdogExpiry (s : State) : Answer :=
  .next (if coreOn s && !s.flt.restarting && !s.activating then coreFault 0x08 0 false s else s)

/-- The final response of a command that the restart found open: OK where its change was committed, BUSY otherwise. -/
def answerRestart (s : State) (p : Pending) : State :=
  finishOne (if committedKind p.kind then stOk else stBusy) [] s p

/-- PROCESSOR_RESTART_DONE (R485); a core mismatch that is injected persistently is met again (R492). -/
def execProcessorRestartDone (s : State) : Answer :=
  .next (if coreOn s && s.flt.restarting then
      let isOurs (p : Pending) : Bool := match p.kind with | .restart _ => true | _ => false
      let ours := s.pend.filter isOurs
      let s := updFlt (fun f => { f with restarting := false }) { s with ready := true, pend := s.pend.filter (fun p => !isOurs p) }
      let s := ours.foldl answerRestart s
      match s.flt.injections.find? (fun j => j.cls == 7) with
      | some j => coreFault 0x07 j.loc.toNat true s
      | none => s
    else s)

/-! ### Port isolation (R474, R475, Table 13.4) -/

/-- The newest entry that a port's isolation has written, its reaction updated (R473). -/
def setPortReaction (p : FabPort) (r : Byte) (s : State) : State :=
  match s.flt.log.find? (fun e => (e.cls == 1 || e.cls == 2) && e.loc.toNat % 32 == p.val && e.reaction != 9) with
  | some e => updFlt (fun f => { f with log := f.log.map (fun x =>
      if x.index == e.index then { x with reaction := r } else x) }) s
  | none => s

/-- Whether isolation of a port enters the safe state. -/
def safePort (p : FabPort) : Bool := p == 14 || decide (16 ≤ p.val)

/-- What isolation of a port does to its engine (Table 13.4). Ports 3, 4, 5, 13 and 15 act while the bit is set. -/
def isolateEffect (p : FabPort) (s : State) : State :=
  match p.val with
  | 0 => startRetrain 0 true s
  | 1 => startRetrain 1 true s
  | 2 => startRetrain 2 true s
  | 8 => resetUsbPorts false s
  | 9 => ethDown 0 s
  | 10 => ethDown 1 s
  | _ => s

/-- A fabric fault on a port that is not isolated: its entry, event 4, and the reaction of R474. -/
def fabricFault (cls : Fin 24) (p : FabPort) (loc : Nat) (injected : Bool) (s : State) : State :=
  if s.flt.isolated.getLsbD p.val then s
  else
    let s := logFault cls loc { reaction := 2, injected := injected } s
    if s.flt.disabled.getLsbD cls.val then s
    else
      let s := updFlt (fun f => { f with isolated := setBit f.isolated p.val true, testing := setBit f.testing p.val true }) s
      let s := setReaction cls loc 2 s
      if safePort p then enterSafe .other (setReaction cls loc 6 s)
      else
        let s := if p = 12 then processorRestart cls loc s else isolateEffect p s
        if p = 3 || p = 4 || p = 5 || p = 12 then releaseFor cls loc s else s

/-- FABRIC_INVALID_CODE (R26, R474). -/
def execFabricInvalidCode (p : FabPort) (fromXbar : Bool) (bit : BitVec 9) (falseRail : Bool) (s : State) : Answer :=
  .next (if coreOn s then
      fabricFault 0x01 p (p.val + 256 * bitNat fromXbar + 512 * bit.toNat + 2 ^ 18 * bitNat falseRail) false s
    else s)

/-- FABRIC_STALL (R27, R474). -/
def execFabricStall (p : FabPort) (fromXbar : Bool) (phase : BitVec 2) (s : State) : Answer :=
  .next (if coreOn s then fabricFault 0x02 p (p.val + 256 * bitNat fromXbar + 512 * phase.toNat) false s else s)

/-- Whether a persistent injection holds a fabric port, so that its self-test fails (R492). -/
def injectedPort (s : State) (p : FabPort) : Bool :=
  s.flt.injections.any (fun j => (j.cls == 1 || j.cls == 2) && j.loc.toNat % 32 == p.val)

/-- What a failed self-test of a port does (Table 13.4). The security engine's commands are in the caller's hands. -/
def failPort (p : FabPort) (s : State) : State :=
  let s := updFlt (fun f => { f with failed := setBit f.failed p.val true, testing := setBit f.testing p.val false }) s
  let s := if s.flt.safe.isSome then s else setPortReaction p 4 s
  if p = 12 then enterSafe .other (setPortReaction 12 6 s)
  else if p = 3 then (s.tunnels.filter (fun t => t.cls == 1)).foldl (fun s t => closeTunnel t s) s
  else if p = 15 then
    finish .fwCheck stNoResource [] { s with fw := { s.fw with staging := false, stageLen := 0, stageData := [] } }
  else s

/-- Whether a failed self-test of a port enters the safe state (Table 13.4). -/
def failsSafe (p : FabPort) : Bool := safePort p || p == 12

/-- A self-test in the boot sequence that fails isolates its port (R474), and enters the safe state where Table 13.4 says so;
which of the two classes and which wire it found the spec leaves open. -/
def bootTestFails (p : FabPort) (s : State) : State :=
  let stall := Config.freeBool s.freeCtr
  let (v, s) := takeFree 19 s
  let loc := if stall then p.val + 256 * (v.toNat % 8) else p.val + 256 * (v.toNat / 256)
  let s := updFlt (fun f => { f with isolated := setBit f.isolated p.val true, failed := setBit f.failed p.val true }) s
  let s := logFault (if stall then 0x02 else 0x01) loc { reaction := if failsSafe p then 6 else 4, boot := true } s
  if failsSafe p then enterSafe .other s else s

/-- The end of a port's self-test, the security engine's waiting commands apart. -/
def selftestEnd (p : FabPort) (pass : Bool) (s : State) : State :=
  if s.flt.testing.getLsbD p.val then
    if pass && !injectedPort s p then
      setPortReaction p 3 (updFlt (fun f =>
        { f with isolated := setBit f.isolated p.val false, testing := setBit f.testing p.val false }) s)
    else failPort p s
  else if !s.init && !pass && !s.flt.isolated.getLsbD p.val then bootTestFails p s
  else s

/-! ### Memory errors (R478 to R483) -/

/-- The location and the address that an entry gives a memory error (Table 13.2). -/
def eccLoc (e : EccError) : Nat :=
  if e.dram then e.addr.toNat / 256 % 4 else e.sram.toNat + 65536 * e.row.toNat
def eccAddr (e : EccError) : Dword := if e.dram then e.addr else 0
def eccClass (e : EccError) : Fin 24 := if e.dram then (if e.double then 6 else 5) else (if e.double then 4 else 3)

/-- The spare pages of a 64 MiB entry of the Region World Table: those of the remainder that no host is assigned
(R482). -/
def spareEntry (s : State) (i : Fin 128) : Bool := s.worlds.region[i].purpose == 4 && s.worlds.region[i].assignee == 7

/-- The pages of an entry that are spares in use. -/
def sparesUsed (s : State) (i : Nat) : List Nat :=
  (s.ident.retired.filter (fun r => r.spare.toNat / 67108864 == i)).map (fun r => r.spare.toNat / 4096 % 16384)

/-- The spare page to use next: from the highest entry that has one, its lowest page not in use (log entry 86). -/
def nextSpare (s : State) : Option Nat :=
  match ((List.finRange 128).reverse.find? (fun i => spareEntry s i && decide ((sparesUsed s i.val).length < 16384))) with
  | some i => ((List.range (1 + (sparesUsed s i.val).length)).find? (fun k => !(sparesUsed s i.val).contains k)).map
      (fun k => 67108864 * i.val + 4096 * k)
  | none => none

/-- The spare pages available (R495). -/
def sparesLeft (s : State) : Nat :=
  ((List.finRange 128).map (fun i => if spareEntry s i then 16384 - (sparesUsed s i.val).length else 0)).sum

/-- An entry of class 0x16 or 0x17 for a repair; one that was made shows in the fault's own entry (R483). -/
def repairEntry (made : Bool) (e : EccError) (s : State) : State :=
  let s := logFault (if made then 0x16 else 0x17) (eccLoc e) { addr := eccAddr e } s
  if made then setReaction (eccClass e) (eccLoc e) 8 s else s

/-- Repairs an SRAM row or retires a DRAM page (R481 to R483). -/
def repair (e : EccError) (s : State) : State :=
  if e.dram then
    let page := e.addr.toNat / 4096 * 4096
    match nextSpare s with
    | some sp =>
      if s.ident.retired.length < 128 then
        let r : Retire := ⟨BitVec.ofNat 64 page, BitVec.ofNat 64 sp⟩
        repairEntry true e { s with ident := { s.ident with retired := s.ident.retired ++ [r] } }
      else repairEntry false e s
    | none => repairEntry false e s
  else
    let here := (s.ident.rows.filter (fun r => r.sram == e.sram)).length
    if here < 2 && s.ident.rows.length < 64 then
      repairEntry true e { s with ident := { s.ident with rows := s.ident.rows ++ [⟨e.sram, e.row⟩] } }
    else repairEntry false e s

/-- The corrected errors of the last 24 h, this one included. -/
def dramRecent (e : EccError) (s : State) : List (Dword × Dword) :=
  let now := s.clock.hubTime
  (e.addr, now) :: s.flt.scrub.dramSeen.filter (fun x => x.1 != e.addr && decide ((now - x.2).toNat < 86400000000000))

/-- The third rule of R482: three different words of a page within 24 h. -/
def threeWords (e : EccError) (s : State) : Bool :=
  decide (3 ≤ ((dramRecent e s).filter (fun x => x.1.toNat / 4096 == e.addr.toNat / 4096)).length)

/-- The items of buffers from which a poisoned word may take one: messages received, whole or in part, and packets queued or
held back of tunnels, TLPs in the queues of the bridge, and Ethernet frames on-die. -/
inductive Held where
  | partly (h : HostNo) (tid : Byte)
  | received (h : HostNo) (tid : Byte) (k : Nat)
  | waiting (h : HostNo) (tid : Byte) (k : Nat)
  | tlp (p : PciePort) (q : QueuedTlp)
  | queued (h : HostNo) (tid : Byte) (k : Nat)
  | frame (id : Nat)
deriving DecidableEq, Repr

def heldItems (s : State) : List Held :=
  s.tunnels.flatMap (fun t => (if t.inMsg then [.partly t.host t.tid] else [])
      ++ (List.range t.inbox.length).map (.received t.host t.tid) ++ (List.range t.queue.length).map (.queued t.host t.tid)
      ++ (List.range t.held.length).map (.waiting t.host t.tid))
    ++ ([0, 1] : List PciePort).flatMap (fun p =>
      let x := s.pcie.ports[p]
      (x.posted ++ x.completions ++ x.nonPosted).map (.tlp p))
    ++ (s.net.frames.filter (fun f => onDie s f.id)).map (fun f => .frame f.id)

/-- Discards one item whole; a received message's units return as freed space (R155, R479). -/
def dropHeld (i : Held) (s : State) : State :=
  match i with
  | .partly h tid => updTunnel h tid (fun t => { t with msgBroken := true }) s
  | .waiting h tid k => updTunnel h tid (fun t => { t with held := t.held.eraseIdx k }) s
  | .tlp p q => updPort p (fun x => { x with
      posted := x.posted.erase q, completions := x.completions.erase q, nonPosted := x.nonPosted.erase q }) s
  | .received h tid k =>
    match (findTunnel s h tid).bind (fun t => t.inbox[k]?) with
    | some m => drawMessage h tid (freeUnits h tid m.units (updTunnel h tid (fun t => { t with inbox := t.inbox.eraseIdx k }) s))
    | none => s
  | .queued h tid k => updTunnel h tid (fun t => { t with queue := t.queue.eraseIdx k }) s
  | .frame id =>
    let empty (q : NetQueue) : NetQueue := { q with entries := q.entries.filter (fun e => e.frame != id) }
    settleNet { s with net := { s.net with ports := s.net.ports.map (fun x => { x with queues := x.queues.map empty }) } }

/-- The items of the staging region: requests held, posted writes queued, and USB requests. -/
inductive Staged where
  | request (r : NpRequest)
  | write (p : PciePort) (q : QueuedTlp)
  | usb (r : UsbRequest)
deriving DecidableEq, Repr

def stagedItems (s : State) : List Staged :=
  s.pcie.overflow.map .request
    ++ ([0, 1] : List PciePort).flatMap (fun p => s.pcie.ports[p].posted.map (.write p)) ++ s.usb.requests.map .usb

/-- A staged item that a poisoned word takes (R479). -/
def dropStaged (i : Staged) (s : State) : State :=
  match i with
  | .request r => answerNp r cplCa { s with pcie := { s.pcie with overflow := s.pcie.overflow.erase r } }
  | .write p q => lostWrite q.host q.tid p q.tlp 5 (updPort p (fun x => { x with posted := x.posted.erase q }) s)
  | .usb r => finishUsb r 2 0 [] s

/-- One of a list, which one being open (log entry 87). -/
def freePick {α : Type} (l : List α) (s : State) : Option α × State :=
  let (v, s) := takeFree 32 s
  (l[v.toNat % max 1 l.length]?, s)

/-- What a word with an error held: a DRAM word what its entry's purpose says, nothing beyond the four regions that engines
use (R51, R53); an SRAM word what the error names. -/
def contentOf (s : State) (e : EccError) : Content :=
  if e.dram then
    match s.worlds.region[(⟨e.addr.toNat / 67108864 % 128, Nat.mod_lt _ (by decide)⟩ : Fin 128)].purpose.val with
    | 0 => .processor | 1 => .frameStore | 2 => .overflow | 3 => .staging | _ => .unused
  else e.content

/-- What a poisoned word does to what it held (R479). A table is rewritten by Karxo within 1 ms; a frame held in DRAM is
lost when its read-back meets the error, which OVERFLOW_READBACK_DONE reports. -/
def poisonEffect (e : EccError) (s : State) : State :=
  match contentOf s e with
  | .unused => s
  | .buffer => match freePick (heldItems s) s with | (some i, s) => dropHeld i s | (none, s) => s
  | .table => s
  | .overflow => s
  | .staging => match freePick (stagedItems s) s with | (some i, s) => dropStaged i s | (none, s) => s
  | .frameStore =>
    let (v, s) := takeFree 64 s
    let w := if e.dram then (e.addr.toNat - 268435456) / 8 else v.toNat % (131072 * s.perf.frameMiB + 1)
    updFlt (fun f => { f with poison := if f.poison.contains w then f.poison else w :: f.poison }) s
  | .processor => releaseFor (eccClass e) (eccLoc e) (processorRestart (eccClass e) (eccLoc e) s)

/-- Whether a persistent injection of its class lies where an error is met (R492). -/
def injectedHere (s : State) (e : EccError) : Bool :=
  s.flt.injections.any (fun j => j.cls.toNat == (eccClass e).val && (if e.dram then j.detail.toNat / 64 == e.addr.toNat / 64
    else j.loc.toNat == eccLoc e))

/-- A memory error as it is met: its entry (its reaction byte: log entry 94), the handling of R479, and the repair rules that
do not need a sweep, which a fault that FLT_INJECT caused never triggers (R483). -/
def memoryError (e : EccError) (scrub once : Bool) (s : State) : State :=
  let injected := once || injectedHere s e
  let s := logFault (eccClass e) (eccLoc e)
    { reaction := if e.double then 1 else 0, scrub := scrub, injected := injected, detail := e.syndrome, addr := eccAddr e } s
  if e.double then
    let s := poisonEffect e s
    if injected then s else repair e s
  else if e.dram && !injected then
    let due := threeWords e s
    let seen := dramRecent e s
    let s := updFlt (fun f => { f with scrub := { f.scrub with
      dramSeen := if due then seen.filter (fun x => x.1.toNat / 4096 != e.addr.toNat / 4096) else seen } }) s
    if due then repair e s else s
  else s

/-- MEMORY_ECC_ERROR (R478, R479). -/
def execMemoryEccError (e : EccError) (s : State) : Answer :=
  .next (if coreOn s then memoryError e false false s else s)

/-- The word of an error, for the rule of two successive sweeps. -/
def sramWord (e : EccError) : Half × Half × Half := (e.sram, e.row, e.word)

/-- The scrub engine's position moves on; at the end of a sweep its records become those of the sweep before. -/
def scrubOn (dram : Bool) (s : State) : State :=
  updFlt (fun f =>
    let c := f.scrub
    if dram then
      if c.dramPos + 1 < 131072 * capacityMiB s then { f with scrub := { c with dramPos := c.dramPos + 1 } }
      else { f with scrub := { c with dramPos := 0, dramSweeps := satInc c.dramSweeps, dramLast := c.dramNow, dramNow := [] } }
    else
      if c.sramPos + 1 < Config.sramWords then { f with scrub := { c with sramPos := c.sramPos + 1 } }
      else { f with scrub := { c with sramPos := 0, sramSweeps := satInc c.sramSweeps, sramLast := c.sramNow, sramNow := [] } }) s

/-- A corrected error that a sweep finds, with the rule of two successive sweeps (R481, R482). -/
def scrubFound (e : EccError) (s : State) : State :=
  let injected := injectedHere s e
  let s := memoryError e true false s
  if e.double || injected then s
  else if e.dram then
    let again := s.flt.scrub.dramLast.contains e.addr
    let s := updFlt (fun f => { f with scrub := { f.scrub with dramNow := e.addr :: f.scrub.dramNow } }) s
    if again then repair e s else s
  else
    let again := s.flt.scrub.sramLast.contains (sramWord e)
    let s := updFlt (fun f => { f with scrub := { f.scrub with sramNow := sramWord e :: f.scrub.sramNow } }) s
    if again then repair e s else s

/-- The persistent injection that a read of the scrub engine meets (R492): in DRAM the one at its position; which read of a
sweep reaches a row of SRAM the spec does not say, so that it is free. -/
def scrubMeets (dram : Bool) (s : State) : Option Injection × State :=
  let js := s.flt.injections.filter (fun j => if dram then j.cls == 5 || j.cls == 6 else j.cls == 3 || j.cls == 4)
  if js.isEmpty then (none, s)
  else if dram then (js.find? (fun j => j.detail.toNat / 64 * 8 == s.flt.scrub.dramPos), s)
  else
    let (v, s) := takeFree 32 s
    (js[v.toNat % (js.length + 1)]?, s)

/-- The error that an injected memory fault shows, with free content and syndrome where the spec gives none. -/
def injectedError (cls loc extra : Nat) (s : State) : EccError × State :=
  let (v, s) := takeFree 2 s
  let (syn, s) := takeFree 32 s
  let content : Content := if v = 0 then .buffer else if v = 1 then .table else if v = 2 then .frameStore else .processor
  ({ dram := cls == 5 || cls == 6, sram := BitVec.ofNat 16 loc, row := BitVec.ofNat 16 (loc / 65536), word := 0
     addr := BitVec.ofNat 64 (extra / 64 * 64), double := cls == 4 || cls == 6, syndrome := syn, content := content }, s)

/-- Whether the scrub engine reads: not while port 13 is isolated, and not in Stop, from step 4 of Table 12.3 on. Its return at
step 6 of Table 12.5 is the step of WAKE_VDD_FAB_READY (R480; log entry 140). -/
def scrubs (s : State) : Bool :=
  coreOn s && !s.flt.isolated.getLsbD 13 && (s.pm.phase == .run || (s.pm.phase == .entering && !waitSet s) || (s.pm.phase == .waking && s.pm.retain))

/-- What one read of the scrub engine meets: a persistent injection, or the error named. -/
def scrubStep (dram : Bool) (e : Option EccError) (s : State) : State :=
  match scrubMeets dram s with
  | (some j, s) =>
    let (x, s) := injectedError j.cls.toNat j.loc.toNat j.detail.toNat s
    scrubOn dram (scrubFound x s)
  | (none, s) =>
    scrubOn dram (match e with | some x => if x.dram == dram then scrubFound x s else s | none => s)

/-- SCRUB_READ (R480). -/
def execScrubRead (dram : Bool) (e : Option EccError) (s : State) : Answer :=
  .next (if scrubs s then scrubStep dram e s else s)

/-! ### REFCLK and the end of the safe state (R46, R476, R477) -/

/-- REFCLK_LOSS (R46). -/
def execRefclkLoss (s : State) : Answer :=
  .next (if !s.clock.powered || !s.clock.refclk then s
    else
      let s := { s with clock := { s.clock with refclk := false, untimed := true } }
      if !coreOn s then s else if s.flt.safe.isSome then logFault 0x09 0 { reaction := 6 } s else declareRefclk s)

/-- REFCLK_RETURN (R476). -/
def execRefclkReturn (s : State) : Answer := .next { s with clock := { s.clock with refclk := true } }

/-- SAFE_STATE_EXIT (R476, R477): a warm reset once the condition of the cause holds. -/
def execSafeStateExit (s : State) : Answer :=
  .next (if s.flt.safeStays || !coreOn s then s
    else match s.flt.safe with
      | none => s
      | some .scrapped => s
      | some .refclk => if s.clock.refclk then restart false none s else s
      | some .critical => if s.tel.tj.toInt < 115 * 8 then restart false none s else s
      | some .other => restart false none s)

/-! ### Commands (R489 to R495) -/

def fltSpec (op : Half) (lens : Nat → Bool) (write : Cmd → Bool) : OpSpec :=
  { op := op, lens := lens
    perm := fun _ c r => permO r || (permH r && !write c)
    partnerReads := true
    block := fun _ _ => some 13
    write := write }

/-- The index of the newest entry, 0xFFFF when the log is empty. -/
def newestIndex (s : State) : Nat := match s.flt.log with | e :: _ => e.index.toNat | [] => 65535

/-- The classes whose detection may be disabled: 0x01, 0x02, 0x07, 0x08, 0x0A and 0x0B (R490). -/
def maskable : Nat := 0x0D86

/-- The 112-byte report of FLT_STATUS. -/
def fltReport (s : State) : List Byte :=
  [BitVec.ofNat 8 (bitNat s.flt.safe.isSome),
   BitVec.ofNat 8 (bitNat (s.flt.disabled == 0 && !s.flt.isolated.getLsbD 13))]
    ++ leBytes 2 (newestIndex s) ++ leBytes 4 s.flt.disabled.toNat ++ leBytes 4 s.flt.isolated.toNat ++ zeros 4
    ++ s.flt.counts.toList.flatMap wordBytes

def fltStatusSpec : OpSpec :=
  { fltSpec 0x0C01 (lenIn [0, 1, 8]) (fun c => !c.payload.isEmpty) with
    lifecycle := fun s c => c.payload.length == 8 && s.ident.lc != .provisioned && s.ident.lc != .returned }
def fltClears (c : Cmd) : Bool := c.payload.length == 1 && byteAt c.payload 0 == 1
def fltDisables (c : Cmd) : Bool := c.payload.length == 8 && byteAt c.payload 0 == 2
def fltStatusOp (c : Cmd) (s : State) : State := ok 0x0C01 c (fltReport s) s
def fltStatusClearOp (c : Cmd) (s : State) : State :=
  ok 0x0C01 c (fltReport s) (updFlt (fun f => { f with counts := Vector.replicate 24 0 }) s)
def fltStatusDisableOp (c : Cmd) (s : State) : State :=
  let m := fieldAt c.payload 4 4
  if !zeroAt c.payload 1 3 || m &&& maskable != m then fail 0x0C01 c stBadArg s
  else
    let s := updFlt (fun f => { f with disabled := BitVec.ofNat 24 m }) s
    ok 0x0C01 c (fltReport s) s
def fltStatusBody (c : Cmd) (s : State) : State :=
  if c.payload.isEmpty then fltStatusOp c s
  else if c.payload.length = 8 then onlyWhen fltDisables 0x0C01 fltStatusDisableOp c s
  else onlyWhen fltClears 0x0C01 fltStatusClearOp c s

/-- FLT_STATUS, length 0 (R490). -/
def execFltStatus (c : Cmd) (s : State) : Answer :=
  .next (runCmd fltStatusSpec (onlyWhen (fun c => c.payload.isEmpty) 0x0C01 fltStatusOp) c s)

/-- FLT_STATUS, payload 1 (R490). -/
def execFltStatusClear (c : Cmd) (s : State) : Answer :=
  .next (runCmd fltStatusSpec (onlyWhen fltClears 0x0C01 fltStatusClearOp) c s)

/-- FLT_STATUS, payload 2 (R490). -/
def execFltStatusDisable (c : Cmd) (s : State) : Answer :=
  .next (runCmd fltStatusSpec (onlyWhen fltDisables 0x0C01 fltStatusDisableOp) c s)

/-- An entry of Table 13.3. -/
def entryBytes (e : FaultEntry) : List Byte :=
  leBytes 2 e.cls.toNat ++ [e.reaction,
    BitVec.ofNat 8 (8 * bitNat e.boot + 4 * bitNat e.scrub + 2 * bitNat e.injected + bitNat e.untimed)]
    ++ wordBytes e.loc ++ leBytes 8 e.time.toNat ++ wordBytes e.count ++ wordBytes e.detail ++ leBytes 8 e.addr.toNat

/-- Whether a requester is shown an entry: a host is not shown a trailer failure of another uplink, which the entry names by
its host (R385, R489). -/
def shownTo (r : Requester) (e : FaultEntry) : Bool :=
  match hostOfRequester r with
  | none => true
  | some h => e.cls != 0x0E || e.loc.toNat / 2 ^ 24 % 4 == h.val

def fltLogReadSpec : OpSpec := fltSpec 0x0C02 (lenIn [4]) (fun _ => false)
def fltLogReadBody (c : Cmd) (s : State) : State :=
  let first := fieldAt c.payload 0 2
  let n := byteAt c.payload 2
  if 15 < n || !zeroAt c.payload 3 1 then fail 0x0C02 c stBadArg s
  else
    let at_ (i : Nat) : Option FaultEntry :=
      s.flt.log.find? (fun e => e.index.toNat == (first + i) % 65536 && shownTo (cmdRequester s c) e)
    let es := (List.range n).filterMap at_
    ok 0x0C02 c (leBytes 2 (newestIndex s) ++ [BitVec.ofNat 8 es.length, 0]
      ++ wordBytes (if s.flt.log.isEmpty then 0 else s.flt.written) ++ zeros 8 ++ es.flatMap entryBytes) s

/-- FLT_LOG_READ (R491). -/
def execFltLogRead (c : Cmd) (s : State) : Answer := .next (runCmd fltLogReadSpec fltLogReadBody c s)

/-! ### FLT_INJECT (R488, R492) -/

/-- Whether a location exists for a class (R492), in Mirror for class 0x15. -/
def locationExists (s : State) (cls loc extra : Nat) : Bool :=
  match cls with
  | 0x01 => decide (loc < 2 ^ 19) && loc / 32 % 8 == 0 && decide (loc % 32 < 20) && extra == 0
  | 0x02 => decide (loc < 2 ^ 11) && loc / 32 % 8 == 0 && decide (loc % 32 < 20) && extra == 0
  | 0x03 => Config.sramExists (loc % 65536) (loc / 65536) && decide (extra ≤ 71)
  | 0x04 => Config.sramExists (loc % 65536) (loc / 65536) && decide (extra ≤ 71)
  | 0x05 => decide (loc < 4) && loc == extra / 256 % 4 && decide (extra < 1048576 * capacityMiB s)
  | 0x06 => decide (loc < 4) && loc == extra / 256 % 4 && decide (extra < 1048576 * capacityMiB s)
  | 0x07 => decide (loc < 16) && extra == 0
  | 0x0B =>
    let o : OutNo := ⟨loc % 4, Nat.mod_lt _ (by decide)⟩
    let k : Fin 8 := ⟨loc / 4 % 8, Nat.mod_lt _ (by decide)⟩
    decide (loc < 32) && decide (o.val < outputs s) && extra == 0 && s.disp.outs[o].mode != 0
      && comparedRegion s s.disp.outs[o].checks[k].force
  | 0x15 => decide (1 ≤ loc) && decide (loc ≤ 4) && extra == 0
  | _ => false

/-- The fault of an injected memory error. -/
def injectMemory (cls loc extra : Nat) (s : State) : State :=
  let (e, s) := injectedError cls loc extra s
  memoryError e false true s

/-- The fault that an injection brings, after its response (R488). -/
def causeFault (cls loc extra : Nat) (persistent : Bool) (s : State) : State :=
  let s := if persistent then
      updFlt (fun f => { f with injections := f.injections ++
        [⟨BitVec.ofNat 8 cls, BitVec.ofNat 32 loc, BitVec.ofNat 64 extra⟩] }) s
    else s
  let port : FabPort := ⟨loc % 32 % 20, Nat.mod_lt _ (by decide)⟩
  match cls with
  | 0x01 => fabricFault 0x01 port loc true s
  | 0x02 => fabricFault 0x02 port loc true s
  | 0x07 => coreFault 0x07 loc true s
  | 0x0B => if persistent then s else updFlt (fun f => { f with mismatchOnce := f.mismatchOnce.insert (BitVec.ofNat 32 loc) }) s
  | 0x15 => injectPair loc s
  | _ => injectMemory cls loc extra s

def fltInjectSpec : OpSpec :=
  { op := 0x0C03, lens := lenIn [16], perm := fun _ _ r => permO r, write := fun _ => true
    lifecycle := fun s _ => s.ident.lc == .blank || s.ident.lc == .scrapped }
def fltInjectOp (c : Cmd) (s : State) : State :=
  let p := c.payload
  let cls := byteAt p 0
  let loc := fieldAt p 4 4
  let extra := fieldAt p 8 8
  if !zeroAt p 2 2 then fail 0x0C03 c stBadArg s
  else if cls = 0x15 && !isDay s && !isNight s then fail 0x0C03 c stPairRole s
  else if !locationExists s cls loc extra then fail 0x0C03 c stBadArg s
  else causeFault cls loc extra (byteAt p 1 == 1) (ok 0x0C03 c [] s)
def fltInjectClearOp (c : Cmd) (s : State) : State :=
  if !zeroAt c.payload 2 2 then fail 0x0C03 c stBadArg s
  else ok 0x0C03 c [] (updFlt (fun f => { f with injections := [] }) s)
def fltInjectBody (c : Cmd) (s : State) : State :=
  if byteAt c.payload 1 = 2 then fltInjectClearOp c s
  else onlyWhen (fun c => decide (byteAt c.payload 1 < 2)) 0x0C03 fltInjectOp c s

/-- FLT_INJECT, one transient occurrence (R488, R492). -/
def execFltInjectTransient (c : Cmd) (s : State) : Answer :=
  .next (runCmd fltInjectSpec (onlyWhen (fun c => byteAt c.payload 1 == 0) 0x0C03 fltInjectOp) c s)

/-- FLT_INJECT, persistent (R488, R492). -/
def execFltInjectPersistent (c : Cmd) (s : State) : Answer :=
  .next (runCmd fltInjectSpec (onlyWhen (fun c => byteAt c.payload 1 == 1) 0x0C03 fltInjectOp) c s)

/-- FLT_INJECT, operation 2 (R492). -/
def execFltInjectClear (c : Cmd) (s : State) : Answer :=
  .next (runCmd fltInjectSpec (onlyWhen (fun c => byteAt c.payload 1 == 2) 0x0C03 fltInjectClearOp) c s)

/-! ### CRC_CHANNEL_CFG (R487, R493) -/

/-- The channel a command names. -/
def tgChannel (c : Cmd) : Fin 16 := ⟨c.target.toNat % 16, Nat.mod_lt _ (by decide)⟩

def crcChannelSpec : OpSpec :=
  { op := 0x0C04, lens := lenIn [24]
    perm := fun s c r => permO r || (match hostOfRequester r with
      | some h => (byteAt c.payload 0 == 0 || byteAt c.payload 0 == 2) && s.flt.channels[tgChannel c].assign == hostCode h
      | none => false)
    absent := fun s c => byteAt c.payload 0 == 1 && hostAbsent s (byteAt c.payload 3)
    block := fun _ _ => some 5
    write := fun c => byteAt c.payload 0 != 2
    target := 0x0000000F }

/-- The 24 bytes in force, with the operation byte as sent. -/
def channelReport (s : State) (c : Cmd) : List Byte :=
  let x := s.flt.channels[tgChannel c]
  [BitVec.ofNat 8 (byteAt c.payload 0), x.width,
    BitVec.ofNat 8 (bitNat x.refIn + 2 * bitNat x.refOut + 4 * bitNat x.finalInv), BitVec.ofNat 8 x.assign.val]
    ++ leBytes 8 x.poly.toNat ++ leBytes 8 x.init.toNat ++ zeros 4

def updChannel (c : Cmd) (f : CheckChannel → CheckChannel) (s : State) : State :=
  updFlt (fun x => { x with channels := upd x.channels (tgChannel c) f }) s

def crcConfigureOp (c : Cmd) (s : State) : State :=
  let p := c.payload
  let w := byteAt p 1
  let fl := byteAt p 2
  let poly := fieldAt p 4 8
  let init := fieldAt p 12 8
  let n := tgChannel c
  if !(w == 8 || w == 16 || w == 24 || w == 32 || w == 64) || 7 < fl || !zeroAt p 3 1 || 2 ^ w ≤ poly || 2 ^ w ≤ init
      || !zeroAt p 20 4 then fail 0x0C04 c stBadArg s
  else if channelTunnels s n != 0 || channelRegions s n != 0 then fail 0x0C04 c stBusy s
  else
    let s := updChannel c (fun x => { x with
      width := BitVec.ofNat 8 w, poly := BitVec.ofNat 64 poly, init := BitVec.ofNat 64 init
      refIn := fl.testBit 0, refOut := fl.testBit 1, finalInv := fl.testBit 2 }) s
    ok 0x0C04 c (channelReport s c) s
def crcAssignOp (c : Cmd) (s : State) : State :=
  let p := c.payload
  let a := byteAt p 3
  if !zeroAt p 1 2 || !zeroAt p 4 20 || !(a == 7 || (hostOfCode a).isSome) then fail 0x0C04 c stBadArg s
  else
    let s := updChannel c (fun x => { x with assign := ⟨a % 8, Nat.mod_lt _ (by decide)⟩ }) s
    ok 0x0C04 c (channelReport s c) s
def crcReadOp (c : Cmd) (s : State) : State :=
  if !zeroAt c.payload 1 23 then fail 0x0C04 c stBadArg s else ok 0x0C04 c (channelReport s c) s
def crcChannelBody (c : Cmd) (s : State) : State :=
  if byteAt c.payload 0 = 0 then crcConfigureOp c s
  else if byteAt c.payload 0 = 1 then crcAssignOp c s
  else onlyWhen (fun c => byteAt c.payload 0 == 2) 0x0C04 crcReadOp c s

/-- CRC_CHANNEL_CFG, operation 0 (R487, R493). -/
def execCrcChannelConfigure (c : Cmd) (s : State) : Answer :=
  .next (runCmd crcChannelSpec (onlyWhen (fun c => byteAt c.payload 0 == 0) 0x0C04 crcConfigureOp) c s)

/-- CRC_CHANNEL_CFG, operation 1 (R493). -/
def execCrcChannelAssign (c : Cmd) (s : State) : Answer :=
  .next (runCmd crcChannelSpec (onlyWhen (fun c => byteAt c.payload 0 == 1) 0x0C04 crcAssignOp) c s)

/-- CRC_CHANNEL_CFG, operation 2 (R493). -/
def execCrcChannelRead (c : Cmd) (s : State) : Answer :=
  .next (runCmd crcChannelSpec (onlyWhen (fun c => byteAt c.payload 0 == 2) 0x0C04 crcReadOp) c s)

/-! ### SCRUB_CFG and REPAIR_STATUS (R494, R495) -/

def scrubCfgSpec : OpSpec :=
  { fltSpec 0x0C05 (lenIn [0, 4]) (fun c => !c.payload.isEmpty) with block := fun _ _ => none }

/-- The period of a sweep: the lesser of the profile's and the stored one, in ms for SRAM and in 0.1 h for DRAM (R480,
Table 0.2). -/
def sramSweepMs (s : State) : Nat := min (if s.perf.profile = .midnight then 1 else 10) s.flt.scrub.sramMs.toNat
def dramSweepDeciH (s : State) : Nat := min (if s.perf.profile = .midnight then 24 else 240) s.flt.scrub.dramDeciH.toNat

/-- The 12-byte response of SCRUB_CFG. That its bytes in force are the periods of R480, and not the stored setting, is this
model's choice: R494 does not say which (log entry 95). -/
def scrubReport (s : State) : List Byte :=
  let x := s.flt.scrub
  [BitVec.ofNat 8 (sramSweepMs s), 0] ++ leBytes 2 (dramSweepDeciH s) ++ wordBytes x.sramSweeps ++ wordBytes x.dramSweeps
def scrubCfgBody (c : Cmd) (s : State) : State :=
  let ms := byteAt c.payload 0
  let dh := fieldAt c.payload 2 2
  if c.payload.isEmpty then ok 0x0C05 c (scrubReport s) s
  else if ms < 1 || 10 < ms || !zeroAt c.payload 1 1 || dh < 10 || 240 < dh then fail 0x0C05 c stBadArg s
  else
    let s := updFlt (fun f => { f with scrub := { f.scrub with
      sramMs := BitVec.ofNat 8 ms, dramDeciH := BitVec.ofNat 16 dh } }) s
    ok 0x0C05 c (scrubReport s) (storeWord 24 (BitVec.ofNat 32 (ms + 65536 * dh)) s)

/-- SCRUB_CFG (R494). -/
def execScrubCfg (c : Cmd) (s : State) : Answer := .next (runCmd scrubCfgSpec scrubCfgBody c s)

/-- The macros that have used both spare rows. -/
def fullMacros (s : State) : Nat :=
  (((s.ident.rows.map (fun r => r.sram)).eraseDups).filter (fun m =>
    decide (2 ≤ (s.ident.rows.filter (fun r => r.sram == m)).length))).length

def repairStatusSpec : OpSpec := fltSpec 0x0C06 (lenIn [0, 4]) (fun _ => false)
def repairStatusBody (c : Cmd) (s : State) : State :=
  let p := c.payload
  let head := leBytes 2 s.ident.rows.length ++ leBytes 2 (fullMacros s) ++ leBytes 2 s.ident.retired.length
    ++ leBytes 2 (128 - s.ident.retired.length) ++ leBytes 4 (sparesLeft s) ++ zeros 4
  if p.isEmpty then ok 0x0C06 c head s
  else if byteAt p 0 != 1 || 30 < byteAt p 2 || !zeroAt p 3 1 then fail 0x0C06 c stBadArg s
  else
    let rs := (s.ident.retired.drop (byteAt p 1)).take (byteAt p 2)
    ok 0x0C06 c (head ++ rs.flatMap (fun r => leBytes 8 r.page.toNat)) s

/-- REPAIR_STATUS (R495). -/
def execRepairStatus (c : Cmd) (s : State) : Answer := .next (runCmd repairStatusSpec repairStatusBody c s)

end Sys2Proof.Machine
end

