-- ==== Sys2Proof/Machine/Worlds.lean ====
section
/-! DEFINITION. Worlds, life cycle and attestation (14): the two world tables, LC_TRANSITION and LC_STATUS, NV_WEAR_READ, SEC_ATTEST, and the end of a port's self-test, for which commands of the security engine wait. -/
namespace Sys2Proof.Machine

/-! ### The security engine (Table 13.4) -/

/-- A command that needs fabric port 15: it waits while the port's self-test runs, and completes with NO_RESOURCE once that
has failed. -/
def withSecurity (op : Half) (f : Cmd → State → State) (c : Cmd) (s : State) : State :=
  if s.flt.failed.getLsbD 15 then fail op c stNoResource s
  else if s.flt.isolated.getLsbD 15 then
    await op c .security (updFlt (fun x => { x with secWait := x.secWait ++ [⟨op, c⟩] }) s)
  else f c s

/-! ### The Block World Table (R497 to R500, R524) -/

/-- Whether a host holds a live resource in a block (R500). -/
def liveIn (s : State) (b : Fin 32) (h : HostNo) : Bool :=
  let tunnel (f : Tunnel → Bool) : Bool := s.tunnels.any (fun t => t.host == h && f t)
  match b.val with
  | 4 => tunnel (fun t => t.cls == 1) || s.disp.regions.any (fun r => r.owner == h)
  | 6 => tunnel (fun t => t.cls == 3) || s.pcie.ports.toList.any (fun p => p.assigned == some h)
  | 7 => tunnel isUsbTunnel || s.usb.owner == h
  | 8 => tunnel isNetTunnel
  | 9 => tunnel (fun t => t.cls == 6)
  | n => if n < 4 then
      s.disp.outs[(⟨n % 4, Nat.mod_lt _ (by decide)⟩ : OutNo)].layers.toList.any (fun l => l.owner == hostCode h)
    else false

/-- Whether a new entry takes a right from a host. -/
def takesRight (old new : Word) (h : HostNo) : Bool :=
  let held (k : Nat) : Bool := old.getLsbD (k + h.val)
  (held 8 && !new.getLsbD (8 + h.val)) || (held 12 && !new.getLsbD (12 + h.val))
    || (!old.getLsbD 31 && new.getLsbD 31 && (held 8 || held 12))

def secSpec (op : Half) (lens : Nat → Bool) : OpSpec :=
  { op := op, lens := lens
    perm := fun s c r => (permO r && s.ident.lc != .blank) || (permH r && c.payload.isEmpty)
    write := fun c => !c.payload.isEmpty }

/-- The entries a SEC_BLOCK_WORLD sets, by block. -/
def newBlock (c : Cmd) (old : Vector Word 32) (i : Fin 32) : Word :=
  let first := byteAt c.payload 0
  if first ≤ i.val && decide (i.val < first + byteAt c.payload 1) then
    BitVec.ofNat 32 (fieldAt c.payload (4 + 4 * (i.val - first)) 4)
  else old[i]

/-- An entry that SEC_BLOCK_WORLD may not set: one with a reserved bit, or one that is not 0 for a reserved block (R524). -/
def badEntry (b e : Nat) : Bool := e / 2 ^ 17 % 2 ^ 14 != 0 || e % 256 != 0 || (decide (16 ≤ b) && decide (b < 24) && e != 0)

def secBlockWorldSpec : OpSpec := secSpec 0x0D01 (fun n => n == 0 || (decide (8 ≤ n) && decide (n ≤ 132)))
def secBlockWorldBody (c : Cmd) (s : State) : State :=
  let p := c.payload
  let first := byteAt p 0
  let n := byteAt p 1
  let old := s.worlds.block
  let new : Vector Word 32 := Vector.ofFn (newBlock c old)
  if p.isEmpty then ok 0x0D01 c (old.toList.flatMap wordBytes) s
  else if n < 1 || 32 < n || p.length != 4 + 4 * n || 32 < first + n || !zeroAt p 2 2
      || (List.range n).any (fun k => badEntry (first + k) (fieldAt p (4 + 4 * k) 4)) then fail 0x0D01 c stBadArg s
  else if (List.finRange 32).any (fun i => ([0, 1, 2, 3] : List HostNo).any (fun h =>
      takesRight old[i] new[i] h && liveIn s i h)) then fail 0x0D01 c stBusy s
  else
    ok 0x0D01 c [] (storeSetting 4 (new.toList.flatMap wordBytes) { s with worlds := { s.worlds with block := new } })

/-- SEC_BLOCK_WORLD (R500, R524). -/
def execSecBlockWorld (c : Cmd) (s : State) : Answer := .next (runCmd secBlockWorldSpec secBlockWorldBody c s)

/-! ### The Region World Table (R501 to R503, R525) -/

/-- Whether a host can be assigned an entry in the pair state in force. -/
def hostInPair (s : State) (h : HostNo) : Bool :=
  (match upOfHost s h with | some u => decide (u.val < uplinks s) | none => false) || inSpan s

/-- The entry that a byte of SEC_REGION_WORLD asks for. -/
def newRegion (c : Cmd) (old : Vector RegionEntry 128) (i : Fin 128) : RegionEntry :=
  let first := byteAt c.payload 0
  if first ≤ i.val && decide (i.val < first + byteAt c.payload 1) then
    let v := byteAt c.payload (4 + (i.val - first))
    { old[i] with secure := decide (128 ≤ v), assignee := ⟨v % 8, Nat.mod_lt _ (by decide)⟩ }
  else old[i]

/-- Whether the byte for an entry is well formed, and the entry one that may be set. -/
def regionByteOk (s : State) (first : Nat) (k v : Nat) : Bool :=
  s.worlds.region[(⟨(first + k) % 128, Nat.mod_lt _ (by decide)⟩ : Fin 128)].purpose == 4 && v / 8 % 16 == 0
    && (v % 8 == 7 || (match hostOfCode (v % 8) with | some h => hostInPair s h | none => false))

/-- The entries as setting 5 keeps them: four bits each, bit 3 secure and bits 2:0 the assignee (log entry 11). -/
def regionNibbles (r : Vector RegionEntry 128) : List Byte :=
  let nib (i : Nat) : Nat :=
    match r[(⟨i % 128, Nat.mod_lt _ (by decide)⟩ : Fin 128)] with | e => e.assignee.val + 8 * bitNat e.secure
  (List.range 64).map (fun k => BitVec.ofNat 8 (nib (2 * k) + 16 * nib (2 * k + 1)))

/-- The 128 bytes that length 0 returns. -/
def regionReport (s : State) : List Byte :=
  (List.finRange 128).map (fun i =>
    let e := s.worlds.region[i]
    BitVec.ofNat 8 (e.assignee.val + 8 * bitNat (!(sparesUsed s i.val).isEmpty) + 16 * e.purpose.val + 128 * bitNat e.secure))

def secRegionWorldSpec : OpSpec := secSpec 0x0D02 (fun n => n == 0 || (decide (5 ≤ n) && decide (n ≤ 132)))
def secRegionWorldBody (c : Cmd) (s : State) : State :=
  let p := c.payload
  let first := byteAt p 0
  let n := byteAt p 1
  let new : Vector RegionEntry 128 := Vector.ofFn (newRegion c s.worlds.region)
  if p.isEmpty then ok 0x0D02 c (regionReport s) s
  else if n < 1 || 128 < n || p.length != 4 + n || 128 < first + n || !zeroAt p 2 2
      || (List.range n).any (fun k => !regionByteOk s first k (byteAt p (4 + k))) then fail 0x0D02 c stBadArg s
  else if (List.finRange 128).any (fun i => (new[i].secure || new[i].assignee != 7) && !(sparesUsed s i.val).isEmpty
      && new[i] != s.worlds.region[i]) then fail 0x0D02 c stBusy s
  else ok 0x0D02 c [] (storeSetting 5 (regionNibbles new) { s with worlds := { s.worlds with region := new } })

/-- SEC_REGION_WORLD (R503, R525). -/
def execSecRegionWorld (c : Cmd) (s : State) : Answer := .next (runCmd secRegionWorldSpec secRegionWorldBody c s)

/-! ### The life cycle (R504 to R507, R526) -/

/-- Whether Table 14.6 has a transition with the signer named: 0 is Dvornex, 1 the owner. -/
def lcAllowed (old new : Lc) (signer : Nat) : Bool :=
  match old, new with
  | .blank, .provisioned => signer == 0
  | .provisioned, .deployed => signer == 1
  | .deployed, .returned => signer == 1
  | .returned, .provisioned => signer == 0
  | .provisioned, .scrapped => decide (signer ≤ 1)
  | .deployed, .scrapped => decide (signer ≤ 1)
  | .blank, .scrapped => signer == 0
  | .returned, .scrapped => signer == 0
  | _, _ => false

/-- The serial number's bytes. -/
def serialBytes : List Byte := (List.range 16).map Config.serialByte

/-- The key an LC_TRANSITION's signature is checked with. -/
def signerKey (s : State) (signer : Nat) : Option (List Byte) :=
  if signer = 0 then some ((List.range 96).map Config.dvornexKeyByte) else s.ident.ownerKey

/-- The nonce that LC_STATUS issued last. -/
def nonceBytes (n : Nat) : List Byte := (List.range 32).map (Config.nonceByte n)

/-- Order 4 of R506: the nonce, the key field and the signature. -/
def lcSigned (s : State) (new : Lc) (p : List Byte) : Bool :=
  (match s.fw.nonce with | some n => (p.drop 4).take 32 == nonceBytes n | none => false)
    && zeroAt p 2 2 && (new == .provisioned || zeroAt p 36 96)
    && (match signerKey s (byteAt p 1) with
      | some k => Config.ecdsaVerify k (p.take 132 ++ serialBytes) ((p.drop 132).take 96)
      | none => false)

/-- The owner key after a transition (Table 14.6). -/
def keyAfter (s : State) (new : Lc) (p : List Byte) : Option (List Byte) :=
  match new with
  | .provisioned => some ((p.drop 36).take 96)
  | .deployed => s.ident.ownerKey
  | .blank => none | .returned => none | .scrapped => none

/-- Outputs, links and ports are quiesced as R476 lists, with ILK_N released (Table 14.8 step 2). -/
def quiesceAll (s : State) : State :=
  let s := { s with disp := { s.disp with outs := s.disp.outs.map (fun x => { x with link := 0 }) } }
  let s := ([0, 1] : List PciePort).foldl assertPerst s
  let s := resetUsbPorts false (([0, 1] : List EthPort).foldl (fun s e => ethDown e s) s)
  (List.finRange 4).foldl showLink s

/-- Steps 2 and 3 of Table 14.8: from here the chip does nothing until the cold reset of step 6, which RESET_RELEASE ends
(log entry 88). -/
def changeLc (new : Lc) (p : List Byte) (s : State) : State :=
  let old := s.ident.lc
  let key := keyAfter s new p
  let s := quiesceAll s
  { s with
    ident := { s.ident with lc := new, ownerKey := key, wipePending := true }
    fw := { s.fw with lcChange := some ⟨old⟩ }
    ready := false
    clock := { s.clock with inReset := true, coldNext := true } }

def lcTransitionSpec : OpSpec :=
  { op := 0x0D03, lens := lenIn [228], perm := fun s c r => permO r && (c.src == .mailbox 2 || (c.src == .mailbox 3 && s.variant != .qt9840)), write := fun _ => true }
def lcTransitionRun (c : Cmd) (s : State) : State :=
  let p := c.payload
  if s.pair.state != 0 then fail 0x0D03 c stPairRole s
  else if fwBusy s || waitsFor s .lcTransition then fail 0x0D03 c stBusy s
  else match lcOfCode (byteAt p 0) with
    | none => fail 0x0D03 c stLifecycle s
    | some new =>
      if !lcAllowed s.ident.lc new (byteAt p 1) then fail 0x0D03 c stLifecycle s
      else if !lcSigned s new p then fail 0x0D03 c stBadArg s
      else startPending 0x0D03 c .lcTransition (changeLc new p) s
def lcTransitionBody : Cmd → State → State := withSecurity 0x0D03 lcTransitionRun

/-- LC_TRANSITION (R505 to R507); on a variant that never pairs, MB3 takes what MB2 takes (R5). -/
def execLcTransition (c : Cmd) (s : State) : Answer := .next (runCmd lcTransitionSpec lcTransitionBody c s)

def lcStatusSpec : OpSpec :=
  { op := 0x0D04, lens := lenIn [0], perm := fun _ c r => permO r || permH r || permP c r, write := fun _ => false
    scrappedOk := true }

/-- The 56-byte response of LC_STATUS. -/
def lcReport (s : State) (nonce : List Byte) : List Byte :=
  [BitVec.ofNat 8 (lcCode s.ident.lc),
   BitVec.ofNat 8 (bitNat (s.ident.lc == .provisioned || s.ident.lc == .deployed) + 2 * bitNat s.ident.wipePending), 0, 0]
    ++ serialBytes ++ wordBytes s.ident.secVersion ++ nonce
def lcStatusBody (c : Cmd) (s : State) : State :=
  if cmdRequester s c = .owner then
    let n := s.freeCtr
    ok 0x0D04 c (lcReport s (nonceBytes n)) { s with freeCtr := n + 1, fw := { s.fw with nonce := some n } }
  else ok 0x0D04 c (lcReport s (zeros 32)) s

/-- LC_STATUS (R526): each one from the owner issues a new nonce. -/
def execLcStatus (c : Cmd) (s : State) : Answer := .next (runCmd lcStatusSpec lcStatusBody c s)

/-! ### NV_WEAR_READ (R527) -/

/-- The blocks of the words an NV_WEAR_READ names. -/
def wearBlocks (c : Cmd) : List (Fin 32) :=
  let first := fieldAt c.payload 0 2
  ((List.range (byteAt c.payload 2)).filter (fun k => decide (512 ≤ first + k) && decide (first + k < 1024))).map
    (fun k => ⟨(24 + (first + k - 512) / 64) % 32, Nat.mod_lt _ (by decide)⟩)

def nvWearReadSpec : OpSpec :=
  { op := 0x0D05, lens := lenIn [4]
    perm := fun _ c r => permO r || (permH r && (byteAt c.payload 2 == 0 || decide (512 ≤ fieldAt c.payload 0 2)))
    block := fun s c => (wearBlocks c).find? (fun b => blockRefuses s b (cmdRequester s c) false)
    write := fun _ => false }
def nvWearReadBody (c : Cmd) (s : State) : State :=
  let first := fieldAt c.payload 0 2
  let n := byteAt c.payload 2
  if 60 < n || 1023 < first || 1024 < first + n || !zeroAt c.payload 3 1 then fail 0x0D05 c stBadArg s
  else
    ok 0x0D05 c (leBytes 2 first ++ leBytes 2 n ++ zeros 4
      ++ (List.range n).flatMap (fun k => leBytes 8 (sparseGet 0 s.persist.wear (first + k)).toNat)) s

/-- NV_WEAR_READ (R527). -/
def execNvWearRead (c : Cmd) (s : State) : Answer := .next (runCmd nvWearReadSpec nvWearReadBody c s)

/-! ### Attestation (R515) -/

/-- The words of settings 1, 4 to 19, 21, 22 and 24, in word order (Table 14.14). -/
def attestedWords : List Nat := (List.range 171).map (· + 4) ++ [177, 178, 179, 180, 181, 185]

/-- Bytes 0 to 175 of the attestation report (Table 14.13). -/
def attestBody (s : State) (nonce : List Byte) : List Byte :=
  let records := attestedWords.flatMap (fun w => wordBytes (pbWord s w))
  leBytes 4 1 ++ serialBytes
    ++ [BitVec.ofNat 8 (variantCode s), 0xB0, BitVec.ofNat 8 (lcCode s.ident.lc), BitVec.ofNat 8 s.fw.level.toNat]
    ++ wordBytes s.fw.running.version ++ wordBytes s.ident.secVersion ++ padTo 48 s.fw.running.digest
    ++ (List.range 48).map (Config.sha384Byte records) ++ padTo 32 nonce ++ leBytes 8 s.clock.hubTime.toNat ++ zeros 8

def secAttestSpec : OpSpec :=
  { op := 0x0D06, lens := lenIn [8, 36], perm := fun _ _ r => permO r || permH r || r == .partner, write := fun _ => false
    scrappedOk := true }
def secAttestReportOp (c : Cmd) (s : State) : State :=
  if !zeroAt c.payload 1 3 then fail 0x0D06 c stBadArg s
  else
    let b := attestBody s ((c.payload.drop 4).take 32)
    ok 0x0D06 c (b ++ (List.range 96).map (Config.attestSigByte b)) s
def secAttestCertificateOp (c : Cmd) (s : State) : State :=
  if !zeroAt c.payload 1 3 then fail 0x0D06 c stBadArg s
  else
    let off := fieldAt c.payload 4 4
    ok 0x0D06 c (leBytes 4 Config.certLength
      ++ (List.range (min 480 (Config.certLength - off))).map (fun k => Config.certByte (off + k))) s
def attestReports (c : Cmd) : Bool := c.payload.length == 36 && byteAt c.payload 0 == 0
def attestCertifies (c : Cmd) : Bool := c.payload.length == 8 && byteAt c.payload 0 == 1
def secAttestRun (c : Cmd) (s : State) : State :=
  if attestReports c then secAttestReportOp c s else onlyWhen attestCertifies 0x0D06 secAttestCertificateOp c s
def secAttestBody : Cmd → State → State := withSecurity 0x0D06 secAttestRun

/-- SEC_ATTEST, operation 0 (R515). -/
def execSecAttestReport (c : Cmd) (s : State) : Answer :=
  .next (runCmd secAttestSpec (withSecurity 0x0D06 (onlyWhen attestReports 0x0D06 secAttestReportOp)) c s)

/-- SEC_ATTEST, operation 1 (R515). -/
def execSecAttestCertificate (c : Cmd) (s : State) : Answer :=
  .next (runCmd secAttestSpec (withSecurity 0x0D06 (onlyWhen attestCertifies 0x0D06 secAttestCertificateOp)) c s)

/-! ### The end of a port's self-test (R474) -/

/-- The commands that waited for the security engine go on, or complete with NO_RESOURCE. -/
def releaseSecurity (s : State) : State :=
  let held := s.flt.secWait
  let s := updFlt (fun f => { f with secWait := [] }) { s with pend := s.pend.filter (fun p => p.kind != .security) }
  held.foldl (fun s h => if h.opcode = 0x0D03 then lcTransitionBody h.cmd s else secAttestBody h.cmd s) s

/-- PORT_SELFTEST_DONE (R474). -/
def execPortSelftestDone (p : FabPort) (pass : Bool) (s : State) : Answer :=
  .next (if coreOn s then
      let s := selftestEnd p pass s
      if p = 15 then releaseSecurity s else s
    else s)

end Sys2Proof.Machine
end

