-- ==== Sys2Proof/Machine/System.lean ====
section
/-! DEFINITION. The System group (15): SYS_NOP to SYS_EVENT_MASK, firmware staging and activation (R512 to R514), and changes of performance level (R35 to R40, R585, R593). -/
namespace Sys2Proof.Machine

/-! ### Identity, time, mask and resets -/

def sysSpec (op : Half) (lens : Nat → Bool) (write : Cmd → Bool) : OpSpec :=
  { op := op, lens := lens, perm := fun _ c r => permO r || permH r || permP c r, write := write }

def sysNopSpec : OpSpec := sysSpec 0x0100 (fun n => decide (n ≤ 496)) (fun _ => false)
def sysNopBody (c : Cmd) (s : State) : State := ok 0x0100 c c.payload s

/-- SYS_NOP (R535). -/
def execSysNop (c : Cmd) (s : State) : Answer := .next (runCmd sysNopSpec sysNopBody c s)

/-- The source address of a physical Ethernet port, 0 where the variant has no such port. -/
def ethAddrBytes (s : State) (e : EthPort) : List Byte :=
  if swPresent s (swOfEth e) then ethAddr e else zeros 6

/-- The 64 bytes of Table 15.4. -/
def infoReport (s : State) (r : Requester) : List Byte :=
  [BitVec.ofNat 8 (variantCode s), 0xB0, BitVec.ofNat 8 s.fw.level.toNat, BitVec.ofNat 8 (profileCode s.perf.profile),
   BitVec.ofNat 8 s.perf.pl.val, BitVec.ofNat 8 (lcCode s.ident.lc), BitVec.ofNat 8 s.pair.state.val,
   BitVec.ofNat 8 (requesterCode r).val]
    ++ wordBytes s.fw.running.version ++ wordBytes s.ident.secVersion ++ serialBytes
    ++ ethAddrBytes s 0 ++ zeros 2 ++ ethAddrBytes s 1 ++ zeros 2 ++ leBytes 4 (capacityMiB s)
    ++ [BitVec.ofNat 8 (uplinks s), BitVec.ofNat 8 (outputs s), BitVec.ofNat 8 (bitNat s.pcie.split)] ++ zeros 9

def sysInfoSpec : OpSpec :=
  { sysSpec 0x0101 (lenIn [0]) (fun _ => false) with block := fun _ _ => some 14, scrappedOk := true }
def sysInfoBody (c : Cmd) (s : State) : State := ok 0x0101 c (infoReport s (cmdRequester s c)) s

/-- SYS_INFO (R536). -/
def execSysInfo (c : Cmd) (s : State) : Answer := .next (runCmd sysInfoSpec sysInfoBody c s)

def sysTimeGetSpec : OpSpec := { sysSpec 0x0105 (lenIn [0]) (fun _ => false) with block := fun _ _ => some 14 }
def sysTimeGetBody (c : Cmd) (s : State) : State :=
  ok 0x0105 c (leBytes 8 s.clock.hubTime.toNat
    ++ [BitVec.ofNat 8 (bitNat s.clock.untimed + 2 * bitNat (inSpan s)), 0, 0, 0]
    ++ leBytes 4 (if inSpan s then s.pair.timeOffset.toNat % 2 ^ 32 else 0)) s

/-- SYS_TIME_GET (R538). -/
def execSysTimeGet (c : Cmd) (s : State) : Answer := .next (runCmd sysTimeGetSpec sysTimeGetBody c s)

/-- The issuer's own mailbox: for a command the partner forwarded, the partner's. -/
def ownMailbox (s : State) (c : Cmd) : Option MbNo :=
  match c.src with
  | .mailbox m => some m
  | .forwarded r _ => if r = .partner then some 3
    else match hostOfRequester r with | some h => mailboxOfHost s h | none => none
  | .mirror _ => none

def sysEventMaskSpec : OpSpec := sysSpec 0x0108 (lenIn [0, 8]) (fun c => !c.payload.isEmpty)
def sysEventMaskBody (c : Cmd) (s : State) : State :=
  match ownMailbox s c with
  | none => fail 0x0108 c stNoResource s
  | some m =>
    let s := if c.payload.isEmpty then s
      else
        let v : Dword := BitVec.ofNat 64 (fieldAt c.payload 0 8) &&& eventsPresent s
        updMb m (fun mb => { mb with mask := if m = 2 then v ||| 0x30 else v }) s
    ok 0x0108 c (leBytes 8 (s.mb[m].mask &&& eventsPresent s).toNat) s

/-- SYS_EVENT_MASK (R539). -/
def execSysEventMask (c : Cmd) (s : State) : Answer := .next (runCmd sysEventMaskSpec sysEventMaskBody c s)

def sysResetSpec : OpSpec := { op := 0x0103, lens := lenIn [1], perm := fun _ _ r => permO r, write := fun _ => true }
/-- A reset by SYS_RESET; after the third entry into the safe state within an hour only RST_N and the removal of power end
it, and the command is refused (R477; log entry 139). -/
def sysReset (cold : Bool) (c : Cmd) (s : State) : State :=
  if s.flt.safeStays then fail 0x0103 c stBusy s else restart cold none s
def sysResetWarmOp (c : Cmd) (s : State) : State := sysReset false c s
def sysResetColdOp (c : Cmd) (s : State) : State := sysReset true c s
def sysResetBody (c : Cmd) (s : State) : State :=
  if byteAt c.payload 0 = 0 then sysResetWarmOp c s
  else onlyWhen (fun c => byteAt c.payload 0 == 1) 0x0103 sysResetColdOp c s

/-- SYS_RESET, 0 (R508): no response is posted. -/
def execSysResetWarm (c : Cmd) (s : State) : Answer :=
  .next (runCmd sysResetSpec (onlyWhen (fun c => byteAt c.payload 0 == 0) 0x0103 sysResetWarmOp) c s)

/-- SYS_RESET, 1 (R508): no response is posted. -/
def execSysResetCold (c : Cmd) (s : State) : Answer :=
  .next (runCmd sysResetSpec (onlyWhen (fun c => byteAt c.payload 0 == 1) 0x0103 sysResetColdOp) c s)

/-! ### The behaviour pin (R521, R523) -/

/-- Whether the stored pin is locked. -/
def pinLocked (s : State) : Bool := (pinWord s).testBit 8

/-- The 8-byte response: the level pinned and in effect, the running image's range, and the lock. -/
def pinReport (s : State) : List Byte :=
  [BitVec.ofNat 8 (pinWord s % 256), BitVec.ofNat 8 s.fw.level.toNat, s.fw.running.lowest, s.fw.running.highest,
   BitVec.ofNat 8 (bitNat (pinLocked s)), 0, 0, 0]

/-- Whether a host may issue a pin command: any that reads, and a set that leaves the lock alone while it is clear (R521,
R523). -/
def hostPins (s : State) (c : Cmd) : Bool := c.payload.isEmpty || (!pinLocked s && byteAt c.payload 1 % 2 == 0)

def sysBehaviourPinSpec : OpSpec :=
  { op := 0x0104, lens := lenIn [0, 4]
    perm := fun s c r => permO r || (permH r && hostPins s c) || permP c r
    write := fun c => !c.payload.isEmpty }
def sysBehaviourPinBody (c : Cmd) (s : State) : State :=
  let p := c.payload
  let level := byteAt p 0
  let lock := byteAt p 1
  if p.isEmpty then ok 0x0104 c (pinReport s) s
  else if 4 < level || 1 < lock || !zeroAt p 2 2
      || (level != 0 && (decide (level < s.fw.running.lowest.toNat) || decide (s.fw.running.highest.toNat < level))) then
    fail 0x0104 c stBadArg s
  else if s.pair.state != 0 then fail 0x0104 c stPairRole s
  else
    let s := storeWord 1 (BitVec.ofNat 32 (level + 256 * lock)) s
    ok 0x0104 c (pinReport s) s

/-- SYS_BEHAVIOUR_PIN (R521). -/
def execSysBehaviourPin (c : Cmd) (s : State) : Answer := .next (runCmd sysBehaviourPinSpec sysBehaviourPinBody c s)

/-! ### Firmware staging (R510 to R512) -/

def otherSlot (s : State) : Fin 2 := if s.fw.active = 0 then 1 else 0
def updFw (f : Firmware → Firmware) (s : State) : State := { s with fw := f s.fw }
def updSlot (n : Fin 2) (f : Slot → Slot) (s : State) : State := updFw (fun w => { w with slots := upd w.slots n f }) s

/-- The image that staged bytes hold (Table 14.11): well formed when every fixed field has its value and the length is the
one announced and received. -/
def parseImage (announced : Nat) (b : List Byte) : Image :=
  let digest := (b.drop 28).take 48
  { formatOk := decide (512 ≤ b.length) && fieldAt b 0 4 == 0x4B584F31 && fieldAt b 4 4 == 1 && fieldAt b 8 4 == b.length
      && announced == b.length && decide (b.length ≤ 8388608) && zeroAt b 172 340
    digestOk := digest == (List.range 48).map (Config.sha384Byte (b.drop 512))
    sigOk := Config.ecdsaVerify ((List.range 96).map Config.dvornexKeyByte) (b.take 76) ((b.drop 76).take 96)
    version := BitVec.ofNat 32 (fieldAt b 12 4), stepping := BitVec.ofNat 8 (byteAt b 16)
    lowest := BitVec.ofNat 8 (byteAt b 17), highest := BitVec.ofNat 8 (byteAt b 18), kind := BitVec.ofNat 8 (byteAt b 19)
    secVersion := BitVec.ofNat 32 (fieldAt b 20 4), variants := BitVec.ofNat 32 (fieldAt b 24 4), digest := digest }

/-- A stage operation other than Status: refused during an activation, and once port 15 has failed (R512, Table 13.4). -/
def stageOp (f : Cmd → State → State) (c : Cmd) (s : State) : State :=
  if s.activating || waitsFor s .fwActivate then fail 0x0106 c stBusy s
  else if s.flt.failed.getLsbD 15 then fail 0x0106 c stNoResource s
  else if !zeroAt c.payload 1 3 then fail 0x0106 c stBadArg s
  else f c s

def stageBeginOp : Cmd → State → State := stageOp fun c s =>
  let n := fieldAt c.payload 4 4
  if 8388608 < n then fail 0x0106 c stBadArg s
  else
    startPending 0x0106 c .fwErase (fun s =>
      let s := finish .fwCheck stBadArg [1] s
      updSlot (otherSlot s) (fun _ => ⟨1, none⟩)
        (updFw (fun w => { w with staging := true, stageLen := n, stageData := [] }) s)) s

/-- Whether a stage operation that still holds PENDING is changing the slot (R531). A Begin is not held up by it, since it
discards what is being staged (R512). -/
def slotBusy (s : State) : Bool := waitsFor s .fwErase || waitsFor s .fwCheck

def stageDataOp : Cmd → State → State := stageOp fun c s =>
  let b := c.payload.drop 16
  let off := fieldAt c.payload 4 4
  if slotBusy s then fail 0x0106 c stBusy s
  else if !zeroAt c.payload 8 8 || !s.fw.staging || off != s.fw.stageData.length || s.fw.stageLen < off + b.length then
    fail 0x0106 c stBadArg s
  else ok 0x0106 c [] (updFw (fun w => { w with stageData := w.stageData ++ b }) s)

def stageFinishOp : Cmd → State → State := stageOp fun c s =>
  if slotBusy s then fail 0x0106 c stBusy s
  else if !s.fw.staging then respond 0x0106 c stBadArg [1] s
  else startPending 0x0106 c .fwCheck id s

/-- The 24 bytes of operation 3. -/
def stageReport (s : State) : List Byte :=
  s.fw.slots.toList.flatMap (fun x =>
    let v := match x.image with | some i => i.version | none => 0
    let w := match x.image with | some i => i.secVersion | none => 0
    leBytes 4 x.state.val ++ wordBytes v ++ wordBytes w)
def stageStatusOp (c : Cmd) (s : State) : State :=
  if s.flt.failed.getLsbD 15 then fail 0x0106 c stNoResource s
  else if !zeroAt c.payload 1 3 then fail 0x0106 c stBadArg s
  else ok 0x0106 c (stageReport s) s

def stageSpec : OpSpec :=
  { op := 0x0106, lens := fun n => n == 4 || n == 8 || (decide (16 ≤ n) && decide (n ≤ 496)), perm := fun _ _ r => permO r
    write := fun c => byteAt c.payload 0 != 3 }
def stageBegins (c : Cmd) : Bool := byteAt c.payload 0 == 0 && c.payload.length == 8
def stageSends (c : Cmd) : Bool := byteAt c.payload 0 == 1 && decide (16 ≤ c.payload.length)
def stageFinishes (c : Cmd) : Bool := byteAt c.payload 0 == 2 && c.payload.length == 4
def stageReads (c : Cmd) : Bool := byteAt c.payload 0 == 3 && c.payload.length == 4
def stageBody (c : Cmd) (s : State) : State :=
  if stageBegins c then stageBeginOp c s else if stageSends c then stageDataOp c s
  else if stageFinishes c then stageFinishOp c s else onlyWhen stageReads 0x0106 stageStatusOp c s

/-- SYS_FW_STAGE, operation 0 (R512). -/
def execSysFwStageBegin (c : Cmd) (s : State) : Answer :=
  .next (runCmd stageSpec (onlyWhen stageBegins 0x0106 stageBeginOp) c s)

/-- SYS_FW_STAGE, operation 1 (R512). -/
def execSysFwStageData (c : Cmd) (s : State) : Answer :=
  .next (runCmd stageSpec (onlyWhen stageSends 0x0106 stageDataOp) c s)

/-- SYS_FW_STAGE, operation 2 (R512). -/
def execSysFwStageFinish (c : Cmd) (s : State) : Answer :=
  .next (runCmd stageSpec (onlyWhen stageFinishes 0x0106 stageFinishOp) c s)

/-- SYS_FW_STAGE, operation 3 (R512). -/
def execSysFwStageStatus (c : Cmd) (s : State) : Answer :=
  .next (runCmd stageSpec (onlyWhen stageReads 0x0106 stageStatusOp) c s)

/-- Whether Karxo runs: it neither restarts nor is being activated, and the core acts. -/
def karxoRuns (s : State) : Bool := coreOn s && !s.flt.restarting && !s.activating

/-- FW_SLOT_ERASE_DONE (R512). -/
def execFwSlotEraseDone (s : State) : Answer := .next (if karxoRuns s then finish .fwErase stOk [] s else s)

/-- FW_STAGE_CHECK_DONE (R511, R512): the slot is staged, or failed with the reason. The check waits while fabric port 15 is
isolated (Table 13.4). -/
def execFwStageCheckDone (s : State) : Answer :=
  .next (if !karxoRuns s || !waitsFor s .fwCheck || s.flt.isolated.getLsbD 15 then s
    else
      let i := parseImage s.fw.stageLen s.fw.stageData
      let n := otherSlot s
      let clear (s : State) : State := updFw (fun w => { w with staging := false, stageLen := 0, stageData := [] }) s
      match imageFault s false s.fw.level.toNat i with
      | none => finish .fwCheck stOk [] (updSlot n (fun _ => ⟨2, some i⟩) (clear s))
      | some k => finish .fwCheck stBadArg [BitVec.ofNat 8 k] (updSlot n (fun _ => ⟨4, some i⟩) (clear s)))

/-! ### Activation (R513, R514) -/

def activateSpec : OpSpec := { op := 0x0107, lens := lenIn [0], perm := fun _ _ r => permO r, write := fun _ => true }
def activateBody (c : Cmd) (s : State) : State :=
  if s.fw.slots[otherSlot s].state != 2 then fail 0x0107 c stNoResource s
  else if waitsFor s .lcTransition || waitsFor s .handover || s.activating || waitsFor s .fwActivate then
    fail 0x0107 c stBusy s
  else startPending 0x0107 c .fwActivate id s

/-- SYS_FW_ACTIVATE (R513). -/
def execSysFwActivate (c : Cmd) (s : State) : Answer := .next (runCmd activateSpec activateBody c s)

/-- Whether a command other than the activation is still owed its final response. -/
def othersPend (s : State) : Bool := s.pend.any (fun p => p.kind != .fwActivate) || !s.commits.isEmpty

/-- FW_ACTIVATE_WAIT_TIMEOUT (R513): another command still holds PENDING after 100 ms. -/
def execFwActivateWaitTimeout (s : State) : Answer :=
  .next (if karxoRuns s && s.pend.any (fun p => p.kind != .fwActivate && p.posted) then finish .fwActivate stBusy [] s
    else s)

/-- FW_ACTIVATION_START (Table 14.12 step 2). -/
def execFwActivationStart (s : State) : Answer :=
  .next (if karxoRuns s && waitsFor s .fwActivate && !othersPend s then { s with ready := false, activating := true } else s)

/-- The state code of the slot that was active before: the spec names none of the codes for it (log entry 89). -/
def formerSlot (s : State) : Fin 5 × State :=
  let (v, s) := takeFree 8 s
  (if v.toNat % 3 = 0 then 0 else if v.toNat % 3 = 1 then 2 else 4, s)

/-- FW_ACTIVATION_DONE (Table 14.12 step 5). -/
def execFwActivationDone (s : State) : Answer :=
  .next (if !s.activating || !coreOn s then s
    else match s.fw.slots[otherSlot s].image with
      | none => s
      | some i =>
        let new := otherSlot s
        let old := s.fw.active
        let (code, s) := formerSlot s
        let s := updSlot old (fun x => { x with state := code }) (updSlot new (fun x => { x with state := 3 }) s)
        let s := updFw (fun w => { w with active := new, running := i }) s
        let s := { s with
          ident := { s.ident with secVersion := i.secVersion }, ready := true, activating := false }
        finish .fwActivate stOk (wordBytes i.version) s)

/-- FW_ACTIVATION_FAIL (R514). -/
def execFwActivationFail (s : State) : Answer :=
  .next (if !s.activating || !coreOn s then s
    else finish .fwActivate stNoResource []
      (updSlot (otherSlot s) (fun x => { x with state := 4 }) { s with ready := true, activating := false }))

/-! ### Profiles and performance levels (R12, R13, R35 to R40, R537) -/

def profileAbsent (s : State) (c : Cmd) : Bool :=
  match c.payload.isEmpty, profileOfCode (byteAt c.payload 0) with
  | false, some p => !profileIn s.variant p
  | _, _ => false
def sysProfileSetSpec : OpSpec :=
  { sysSpec 0x0102 (lenIn [0, 4]) (fun c => !c.payload.isEmpty) with absent := profileAbsent }

/-- Whether a SYS_PROFILE_SET is being carried out, a held one included (R13). -/
def profileBusy (s : State) : Bool := profileChanging s || s.perf.held.any (fun h => h.opcode == 0x0102)

/-- A new profile: at once where the level stays, else by a change of level. -/
def setProfile (p : Profile) (c : Cmd) (s : State) : State :=
  let pl := profilePl p
  if p = s.perf.profile || pl = s.perf.pl then ok 0x0102 c [] (if p = s.perf.profile then s else enterProfile p s)
  else if !hasConv s then fail 0x0102 c stNoResource s
  else if s.perf.pl.val < pl.val && !admitNow s pl then fail 0x0102 c stAdmission s
  else startPending 0x0102 c (.profile p) (startChange pl (.profile p)) s

def sysProfileSetBody (c : Cmd) (s : State) : State :=
  if c.payload.isEmpty then
    ok 0x0102 c [BitVec.ofNat 8 (profileCode s.perf.profile), BitVec.ofNat 8 s.perf.pl.val, 0, 0] s
  else match profileOfCode (byteAt c.payload 0) with
    | none => fail 0x0102 c stBadArg s
    | some p =>
      if !zeroAt c.payload 1 3 then fail 0x0102 c stBadArg s
      else if profileBusy s then fail 0x0102 c stBusy s
      else if plBusy s then holdRequest 0x0102 c s
      else setProfile p c s

/-- SYS_PROFILE_SET (R12, R13, R39, R537). -/
def execSysProfileSet (c : Cmd) (s : State) : Answer := .next (runCmd sysProfileSetSpec sysProfileSetBody c s)

/-- The first record of a held command goes: its own when it was held again (R531). -/
def dropHold (c : Cmd) (l : List Pending) : List Pending :=
  match l with
  | [] => []
  | p :: r => if p.kind == .held && p.src == c.src && p.seq == c.seq then r else p :: dropHold c r

/-- A held request is decided against the level in force (R39, R40). -/
def rerun (s : State) (h : HeldCmd) : State :=
  let body : Cmd → State → State :=
    if h.opcode = 0x0401 then dispModeSetBody else if h.opcode = 0x0301 then tunOpenBody
    else if h.opcode = 0x0303 then tunShapeBody else if h.opcode = 0x0304 then tunPoliceBody
    else if h.opcode = 0x0202 then linkAllotBody else if h.opcode = 0x0701 then netPortCfgBody else sysProfileSetBody
  let s := body h.cmd s
  { s with pend := dropHold h.cmd s.pend }

/-- Every held request, in the order they came. -/
def rerunHeld (s : State) : State := s.perf.held.foldl rerun (updPerf (fun p => { p with held := [] }) s)

/-- A change of level has ended as it should: the guarantees of the level reached are in force (R35, R37, R38). -/
def completeChange (c : PlChange) (s : State) : State :=
  let s := updPerf (fun p => { p with pl := c.toPl, change := none, abandoned := p.abandoned.set 0 0 }) s
  match c.cause with
  | .profile p => rerunHeld (finish (.profile p) stOk [] (enterProfile p s))
  | .start => rerunHeld s
  | .forRequest => rerunHeld s
  | .auto => rerunHeld s
  | .restore => s

/-- PL_CHANGE_CONFIRMED (R35, R37). -/
def execPlChangeConfirmed (s : State) : Answer :=
  .next (if coreOn s then match s.perf.change with | none => s | some c => completeChange c s else s)

/-- The requests of a failed change: its own completes with NO_RESOURCE, the others are decided (R37, R39, R40). -/
def failRequests (cause : PlCause) (s : State) : State :=
  match cause with
  | .profile p => rerunHeld (finish (.profile p) stNoResource [] s)
  | .forRequest =>
    match s.perf.held with
    | [] => s
    | h :: r =>
      let s := updPerf (fun p => { p with held := r }) s
      let s := fail h.opcode h.cmd stNoResource { s with pend := dropHold h.cmd s.pend }
      rerunHeld s
  | .start => s
  | .auto => rerunHeld s
  | .restore => s

/-- A change has failed (R37): the previous voltage is commanded, and class 0x0C logged. At the start there is no previous
voltage, and after a failed change the lower level's guarantees stay. -/
def failChange (c : PlChange) (s : State) : State :=
  match c.cause with
  | .start => logFault 0x0C c.toPl.val {} s
  | .restore => updPerf (fun p => { p with change := none }) s
  | _ =>
    let s := logFault 0x0C c.toPl.val {} s
    let s := if c.fromPl.val < c.toPl.val then startChange c.fromPl .restore s
      else emit (.pmbus .vddFab 0x21 (plMv c.fromPl)) (updPerf (fun p => { p with change := none }) s)
    failRequests c.cause s

/-- PL_CHANGE_TIMEOUT (R37): 1 ms after the voltage command. -/
def execPlChangeTimeout (s : State) : Answer :=
  .next (if coreOn s then match s.perf.change with | none => s | some c => failChange c s else s)

/-- PL_AUTO_LOWER (R593). -/
def execPlAutoLower (s : State) : Answer :=
  runCore (fun s =>
    let recent := match s.perf.lastRaise with
      | some t => decide ((s.clock.hubTime - t).toNat < 1000000000)
      | none => false
    if s.perf.profile == .dusk && s.perf.pl == 2 && s.perf.change.isNone && s.perf.held.isEmpty && hasConv s && !recent
        && karxoRuns s && s.pm.phase == .run && admitNow s 3 then startChange 3 .auto s
    else s) s

/-- The VDD_FAB converter is treated as absent: a change in progress fails, and the guarantees of the lower of its two
levels stay (R585). -/
def loseFab (s : State) : State :=
  let s := updPerf (fun p => { p with convAbsent := true }) (logFault 0x0F s.perf.fabAddr.toNat {} s)
  match s.perf.change with
  | none => s
  | some c =>
    let low := if c.fromPl.val < c.toPl.val then c.toPl else c.fromPl
    let s := if c.cause = .restore then s else logFault 0x0C c.toPl.val {} s
    failRequests c.cause (updPerf (fun p => { p with change := none, pl := low }) s)

/-- A VBUS converter is treated as absent (R432): the uplink is without VBUS and without Rp, so that no sink is attached. -/
def loseVbus (u : Up) (s : State) : State :=
  let s := logFault 0x0F (byteAt s.power.pd[u].policy 6) {} s
  let s := dropUplink u 0 (cutVbus u (updPd u (fun x => { x with convAbsent := true, cable := none }) s))
  updLink (linkOfUp u) (fun k => { k with cc := 0, qualified := false, suppressed := false, due := 0 }) s

/-- PMBUS_TRANSACTION_TIMEOUT (R585): the third abandoned transaction in a row. -/
def execPmbusTransactionTimeout (cv : Converter) (s : State) : Answer :=
  .next (if !s.clock.powered then s
    else
      let k : Fin 3 := match cv with | .vddFab => 0 | .vbus u => ⟨u.val + 1, by omega⟩
      let n := s.perf.abandoned[k] + 1
      let s := updPerf (fun p => { p with abandoned := p.abandoned.set k n }) s
      if n < 3 then s
      else match cv with
        | .vddFab => if hasConv s && coreOn s then loseFab s else s
        | .vbus u => if decide (u.val < uplinks s) && s.power.shell && !s.power.pd[u].convAbsent then loseVbus u s else s)

end Sys2Proof.Machine
end

