-- ==== Sys2Proof/Machine/Telemetry.lean ====
section
/-! DEFINITION. Temperature (R462) and the Telemetry group (R550 to R553): samples, thresholds, and the commands TEL_SAMPLE_CFG, TEL_READ and TEL_THERMAL. -/
namespace Sys2Proof.Machine

def updTel (f : Telemetry → Telemetry) (s : State) : State := { s with tel := f s.tel }

/-! ### Temperature -/

/-- A reading in 0.125 °C steps, two's complement. -/
def tempOf (t : Half) : Int := t.toInt

/-- The highest of the sensors. -/
def highest (t : Vector Half 4) : Half := t.toList.foldl (fun m x => if tempOf m < tempOf x then x else m) t[0]

/-- Event 7 for a threshold crossed. -/
def thermalEvent (code : Nat) (s : State) : State := raise .all 7 (65536 * code + s.tel.tj.toNat) s

/-- Whether a temperature is over a threshold in °C, given whether it was: it falls again 3 °C below (log entry 90). -/
def overNow (tj : Int) (limit : Nat) (was : Bool) : Bool :=
  if was then decide (8 * ((limit : Int) - 3) < tj) else decide (8 * (limit : Int) ≤ tj)

/-- The critical temperature: class 0x14 and the safe state (R462, R476). -/
def criticalTemp (s : State) : State :=
  enterSafe .critical (logFault 0x14 s.tel.tj.toNat
    { reaction := 6, detail := BitVec.ofNat 32 s.tel.tj.toNat } (thermalEvent 3 s))

/-- The crossings of a new sample. -/
def thermalCross (s : State) : State :=
  let t := s.tel
  let tj := tempOf t.tj
  let warn := overNow tj t.warnC.toNat t.overWarn
  let high := overNow tj t.highC.toNat t.overHigh
  let crit := overNow tj 130 t.overCrit
  let s := updTel (fun t => { t with overWarn := warn, overHigh := high, overCrit := crit }) s
  let s := if warn && !t.overWarn then thermalEvent 1 s else s
  let s := if high && !t.overHigh then thermalEvent 2 s else s
  let s := if crit && !t.overCrit then criticalTemp s else s
  let s := if !high && t.overHigh then thermalEvent 0x82 s else s
  if !warn && t.overWarn then thermalEvent 0x81 s else s

/-- THERMAL_SAMPLE (R462): the four sensors, every 1 ms in Run. -/
def execThermalSample (t : Vector (BitVec 16) 4) (s : State) : Answer :=
  .next (if !coreOn s then s
    else
      let tj := highest t
      thermalCross (updTel (fun x => { x with
        tj := tj, tjSeen := true, tjMax := if x.tjSeen && decide (tempOf tj < tempOf x.tjMax) then x.tjMax else tj }) s))

/-! ### Samples -/

/-- The quantities whose value the rules state: the highest sensor, 0 mV without a converter or without a feed (R550), and
0 for an uplink or a bond link that the variant lacks (R565). -/
def quantities (s : State) (q : Vector Word 16) : Vector Word 16 :=
  let hot : Word := ([q[1], q[2], q[3], q[4]] : List Word).foldl (fun m x => if m.toInt < x.toInt then x else m) q[1]
  Vector.ofFn (fun i : Fin 16 =>
    if i.val = 0 then hot else if i.val = 5 && !hasConv s then 0 else if i.val = 15 && s.power.inUse.isNone then 0
    else if (i.val = 10 || i.val = 11) && uplinks s != 2 then 0 else if i.val = 12 && s.variant != .qt9840 then 0
    else q[i])

/-- The lesser and the greater of two readings. -/
def lesser (a b : Word) : Word := if b.toInt < a.toInt then b else a
def greater (a b : Word) : Word := if a.toInt < b.toInt then b else a

/-- TELEMETRY_SAMPLE (R550, R551): in Run only, and not while no register of the window changes (R564); the sender gives the
interval's end. TEL_SEQ advances before and after the sample is written (R557). -/
def execTelemetrySample (q : Vector Word 16) (s : State) : Answer :=
  .next (if bridgeOff s then s
    else
      let v := quantities s q
      updTel (fun t => { t with
        seq := t.seq + 2, time := s.clock.hubTime, latest := v, sampled := true
        shown := Vector.ofFn (fun i : Fin 16 => if t.select.getLsbD i.val then v[i] else 0)
        minima := Vector.ofFn (fun i : Fin 16 => if t.sampled then lesser t.minima[i] v[i] else v[i])
        maxima := Vector.ofFn (fun i : Fin 16 => if t.sampled then greater t.maxima[i] v[i] else v[i]) }) s)

/-! ### Commands -/

def telSpec (op : Half) (lens : Nat → Bool) (write : Cmd → Bool) : OpSpec :=
  { op := op, lens := lens
    perm := fun _ c r => permO r || (permH r && c.payload.isEmpty) || permP c r
    block := fun _ _ => some 10
    write := write }

def telSampleCfgSpec : OpSpec := telSpec 0x0E01 (lenIn [0, 8]) (fun c => !c.payload.isEmpty)
def telSampleReport (s : State) : List Byte :=
  leBytes 2 s.tel.select.toNat ++ zeros 2 ++ leBytes 4 s.tel.interval.toNat
def telSampleCfgBody (c : Cmd) (s : State) : State :=
  let p := c.payload
  let ms := fieldAt p 4 4
  if p.isEmpty then ok 0x0E01 c (telSampleReport s) s
  else if !zeroAt p 2 2 || ms < 1 || 60000 < ms then fail 0x0E01 c stBadArg s
  else
    let s := updTel (fun t => { t with select := BitVec.ofNat 16 (fieldAt p 0 2), interval := BitVec.ofNat 16 ms }) s
    ok 0x0E01 c (telSampleReport s) s

/-- TEL_SAMPLE_CFG (R551). -/
def execTelSampleCfg (c : Cmd) (s : State) : Answer := .next (runCmd telSampleCfgSpec telSampleCfgBody c s)

/-- Free values for extremes of no sample (log entry 91). -/
def freeWords : Nat → State → List Word × State
  | 0, s => ([], s)
  | n + 1, s =>
    let (v, s) := takeFree 32 s
    let (vs, s) := freeWords n s
    (v :: vs, s)

def telReadSpec : OpSpec :=
  { telSpec 0x0E02 (lenIn [0, 1]) (fun c => !c.payload.isEmpty) with perm := fun _ c r => permO r || permH r || permP c r }
def telReads (c : Cmd) : Bool := c.payload.length == 1 && byteAt c.payload 0 == 1
def telReadOp (c : Cmd) (s : State) : State :=
  ok 0x0E02 c (leBytes 8 s.tel.time.toNat ++ s.tel.latest.toList.flatMap wordBytes) s
def telReadExtremesOp (c : Cmd) (s : State) : State :=
  let known := (List.finRange 16).flatMap (fun i => [s.tel.minima[i], s.tel.maxima[i]])
  let absent (i : Nat) : Bool := (decide (20 ≤ i ∧ i < 24) && uplinks s != 2) || (decide (24 ≤ i ∧ i < 26) && s.variant != .qt9840)
  let (free, s') := freeWords 32 s
  let (ws, s) := if s.tel.sampled then (known, s)
    else ((List.range 32).zipWith (fun i w => if absent i then 0 else w) free, s')
  ok 0x0E02 c (leBytes 8 s.tel.time.toNat ++ ws.flatMap wordBytes) (updTel (fun t => { t with sampled := false }) s)
def telReadBody (c : Cmd) (s : State) : State :=
  if c.payload.isEmpty then telReadOp c s else onlyWhen telReads 0x0E02 telReadExtremesOp c s

/-- TEL_READ, length 0 (R552). -/
def execTelRead (c : Cmd) (s : State) : Answer :=
  .next (runCmd telReadSpec (onlyWhen (fun c => c.payload.isEmpty) 0x0E02 telReadOp) c s)

/-- TEL_READ, payload 1 (R552): the extremes, which then restart. -/
def execTelReadExtremes (c : Cmd) (s : State) : Answer :=
  .next (runCmd telReadSpec (onlyWhen telReads 0x0E02 telReadExtremesOp) c s)

def telThermalSpec : OpSpec := telSpec 0x0E03 (lenIn [0, 4]) (fun c => !c.payload.isEmpty)
def telThermalReport (s : State) : List Byte :=
  [s.tel.warnC, s.tel.highC, 0, 0] ++ leBytes 2 s.tel.tj.toNat ++ leBytes 2 s.tel.tjMax.toNat
def telThermalBody (c : Cmd) (s : State) : State :=
  let p := c.payload
  let w := byteAt p 0
  let h := byteAt p 1
  if p.isEmpty then ok 0x0E03 c (telThermalReport s) s
  else if 125 < w || 125 < h || h < w || !zeroAt p 2 2 then fail 0x0E03 c stBadArg s
  else
    let s := updTel (fun t => { t with warnC := BitVec.ofNat 8 w, highC := BitVec.ofNat 8 h }) s
    ok 0x0E03 c (telThermalReport s) s

/-- TEL_THERMAL (R553): new thresholds apply from the next sample. -/
def execTelThermal (c : Cmd) (s : State) : Answer := .next (runCmd telThermalSpec telThermalBody c s)

end Sys2Proof.Machine
end

