-- ==== Sys2Proof/Machine/Karxo.lean ====
section
/-! DEFINITION. Karxo's work on its queues: the command set (Table 15.3), taking a command (R76 to R84), commands from the partner (R385), state that Day forwards (R391), and the end of Karxo's start-up (R84). -/
namespace Sys2Proof.Machine

/-! ### The command set (R534) -/

/-- What the commands of a group do, by opcode. -/
abbrev CmdTable := List (OpSpec × (Cmd → State → State))

def systemSet : CmdTable :=
  [(sysNopSpec, sysNopBody), (sysInfoSpec, sysInfoBody), (sysProfileSetSpec, sysProfileSetBody),
   (sysResetSpec, sysResetBody), (sysBehaviourPinSpec, sysBehaviourPinBody), (sysTimeGetSpec, sysTimeGetBody),
   (stageSpec, stageBody), (activateSpec, activateBody), (sysEventMaskSpec, sysEventMaskBody)]

def linkSet : CmdTable :=
  [(linkStatusSpec, linkStatusBody), (linkAllotSpec, linkAllotBody), (linkRetrainSpec, linkRetrainBody),
   (linkEqSpec, linkEqBody), (linkSleepSpec, linkSleepBody), (linkSpareSpec, linkSpareBody),
   (linkCountersSpec, linkCountersBody)]

def tunnelSet : CmdTable :=
  [(tunOpenSpec, tunOpenBody), (tunCloseSpec, tunCloseBody), (tunShapeSpec, tunShapeBody),
   (tunPoliceSpec, tunPoliceBody), (tunQuerySpec, tunQueryBody), (classSetSpec, classSetBody),
   (schedSampleSpec, schedSampleBody)]

def displaySet : CmdTable :=
  [(dispModeSetSpec, dispModeSetBody), (dispRegionAllocSpec, dispRegionAllocBody),
   (dispRegionReleaseSpec, dispRegionReleaseBody), (dispLayerBindSpec, dispLayerBindBody),
   (dispCrcRegionSpec, dispCrcRegionBody), (dispHoldPolicySpec, dispHoldPolicyBody),
   (dispOutputStatusSpec, dispOutputStatusBody), (dispHoldScreenSpec, dispHoldScreenBody)]

def portSet : CmdTable :=
  [(pciePortCfgSpec, pciePortCfgBody), (pcieWindowSetSpec, pcieWindowSetBody), (pcieErrlogReadSpec, pcieErrlogReadBody),
   (pcieHotplugSpec, pcieHotplugBody), (pcieLockStatusSpec, pcieLockStatusBody), (usbPortCfgSpec, usbPortCfgBody),
   (usbEpCarveSpec, usbEpCarveBody), (usbPortStatusSpec, usbPortStatusBody), (usbChargeCfgSpec, usbChargeCfgBody)]

def networkSet : CmdTable :=
  [(netPortCfgSpec, netPortCfgBody), (netVlanSetSpec, netVlanSetBody), (netMarkCfgSpec, netMarkCfgBody),
   (overflowSpec, netOverflowCfgBody), (netReseqCfgSpec, netReseqCfgBody), (netCountersSpec, netCountersBody),
   (canPortCfgSpec, canPortCfgBody), (canMapSpec, canMapBody), (canSignalReadSpec, canSignalReadBody),
   (canSignalWriteSpec, canSignalWriteBody), (canRouteSpec, canRouteBody)]

def chipSet : CmdTable :=
  [(pairJoinSpec, pairJoinBody), (pairLeaveSpec, pairLeaveBody), (pairStatusSpec, pairStatusBody),
   (pairHandoverSpec, pairHandoverBody), (pairCompareSpec, pairCompareBody), (pwrFeedCfgSpec, pwrFeedCfgBody),
   (pwrHotswapCfgSpec, pwrHotswapCfgBody), (pwrEfuseCfgSpec, pwrEfuseCfgBody), (pwrStatusSpec, pwrStatusBody),
   (pwrPdPolicySpec, pwrPdPolicyBody), (pwrFaultClearSpec, pwrFaultClearBody), (pmIslandSetSpec, pmIslandSetBody),
   (pmStopSpec, pmStopBody), (pmWakeCfgSpec, pmWakeCfgBody), (pmStatusSpec, pmStatusBody)]

def integritySet : CmdTable :=
  [(fltStatusSpec, fltStatusBody), (fltLogReadSpec, fltLogReadBody), (fltInjectSpec, fltInjectBody),
   (crcChannelSpec, crcChannelBody), (scrubCfgSpec, scrubCfgBody), (repairStatusSpec, repairStatusBody),
   (secBlockWorldSpec, secBlockWorldBody), (secRegionWorldSpec, secRegionWorldBody),
   (lcTransitionSpec, lcTransitionBody), (lcStatusSpec, lcStatusBody), (nvWearReadSpec, nvWearReadBody),
   (secAttestSpec, secAttestBody), (telSampleCfgSpec, telSampleCfgBody), (telReadSpec, telReadBody),
   (telThermalSpec, telThermalBody)]

/-- The commands of Table 15.3, one entry for each opcode. -/
def karxoSet : CmdTable :=
  systemSet ++ linkSet ++ tunnelSet ++ displaySet ++ portSet ++ networkSet ++ chipSet ++ integritySet

/-- Checks 1 and 2 of Table 2.11 on the header, then the command itself (R82, R534). -/
def runOpcode (op : Half) (length : Nat) (c : Cmd) (s : State) : State :=
  match karxoSet.find? (fun e => e.1.op == op) with
  | none => fail op c stBadOpcode s
  | some e => if 496 < length then fail op c stBadLength s else runCmd e.1 e.2 c s

/-! ### Taking a command (R76 to R84) -/

/-- A command as its header words and its slot give it (Table 2.9). -/
def cmdOfHeader (src : CmdSrc) (seq : Half) (w0 w1 w2 w3 : Word) (body : List Byte) : FwdCmd :=
  let flags : BitVec 8 := BitVec.ofNat 8 (bitsOf w1.toNat 16 8)
  let length := w1.toNat % 65536
  { opcode := BitVec.ofNat 16 (w0.toNat % 65536), length := length
    cmd :=
      { src := src, seq := seq, tag := BitVec.ofNat 16 (w0.toNat / 65536), flags := flags
        rsvd := w1.toNat / 2 ^ 24 != 0 || flags >>> 1 != 0 || w3 != 0, target := w2, payload := body.take length } }

/-- The slot of the command at MB_CMD_CI, as Karxo copies it (R76, R83). -/
def slotCmd (m : MbNo) (s : State) : FwdCmd :=
  let ci := s.mb[m].cmdCi
  let b := memRead s.window (mbBase m + 512 * (ci.toNat % 8)) 512
  let w (i : Nat) : Word := BitVec.ofNat 32 (fieldAt b (4 * i) 4)
  cmdOfHeader (.mailbox m) ci (w 0) (w 1) (w 2) (w 3) (b.drop 16)

/-- Whether a command's source is the mailbox: what the partner carries over is in MB3 (R385). -/
def fromMailbox (m : MbNo) (src : CmdSrc) : Bool :=
  match src with | .mailbox k => k == m | .forwarded _ _ => m == 3 | .mirror _ => false

/-- Whether the command before has posted its first response (R79). -/
def firstPosted (m : MbNo) (s : State) : Bool :=
  !s.pend.any (fun p => fromMailbox m p.src && !p.posted) && !s.commits.any (fun d => fromMailbox m d.src)

/-- Whether Karxo can take the next command of the mailbox's ring (R79, R81). -/
def ringWaits (s : State) (m : MbNo) : Bool :=
  mailboxExists s m && s.mb[m].cmdPi != s.mb[m].cmdCi && decide (holding s m < freeSlots s.mb[m]) && firstPosted m s

/-- Whether the partner's next command can be taken: its limits are those of R385. -/
def partnerWaits (s : State) (m : MbNo) : Bool := m == 3 && !s.pair.fwd.isEmpty && firstPosted m s

/-- The mailbox that is served next, round robin (R79). -/
def nextServed (s : State) : Option MbNo :=
  (List.finRange 4).map (fun k => s.nextMb + k) |>.find? (fun m => partnerWaits s m || ringWaits s m)

/-- Takes the command at MB_CMD_CI and runs it; one that an upstream bus reset aborted is answered (R69). -/
def takeRing (m : MbNo) (s : State) : State :=
  let t := slotCmd m s
  let aborted := s.mb[m].aborted.contains t.cmd.seq
  let s := updMb m (fun b => { b with
    cmdCi := b.cmdCi + 1
    viaMgmt := b.viaMgmt.filter (· != t.cmd.seq)
    aborted := b.aborted.filter (· != t.cmd.seq) }) s
  if aborted then fail t.opcode t.cmd stAborted s else runOpcode t.opcode t.length t.cmd s

/-- Takes the partner's next command. -/
def takePartner (s : State) : State :=
  match s.pair.fwd with
  | [] => s
  | t :: r => runOpcode t.opcode t.length t.cmd (updPair (fun p => { p with fwd := r }) s)

/-- Karxo serves one mailbox. -/
def serve (m : MbNo) (s : State) : State :=
  let s := { s with nextMb := m + 1 }
  if partnerWaits s m then takePartner s else takeRing m s

/-- KARXO_TAKE_COMMAND (R79). -/
def execKarxoTakeCommand (s : State) : Answer :=
  .next (if karxoRuns s && s.ready then match nextServed s with | some m => serve m s | none => s else s)

/-! ### The partner's commands (R385, R391) -/

/-- The requester a forwarded command runs as: the host that sent it, or the partner. -/
def forwardedAs : Requester → Requester
  | .hostA => .hostA | .hostB => .hostB | .hostC => .hostC | .hostD => .hostD
  | .owner => .partner | .partner => .partner | .engine => .partner

/-- FORWARDED_COMMAND (R385): it waits in MB3, and the seventeenth completes with BUSY. The command's own tag and number
come back in its responses; bit 31 has done its work. -/
def execForwardedCommand (req : Requester) (id : Nat) (w0 w1 w2 w3 : Word) (payload : List Byte) (s : State) : Answer :=
  runCore (fun s =>
    if !inSpan s then s
    else
      let t := cmdOfHeader (.forwarded (forwardedAs req) id) 0 w0 w1 (w2 &&& 0x7FFFFFFF) w3 payload
      if 16 ≤ s.pair.held.length then fail t.opcode t.cmd stBusy s
      else updPair (fun p => { p with held := p.held ++ [id], fwd := p.fwd ++ [t] }) s) s

/-- Night carries out a command that Day has carried out, and tells Day so; another status than Day's is a fault (R391). -/
def mirrorCommand (id : Nat) (op : Half) (c : Cmd) (dayStatus : Half) (s : State) : State :=
  let s := runOpcode op c.payload.length { c with src := .mirror (cmdRequester s c) }
    (updPair (fun p => { p with lastStatus := none }) s)
  let st := s.pair.lastStatus.getD dayStatus
  let s := emit (.forwardedResponse id ⟨c.tag, st, 0, c.seq, op, [], false⟩) s
  if st = dayStatus then s else nightFails (pairFault 1 0 s)

/-- MIRROR_STATE_FORWARD (R382, R391, R393, R394). -/
def execMirrorStateForward (ch : MirrorChange) (s : State) : Answer :=
  runCore (fun s =>
    if !isNight s || !karxoRuns s || !s.ready then s
    else match ch with
      | .command id op c st => persistPair [1] (mirrorCommand id op c st s)
      | .displaySet o g ws frame => applyMirrorSet o g ws frame s
      | .timing o t => lockTiming o t s
      | .copy c => installCopy c s) s

/-! ### The end of start-up (R84) -/

/-- Ports whose boot self-test has failed keep Karxo from READY (Table 13.4). -/
def bootPortsOk (s : State) : Bool :=
  ([12, 14, 16, 17, 18, 19] : List FabPort).all (fun p => !s.flt.failed.getLsbD p.val)

/-- Whether the starting level is still being reached (R575). -/
def starting (s : State) : Bool :=
  match s.perf.change with | some c => c.cause == .start | none => false

/-- Events that wait for READY: a life-cycle change (Table 14.8 step 7) and a brown-out start (R455). -/
def startEvents (s : State) : State :=
  let s := if s.fw.lcChange.isSome then
      raise .all 5 (lcCode s.ident.lc) { s with fw := { s.fw with lcChange := none } }
    else s
  if s.pm.brownEvent then raise .all 63 0 (updPm (fun p => { p with brownEvent := false }) s) else s

/-- Whether Karxo has everything it needs to set READY. -/
def canStart (s : State) : Bool :=
  karxoRuns s && !s.ready && s.pm.phase == .run && !starting s && !s.fw.bootFail && bootPortsOk s

/-- KARXO_READY (R84). -/
def execKarxoReady (s : State) : Answer :=
  .next (if canStart s then
      settleUplinks (wakeEvent (startEvents (updateInt { s with init := true, ready := true })))
    else s)

end Sys2Proof.Machine
end

