-- ==== Sys2Proof/Machine/Reset.lean ====
section
/-! DEFINITION. RST_N, the monitored rails and VIN_AON: holding the hub in reset (R576, R586), its release (R575) and the loss of power (R413). -/
namespace Sys2Proof.Machine

/-- RST_N low, or as if it were: nothing acts but the power path, READY and INT_N are released, and so are ILK_N and
BND_DAY (log entry 92). -/
def holdReset (s : State) : State :=
  let s := updPair (fun p => { p with ilkDrive := false, bndDay := false }) s
  { s with
    ready := false
    clock := { s.clock with inReset := true }
    ev := { s.ev with active := false, holdoffRunning := false } }

/-- Whether a low pulse on RST_N resets the hub: between 100 ns and 1 µs it may or may not (R586). -/
def pulseResets (lowNs : Nat) (s : State) : Bool × State :=
  if 1000 ≤ lowNs then (true, s)
  else if lowNs < 100 then (false, s)
  else (Config.freeBool s.freeCtr, { s with freeCtr := s.freeCtr + 1 })

/-- RESET_PIN (R586): the hub stays in reset until RESET_RELEASE. -/
def execResetPin (lowNs : Nat) (s : State) : Answer :=
  .next (if s.clock.powered then
      let (yes, s) := pulseResets lowNs s
      if yes then holdReset s else s
    else s)

/-- RESET_RELEASE (R575): a cold start after power-up, an undervoltage or a life-cycle change, and a warm one otherwise
(Table 14.9). -/
def execResetRelease (s : State) : Answer :=
  .next (if s.clock.powered && s.clock.inReset then restart s.clock.coldNext none s else s)

/-- Whether the hub monitors a rail: not VIN_AON, and not VDD_FAB in Stop (R576). -/
def railMonitored (s : State) (r : Rail) : Bool :=
  match r with
  | .vddFab => s.pm.phase != .stop && !s.pm.twilight
  | .vddIo => true | .vddSerdes => true | .vddDram => true | .other => true

/-- RAIL_UNDERVOLTAGE (R576). -/
def execRailUndervoltage (r : Rail) (s : State) : Answer :=
  .next (if s.clock.powered && railMonitored s r then
      let s := updPm (fun p => { p with brownNote := true }) s
      holdReset { s with clock := { s.clock with coldNext := true } }
    else s)

/-- POWER_LOSS (R413): the shell stops, every gate it held opens, and nothing acts until SHELL_START. -/
def execPowerLoss (s : State) : Answer :=
  .next (if s.clock.powered then
      let s := updPm (fun p => { p with brownNote := false }) (holdReset s)
      { s with
        clock := { s.clock with powered := false, refclk := true }
        power := { s.power with shell := false, gate := false, pg := false, vbusGate := false, inUse := none, toFeed := none }
        links := s.links.map (fun k => { k with cc := 0, qualified := false })
        usb := { s.usb with ports := s.usb.ports.map (fun x => { x with vbus := false }) }
        flt := { s.flt with safeTimes := [] } }
    else s)

end Sys2Proof.Machine
end

