-- ==== Sys2Proof/Machine/Window.lean ====
section
/-! DEFINITION. Meanings of the accesses to the window (02): index and interrupt registers, any register, management packets, the USB endpoints of the window, and the owner's SPI protocol. -/
namespace Sys2Proof.Machine

/-! ### Register writes -/

/-- MB_CMD_PI_WRITE (R75). -/
def execMbCmdPiWrite (req : Requester) (m : MbNo) (v : Word) (s : State) : Answer :=
  .next (accessWrite req (0x1000 + 0x40 * m.val) v s)

/-- MB_RSP_CI_WRITE (R75). -/
def execMbRspCiWrite (req : Requester) (m : MbNo) (v : Word) (s : State) : Answer :=
  .next (accessWrite req (0x100C + 0x40 * m.val) v s)

/-- MB_EVT_CI_WRITE (R75). -/
def execMbEvtCiWrite (req : Requester) (m : MbNo) (v : Word) (s : State) : Answer :=
  .next (accessWrite req (0x1014 + 0x40 * m.val) v s)

/-- MB_CTRL_LOST_CLR (R92): the write to MB_CTRL. -/
def execMbCtrlLostClr (req : Requester) (m : MbNo) (v : Word) (s : State) : Answer :=
  .next (accessWrite req (0x101C + 0x40 * m.val) v s)

/-- EVT_PEND_CLEAR (R94). -/
def execEvtPendClear (req : Requester) (hi : Bool) (v : Word) (s : State) : Answer :=
  .next (accessWrite req (0x2000 + 4 * bitNat hi) v s)

/-- INT_EN_WRITE (R94). -/
def execIntEnWrite (req : Requester) (hi : Bool) (v : Word) (s : State) : Answer :=
  .next (accessWrite req (0x2010 + 4 * bitNat hi) v s)

/-- DISP_COMMIT_WRITE (R203). -/
def execDispCommitWrite (req : Requester) (o : OutNo) (v : Word) (s : State) : Answer :=
  .next (accessWrite req (0x400C + 0x400 * o.val) v s)

/-- PB_WORD_WRITE (R517). -/
def execPbWordWrite (req : Requester) (w : Fin 1024) (v : Word) (s : State) : Answer :=
  .next (accessWrite req (0x3000 + 4 * w.val) v s)

/-- REGISTER_WRITE (R18): a write to any other register; bits [1:0] of an offset are 0 (R57). -/
def execRegisterWrite (req : Requester) (off : BitVec 18) (v : Word) (s : State) : Answer :=
  .next (accessWrite req (off.toNat / 4 * 4) v s)

/-! ### Management packets (R60 to R63) -/

/-- The fields of a management header (Table 2.3). -/
def mgType (b : List Byte) : Nat := byteAt b 0
def mgId (b : List Byte) : Nat := byteAt b 1
def mgCount (b : List Byte) : Nat := bitsOf (fieldAt b 0 4) 16 12
def mgOff (b : List Byte) : Nat := bitsOf (fieldAt b 4 4) 0 18
def mgPartner (b : List Byte) : Bool := (fieldAt b 4 4).testBit 31

/-- Whether a request is malformed (R61). -/
def mgMalformed (s : State) (b : List Byte) : Bool :=
  b.length < 8 || (mgType b != 1 && mgType b != 2) || decide (512 < mgCount b) || mgOff b % 4 != 0
    || decide (0x40000 < mgOff b + 4 * mgCount b)
    || b.length != 8 + (if mgType b = 2 then 4 * mgCount b else 0)
    || bitsOf (fieldAt b 4 4) 18 13 != 0 || (mgPartner b && !inSpan s)

/-- A completion queued on tunnel 0 of a host. -/
def sendMgmt (h : HostNo) (b : List Byte) (s : State) : State := sendZero h b s

/-- The completion of a malformed request: status 1, count 0, and the type with bit 7 set (R61). That a completion repeats
its request's offset, with the partner bit clear, is this model's choice (log entry 98). -/
def mgBad (h : HostNo) (b : List Byte) (s : State) : State :=
  sendMgmt h (mgmtHeader 1 0 (mgId b) (mgType b ||| 0x80) false (mgOff b)) s

/-- The words a WRITE_REQ carries. -/
def mgWords (b : List Byte) : List Word := bytesToWords (mgCount b) (b.drop 8)

/-- A request forwarded to the partner's window (R385). -/
def mgForward (u : Up) (b : List Byte) (s : State) : State :=
  let id := s.pair.nextId
  let m : MbNo := ⟨u.val, by omega⟩
  let writes := if mgType b = 2 then some (mgWords b) else none
  emit (.forwardedAccess (hostRequester (hostOnUp s u)) id (BitVec.ofNat 18 (mgOff b)) (mgCount b) writes)
    (updPair (fun p => { p with nextId := id + 1, forwarded := p.forwarded ++
      [⟨id, .mailbox m, BitVec.ofNat 16 (mgId b), BitVec.ofNat 16 (mgCount b), BitVec.ofNat 16 (mgType b + 0x80),
        BitVec.ofNat 18 (mgOff b)⟩] }) s)

/-- One request carried out and completed (R62), or forwarded. -/
def runMgmt (u : Up) (b : List Byte) (s : State) : State :=
  let h := hostOnUp s u
  if mgMalformed s b then mgBad h b s
  else if mgPartner b then mgForward u b s
  else if mgType b = 1 then
    let (ws, s) := windowReads (hostRequester h) (mgOff b) (mgCount b) s
    sendMgmt h (mgmtHeader 0 (mgCount b) (mgId b) 0x81 false (mgOff b) ++ ws.flatMap wordBytes) s
  else
    let s := windowWrites (hostRequester h) (mgOff b) (mgWords b) s
    sendMgmt h (mgmtHeader 0 (mgCount b) (mgId b) 0x82 false (mgOff b)) s

/-- Whether tunnel 0 of an uplink holds packets back, and with them the bridge that takes its requests (R179). -/
def zeroHeld (s : State) (u : Up) : Bool :=
  match findTunnel s (hostOnUp s u) 0 with | some t => !t.held.isEmpty | none => false

/-- The request at the head of tunnel 0 of an uplink, when its type is the one the command names; discarded without a
completion while the bridge is off (R564), and not taken while its completions are held back (R179). -/
def takeMgmt (u : Up) (named : Nat → Bool) (s : State) : State :=
  if zeroHeld s u then s else match takeMessage (hostOnUp s u) 0 s with
  | none => s
  | some (m, t) => if !named (mgType m.bytes) then s else if bridgeOff s then t else runMgmt u m.bytes t

/-- READ_REQ (R62). -/
def execReadReq (u : Up) (s : State) : Answer := .next (takeMgmt u (· == 1) s)

/-- WRITE_REQ (R62). -/
def execWriteReq (u : Up) (s : State) : Answer := .next (takeMgmt u (· == 2) s)

/-- MGMT_OTHER_TYPE (R61). -/
def execMgmtOtherType (u : Up) (s : State) : Answer := .next (takeMgmt u (fun t => t != 1 && t != 2) s)

/-- TUN_INT_HOLDOFF_EXPIRY (R95). -/
def execTunIntHoldoffExpiry (u : Up) (s : State) : Answer :=
  let m : MbNo := ⟨u.val, by omega⟩
  let s := updMb m (fun b => { b with intRunning := false }) s
  .next (if s.mb[m].intOwed && s.mb[m].tunIntEn then sendInterrupt m s else s)

/-! ### The endpoints of the window (R64 to R69) -/

/-- EP0_VENDOR_READ (R65). -/
def execEp0VendorRead (wValue wIndex wLength : BitVec 16) (s : State) : Answer :=
  match mgmtUp s with
  | none => .next s
  | some u => .next (answerEp0 u true (vendorRead wValue wIndex wLength s))

/-- EP0_VENDOR_WRITE (R65): its words are written once its data stage has completed. -/
def execEp0VendorWrite (wValue wIndex wLength : BitVec 16) (data : List Byte) (s : State) : Answer :=
  match mgmtUp s with
  | none => .next s
  | some u => .next (answerEp0 u false (vendorWrite u wValue wIndex wLength data s))

/-- Slot images of a transfer; NAK for what the full ring does not take (R66). -/
def slotImages (u : Up) (data : List Byte) (s : State) : State :=
  let r := takeImages u 9 data s
  if r.2.isEmpty then r.1 else egress (.epNak u 1) r.1

/-- EP1_OUT_TRANSFER (R66): one to eight images; NAK with the endpoint carved to 0 (R305). -/
def execEp1OutTransfer (data : List Byte) (s : State) : Answer :=
  match mgmtUp s with
  | none => .next s
  | some u =>
    .next (if !mgmtServes s then s
      else if carveBytes s 1 = 0 then egress (.epNak u 1) s
      else slotImages u data s)

/-- EP1_IN_ACKNOWLEDGED (R67): the response at MB_RSP_CI has been taken by the host; NAK with the endpoint
carved to 0 (R305). -/
def execEp1InAcknowledged (s : State) : Answer :=
  match mgmtUp s with
  | none => .next s
  | some u =>
    let m := mgmtBox u
    let b := s.mb[m]
    if epDrains s m && b.rspPi != b.rspCi && carveBytes s 2 != 0 then
      let a := mbBase m + 0x1000 + 512 * (b.rspCi.toNat % 8)
      let len := leNat (memRead s.window (a + 4) 2)
      .next (postWaiting m 8 (updMb m (fun b => { b with rspCi := b.rspCi + 1 })
        (egress (.epIn u 1 (memRead s.window a (16 + len))) s)))
    else .next (egress (.epNak u 1) s)

/-- EP2_IN_ACKNOWLEDGED (R68): the event entry at MB_EVT_CI has been taken by the host; NAK with the endpoint
carved to 0 (R305). -/
def execEp2InAcknowledged (s : State) : Answer :=
  match mgmtUp s with
  | none => .next s
  | some u =>
    let m := mgmtBox u
    let b := s.mb[m]
    if epDrains s m && b.evtPi != b.evtCi && carveBytes s 3 != 0 then
      let a := mbBase m + 0x2000 + 16 * (b.evtCi.toNat % 64)
      .next (updMb m (fun b => { b with evtCi := b.evtCi + 1 }) (egress (.epIn u 2 (memRead s.window a 16)) s))
    else .next (egress (.epNak u 2) s)

/-! ### The owner's SPI protocol (R70 to R73) -/

/-- An offset that a READ or WRITE may carry (R71). -/
def spiOffsetOk (off : BitVec 24) : Bool := off.toNat < 0x40000 && off.toNat % 4 == 0

/-- Every word leaves the write buffer. -/
def spiDrainAll (s : State) : State := spiDrain s.spi.buffer.length s

/-- One word of a WRITE: into the 64-word buffer, or discarded with OVERRUN while that is full. How many words have left the
buffer since the word before is a free number (R72; log entry 70). -/
def spiWord (off : Nat) (w : Word) (s : State) : State :=
  let (n, s) := takeFree 7 s
  let s := spiDrain n.toNat s
  if 64 ≤ s.spi.buffer.length then { s with spi := { s.spi with overrun := true } }
  else { s with spi := { s.spi with buffer := s.spi.buffer ++ [(off, w)] } }

/-- The words of a WRITE in order. -/
def spiWords : Nat → List Word → State → State
  | _, [], s => s
  | off, w :: ws, s => spiWords (off + 4) ws (spiWord off w s)

/-- FORMAT is recorded and the rest of the transaction ignored (R71). -/
def spiFormat (s : State) : State := { s with spi := { s.spi with format := true } }

/-- A WRITE whose offset has arrived; `cut` says that a last data word was cut short (R70, R71). -/
def spiWrite (off : BitVec 24) (words : List Word) (cut : Bool) (s : State) : State :=
  if !spiOffsetOk off then spiFormat s
  else
    let s := spiWords off.toNat words s
    { s with spi := { s.spi with format := s.spi.format || cut } }

/-- SPI_WRITE (R70). -/
def execSpiWrite (off : BitVec 24) (words : List Word) (cut : Bool) (s : State) : Answer :=
  .next (if bridgeOff s then s else spiWrite off words cut s)

/-- One word of a READ; past the window it is 0 (R71). -/
def spiReads : Nat → Nat → State → List Word × State
  | _, 0, s => ([], s)
  | off, n + 1, s =>
    let (w, s) := if off < 0x40000 then
        let denied := classify s .owner false off == .refused
        windowRead .owner off { s with spi := { s.spi with denied := s.spi.denied || denied } }
      else (0, s)
    let (ws, s) := spiReads (off + 4) n s
    (w :: ws, s)

/-- A READ that clocks out `n` bytes: the words written before it on the path are in effect first (R57, R58), and a word
returned in part is cut off (R70, R71). -/
def spiRead (off : BitVec 24) (n : Nat) (s : State) : State :=
  if !spiOffsetOk off then spiFormat s
  else
    let (ws, s) := spiReads off.toNat ((n + 3) / 4) (spiDrainAll s)
    emit (.spiData ((ws.flatMap wordBytes).take n)) s

/-- SPI_READ (R70). -/
def execSpiRead (off : BitVec 24) (count : Nat) (s : State) : Answer :=
  .next (if bridgeOff s then s else spiRead off (4 * count) s)

/-- The status byte (Table 2.7). -/
def spiStatusByte (s : State) : Byte :=
  BitVec.ofNat 8 (16 * bitNat s.ready + 8 * bitNat s.spi.denied + 4 * bitNat s.spi.format + 2 * bitNat s.spi.overrun
    + bitNat (!s.spi.buffer.isEmpty))

/-- A STATUS transaction: bits 3 to 1 clear when it ends (R73). -/
def spiStatus (s : State) : State :=
  { emit (.spiStatus (spiStatusByte s)) s with spi := { s.spi with denied := false, format := false, overrun := false } }

/-- SPI_STATUS (R73). -/
def execSpiStatus (s : State) : Answer := .next (if bridgeOff s then s else spiStatus s)

/-- The offset of a READ or WRITE, most significant byte first (R70). -/
def spiOffset (b : List Byte) : BitVec 24 := BitVec.ofNat 24 (65536 * byteAt b 0 + 256 * byteAt b 1 + byteAt b 2)

/-- A transaction by the bytes the owner sends between assertion and release of chip select (R70, R71, Table 2.6); those a
READ clocks out after its dummy byte count. Released before the command byte is complete, it is ignored. -/
def spiTransaction (raw : List Byte) (s : State) : State :=
  match raw with
  | [] => s
  | cmd :: b =>
    if cmd = 0x05 then spiStatus s
    else if cmd = 0x02 then
      (if b.length < 3 then spiFormat s
       else spiWrite (spiOffset b) (bytesToWords ((b.length - 3) / 4) (b.drop 3)) ((b.length - 3) % 4 != 0) s)
    else if cmd = 0x0B then (if b.length < 4 then spiFormat s else spiRead (spiOffset b) (b.length - 4) s)
    else spiFormat s

/-- SPI_BAD_TRANSACTION (R71): the bytes of a transaction as they came. -/
def execSpiBadTransaction (raw : List Byte) (s : State) : Answer :=
  .next (if bridgeOff s then s else spiTransaction raw s)

/-- SPI_WRITE_BUFFER_DRAINED (R72). -/
def execSpiWriteBufferDrained (s : State) : Answer := .next (if bridgeOff s then s else spiDrainAll s)

/-- INT_HOLDOFF_EXPIRY (R94). -/
def execIntHoldoffExpiry (s : State) : Answer :=
  .next (updateInt { s with ev := { s.ev with holdoffRunning := false } })

/-- UPSTREAM_BUS_RESET (R69, R285): the hub is unconfigured, its ports are disabled and the management function
is reset. -/
def execUpstreamBusReset (partialTransfer : Bool) (s : State) : Answer :=
  if s.usb.presented then .next (resetMgmt partialTransfer (resetUsbPorts true (resetUpstream s))) else .next s

/-- READ_REQ and its like on another chip's behalf: the offsets a forwarded access may name (R385). -/
def forwardable (off : Nat) : Bool := off < 0x1000 || (decide (0x4000 ≤ off) && decide (off < 0x8000))

/-- One word of a forwarded read, and of a forwarded write. -/
def forwardedReads (r : Requester) : Nat → Nat → State → List Word × State
  | _, 0, s => ([], s)
  | off, n + 1, s =>
    let (w, s) := if forwardable off then windowRead r off s else (0, refuseAccess r false off s)
    let (ws, s) := forwardedReads r (off + 4) n (between s)
    (w :: ws, s)
def forwardedWrites (r : Requester) : Nat → List Word → State → State
  | _, [], s => s
  | off, w :: ws, s =>
    forwardedWrites r (off + 4) ws
      (between (if forwardable off then windowWrite r off w s else refuseAccess r true off s))

/-- The partner's own access, by a management packet on the bond link's tunnel 0: its rights are those of Table 2.2, and a
malformed request accesses nothing (R56, R61). -/
def partnerAccess (id : Nat) (off : BitVec 18) (count : Nat) (writes : Option (List Word)) (s : State) : State :=
  if off.toNat % 4 != 0 || 512 < count || 0x40000 < off.toNat + 4 * count then emit (.accessCompletion .partner id 0 []) s
  else match writes with
    | some ws => emit (.accessCompletion .partner id count []) (windowWrites .partner off.toNat (ws.take count) s)
    | none =>
      let (ws, s) := windowReads .partner off.toNat count s
      emit (.accessCompletion .partner id count ws) s

/-- FORWARDED_WINDOW_ACCESS (R56, R385): a host's access is carried out in Span with the originating host's rights, and one
of the partner itself while paired; each is completed over the bond link. -/
def execForwardedWindowAccess (req : Requester) (id : Nat) (off : BitVec 18) (count : Nat) (writes : Option (List Word))
    (s : State) : Answer :=
  if req = .partner then .next (if !paired s || bridgeOff s then s else partnerAccess id off count writes s)
  else if !inSpan s || bridgeOff s then .next s
  else match writes with
    | some ws => .next (emit (.accessCompletion req id count []) (forwardedWrites req off.toNat (ws.take count) s))
    | none =>
      let (ws, s) := forwardedReads req off.toNat count s
      .next (emit (.accessCompletion req id count ws) s)

end Sys2Proof.Machine
end

