-- ==== Sys2Proof/Machine/Dispatch.lean ====
section
/-! DEFINITION. The meaning of every command: one arm per constructor of `Instr`, each a direct call of its meaning. -/
namespace Sys2Proof.Machine

def exec (i : Instr) (s : State) : Host.Outcome State Fault Refusal :=
  match i with
  | .sysNop c => Sys2Proof.Machine.execSysNop c s
  | .sysInfo c => Sys2Proof.Machine.execSysInfo c s
  | .sysProfileSet c => Sys2Proof.Machine.execSysProfileSet c s
  | .sysResetWarm c => Sys2Proof.Machine.execSysResetWarm c s
  | .sysResetCold c => Sys2Proof.Machine.execSysResetCold c s
  | .sysBehaviourPin c => Sys2Proof.Machine.execSysBehaviourPin c s
  | .sysTimeGet c => Sys2Proof.Machine.execSysTimeGet c s
  | .sysFwStageBegin c => Sys2Proof.Machine.execSysFwStageBegin c s
  | .fwSlotEraseDone => Sys2Proof.Machine.execFwSlotEraseDone s
  | .sysFwStageData c => Sys2Proof.Machine.execSysFwStageData c s
  | .sysFwStageFinish c => Sys2Proof.Machine.execSysFwStageFinish c s
  | .fwStageCheckDone => Sys2Proof.Machine.execFwStageCheckDone s
  | .sysFwStageStatus c => Sys2Proof.Machine.execSysFwStageStatus c s
  | .sysFwActivate c => Sys2Proof.Machine.execSysFwActivate c s
  | .fwActivateWaitTimeout => Sys2Proof.Machine.execFwActivateWaitTimeout s
  | .fwActivationStart => Sys2Proof.Machine.execFwActivationStart s
  | .fwActivationDone => Sys2Proof.Machine.execFwActivationDone s
  | .fwActivationFail => Sys2Proof.Machine.execFwActivationFail s
  | .sysEventMask c => Sys2Proof.Machine.execSysEventMask c s
  | .linkStatus c => Sys2Proof.Machine.execLinkStatus c s
  | .linkAllot c => Sys2Proof.Machine.execLinkAllot c s
  | .allotAckReceived u b2 b3 refuse => Sys2Proof.Machine.execAllotAckReceived u b2 b3 refuse s
  | .allotAckTimeout u => Sys2Proof.Machine.execAllotAckTimeout u s
  | .turnBlockLock u => Sys2Proof.Machine.execTurnBlockLock u s
  | .turnBlockLockTimeout u => Sys2Proof.Machine.execTurnBlockLockTimeout u s
  | .turnFirstFrame u => Sys2Proof.Machine.execTurnFirstFrame u s
  | .linkRetrainRetrain c => Sys2Proof.Machine.execLinkRetrainRetrain c s
  | .linkRetrainFull c => Sys2Proof.Machine.execLinkRetrainFull c s
  | .linkRetrainLanes c => Sys2Proof.Machine.execLinkRetrainLanes c s
  | .linkEqReport c => Sys2Proof.Machine.execLinkEqReport c s
  | .linkEqReportStored c => Sys2Proof.Machine.execLinkEqReportStored c s
  | .linkSleepPolicy c => Sys2Proof.Machine.execLinkSleepPolicy c s
  | .linkLaneSpare c => Sys2Proof.Machine.execLinkLaneSpare c s
  | .linkCountersRead c => Sys2Proof.Machine.execLinkCountersRead c s
  | .linkCountersClear c => Sys2Proof.Machine.execLinkCountersClear c s
  | .linkCountersThreshold c => Sys2Proof.Machine.execLinkCountersThreshold c s
  | .tunOpen c => Sys2Proof.Machine.execTunOpen c s
  | .tunClose c => Sys2Proof.Machine.execTunClose c s
  | .tunCloseDrained h tid => Sys2Proof.Machine.execTunCloseDrained h tid s
  | .tunCloseTimeout h tid => Sys2Proof.Machine.execTunCloseTimeout h tid s
  | .tunShape c => Sys2Proof.Machine.execTunShape c s
  | .tunPolice c => Sys2Proof.Machine.execTunPolice c s
  | .tunQuery c => Sys2Proof.Machine.execTunQuery c s
  | .tunQueryClear c => Sys2Proof.Machine.execTunQueryClear c s
  | .classSet c => Sys2Proof.Machine.execClassSet c s
  | .schedSampleStart c => Sys2Proof.Machine.execSchedSampleStart c s
  | .schedSampleStop c => Sys2Proof.Machine.execSchedSampleStop c s
  | .schedSampleRelease c => Sys2Proof.Machine.execSchedSampleRelease c s
  | .dispModeSet c => Sys2Proof.Machine.execDispModeSet c s
  | .dispPllLocked o => Sys2Proof.Machine.execDispPllLocked o s
  | .dispRegionAllocAllocate c => Sys2Proof.Machine.execDispRegionAllocAllocate c s
  | .dispRegionAllocAdopt c => Sys2Proof.Machine.execDispRegionAllocAdopt c s
  | .dispRegionAllocQuota c => Sys2Proof.Machine.execDispRegionAllocQuota c s
  | .dispRegionRelease c => Sys2Proof.Machine.execDispRegionRelease c s
  | .dispLayerBindClaim c => Sys2Proof.Machine.execDispLayerBindClaim c s
  | .dispLayerBindShadow c => Sys2Proof.Machine.execDispLayerBindShadow c s
  | .dispLayerBindRelease c => Sys2Proof.Machine.execDispLayerBindRelease c s
  | .dispCrcRegionWrite c => Sys2Proof.Machine.execDispCrcRegionWrite c s
  | .dispCrcRegionCommit c => Sys2Proof.Machine.execDispCrcRegionCommit c s
  | .dispCrcRegionGrant c => Sys2Proof.Machine.execDispCrcRegionGrant c s
  | .dispCrcRegionRevoke c => Sys2Proof.Machine.execDispCrcRegionRevoke c s
  | .dispHoldPolicy c => Sys2Proof.Machine.execDispHoldPolicy c s
  | .dispOutputStatusRead c => Sys2Proof.Machine.execDispOutputStatusRead c s
  | .dispOutputStatusEdid c => Sys2Proof.Machine.execDispOutputStatusEdid c s
  | .dispOutputStatusClear c => Sys2Proof.Machine.execDispOutputStatusClear c s
  | .dispHoldScreenLoad c => Sys2Proof.Machine.execDispHoldScreenLoad c s
  | .dispHoldScreenPlace c => Sys2Proof.Machine.execDispHoldScreenPlace c s
  | .dispHoldScreenEnter c => Sys2Proof.Machine.execDispHoldScreenEnter c s
  | .dispHoldScreenLeave c => Sys2Proof.Machine.execDispHoldScreenLeave c s
  | .pciePortCfgSet c => Sys2Proof.Machine.execPciePortCfgSet c s
  | .pciePortCfgSplit c => Sys2Proof.Machine.execPciePortCfgSplit c s
  | .pcieReassignPerstDone p => Sys2Proof.Machine.execPcieReassignPerstDone p s
  | .pcieWindowSet c => Sys2Proof.Machine.execPcieWindowSet c s
  | .pcieErrlogRead c => Sys2Proof.Machine.execPcieErrlogRead c s
  | .pcieErrlogReadEmpty c => Sys2Proof.Machine.execPcieErrlogReadEmpty c s
  | .pcieHotplugRead c => Sys2Proof.Machine.execPcieHotplugRead c s
  | .pcieHotplugRemove c => Sys2Proof.Machine.execPcieHotplugRemove c s
  | .pcieHotplugPowerOff c => Sys2Proof.Machine.execPcieHotplugPowerOff c s
  | .pcieHotplugPowerOn c => Sys2Proof.Machine.execPcieHotplugPowerOn c s
  | .pcieHotplugSlotNumber c => Sys2Proof.Machine.execPcieHotplugSlotNumber c s
  | .pcieLockStatus c => Sys2Proof.Machine.execPcieLockStatus c s
  | .pcieLockForceRelease c => Sys2Proof.Machine.execPcieLockForceRelease c s
  | .usbPortCfg c => Sys2Proof.Machine.execUsbPortCfg c s
  | .usbEpCarve c => Sys2Proof.Machine.execUsbEpCarve c s
  | .usbPortStatus c => Sys2Proof.Machine.execUsbPortStatus c s
  | .usbPortStatusClear c => Sys2Proof.Machine.execUsbPortStatusClear c s
  | .usbChargeCfg c => Sys2Proof.Machine.execUsbChargeCfg c s
  | .netPortCfg c => Sys2Proof.Machine.execNetPortCfg c s
  | .netVlanSetVlan c => Sys2Proof.Machine.execNetVlanSetVlan c s
  | .netVlanAddStatic c => Sys2Proof.Machine.execNetVlanAddStatic c s
  | .netVlanRemoveStatic c => Sys2Proof.Machine.execNetVlanRemoveStatic c s
  | .netVlanFlush c => Sys2Proof.Machine.execNetVlanFlush c s
  | .netVlanAging c => Sys2Proof.Machine.execNetVlanAging c s
  | .netVlanRead c => Sys2Proof.Machine.execNetVlanRead c s
  | .netMarkCfg c => Sys2Proof.Machine.execNetMarkCfg c s
  | .netOverflowCfgPort c => Sys2Proof.Machine.execNetOverflowCfgPort c s
  | .netOverflowCfgShrink c => Sys2Proof.Machine.execNetOverflowCfgShrink c s
  | .overflowShrinkDrained => Sys2Proof.Machine.execOverflowShrinkDrained s
  | .overflowShrinkTimeout => Sys2Proof.Machine.execOverflowShrinkTimeout s
  | .netReseqCfg c => Sys2Proof.Machine.execNetReseqCfg c s
  | .netCountersRead c => Sys2Proof.Machine.execNetCountersRead c s
  | .netCountersClear c => Sys2Proof.Machine.execNetCountersClear c s
  | .netCountersThreshold c => Sys2Proof.Machine.execNetCountersThreshold c s
  | .canPortCfg c => Sys2Proof.Machine.execCanPortCfg c s
  | .canMapBegin c => Sys2Proof.Machine.execCanMapBegin c s
  | .canMapFrames c => Sys2Proof.Machine.execCanMapFrames c s
  | .canMapSignals c => Sys2Proof.Machine.execCanMapSignals c s
  | .canMapCommit c => Sys2Proof.Machine.execCanMapCommit c s
  | .canMapStatus c => Sys2Proof.Machine.execCanMapStatus c s
  | .canSignalRead c => Sys2Proof.Machine.execCanSignalRead c s
  | .canSignalWrite c => Sys2Proof.Machine.execCanSignalWrite c s
  | .canLegacyRouteClear c => Sys2Proof.Machine.execCanLegacyRouteClear c s
  | .canLegacyRouteLoad c => Sys2Proof.Machine.execCanLegacyRouteLoad c s
  | .canLegacyRouteStore c => Sys2Proof.Machine.execCanLegacyRouteStore c s
  | .canLegacyRouteRead c => Sys2Proof.Machine.execCanLegacyRouteRead c s
  | .pairJoin c => Sys2Proof.Machine.execPairJoin c s
  | .pairJoinTimeout => Sys2Proof.Machine.execPairJoinTimeout s
  | .pairJoinMatched j => Sys2Proof.Machine.execPairJoinMatched j s
  | .mirrorSyncDone => Sys2Proof.Machine.execMirrorSyncDone s
  | .pairLeave c => Sys2Proof.Machine.execPairLeave c s
  | .pairLeaveDone => Sys2Proof.Machine.execPairLeaveDone s
  | .pairStatus c => Sys2Proof.Machine.execPairStatus c s
  | .pairStatusClear c => Sys2Proof.Machine.execPairStatusClear c s
  | .pairHandoverPlanned c => Sys2Proof.Machine.execPairHandoverPlanned c s
  | .pairHandoverImmediate c => Sys2Proof.Machine.execPairHandoverImmediate c s
  | .pairCompareCfg c => Sys2Proof.Machine.execPairCompareCfg c s
  | .pwrFeedCfg c => Sys2Proof.Machine.execPwrFeedCfg c s
  | .pwrHotswapCfg c => Sys2Proof.Machine.execPwrHotswapCfg c s
  | .pwrEfuseCfg c => Sys2Proof.Machine.execPwrEfuseCfg c s
  | .pwrStatus c => Sys2Proof.Machine.execPwrStatus c s
  | .pwrStatusClear c => Sys2Proof.Machine.execPwrStatusClear c s
  | .pwrPdPolicy c => Sys2Proof.Machine.execPwrPdPolicy c s
  | .pwrFaultClear c => Sys2Proof.Machine.execPwrFaultClear c s
  | .pmIslandSet c => Sys2Proof.Machine.execPmIslandSet c s
  | .pmStop c => Sys2Proof.Machine.execPmStop c s
  | .pmWakeCfg c => Sys2Proof.Machine.execPmWakeCfg c s
  | .pmStatus c => Sys2Proof.Machine.execPmStatus c s
  | .pmStatusClear c => Sys2Proof.Machine.execPmStatusClear c s
  | .fltStatus c => Sys2Proof.Machine.execFltStatus c s
  | .fltStatusClear c => Sys2Proof.Machine.execFltStatusClear c s
  | .fltStatusDisable c => Sys2Proof.Machine.execFltStatusDisable c s
  | .fltLogRead c => Sys2Proof.Machine.execFltLogRead c s
  | .fltInjectTransient c => Sys2Proof.Machine.execFltInjectTransient c s
  | .fltInjectPersistent c => Sys2Proof.Machine.execFltInjectPersistent c s
  | .fltInjectClear c => Sys2Proof.Machine.execFltInjectClear c s
  | .crcChannelConfigure c => Sys2Proof.Machine.execCrcChannelConfigure c s
  | .crcChannelAssign c => Sys2Proof.Machine.execCrcChannelAssign c s
  | .crcChannelRead c => Sys2Proof.Machine.execCrcChannelRead c s
  | .scrubCfg c => Sys2Proof.Machine.execScrubCfg c s
  | .repairStatus c => Sys2Proof.Machine.execRepairStatus c s
  | .secBlockWorld c => Sys2Proof.Machine.execSecBlockWorld c s
  | .secRegionWorld c => Sys2Proof.Machine.execSecRegionWorld c s
  | .lcTransition c => Sys2Proof.Machine.execLcTransition c s
  | .lcStatus c => Sys2Proof.Machine.execLcStatus c s
  | .nvWearRead c => Sys2Proof.Machine.execNvWearRead c s
  | .secAttestReport c => Sys2Proof.Machine.execSecAttestReport c s
  | .secAttestCertificate c => Sys2Proof.Machine.execSecAttestCertificate c s
  | .telSampleCfg c => Sys2Proof.Machine.execTelSampleCfg c s
  | .telRead c => Sys2Proof.Machine.execTelRead c s
  | .telReadExtremes c => Sys2Proof.Machine.execTelReadExtremes c s
  | .telThermal c => Sys2Proof.Machine.execTelThermal c s
  | .karxoTakeCommand => Sys2Proof.Machine.execKarxoTakeCommand s
  | .mbCmdPiWrite req m v => Sys2Proof.Machine.execMbCmdPiWrite req m v s
  | .mbRspCiWrite req m v => Sys2Proof.Machine.execMbRspCiWrite req m v s
  | .mbEvtCiWrite req m v => Sys2Proof.Machine.execMbEvtCiWrite req m v s
  | .mbCtrlLostClr req m v => Sys2Proof.Machine.execMbCtrlLostClr req m v s
  | .evtPendClear req hi v => Sys2Proof.Machine.execEvtPendClear req hi v s
  | .intEnWrite req hi v => Sys2Proof.Machine.execIntEnWrite req hi v s
  | .dispCommitWrite req o v => Sys2Proof.Machine.execDispCommitWrite req o v s
  | .pbWordWrite req w v => Sys2Proof.Machine.execPbWordWrite req w v s
  | .registerWrite req off v => Sys2Proof.Machine.execRegisterWrite req off v s
  | .readReq u => Sys2Proof.Machine.execReadReq u s
  | .writeReq u => Sys2Proof.Machine.execWriteReq u s
  | .mgmtOtherType u => Sys2Proof.Machine.execMgmtOtherType u s
  | .tunIntHoldoffExpiry u => Sys2Proof.Machine.execTunIntHoldoffExpiry u s
  | .ep0VendorRead wValue wIndex wLength => Sys2Proof.Machine.execEp0VendorRead wValue wIndex wLength s
  | .ep0VendorWrite wValue wIndex wLength data => Sys2Proof.Machine.execEp0VendorWrite wValue wIndex wLength data s
  | .ep1OutTransfer data => Sys2Proof.Machine.execEp1OutTransfer data s
  | .ep1InAcknowledged => Sys2Proof.Machine.execEp1InAcknowledged s
  | .ep2InAcknowledged => Sys2Proof.Machine.execEp2InAcknowledged s
  | .upstreamBusReset partialTransfer => Sys2Proof.Machine.execUpstreamBusReset partialTransfer s
  | .spiWrite off words cut => Sys2Proof.Machine.execSpiWrite off words cut s
  | .spiRead off count => Sys2Proof.Machine.execSpiRead off count s
  | .spiStatus => Sys2Proof.Machine.execSpiStatus s
  | .spiBadTransaction raw => Sys2Proof.Machine.execSpiBadTransaction raw s
  | .intHoldoffExpiry => Sys2Proof.Machine.execIntHoldoffExpiry s
  | .karxoReady => Sys2Proof.Machine.execKarxoReady s
  | .vdmDiscoverIdentity u => Sys2Proof.Machine.execVdmDiscoverIdentity u s
  | .vdmDiscoverSvids u => Sys2Proof.Machine.execVdmDiscoverSvids u s
  | .vdmDiscoverModes u svid => Sys2Proof.Machine.execVdmDiscoverModes u svid s
  | .enterMode u svid => Sys2Proof.Machine.execEnterMode u svid s
  | .exitMode u => Sys2Proof.Machine.execExitMode u s
  | .noContractTimeout u => Sys2Proof.Machine.execNoContractTimeout u s
  | .noEnterModeTimeout u => Sys2Proof.Machine.execNoEnterModeTimeout u s
  | .exitModeWaitTimeout u => Sys2Proof.Machine.execExitModeWaitTimeout u s
  | .bringupStateExit l ok => Sys2Proof.Machine.execBringupStateExit l ok s
  | .bringupStateTimeout l ok => Sys2Proof.Machine.execBringupStateTimeout l ok s
  | .bringupRetryWait l => Sys2Proof.Machine.execBringupRetryWait l s
  | .capReceived l cap => Sys2Proof.Machine.execCapReceived l cap s
  | .retrainReceived l => Sys2Proof.Machine.execRetrainReceived l s
  | .retrainTimeout l => Sys2Proof.Machine.execRetrainTimeout l s
  | .linkFrameReceive l p f => Sys2Proof.Machine.execLinkFrameReceive l p f s
  | .nakReceived l block => Sys2Proof.Machine.execNakReceived l block s
  | .replayTimeout l => Sys2Proof.Machine.execReplayTimeout l s
  | .linkFrameSend l p => Sys2Proof.Machine.execLinkFrameSend l p s
  | .laneLost l p blockLock => Sys2Proof.Machine.execLaneLost l p blockLock s
  | .laneDownReceived l lost restored spare => Sys2Proof.Machine.execLaneDownReceived l lost restored spare s
  | .spareTurnTimeout u => Sys2Proof.Machine.execSpareTurnTimeout u s
  | .laneRestoreAttempt l p => Sys2Proof.Machine.execLaneRestoreAttempt l p s
  | .laneRestored l p => Sys2Proof.Machine.execLaneRestored l p s
  | .laneIdleTimeout l p target => Sys2Proof.Machine.execLaneIdleTimeout l p target s
  | .eiosReceived l p target => Sys2Proof.Machine.execEiosReceived l p target s
  | .laneWake l p => Sys2Proof.Machine.execLaneWake l p s
  | .wakeBurstReceived u => Sys2Proof.Machine.execWakeBurstReceived u s
  | .wakePatternTimeout u => Sys2Proof.Machine.execWakePatternTimeout u s
  | .tapSaturationTimeout l p tap => Sys2Proof.Machine.execTapSaturationTimeout l p tap s
  | .linkCounterWindow u k => Sys2Proof.Machine.execLinkCounterWindow u k s
  | .tunnelPacketReceive u => Sys2Proof.Machine.execTunnelPacketReceive u s
  | .schedSelect u => Sys2Proof.Machine.execSchedSelect u s
  | .schedRefill => Sys2Proof.Machine.execSchedRefill s
  | .creditReturnTimeout u tid => Sys2Proof.Machine.execCreditReturnTimeout u tid s
  | .keepaliveSendTimeout u tid => Sys2Proof.Machine.execKeepaliveSendTimeout u tid s
  | .tunnelSilentTimeout u tid => Sys2Proof.Machine.execTunnelSilentTimeout u tid s
  | .creditStallTimeout u tid => Sys2Proof.Machine.execCreditStallTimeout u tid s
  | .plChangeConfirmed => Sys2Proof.Machine.execPlChangeConfirmed s
  | .plChangeTimeout => Sys2Proof.Machine.execPlChangeTimeout s
  | .plAutoLower => Sys2Proof.Machine.execPlAutoLower s
  | .pmbusTransactionTimeout cv => Sys2Proof.Machine.execPmbusTransactionTimeout cv s
  | .pmbusAlert u => Sys2Proof.Machine.execPmbusAlert u s
  | .pmbusStatusPoll u faulted => Sys2Proof.Machine.execPmbusStatusPoll u faulted s
  | .tileMessage h tid => Sys2Proof.Machine.execTileMessage h tid s
  | .flipMessage h tid => Sys2Proof.Machine.execFlipMessage h tid s
  | .vblankStart o => Sys2Proof.Machine.execVblankStart o s
  | .crcRegionFinal o r pathDiffers => Sys2Proof.Machine.execCrcRegionFinal o r pathDiffers s
  | .scanoutUnderrun o => Sys2Proof.Machine.execScanoutUnderrun o s
  | .dpHpdChange o e => Sys2Proof.Machine.execDpHpdChange o e s
  | .dpLinkTrainingDone o trained => Sys2Proof.Machine.execDpLinkTrainingDone o trained s
  | .dpLinkRetryTimeout o => Sys2Proof.Machine.execDpLinkRetryTimeout o s
  | .holdTimeout o => Sys2Proof.Machine.execHoldTimeout o s
  | .pcieTlpFromHost h tid => Sys2Proof.Machine.execPcieTlpFromHost h tid s
  | .pcieTlpFromDevice p tlp => Sys2Proof.Machine.execPcieTlpFromDevice p tlp s
  | .pcieCompletionTimeout p towardHost rid tag => Sys2Proof.Machine.execPcieCompletionTimeout p towardHost rid tag s
  | .pcieNpOverflowForward p towardHost => Sys2Proof.Machine.execPcieNpOverflowForward p towardHost s
  | .prefetchExpiry p k => Sys2Proof.Machine.execPrefetchExpiry p k s
  | .prefetchDataArrived p k data => Sys2Proof.Machine.execPrefetchDataArrived p k data s
  | .lockWaitTimeout => Sys2Proof.Machine.execLockWaitTimeout s
  | .lockIdleTimeout => Sys2Proof.Machine.execLockIdleTimeout s
  | .pcieSlotInputChange p e => Sys2Proof.Machine.execPcieSlotInputChange p e s
  | .pcieSlotPowerGood p => Sys2Proof.Machine.execPcieSlotPowerGood p s
  | .pcieLinkStateChange p st rate width => Sys2Proof.Machine.execPcieLinkStateChange p st rate width s
  | .nvmeShutdownDone p => Sys2Proof.Machine.execNvmeShutdownDone p s
  | .usbRequest h tid => Sys2Proof.Machine.execUsbRequest h tid s
  | .usbHubRequest h tid => Sys2Proof.Machine.execUsbHubRequest h tid s
  | .usbCancel h tid => Sys2Proof.Machine.execUsbCancel h tid s
  | .usbMalformedMessage h tid => Sys2Proof.Machine.execUsbMalformedMessage h tid s
  | .usbTransferDone h tid xid status actual data => Sys2Proof.Machine.execUsbTransferDone h tid xid status actual data s
  | .usbMicroframeBoundary => Sys2Proof.Machine.execUsbMicroframeBoundary s
  | .usbPortChange ss port status change => Sys2Proof.Machine.execUsbPortChange ss port status change s
  | .usbRemoteWake ss port => Sys2Proof.Machine.execUsbRemoteWake ss port s
  | .usbUpstreamSuspend resume => Sys2Proof.Machine.execUsbUpstreamSuspend resume s
  | .usbLpmToken => Sys2Proof.Machine.execUsbLpmToken s
  | .usbResumeDone port => Sys2Proof.Machine.execUsbResumeDone port s
  | .bc12Detection port kind => Sys2Proof.Machine.execBc12Detection port kind s
  | .chargeRoleChangeDone port => Sys2Proof.Machine.execChargeRoleChangeDone port s
  | .typecRdAttach port cc2 => Sys2Proof.Machine.execTypecRdAttach port cc2 s
  | .typecRdAbsent port => Sys2Proof.Machine.execTypecRdAbsent port s
  | .usbStorageCommand p lun cdb data => Sys2Proof.Machine.execUsbStorageCommand p lun cdb data s
  | .usbLoopbackPacket iso data => Sys2Proof.Machine.execUsbLoopbackPacket iso data s
  | .ethFrameReceive p frame fcsOk => Sys2Proof.Machine.execEthFrameReceive p frame fcsOk s
  | .netMessageReceive h tid => Sys2Proof.Machine.execNetMessageReceive h tid s
  | .ethLinkChange p up speed pauseTx pauseRx => Sys2Proof.Machine.execEthLinkChange p up speed pauseTx pauseRx s
  | .netEgressSelect sp => Sys2Proof.Machine.execNetEgressSelect sp s
  | .pauseRefreshTimeout p => Sys2Proof.Machine.execPauseRefreshTimeout p s
  | .pauseQuantaExpiry p prios => Sys2Proof.Machine.execPauseQuantaExpiry p prios s
  | .addressAgingTimeout addr vid => Sys2Proof.Machine.execAddressAgingTimeout addr vid s
  | .overflowReadbackDone p q seq ok => Sys2Proof.Machine.execOverflowReadbackDone p q seq ok s
  | .reseqTimeout p q => Sys2Proof.Machine.execReseqTimeout p q s
  | .netCounterWindow sp k => Sys2Proof.Machine.execNetCounterWindow sp k s
  | .canFrameReceive p f => Sys2Proof.Machine.execCanFrameReceive p f s
  | .canBusStateChange p st tec rec => Sys2Proof.Machine.execCanBusStateChange p st tec rec s
  | .canBusOffRecovered p => Sys2Proof.Machine.execCanBusOffRecovered p s
  | .canPeriodDue f => Sys2Proof.Machine.execCanPeriodDue f s
  | .canGapExpiry f => Sys2Proof.Machine.execCanGapExpiry f s
  | .canFrameSent p => Sys2Proof.Machine.execCanFrameSent p s
  | .canDeliveryDue h sig => Sys2Proof.Machine.execCanDeliveryDue h sig s
  | .canSignalStale sig => Sys2Proof.Machine.execCanSignalStale sig s
  | .canWriteMessage h tid => Sys2Proof.Machine.execCanWriteMessage h tid s
  | .canWake p => Sys2Proof.Machine.execCanWake p s
  | .bndPresLow => Sys2Proof.Machine.execBndPresLow s
  | .partnerLost presHigh => Sys2Proof.Machine.execPartnerLost presHigh s
  | .autoRejoin j => Sys2Proof.Machine.execAutoRejoin j s
  | .forwardedCommand req id w0 w1 w2 w3 payload => Sys2Proof.Machine.execForwardedCommand req id w0 w1 w2 w3 payload s
  | .forwardedWindowAccess req id off count writes => Sys2Proof.Machine.execForwardedWindowAccess req id off count writes s
  | .relayedEvent ev hosts time arg => Sys2Proof.Machine.execRelayedEvent ev hosts time arg s
  | .pairTimeMeasure offset => Sys2Proof.Machine.execPairTimeMeasure offset s
  | .mirrorStateForward ch => Sys2Proof.Machine.execMirrorStateForward ch s
  | .mirrorForwardTimeout => Sys2Proof.Machine.execMirrorForwardTimeout s
  | .replicatedTraffic t => Sys2Proof.Machine.execReplicatedTraffic t s
  | .ilkRiseSeen planned => Sys2Proof.Machine.execIlkRiseSeen planned s
  | .ilkClaimWaitExpiry => Sys2Proof.Machine.execIlkClaimWaitExpiry s
  | .ilkClaimConfirm low => Sys2Proof.Machine.execIlkClaimConfirm low s
  | .ilkHighWhileDay => Sys2Proof.Machine.execIlkHighWhileDay s
  | .ilkNoHolderTimeout => Sys2Proof.Machine.execIlkNoHolderTimeout s
  | .pairWatchdogExpiry => Sys2Proof.Machine.execPairWatchdogExpiry s
  | .signatureBoundary k => Sys2Proof.Machine.execSignatureBoundary k s
  | .signatureRecordReceived k seq sig => Sys2Proof.Machine.execSignatureRecordReceived k seq sig s
  | .signatureRecordTimeout k seq => Sys2Proof.Machine.execSignatureRecordTimeout k seq s
  | .pairSelftestDone own partner => Sys2Proof.Machine.execPairSelftestDone own partner s
  | .handoverPlannedStart => Sys2Proof.Machine.execHandoverPlannedStart s
  | .dayPrsntRise => Sys2Proof.Machine.execDayPrsntRise s
  | .newDayTakeover => Sys2Proof.Machine.execNewDayTakeover s
  | .layerOwnerSilentTimeout h => Sys2Proof.Machine.execLayerOwnerSilentTimeout h s
  | .shellStart => Sys2Proof.Machine.execShellStart s
  | .feedWindowLeave f mv => Sys2Proof.Machine.execFeedWindowLeave f mv s
  | .feedQualified f => Sys2Proof.Machine.execFeedQualified f s
  | .feedReturnDelayExpiry => Sys2Proof.Machine.execFeedReturnDelayExpiry s
  | .feedGapExpiry => Sys2Proof.Machine.execFeedGapExpiry s
  | .noFeedTimeout => Sys2Proof.Machine.execNoFeedTimeout s
  | .insertionDelayExpiry => Sys2Proof.Machine.execInsertionDelayExpiry s
  | .powerGood => Sys2Proof.Machine.execPowerGood s
  | .vbusGateDelayExpiry => Sys2Proof.Machine.execVbusGateDelayExpiry s
  | .powerFail => Sys2Proof.Machine.execPowerFail s
  | .fastTrip vds => Sys2Proof.Machine.execFastTrip vds s
  | .rampTimerExpiry vds => Sys2Proof.Machine.execRampTimerExpiry vds s
  | .hotswapRegulation enter vds => Sys2Proof.Machine.execHotswapRegulation enter vds s
  | .retryTimerExpiry => Sys2Proof.Machine.execRetryTimerExpiry s
  | .retryStateCheckpoint => Sys2Proof.Machine.execRetryStateCheckpoint s
  | .retryCountReset => Sys2Proof.Machine.execRetryCountReset s
  | .prsntRemoved => Sys2Proof.Machine.execPrsntRemoved s
  | .prsntInserted => Sys2Proof.Machine.execPrsntInserted s
  | .efuseOverloadTrip ch ma => Sys2Proof.Machine.execEfuseOverloadTrip ch ma s
  | .efuseSevereTrip ch ma => Sys2Proof.Machine.execEfuseSevereTrip ch ma s
  | .efuseOffTimeExpiry ch => Sys2Proof.Machine.execEfuseOffTimeExpiry ch s
  | .pdAttach u cc2 cable => Sys2Proof.Machine.execPdAttach u cc2 cable s
  | .pdVbusReady u => Sys2Proof.Machine.execPdVbusReady u s
  | .pdRequest u rq => Sys2Proof.Machine.execPdRequest u rq s
  | .pdTransitionStart u => Sys2Proof.Machine.execPdTransitionStart u s
  | .pdTransitionDone u => Sys2Proof.Machine.execPdTransitionDone u s
  | .pdPsRdyTimeout u => Sys2Proof.Machine.execPdPsRdyTimeout u s
  | .pdDetach u => Sys2Proof.Machine.execPdDetach u s
  | .pdHardReset u => Sys2Proof.Machine.execPdHardReset u s
  | .pdPpsRequestTimeout u => Sys2Proof.Machine.execPdPpsRequestTimeout u s
  | .pdNewCapsTimeout u => Sys2Proof.Machine.execPdNewCapsTimeout u s
  | .pdOtherMessage u msg => Sys2Proof.Machine.execPdOtherMessage u msg s
  | .islandSleepEntry isl off => Sys2Proof.Machine.execIslandSleepEntry isl off s
  | .islandSleepExit isl => Sys2Proof.Machine.execIslandSleepExit isl s
  | .stopPointOfNoReturn => Sys2Proof.Machine.execStopPointOfNoReturn s
  | .wakePinDebounced pin active => Sys2Proof.Machine.execWakePinDebounced pin active s
  | .wakeSourceRecognised src => Sys2Proof.Machine.execWakeSourceRecognised src s
  | .wakeVddFabReady => Sys2Proof.Machine.execWakeVddFabReady s
  | .wakeComplete => Sys2Proof.Machine.execWakeComplete s
  | .wakeEventTimeout => Sys2Proof.Machine.execWakeEventTimeout s
  | .twilightBrownout => Sys2Proof.Machine.execTwilightBrownout s
  | .thermalSample t => Sys2Proof.Machine.execThermalSample t s
  | .telemetrySample q => Sys2Proof.Machine.execTelemetrySample q s
  | .fabricInvalidCode p fromXbar bit falseRail => Sys2Proof.Machine.execFabricInvalidCode p fromXbar bit falseRail s
  | .fabricStall p fromXbar phase => Sys2Proof.Machine.execFabricStall p fromXbar phase s
  | .portSelftestDone p pass => Sys2Proof.Machine.execPortSelftestDone p pass s
  | .refclkLoss => Sys2Proof.Machine.execRefclkLoss s
  | .safeStateExit => Sys2Proof.Machine.execSafeStateExit s
  | .memoryEccError e => Sys2Proof.Machine.execMemoryEccError e s
  | .scrubRead dram e => Sys2Proof.Machine.execScrubRead dram e s
  | .lockstepMismatch stage => Sys2Proof.Machine.execLockstepMismatch stage s
  | .processorWatchdogExpiry => Sys2Proof.Machine.execProcessorWatchdogExpiry s
  | .processorRestartDone => Sys2Proof.Machine.execProcessorRestartDone s
  | .resetPin lowNs => Sys2Proof.Machine.execResetPin lowNs s
  | .resetRelease => Sys2Proof.Machine.execResetRelease s
  | .railUndervoltage rail => Sys2Proof.Machine.execRailUndervoltage rail s
  | .hubClassRequest ss setup data => Sys2Proof.Machine.execHubClassRequest ss setup data s
  | .allotDoneReceived u b2 b3 => Sys2Proof.Machine.execAllotDoneReceived u b2 b3 s
  | .resumeReceived l p => Sys2Proof.Machine.execResumeReceived l p s
  | .feedWindowEnter f mv => Sys2Proof.Machine.execFeedWindowEnter f mv s
  | .refclkReturn => Sys2Proof.Machine.execRefclkReturn s
  | .powerLoss => Sys2Proof.Machine.execPowerLoss s
  | .relayedResponse id final status payload => Sys2Proof.Machine.execRelayedResponse id final status payload s
  | .twilightEntry => Sys2Proof.Machine.execTwilightEntry s
  | .spiWriteBufferDrained => Sys2Proof.Machine.execSpiWriteBufferDrained s

end Sys2Proof.Machine
end

