-- ==== Sys2Proof/Machine/Step.lean ====
section
/-! DEFINITION. One step of the block: the command at the front of its queue, or, with none waiting, a tick of REFCLK. -/
namespace Sys2Proof.Machine

/-- The state with a queue in place of its own. -/
def State.withPending (s : State) (q : List Instr) : State := { s with pending := q }

/-- What the block does with no command waiting: hub time advances, by the 25 ns of one reference cycle while REFCLK runs,
and by an open amount while it is lost and island 12 counts another clock (R16, R46; log entry 1). It stands while the hub is
held in reset or has no power. -/
def idle (s : State) : State :=
  if !s.clock.powered || s.clock.inReset then s
  else if s.clock.refclk then { s with clock := { s.clock with hubTime := s.clock.hubTime + 25 } }
  else
    let (v, s) := takeFree 64 s
    { s with clock := { s.clock with hubTime := s.clock.hubTime + v } }

/-- One step: the command at the front of the queue runs on the state with the queue's rest (log entry 1). -/
def step (s : State) : Host.Outcome State Fault Refusal :=
  match s.pending with
  | [] => .next (idle s)
  | c :: rest => exec c (s.withPending rest)

/-- The state with the command a table word spells at the front of its queue. -/
def State.withFetchWord (s : State) (nbits w : Nat) : State :=
  match Sys2Proof.decodeTableWord nbits w with
  | some i => s.withPending (i :: s.pending)
  | none => s

end Sys2Proof.Machine
end

