-- ==== Sys2Proof/Safety.lean ====
section
/-! DEFINITION. The terms in which claims are stated: a command that passes every shared check, what carrying it out gives, and the canonical form of everything the state keeps sparsely. -/
namespace Sys2Proof.Machine

/-- A command passes checks 2 to 7c of Table 2.11 and is this chip's own to carry out (R530, R385). -/
def accepted (sp : OpSpec) (c : Cmd) (s : State) : Bool := (checkCmd sp s c).isNone && !c.target.getLsbD 31

/-- The state as a command starts on it: it is being carried out, and no status of it has been noted for its forwarding
(R391). -/
def fresh (s : State) : State := updPair (fun p => { p with lastStatus := none, running := true }) s

/-- The answer to a command that has the effect `f`: in Mirror, Day then forwards it to Night where the two chips share what it
changes (R391). -/
def carried (sp : OpSpec) (c : Cmd) (f : State → State) (s : State) : Answer :=
  .next (forwardChange sp c (f (fresh s)))

/-- PENDING is posted for a command, which then waits for `k` (R80). -/
def holdPending (op : Half) (c : Cmd) (k : PendKind) (s : State) : State :=
  { respondTo c.src c.seq c.tag c.flags op stPending true [] s with pend := s.pend ++ [pendOf op c k true] }

/-- A command may post PENDING: it has not done so before, and its mailbox has a place among the four (R81). -/
def mayPend (s : State) (c : Cmd) : Bool := !heldBefore s c && !pendingFull s c

/-- Everything the state holds sparsely is in canonical form: the window's buffers, the frame store, the persistent bank's words
and wear counters, and the bridge's configuration registers. -/
def canonical (s : State) : Bool :=
  memWf s.window && memWf s.disp.mem && sparseWf 0 s.persist.words && sparseWf 0 s.persist.wear
    && s.pcie.cfg.toList.all (fun v => v.toList.all (fun m => sparseWf 0 m))

/-- A step of the block is never stopped. -/
def safeStep (s : State) : Prop := ∃ t, step s = .next t

/-! ### The command rows

Every row of the opcode table that is a mailbox command, with what Table 15.3 says of its opcode. -/

abbrev CommandRow := OpSpec × (Cmd → Instr)

def systemRows : List CommandRow :=
  [(sysNopSpec, .sysNop), (sysInfoSpec, .sysInfo), (sysProfileSetSpec, .sysProfileSet), (sysResetSpec, .sysResetWarm),
   (sysResetSpec, .sysResetCold), (sysBehaviourPinSpec, .sysBehaviourPin), (sysTimeGetSpec, .sysTimeGet),
   (stageSpec, .sysFwStageBegin), (stageSpec, .sysFwStageData), (stageSpec, .sysFwStageFinish),
   (stageSpec, .sysFwStageStatus), (activateSpec, .sysFwActivate), (sysEventMaskSpec, .sysEventMask)]

def linkRows : List CommandRow :=
  [(linkStatusSpec, .linkStatus), (linkAllotSpec, .linkAllot), (linkRetrainSpec, .linkRetrainRetrain),
   (linkRetrainSpec, .linkRetrainFull), (linkRetrainSpec, .linkRetrainLanes), (linkEqSpec, .linkEqReport),
   (linkEqSpec, .linkEqReportStored), (linkSleepSpec, .linkSleepPolicy), (linkSpareSpec, .linkLaneSpare),
   (linkCountersSpec, .linkCountersRead), (linkCountersSpec, .linkCountersClear),
   (linkCountersSpec, .linkCountersThreshold)]

def tunnelRows : List CommandRow :=
  [(tunOpenSpec, .tunOpen), (tunCloseSpec, .tunClose), (tunShapeSpec, .tunShape), (tunPoliceSpec, .tunPolice),
   (tunQuerySpec, .tunQuery), (tunQuerySpec, .tunQueryClear), (classSetSpec, .classSet),
   (schedSampleSpec, .schedSampleStart), (schedSampleSpec, .schedSampleStop), (schedSampleSpec, .schedSampleRelease)]

def displayRows : List CommandRow :=
  [(dispModeSetSpec, .dispModeSet), (dispRegionAllocSpec, .dispRegionAllocAllocate),
   (dispRegionAllocSpec, .dispRegionAllocAdopt), (dispRegionAllocSpec, .dispRegionAllocQuota),
   (dispRegionReleaseSpec, .dispRegionRelease), (dispLayerBindSpec, .dispLayerBindClaim),
   (dispLayerBindSpec, .dispLayerBindShadow), (dispLayerBindSpec, .dispLayerBindRelease),
   (dispCrcRegionSpec, .dispCrcRegionWrite), (dispCrcRegionSpec, .dispCrcRegionCommit),
   (dispCrcRegionSpec, .dispCrcRegionGrant), (dispCrcRegionSpec, .dispCrcRegionRevoke),
   (dispHoldPolicySpec, .dispHoldPolicy), (dispOutputStatusSpec, .dispOutputStatusRead),
   (dispOutputStatusSpec, .dispOutputStatusEdid), (dispOutputStatusSpec, .dispOutputStatusClear),
   (dispHoldScreenSpec, .dispHoldScreenLoad), (dispHoldScreenSpec, .dispHoldScreenPlace),
   (dispHoldScreenSpec, .dispHoldScreenEnter), (dispHoldScreenSpec, .dispHoldScreenLeave)]

def portRows : List CommandRow :=
  [(pciePortCfgSpec, .pciePortCfgSet), (pciePortCfgSpec, .pciePortCfgSplit), (pcieWindowSetSpec, .pcieWindowSet),
   (pcieErrlogReadSpec, .pcieErrlogRead), (pcieErrlogReadSpec, .pcieErrlogReadEmpty), (pcieHotplugSpec, .pcieHotplugRead),
   (pcieHotplugSpec, .pcieHotplugRemove), (pcieHotplugSpec, .pcieHotplugPowerOff), (pcieHotplugSpec, .pcieHotplugPowerOn),
   (pcieHotplugSpec, .pcieHotplugSlotNumber), (pcieLockStatusSpec, .pcieLockStatus),
   (pcieLockStatusSpec, .pcieLockForceRelease), (usbPortCfgSpec, .usbPortCfg), (usbEpCarveSpec, .usbEpCarve),
   (usbPortStatusSpec, .usbPortStatus), (usbPortStatusSpec, .usbPortStatusClear), (usbChargeCfgSpec, .usbChargeCfg)]

def networkRows : List CommandRow :=
  [(netPortCfgSpec, .netPortCfg), (netVlanSetSpec, .netVlanSetVlan), (netVlanSetSpec, .netVlanAddStatic),
   (netVlanSetSpec, .netVlanRemoveStatic), (netVlanSetSpec, .netVlanFlush), (netVlanSetSpec, .netVlanAging),
   (netVlanSetSpec, .netVlanRead), (netMarkCfgSpec, .netMarkCfg), (overflowSpec, .netOverflowCfgPort),
   (overflowSpec, .netOverflowCfgShrink), (netReseqCfgSpec, .netReseqCfg), (netCountersSpec, .netCountersRead),
   (netCountersSpec, .netCountersClear), (netCountersSpec, .netCountersThreshold), (canPortCfgSpec, .canPortCfg),
   (canMapSpec, .canMapBegin), (canMapSpec, .canMapFrames), (canMapSpec, .canMapSignals), (canMapSpec, .canMapCommit),
   (canMapSpec, .canMapStatus), (canSignalReadSpec, .canSignalRead), (canSignalWriteSpec, .canSignalWrite),
   (canRouteSpec, .canLegacyRouteClear), (canRouteSpec, .canLegacyRouteLoad), (canRouteSpec, .canLegacyRouteStore),
   (canRouteSpec, .canLegacyRouteRead)]

def chipRows : List CommandRow :=
  [(pairJoinSpec, .pairJoin), (pairLeaveSpec, .pairLeave), (pairStatusSpec, .pairStatus),
   (pairStatusSpec, .pairStatusClear), (pairHandoverSpec, .pairHandoverPlanned),
   (pairHandoverSpec, .pairHandoverImmediate), (pairCompareSpec, .pairCompareCfg), (pwrFeedCfgSpec, .pwrFeedCfg),
   (pwrHotswapCfgSpec, .pwrHotswapCfg), (pwrEfuseCfgSpec, .pwrEfuseCfg), (pwrStatusSpec, .pwrStatus),
   (pwrStatusSpec, .pwrStatusClear), (pwrPdPolicySpec, .pwrPdPolicy), (pwrFaultClearSpec, .pwrFaultClear),
   (pmIslandSetSpec, .pmIslandSet), (pmStopSpec, .pmStop), (pmWakeCfgSpec, .pmWakeCfg), (pmStatusSpec, .pmStatus),
   (pmStatusSpec, .pmStatusClear)]

def integrityRows : List CommandRow :=
  [(fltStatusSpec, .fltStatus), (fltStatusSpec, .fltStatusClear), (fltStatusSpec, .fltStatusDisable),
   (fltLogReadSpec, .fltLogRead), (fltInjectSpec, .fltInjectTransient), (fltInjectSpec, .fltInjectPersistent),
   (fltInjectSpec, .fltInjectClear), (crcChannelSpec, .crcChannelConfigure), (crcChannelSpec, .crcChannelAssign),
   (crcChannelSpec, .crcChannelRead), (scrubCfgSpec, .scrubCfg), (repairStatusSpec, .repairStatus),
   (secBlockWorldSpec, .secBlockWorld), (secRegionWorldSpec, .secRegionWorld), (lcTransitionSpec, .lcTransition),
   (lcStatusSpec, .lcStatus), (nvWearReadSpec, .nvWearRead), (secAttestSpec, .secAttestReport),
   (secAttestSpec, .secAttestCertificate), (telSampleCfgSpec, .telSampleCfg), (telReadSpec, .telRead),
   (telReadSpec, .telReadExtremes), (telThermalSpec, .telThermal)]

/-- Every command row. -/
def commandRows : List CommandRow :=
  systemRows ++ linkRows ++ tunnelRows ++ displayRows ++ portRows ++ networkRows ++ chipRows ++ integrityRows

end Sys2Proof.Machine
end

