-- ==== Sys2Proof/WellFormed.lean ====
section
/-! DEFINITION. Which terms of `Instr` stand for something that can reach the block: a payload fits its 16-bit length field, the payload of a row that is one operation of an opcode names that operation, and what an outside agent sends has the form its own standard gives it. -/
namespace Sys2Proof

/-- A payload fits the 16-bit length field of a slot (Table 2.9). -/
def Cmd.wf (c : Cmd) : Bool := decide (c.payload.length < 65536)

/-- Byte `i` of the payload is there and has the value `n`. -/
def Cmd.byteIs (c : Cmd) (i n : Nat) : Bool := c.payload[i]? == some (BitVec.ofNat 8 n)

/-- A plug-in brings whole 128-byte blocks of EDID (R215). -/
def HpdEvent.wf : HpdEvent → Bool
  | .plug _ _ edid => edid.length % 128 == 0
  | .unplug => true
  | .irq _ => true

/-- A TLP is whole words and has a header of three (R248). -/
def tlpWf (tlp : List Byte) : Bool := decide (12 ≤ tlp.length) && tlp.length % 4 == 0

/-- The data lengths of CAN FD. -/
def canLengths : List Nat := [0, 1, 2, 3, 4, 5, 6, 7, 8, 12, 16, 20, 24, 32, 48, 64]

/-- A CAN frame keeps to the identifier and data lengths of its format. -/
def CanFrame.wf (f : CanFrame) : Bool :=
  (f.ide || decide (f.id.toNat < 2048)) && canLengths.contains f.data.length && (f.fd || decide (f.data.length ≤ 8))
    && (f.fd || !f.brs) && !(f.fd && f.remote)

/-- A change forwarded by Day comes from Day (R391). -/
def MirrorChange.wf : MirrorChange → Bool
  | .command _ _ c _ => c.wf && (match c.src with | .mirror _ => true | .mailbox _ => false | .forwarded _ _ => false)
  | .displaySet _ _ _ _ => true
  | .timing _ _ => true
  | .copy _ => true

/-- Replicated traffic has the form of the traffic it copies (R392). -/
def Replica.wf : Replica → Bool
  | .packet _ _ p => decide (p.length ≤ 4096)
  | .eth _ f _ => decide (14 ≤ f.length)
  | .can _ f => f.wf

/-- Only an e-marker permits EPR (R431). -/
def Cable.wf (k : Cable) : Bool := k.emarker || !k.epr

/-- A memory error names a word of the memory it is in, and only of that (R478). -/
def EccError.wf (e : EccError) : Bool :=
  if e.dram then e.sram == 0 && e.row == 0 && e.word == 0 else e.addr == 0

/-- The well-formed commands. -/
def Instr.wf : Instr → Bool
  | .sysNop c => c.wf
  | .sysInfo c => c.wf
  | .sysProfileSet c => c.wf
  | .sysResetWarm c => c.wf && c.byteIs 0 0
  | .sysResetCold c => c.wf && c.byteIs 0 1
  | .sysBehaviourPin c => c.wf
  | .sysTimeGet c => c.wf
  | .sysFwStageBegin c => c.wf && c.byteIs 0 0
  | .fwSlotEraseDone => true
  | .sysFwStageData c => c.wf && c.byteIs 0 1
  | .sysFwStageFinish c => c.wf && c.byteIs 0 2
  | .fwStageCheckDone => true
  | .sysFwStageStatus c => c.wf && c.byteIs 0 3
  | .sysFwActivate c => c.wf
  | .fwActivateWaitTimeout => true
  | .fwActivationStart => true
  | .fwActivationDone => true
  | .fwActivationFail => true
  | .sysEventMask c => c.wf
  | .linkStatus c => c.wf
  | .linkAllot c => c.wf
  | .allotAckReceived _ _ _ _ => true
  | .allotAckTimeout _ => true
  | .turnBlockLock _ => true
  | .turnBlockLockTimeout _ => true
  | .turnFirstFrame _ => true
  | .linkRetrainRetrain c => c.wf && c.byteIs 0 0
  | .linkRetrainFull c => c.wf && c.byteIs 0 1
  | .linkRetrainLanes c => c.wf && c.byteIs 0 2
  | .linkEqReport c => c.wf && c.payload.isEmpty
  | .linkEqReportStored c => c.wf && c.byteIs 0 1
  | .linkSleepPolicy c => c.wf
  | .linkLaneSpare c => c.wf
  | .linkCountersRead c => c.wf && c.payload.isEmpty
  | .linkCountersClear c => c.wf && c.byteIs 0 1
  | .linkCountersThreshold c => c.wf && c.byteIs 0 2
  | .tunOpen c => c.wf
  | .tunClose c => c.wf
  | .tunCloseDrained _ _ => true
  | .tunCloseTimeout _ _ => true
  | .tunShape c => c.wf
  | .tunPolice c => c.wf
  | .tunQuery c => c.wf && c.payload.isEmpty
  | .tunQueryClear c => c.wf && c.byteIs 0 1
  | .classSet c => c.wf
  | .schedSampleStart c => c.wf && c.byteIs 0 0
  | .schedSampleStop c => c.wf && c.byteIs 0 1
  | .schedSampleRelease c => c.wf && c.byteIs 0 2
  | .dispModeSet c => c.wf
  | .dispPllLocked _ => true
  | .dispRegionAllocAllocate c => c.wf && c.byteIs 0 0
  | .dispRegionAllocAdopt c => c.wf && c.byteIs 0 1
  | .dispRegionAllocQuota c => c.wf && c.byteIs 0 2
  | .dispRegionRelease c => c.wf
  | .dispLayerBindClaim c => c.wf && c.byteIs 1 0
  | .dispLayerBindShadow c => c.wf && c.byteIs 1 1
  | .dispLayerBindRelease c => c.wf && c.byteIs 1 2
  | .dispCrcRegionWrite c => c.wf && c.byteIs 1 0
  | .dispCrcRegionCommit c => c.wf && c.byteIs 1 1
  | .dispCrcRegionGrant c => c.wf && c.byteIs 1 2
  | .dispCrcRegionRevoke c => c.wf && c.byteIs 1 3
  | .dispHoldPolicy c => c.wf
  | .dispOutputStatusRead c => c.wf && c.payload.isEmpty
  | .dispOutputStatusEdid c => c.wf && c.byteIs 0 1
  | .dispOutputStatusClear c => c.wf && c.byteIs 0 2
  | .dispHoldScreenLoad c => c.wf && c.byteIs 0 0
  | .dispHoldScreenPlace c => c.wf && c.byteIs 0 1
  | .dispHoldScreenEnter c => c.wf && c.byteIs 0 2
  | .dispHoldScreenLeave c => c.wf && c.byteIs 0 3
  | .pciePortCfgSet c => c.wf && (c.payload.isEmpty || c.byteIs 0 0)
  | .pciePortCfgSplit c => c.wf && c.byteIs 0 1
  | .pcieReassignPerstDone _ => true
  | .pcieWindowSet c => c.wf
  | .pcieErrlogRead c => c.wf && c.byteIs 1 0
  | .pcieErrlogReadEmpty c => c.wf && c.byteIs 1 1
  | .pcieHotplugRead c => c.wf && c.byteIs 0 0
  | .pcieHotplugRemove c => c.wf && c.byteIs 0 1
  | .pcieHotplugPowerOff c => c.wf && c.byteIs 0 2
  | .pcieHotplugPowerOn c => c.wf && c.byteIs 0 3
  | .pcieHotplugSlotNumber c => c.wf && c.byteIs 0 4
  | .pcieLockStatus c => c.wf && (c.payload.isEmpty || c.byteIs 0 0)
  | .pcieLockForceRelease c => c.wf && c.byteIs 0 1
  | .usbPortCfg c => c.wf
  | .usbEpCarve c => c.wf
  | .usbPortStatus c => c.wf && c.payload.isEmpty
  | .usbPortStatusClear c => c.wf && c.byteIs 0 1
  | .usbChargeCfg c => c.wf
  | .netPortCfg c => c.wf
  | .netVlanSetVlan c => c.wf && c.byteIs 0 0
  | .netVlanAddStatic c => c.wf && c.byteIs 0 1
  | .netVlanRemoveStatic c => c.wf && c.byteIs 0 2
  | .netVlanFlush c => c.wf && c.byteIs 0 3
  | .netVlanAging c => c.wf && c.byteIs 0 4
  | .netVlanRead c => c.wf && c.byteIs 0 5
  | .netMarkCfg c => c.wf
  | .netOverflowCfgPort c => c.wf && (c.payload.isEmpty || c.byteIs 0 0)
  | .netOverflowCfgShrink c => c.wf && c.byteIs 0 1
  | .overflowShrinkDrained => true
  | .overflowShrinkTimeout => true
  | .netReseqCfg c => c.wf
  | .netCountersRead c => c.wf && c.payload.isEmpty
  | .netCountersClear c => c.wf && c.byteIs 0 1
  | .netCountersThreshold c => c.wf && c.byteIs 0 2
  | .canPortCfg c => c.wf
  | .canMapBegin c => c.wf && c.byteIs 0 0
  | .canMapFrames c => c.wf && c.byteIs 0 1
  | .canMapSignals c => c.wf && c.byteIs 0 2
  | .canMapCommit c => c.wf && c.byteIs 0 3
  | .canMapStatus c => c.wf && c.byteIs 0 4
  | .canSignalRead c => c.wf
  | .canSignalWrite c => c.wf
  | .canLegacyRouteClear c => c.wf && c.byteIs 0 0
  | .canLegacyRouteLoad c => c.wf && c.byteIs 0 1
  | .canLegacyRouteStore c => c.wf && c.byteIs 0 2
  | .canLegacyRouteRead c => c.wf && c.byteIs 0 3
  | .pairJoin c => c.wf
  | .pairJoinTimeout => true
  | .pairJoinMatched _ => true
  | .mirrorSyncDone => true
  | .pairLeave c => c.wf
  | .pairLeaveDone => true
  | .pairStatus c => c.wf && c.payload.isEmpty
  | .pairStatusClear c => c.wf && c.byteIs 0 1
  | .pairHandoverPlanned c => c.wf && c.byteIs 0 0
  | .pairHandoverImmediate c => c.wf && c.byteIs 0 1
  | .pairCompareCfg c => c.wf
  | .pwrFeedCfg c => c.wf
  | .pwrHotswapCfg c => c.wf
  | .pwrEfuseCfg c => c.wf
  | .pwrStatus c => c.wf && c.payload.isEmpty
  | .pwrStatusClear c => c.wf && c.byteIs 0 1
  | .pwrPdPolicy c => c.wf
  | .pwrFaultClear c => c.wf
  | .pmIslandSet c => c.wf
  | .pmStop c => c.wf
  | .pmWakeCfg c => c.wf
  | .pmStatus c => c.wf && c.payload.isEmpty
  | .pmStatusClear c => c.wf && c.byteIs 0 1
  | .fltStatus c => c.wf && c.payload.isEmpty
  | .fltStatusClear c => c.wf && c.byteIs 0 1
  | .fltStatusDisable c => c.wf && c.byteIs 0 2
  | .fltLogRead c => c.wf
  | .fltInjectTransient c => c.wf && c.byteIs 1 0
  | .fltInjectPersistent c => c.wf && c.byteIs 1 1
  | .fltInjectClear c => c.wf && c.byteIs 1 2
  | .crcChannelConfigure c => c.wf && c.byteIs 0 0
  | .crcChannelAssign c => c.wf && c.byteIs 0 1
  | .crcChannelRead c => c.wf && c.byteIs 0 2
  | .scrubCfg c => c.wf
  | .repairStatus c => c.wf
  | .secBlockWorld c => c.wf
  | .secRegionWorld c => c.wf
  | .lcTransition c => c.wf
  | .lcStatus c => c.wf
  | .nvWearRead c => c.wf
  | .secAttestReport c => c.wf && c.byteIs 0 0
  | .secAttestCertificate c => c.wf && c.byteIs 0 1
  | .telSampleCfg c => c.wf
  | .telRead c => c.wf && c.payload.isEmpty
  | .telReadExtremes c => c.wf && c.byteIs 0 1
  | .telThermal c => c.wf
  | .karxoTakeCommand => true
  | .mbCmdPiWrite _ _ _ => true
  | .mbRspCiWrite _ _ _ => true
  | .mbEvtCiWrite _ _ _ => true
  | .mbCtrlLostClr _ _ _ => true
  | .evtPendClear _ _ _ => true
  | .intEnWrite _ _ _ => true
  | .dispCommitWrite _ _ _ => true
  | .pbWordWrite _ _ _ => true
  | .registerWrite _ _ _ => true
  | .readReq _ => true
  | .writeReq _ => true
  | .mgmtOtherType _ => true
  | .tunIntHoldoffExpiry _ => true
  | .ep0VendorRead _ _ _ => true
  | .ep0VendorWrite _ _ wLength data => data.length == wLength.toNat
  | .ep1OutTransfer _ => true
  | .ep1InAcknowledged => true
  | .ep2InAcknowledged => true
  | .upstreamBusReset _ => true
  | .spiWrite _ _ _ => true
  | .spiRead _ _ => true
  | .spiStatus => true
  | .spiBadTransaction _ => true
  | .intHoldoffExpiry => true
  | .karxoReady => true
  | .vdmDiscoverIdentity _ => true
  | .vdmDiscoverSvids _ => true
  | .vdmDiscoverModes _ _ => true
  | .enterMode _ _ => true
  | .exitMode _ => true
  | .noContractTimeout _ => true
  | .noEnterModeTimeout _ => true
  | .exitModeWaitTimeout _ => true
  | .bringupStateExit _ _ => true
  | .bringupStateTimeout _ _ => true
  | .bringupRetryWait _ => true
  | .capReceived _ _ => true
  | .retrainReceived _ => true
  | .retrainTimeout _ => true
  | .linkFrameReceive _ _ bs => bs.length == 64
  | .nakReceived _ _ => true
  | .replayTimeout _ => true
  | .linkFrameSend _ _ => true
  | .laneLost _ _ _ => true
  | .laneDownReceived _ _ _ _ => true
  | .spareTurnTimeout _ => true
  | .laneRestoreAttempt _ _ => true
  | .laneRestored _ _ => true
  | .laneIdleTimeout _ _ _ => true
  | .eiosReceived _ _ _ => true
  | .laneWake _ _ => true
  | .wakeBurstReceived _ => true
  | .wakePatternTimeout _ => true
  | .tapSaturationTimeout _ _ _ => true
  | .linkCounterWindow _ _ => true
  | .tunnelPacketReceive _ => true
  | .schedSelect _ => true
  | .schedRefill => true
  | .creditReturnTimeout _ _ => true
  | .keepaliveSendTimeout _ _ => true
  | .tunnelSilentTimeout _ _ => true
  | .creditStallTimeout _ _ => true
  | .plChangeConfirmed => true
  | .plChangeTimeout => true
  | .plAutoLower => true
  | .pmbusTransactionTimeout _ => true
  | .pmbusAlert _ => true
  | .pmbusStatusPoll _ _ => true
  | .tileMessage _ _ => true
  | .flipMessage _ _ => true
  | .vblankStart _ => true
  | .crcRegionFinal _ _ _ => true
  | .scanoutUnderrun _ => true
  | .dpHpdChange _ e => e.wf
  | .dpLinkTrainingDone _ _ => true
  | .dpLinkRetryTimeout _ => true
  | .holdTimeout _ => true
  | .pcieTlpFromHost _ _ => true
  | .pcieTlpFromDevice _ tlp => tlpWf tlp
  | .pcieCompletionTimeout _ _ _ _ => true
  | .pcieNpOverflowForward _ _ => true
  | .prefetchExpiry _ _ => true
  | .prefetchDataArrived _ _ _ => true
  | .lockWaitTimeout => true
  | .lockIdleTimeout => true
  | .pcieSlotInputChange _ _ => true
  | .pcieSlotPowerGood _ => true
  | .pcieLinkStateChange _ _ _ _ => true
  | .nvmeShutdownDone _ => true
  | .usbRequest _ _ => true
  | .usbHubRequest _ _ => true
  | .usbCancel _ _ => true
  | .usbMalformedMessage _ _ => true
  | .usbTransferDone _ _ _ _ actual data => decide (data.length ≤ actual)
  | .usbMicroframeBoundary => true
  | .usbPortChange _ _ _ _ => true
  | .usbRemoteWake _ _ => true
  | .usbUpstreamSuspend _ => true
  | .usbLpmToken => true
  | .usbResumeDone _ => true
  | .bc12Detection _ _ => true
  | .chargeRoleChangeDone _ => true
  | .typecRdAttach _ _ => true
  | .typecRdAbsent _ => true
  | .usbStorageCommand _ _ cdb _ => decide (1 ≤ cdb.length) && decide (cdb.length ≤ 16)
  | .usbLoopbackPacket _ _ => true
  | .ethFrameReceive _ frame _ => decide (14 ≤ frame.length)
  | .netMessageReceive _ _ => true
  | .ethLinkChange _ _ _ _ _ => true
  | .netEgressSelect _ => true
  | .pauseRefreshTimeout _ => true
  | .pauseQuantaExpiry _ _ => true
  | .addressAgingTimeout _ _ => true
  | .overflowReadbackDone _ _ _ _ => true
  | .reseqTimeout _ _ => true
  | .netCounterWindow _ _ => true
  | .canFrameReceive _ f => f.wf
  | .canBusStateChange _ _ _ _ => true
  | .canBusOffRecovered _ => true
  | .canPeriodDue _ => true
  | .canGapExpiry _ => true
  | .canFrameSent _ => true
  | .canDeliveryDue _ _ => true
  | .canSignalStale _ => true
  | .canWriteMessage _ _ => true
  | .canWake _ => true
  | .bndPresLow => true
  | .partnerLost _ => true
  | .autoRejoin _ => true
  | .forwardedCommand _ _ _ _ _ _ payload => decide (payload.length ≤ 496)
  | .forwardedWindowAccess _ _ _ count writes => decide (1 ≤ count) && (match writes with | some ws => ws.length == count | none => true)
  | .relayedEvent _ _ _ _ => true
  | .pairTimeMeasure _ => true
  | .mirrorStateForward ch => ch.wf
  | .mirrorForwardTimeout => true
  | .replicatedTraffic t => t.wf
  | .ilkRiseSeen _ => true
  | .ilkClaimWaitExpiry => true
  | .ilkClaimConfirm _ => true
  | .ilkHighWhileDay => true
  | .ilkNoHolderTimeout => true
  | .pairWatchdogExpiry => true
  | .signatureBoundary _ => true
  | .signatureRecordReceived _ _ _ => true
  | .signatureRecordTimeout _ _ => true
  | .pairSelftestDone _ _ => true
  | .handoverPlannedStart => true
  | .dayPrsntRise => true
  | .newDayTakeover => true
  | .layerOwnerSilentTimeout _ => true
  | .shellStart => true
  | .feedWindowLeave _ _ => true
  | .feedQualified _ => true
  | .feedReturnDelayExpiry => true
  | .feedGapExpiry => true
  | .noFeedTimeout => true
  | .insertionDelayExpiry => true
  | .powerGood => true
  | .vbusGateDelayExpiry => true
  | .powerFail => true
  | .fastTrip _ => true
  | .rampTimerExpiry _ => true
  | .hotswapRegulation _ _ => true
  | .retryTimerExpiry => true
  | .retryStateCheckpoint => true
  | .retryCountReset => true
  | .prsntRemoved => true
  | .prsntInserted => true
  | .efuseOverloadTrip _ _ => true
  | .efuseSevereTrip _ _ => true
  | .efuseOffTimeExpiry _ => true
  | .pdAttach _ _ cable => cable.wf
  | .pdVbusReady _ => true
  | .pdRequest _ _ => true
  | .pdTransitionStart _ => true
  | .pdTransitionDone _ => true
  | .pdPsRdyTimeout _ => true
  | .pdDetach _ => true
  | .pdHardReset _ => true
  | .pdPpsRequestTimeout _ => true
  | .pdNewCapsTimeout _ => true
  | .pdOtherMessage _ _ => true
  | .islandSleepEntry _ _ => true
  | .islandSleepExit _ => true
  | .stopPointOfNoReturn => true
  | .wakePinDebounced _ _ => true
  | .wakeSourceRecognised _ => true
  | .wakeVddFabReady => true
  | .wakeComplete => true
  | .wakeEventTimeout => true
  | .twilightBrownout => true
  | .thermalSample _ => true
  | .telemetrySample _ => true
  | .fabricInvalidCode _ _ _ _ => true
  | .fabricStall _ _ _ => true
  | .portSelftestDone _ _ => true
  | .refclkLoss => true
  | .safeStateExit => true
  | .memoryEccError e => e.wf
  | .scrubRead dram e => match e with | some x => x.wf && x.dram == dram | none => true
  | .lockstepMismatch _ => true
  | .processorWatchdogExpiry => true
  | .processorRestartDone => true
  | .resetPin lowNs => decide (0 < lowNs)
  | .resetRelease => true
  | .railUndervoltage _ => true
  | .hubClassRequest _ _ _ => true
  | .allotDoneReceived _ _ _ => true
  | .resumeReceived _ _ => true
  | .feedWindowEnter _ _ => true
  | .refclkReturn => true
  | .powerLoss => true
  | .relayedResponse _ _ _ payload => decide (payload.length ≤ 496)
  | .twilightEntry => true
  | .spiWriteBufferDrained => true

end Sys2Proof
end

