-- ==== Sys2Proof/Certificates/Slice0/Obligations.lean ====
section
/-! DEFINITION. The statements for the provers, grouped by the families of the opcode table; each docstring says what is stated and names the rules it rests on. -/

open Sys2Proof Sys2Proof.Machine

/-- SYS_NOP, SYS_INFO, SYS_TIME_GET and SYS_EVENT_MASK answer with what the rules give. An accepted SYS_NOP answers OK with its
own payload; SYS_INFO with the 64-byte report for its requester, whose bytes 0, 3, 4, 5, 7 and 48 to 51 are the variant,
profile, level, life-cycle state, requester code and DRAM capacity; SYS_TIME_GET with hub time, the unreliable flag and the
pair time, and its offset 0 outside Span; SYS_EVENT_MASK of length 0 with the mask of the issuer's own mailbox, and of
length 8 with the mask it has written, in which bits 4 and 5 stay set for mailbox 2 and the bits of functions the variant
lacks stay 0. Nothing else changes but the response and what its posting brings. (R535, R536, R538, R539) -/
def Obligations.SystemReportsAnswer : Prop :=
  (∀ c s, accepted sysNopSpec c s = true → exec (.sysNop c) s = carried sysNopSpec c (ok 0x0100 c c.payload) s) ∧
  (∀ c s, accepted sysInfoSpec c s = true →
    exec (.sysInfo c) s = carried sysInfoSpec c (fun t => ok 0x0101 c (infoReport t (cmdRequester t c)) t) s) ∧
  (∀ s r, (infoReport s r).length = 64 ∧ byteAt (infoReport s r) 0 = variantCode s ∧
    byteAt (infoReport s r) 3 = profileCode s.perf.profile ∧ byteAt (infoReport s r) 4 = s.perf.pl.val ∧
    byteAt (infoReport s r) 5 = lcCode s.ident.lc ∧ byteAt (infoReport s r) 7 = (requesterCode r).val ∧
    fieldAt (infoReport s r) 48 4 = capacityMiB s) ∧
  (∀ c s, accepted sysTimeGetSpec c s = true →
    exec (.sysTimeGet c) s = carried sysTimeGetSpec c (fun t => ok 0x0105 c (leBytes 8 t.clock.hubTime.toNat
      ++ [BitVec.ofNat 8 (bitNat t.clock.untimed + 2 * bitNat (inSpan t)), 0, 0, 0]
      ++ leBytes 4 (if inSpan t then t.pair.timeOffset.toNat % 2 ^ 32 else 0)) t) s) ∧
  (∀ c s m, accepted sysEventMaskSpec c s = true → ownMailbox s c = some m → c.payload = [] →
    exec (.sysEventMask c) s = carried sysEventMaskSpec c (ok 0x0108 c (leBytes 8 (s.mb[m].mask &&& eventsPresent s).toNat)) s) ∧
  (∀ c s m, accepted sysEventMaskSpec c s = true → ownMailbox s c = some m → c.payload.length = 8 →
    exec (.sysEventMask c) s = carried sysEventMaskSpec c (fun t =>
      let w : Dword := BitVec.ofNat 64 (leNat c.payload) &&& eventsPresent t
      let v : Dword := if m = 2 then w ||| 0x30 else w
      ok 0x0108 c (leBytes 8 (v &&& eventsPresent t).toNat) (updMb m (fun mb => { mb with mask := v }) t)) s)

/-- SYS_RESET starts the reset its payload names and posts no response; RST_N and VIN_AON hold the hub in reset. While no third
entry into the safe state within an hour holds the hub, an accepted SYS_RESET with payload 0 gives the state after a warm
reset, and with payload 1 the state after a cold one; where such an entry holds it, either is refused with BUSY, which is
this model's choice (log entry 139). A low pulse of 1 µs or more on RST_N, and an undervoltage of a monitored rail, hold the
hub in reset with READY low and INT_N released; a pulse under 100 ns changes nothing, and one in between may do either; an
undervoltage makes the next start a cold one. Releasing RST_N starts the hub, cold or warm as the cause of the reset was.
Losing VIN_AON stops the power-path shell, with the feed, hot-swap and VBUS gates no longer driven, and holds the hub in
reset. A hub without power, or not in reset, does not react to the release. (R508, R576, R586, R575, R413, R477) -/
def Obligations.ResetsStartAndHold : Prop :=
  (∀ c s, accepted sysResetSpec c s = true → byteAt c.payload 0 = 0 → s.flt.safeStays = false →
    exec (.sysResetWarm c) s = carried sysResetSpec c (restart false none) s) ∧
  (∀ c s, accepted sysResetSpec c s = true → byteAt c.payload 0 = 1 → s.flt.safeStays = false →
    exec (.sysResetCold c) s = carried sysResetSpec c (restart true none) s) ∧
  (∀ c s, accepted sysResetSpec c s = true → byteAt c.payload 0 = 0 → s.flt.safeStays = true →
    exec (.sysResetWarm c) s = carried sysResetSpec c (fail 0x0103 c stBusy) s) ∧
  (∀ c s, accepted sysResetSpec c s = true → byteAt c.payload 0 = 1 → s.flt.safeStays = true →
    exec (.sysResetCold c) s = carried sysResetSpec c (fail 0x0103 c stBusy) s) ∧
  (∀ n s, s.clock.powered = true → 1000 ≤ n →
    ∃ t, exec (.resetPin n) s = .next t ∧ t.clock.inReset = true ∧ t.ready = false ∧ t.ev.active = false ∧
      t.pair.ilkDrive = false ∧ t.persist = s.persist ∧ t.power = s.power ∧ t.window = s.window) ∧
  (∀ n s, n < 100 → exec (.resetPin n) s = .next s) ∧
  (∀ n s, s.clock.powered = true → 100 ≤ n → n < 1000 → exec (.resetPin n) s =
    .next (if Config.freeBool s.freeCtr then holdReset { s with freeCtr := s.freeCtr + 1 } else { s with freeCtr := s.freeCtr + 1 })) ∧
  (∀ s, s.clock.powered = true → s.clock.inReset = true →
    exec .resetRelease s = .next (restart s.clock.coldNext none s)) ∧
  (∀ s, s.clock.powered = false ∨ s.clock.inReset = false → exec .resetRelease s = .next s) ∧
  (∀ r s, s.clock.powered = true → railMonitored s r = true →
    ∃ t, exec (.railUndervoltage r) s = .next t ∧ t.clock.inReset = true ∧ t.clock.coldNext = true ∧ t.ready = false ∧
      t.ev.active = false ∧ t.pm.brownNote = true ∧ t.persist = s.persist ∧ t.power = s.power) ∧
  (∀ s, s.clock.powered = true →
    ∃ t, exec .powerLoss s = .next t ∧ t.clock.powered = false ∧ t.clock.inReset = true ∧ t.ready = false ∧
      t.power.shell = false ∧ t.power.gate = false ∧ t.power.vbusGate = false ∧ t.power.inUse = none ∧
      t.power.toFeed = none ∧ t.persist = s.persist)

/-- A reset clears the hub to its reset values but for what survives it. Before the stored settings take force, a reset has put
the mailboxes, event bits, window and sampling at their reset values, left no tunnel and no waiting command, set hub time to
0 and cleared READY; a cold one has emptied the fault log, and a warm one has kept its entries, class, location, times and
counts, moving only the moment from which each coalesces to the new hub time. With its settings loaded the variant, the
waiting queue and the eFuse channels of the power path are as they were, and there is no tunnel and no waiting command. The
values of registers for which the rules state none are the model's (log entry 83). (R508, R473, R413) -/
def Obligations.ResetLeaves : Prop :=
  ∀ (cold : Bool) (s : State),
    (clearedState cold s).mb = State.reset.mb ∧ (clearedState cold s).window = [] ∧ (clearedState cold s).tunnels = [] ∧
    (clearedState cold s).pend = [] ∧ (clearedState cold s).ev = State.reset.ev ∧ (clearedState cold s).clock.hubTime = 0 ∧
    (clearedState cold s).sampling = State.reset.sampling ∧ (clearedState cold s).scheds = State.reset.scheds ∧
    (clearedState cold s).ready = false ∧ (clearedState true s).flt.log = [] ∧
    (clearedState false s).flt.log = s.flt.log.map (fun e => { e with since := e.since - s.clock.hubTime }) ∧ (restart cold none s).variant = s.variant ∧
    (restart cold none s).pending = s.pending ∧ (restart cold none s).tunnels = [] ∧ (restart cold none s).pend = [] ∧
    (restart cold none s).power.efuses = s.power.efuses

/-- SYS_BEHAVIOUR_PIN reads and stores the pinned level; SYS_FW_STAGE Status reports both slots. An accepted SYS_BEHAVIOUR_PIN
of length 0 answers with the 8-byte report and changes nothing else. One of 4 bytes that pins level 0, or a level the
running image supports, with a lock bit of 0 or 1 and reserved bytes 0, on an unpaired hub, stores setting 1 and answers OK
with the report read back. A host's set is not accepted while the pin is locked or where it would lock it. Operation 3 of
SYS_FW_STAGE with reserved bytes 0, while fabric port 15 has not failed, answers with the state, version and security
version of each slot. (R521, R512) -/
def Obligations.BehaviourPinAndSlotReport : Prop :=
  (∀ c s, accepted sysBehaviourPinSpec c s = true → c.payload = [] →
    exec (.sysBehaviourPin c) s = carried sysBehaviourPinSpec c (fun t => ok 0x0104 c (pinReport t) t) s) ∧
  (∀ c s level lock, accepted sysBehaviourPinSpec c s = true → c.payload = [level, lock, 0, 0] → level.toNat ≤ 4 →
    lock.toNat ≤ 1 → level = 0 ∨ (s.fw.running.lowest.toNat ≤ level.toNat ∧ level.toNat ≤ s.fw.running.highest.toNat) →
    s.pair.state = 0 →
    exec (.sysBehaviourPin c) s = carried sysBehaviourPinSpec c (fun t =>
      let t := storeWord 1 (BitVec.ofNat 32 (level.toNat + 256 * lock.toNat)) t
      ok 0x0104 c (pinReport t) t) s) ∧
  (∀ c s, isHost (cmdRequester s c) = true → c.payload ≠ [] → pinLocked s = true ∨ byteAt c.payload 1 % 2 = 1 →
    accepted sysBehaviourPinSpec c s = false) ∧
  (∀ c s, accepted stageSpec c s = true → c.payload = [3, 0, 0, 0] → s.flt.failed.getLsbD 15 = false →
    exec (.sysFwStageStatus c) s = carried stageSpec c (fun t => ok 0x0106 c (stageReport t) t) s)

/-- Firmware staging: Begin, Data, Finish and the ends of the erase and of the check. With no activation waiting or running and
fabric port 15 not failed: Begin of a length up to 8 MiB, for which a place for PENDING is left, posts PENDING, ends a check
in progress with BAD_ARG and reason 1, and marks the inactive slot staging with nothing received; with no erase and no check
running, Data at the next offset, with nothing after it beyond the announced length, appends its bytes and answers OK, and
Finish, for which a place is left, posts PENDING while an image is being staged, and waits for the check; Finish is answered
BUSY while one runs. The end of the erase completes Begin with OK. The end of a check, with port 15 not isolated, ends the
staging, and marks the slot staged with the image and completes Finish with OK where the image is acceptable; otherwise it
marks the slot failed and completes Finish with BAD_ARG and the reason. (R512, R511, R531) -/
def Obligations.FirmwareStaging : Prop :=
  (∀ c s n, accepted stageSpec c s = true → c.payload = [0, 0, 0, 0] ++ leBytes 4 n → n ≤ 8388608 →
    s.activating = false → waitsFor s .fwActivate = false → s.flt.failed.getLsbD 15 = false → mayPend s c = true →
    exec (.sysFwStageBegin c) s = carried stageSpec c (fun t =>
      let t := finish .fwCheck stBadArg [1] (holdPending 0x0106 c .fwErase t)
      updSlot (otherSlot t) (fun _ => ⟨1, none⟩)
        (updFw (fun w => { w with staging := true, stageLen := n, stageData := [] }) t)) s) ∧
  (∀ c s b, accepted stageSpec c s = true → c.payload = [1, 0, 0, 0] ++ leBytes 4 s.fw.stageData.length ++ zeros 8 ++ b →
    s.fw.stageData.length + b.length ≤ s.fw.stageLen → s.fw.stageLen ≤ 8388608 → s.fw.staging = true →
    s.activating = false → waitsFor s .fwActivate = false → s.flt.failed.getLsbD 15 = false → slotBusy s = false →
    exec (.sysFwStageData c) s = carried stageSpec c (fun t =>
      ok 0x0106 c [] (updFw (fun w => { w with stageData := w.stageData ++ b }) t)) s) ∧
  (∀ c s, accepted stageSpec c s = true → c.payload = [2, 0, 0, 0] → s.fw.staging = true → slotBusy s = false →
    s.activating = false → waitsFor s .fwActivate = false → s.flt.failed.getLsbD 15 = false → mayPend s c = true →
    exec (.sysFwStageFinish c) s = carried stageSpec c (holdPending 0x0106 c .fwCheck) s) ∧
  (∀ c s, accepted stageSpec c s = true → c.payload = [2, 0, 0, 0] → slotBusy s = true →
    s.activating = false → waitsFor s .fwActivate = false → s.flt.failed.getLsbD 15 = false →
    exec (.sysFwStageFinish c) s = carried stageSpec c (fail 0x0106 c stBusy) s) ∧
  (∀ s, karxoRuns s = true → exec .fwSlotEraseDone s = .next (finish .fwErase stOk [] s)) ∧
  (∀ s, karxoRuns s = true → waitsFor s .fwCheck = true → s.flt.isolated.getLsbD 15 = false →
    imageFault s false s.fw.level.toNat (parseImage s.fw.stageLen s.fw.stageData) = none →
    exec .fwStageCheckDone s = .next (finish .fwCheck stOk []
      (updSlot (otherSlot s) (fun _ => ⟨2, some (parseImage s.fw.stageLen s.fw.stageData)⟩)
        (updFw (fun w => { w with staging := false, stageLen := 0, stageData := [] }) s)))) ∧
  (∀ s k, karxoRuns s = true → waitsFor s .fwCheck = true → s.flt.isolated.getLsbD 15 = false →
    imageFault s false s.fw.level.toNat (parseImage s.fw.stageLen s.fw.stageData) = some k →
    exec .fwStageCheckDone s = .next (finish .fwCheck stBadArg [BitVec.ofNat 8 k]
      (updSlot (otherSlot s) (fun _ => ⟨4, some (parseImage s.fw.stageLen s.fw.stageData)⟩)
        (updFw (fun w => { w with staging := false, stageLen := 0, stageData := [] }) s))))

/-- Hitless activation: taken, waiting, started, completed and failed. An accepted SYS_FW_ACTIVATE with a staged slot and no
life-cycle change, handover or other activation in progress posts PENDING. When every other command has posted its final
response the activation starts: READY clears and ACTIVATING sets. While another command still holds PENDING after 100 ms the
activation completes with BUSY. Its completion makes the other slot active and its image the running one, with the image's
security version, sets READY, clears ACTIVATING and leaves no activation waiting. Its failure marks the other slot failed,
sets READY, clears ACTIVATING and leaves the running image as it was. (R513, R514) -/
def Obligations.FirmwareActivation : Prop :=
  (∀ c s, accepted activateSpec c s = true → s.fw.slots[otherSlot s].state = 2 → waitsFor s .lcTransition = false →
    waitsFor s .handover = false → s.activating = false → waitsFor s .fwActivate = false → mayPend s c = true →
    exec (.sysFwActivate c) s = carried activateSpec c (holdPending 0x0107 c .fwActivate) s) ∧
  (∀ s, karxoRuns s = true → waitsFor s .fwActivate = true → othersPend s = false →
    exec .fwActivationStart s = .next { s with ready := false, activating := true }) ∧
  (∀ s p, karxoRuns s = true → p ∈ s.pend → p.kind ≠ .fwActivate → p.posted = true →
    exec .fwActivateWaitTimeout s = .next (finish .fwActivate stBusy [] s)) ∧
  (∀ s i, s.activating = true → coreOn s = true → s.fw.slots[otherSlot s].image = some i →
    ∃ t, exec .fwActivationDone s = .next t ∧ t.fw.running = i ∧ t.fw.active = otherSlot s ∧
      t.fw.slots[otherSlot s].state = 3 ∧ t.ident.secVersion = i.secVersion ∧ t.ready = true ∧ t.activating = false ∧
      waitsFor t .fwActivate = false ∧ t.persist = s.persist ∧ t.disp = s.disp ∧ t.net = s.net ∧ t.flt = s.flt) ∧
  (∀ s, s.activating = true → coreOn s = true →
    ∃ t, exec .fwActivationFail s = .next t ∧ t.fw.running = s.fw.running ∧ t.fw.active = s.fw.active ∧
      t.fw.slots[otherSlot s].state = 4 ∧ t.ready = true ∧ t.activating = false ∧ waitsFor t .fwActivate = false)

/-- SYS_PROFILE_SET and the changes of performance level. A SYS_PROFILE_SET of length 0 answers with the profile and level. One
that names a profile at the level in force, with no change in progress, enters it and answers OK; one to a profile of
another level, with a converter and, where the level number rises, with everything admitted at the new level, posts PENDING
and starts the change. While a change not made for a profile is in progress, the command is held with PENDING. A confirmed
change puts the level reached in force and ends; one made for a profile also enters the profile and completes its command
with OK; but for a restore, the held requests are then decided. A change that times out logs class 0x0C at the start, ends
quietly as a restore, and otherwise logs class 0x0C, commands the level it came from again, and fails or decides the
requests that wait for it. In Dusk at PL2, in Run with a converter, nothing in progress or held and no raise started in the
last second, the hub starts a change to PL3 where everything is admitted there; that the second counts from the start of a
raise is the model's choice (log entry 142). (R12, R13, R35, R37, R39, R537, R593) -/
def Obligations.ProfilesAndLevels : Prop :=
  (∀ c s, accepted sysProfileSetSpec c s = true → c.payload = [] →
    exec (.sysProfileSet c) s = carried sysProfileSetSpec c (fun t =>
      ok 0x0102 c [BitVec.ofNat 8 (profileCode t.perf.profile), BitVec.ofNat 8 t.perf.pl.val, 0, 0] t) s) ∧
  (∀ c s p, accepted sysProfileSetSpec c s = true → c.payload = [BitVec.ofNat 8 (profileCode p), 0, 0, 0] →
    profileBusy s = false → plBusy s = false → profilePl p = s.perf.pl → p ≠ s.perf.profile →
    exec (.sysProfileSet c) s = carried sysProfileSetSpec c (fun t => ok 0x0102 c [] (enterProfile p t)) s) ∧
  (∀ c s p, accepted sysProfileSetSpec c s = true → c.payload = [BitVec.ofNat 8 (profileCode p), 0, 0, 0] →
    profileBusy s = false → plBusy s = false → profilePl p ≠ s.perf.pl → p ≠ s.perf.profile → hasConv s = true →
    (s.perf.pl.val < (profilePl p).val → admitNow s (profilePl p) = true) → mayPend s c = true →
    exec (.sysProfileSet c) s = carried sysProfileSetSpec c (fun t =>
      startChange (profilePl p) (.profile p) (holdPending 0x0102 c (.profile p) t)) s) ∧
  (∀ c s p, accepted sysProfileSetSpec c s = true → c.payload = [BitVec.ofNat 8 (profileCode p), 0, 0, 0] →
    profileBusy s = false → plBusy s = true → mayPend s c = true →
    exec (.sysProfileSet c) s = carried sysProfileSetSpec c (fun t =>
      updPerf (fun x => { x with held := x.held ++ [⟨0x0102, c⟩] }) (holdPending 0x0102 c .held t)) s) ∧
  (∀ p s, (enterProfile p s).perf.profile = p ∧ (enterProfile p s).perf.pl = s.perf.pl) ∧
  (∀ pl cause s, (startChange pl cause s).perf.change = some ⟨s.perf.pl, pl, cause⟩ ∧
    (startChange pl cause s).out = s.out ++ [.pmbus .vddFab 0x21 (plMv pl)]) ∧
  (∀ s k, coreOn s = true → s.perf.change = some k →
    exec .plChangeConfirmed s = .next (
      let u := updPerf (fun x => { x with pl := k.toPl, change := none, abandoned := x.abandoned.set 0 0 }) s
      match k.cause with
      | .profile p => rerunHeld (finish (.profile p) stOk [] (enterProfile p u))
      | .restore => u
      | .start => rerunHeld u
      | .forRequest => rerunHeld u
      | .auto => rerunHeld u)) ∧
  (∀ s k p, coreOn s = true → s.perf.change = some k → k.cause = .profile p → s.perf.held = [] →
    ∃ t, exec .plChangeConfirmed s = .next t ∧ t.perf.change = none ∧ t.perf.pl = k.toPl ∧ t.perf.profile = p ∧
      waitsFor t (.profile p) = false) ∧
  (∀ s a b, coreOn s = true → s.perf.change = some ⟨a, b, .start⟩ →
    exec .plChangeTimeout s = .next (logFault 0x0C b.val {} s)) ∧
  (∀ s a b, coreOn s = true → s.perf.change = some ⟨a, b, .restore⟩ →
    exec .plChangeTimeout s = .next (updPerf (fun x => { x with change := none }) s)) ∧
  (∀ s k, coreOn s = true → s.perf.change = some k → k.cause ≠ .start → k.cause ≠ .restore →
    exec .plChangeTimeout s = .next (failRequests k.cause (
      let u := logFault 0x0C k.toPl.val {} s
      if k.fromPl.val < k.toPl.val then startChange k.fromPl .restore u
      else emit (.pmbus .vddFab 0x21 (plMv k.fromPl)) (updPerf (fun x => { x with change := none }) u)))) ∧
  (∀ s a b p, coreOn s = true → s.perf.change = some ⟨a, b, .profile p⟩ → a.val < b.val → s.perf.held = [] →
    ∃ t, exec .plChangeTimeout s = .next t ∧ t.perf.change = some ⟨s.perf.pl, a, .restore⟩ ∧
      t.perf.profile = s.perf.profile ∧ waitsFor t (.profile p) = false) ∧
  (∀ s, dataOn s = true → s.perf.profile = .dusk → s.perf.pl = 2 → s.perf.change = none → s.perf.held = [] →
    hasConv s = true → (∀ t, s.perf.lastRaise = some t → 1000000000 ≤ (s.clock.hubTime - t).toNat) → karxoRuns s = true → s.pm.phase = .run → admitNow s 3 = true →
    exec .plAutoLower s = .next (startChange 3 .auto s))

/-- Three abandoned PMBus transactions in a row make a converter absent. Each abandoned transaction of a converter counts;
before the third in a row nothing else changes. The third one of the VDD_FAB converter that supplies the part, with no
change of level in progress, logs class 0x0F and leaves the converter absent; one in progress fails with it. The third one
of the converter of an uplink that the variant has logs class 0x0F, leaves the converter absent, takes VBUS and the contract
away, drops the link and leaves no sink attached. (R585, R432) -/
def Obligations.PmbusConverterAbsent : Prop :=
  (∀ s, s.clock.powered = true → s.perf.abandoned[(0 : Fin 3)] < 2 →
    exec (.pmbusTransactionTimeout .vddFab) s =
      .next (updPerf (fun p => { p with abandoned := p.abandoned.set (0 : Fin 3) (s.perf.abandoned[(0 : Fin 3)] + 1) }) s)) ∧
  (∀ (u : Up) s, s.clock.powered = true → s.perf.abandoned[(⟨u.val + 1, by omega⟩ : Fin 3)] < 2 →
    exec (.pmbusTransactionTimeout (.vbus u)) s =
      .next (updPerf (fun p => { p with abandoned := p.abandoned.set (⟨u.val + 1, by omega⟩ : Fin 3) (s.perf.abandoned[(⟨u.val + 1, by omega⟩ : Fin 3)] + 1) }) s)) ∧
  (∀ s k, s.clock.powered = true → s.perf.abandoned[(0 : Fin 3)] = 2 → hasConv s = true → coreOn s = true → s.perf.change = some k →
    exec (.pmbusTransactionTimeout .vddFab) s = .next (
      let u := updPerf (fun p => { p with convAbsent := true }) (logFault 0x0F s.perf.fabAddr.toNat {}
        (updPerf (fun p => { p with abandoned := p.abandoned.set (0 : Fin 3) 3 }) s))
      failRequests k.cause (updPerf (fun p => { p with
        change := none, pl := if k.fromPl.val < k.toPl.val then k.toPl else k.fromPl })
        (if k.cause = .restore then u else logFault 0x0C k.toPl.val {} u)))) ∧
  (∀ s, s.clock.powered = true → s.perf.abandoned[(0 : Fin 3)] = 2 → hasConv s = true → coreOn s = true → s.perf.change = none →
    exec (.pmbusTransactionTimeout .vddFab) s =
      .next (updPerf (fun p => { p with convAbsent := true }) (logFault 0x0F s.perf.fabAddr.toNat {}
        (updPerf (fun p => { p with abandoned := p.abandoned.set (0 : Fin 3) 3 }) s)))) ∧
  (∀ (u : Up) s, s.clock.powered = true → s.perf.abandoned[(⟨u.val + 1, by omega⟩ : Fin 3)] = 2 → u.val < uplinks s →
    s.power.shell = true → s.power.pd[u].convAbsent = false →
    exec (.pmbusTransactionTimeout (.vbus u)) s = .next (
      updLink (linkOfUp u) (fun k => { k with cc := 0, qualified := false, suppressed := false, due := 0 })
        (dropUplink u 0 (cutVbus u (updPd u (fun x => { x with convAbsent := true, cable := none })
          (logFault 0x0F (byteAt s.power.pd[u].policy 6) {}
            (updPerf (fun p => { p with abandoned := p.abandoned.set (⟨u.val + 1, by omega⟩ : Fin 3) 3 }) s)))))))

/-- Writes to the mailbox indices and controls, to the event registers and to a persistent word. While the bridge carries out
accesses and the requester's rights reach the register: a write to MB_CMD_PI that moves it neither backward nor more than 8
ahead of MB_CMD_CI takes effect, as the doorbell; a write to MB_RSP_CI or MB_EVT_CI that moves it neither backward nor past
its producer takes effect, and freed response slots go to responses that wait; any other index write sets IDX_ERR and
changes no index. A write to MB_CTRL stores its fields, and with LOST_CLR sets EVT_LOST to 0. A write to EVT_PEND clears the
bits written as 1 in the requester's bank; one to INT_EN replaces its half, but for the bits of functions the variant lacks;
INT_N follows. A write to a persistent word other than 256 and 257 completes it. (R75, R92, R94, R517, R5) -/
def Obligations.IndexAndEventRegisterWrites : Prop :=
  (∀ r m v s, bridgeOff s = false → classify s r true (0x1000 + 0x40 * m.val) = .reaches → mailboxExists s m = true →
    exec (.mbCmdPiWrite r m v) s = .next (if piOk s.mb[m].cmdPi s.mb[m].cmdCi (v.extractLsb' 0 16) 8
      then updMb m (fun b => { b with cmdPi := v.extractLsb' 0 16 }) s else updMb m (fun b => { b with idxErr := true }) s)) ∧
  (∀ r m v s, bridgeOff s = false → classify s r true (0x100C + 0x40 * m.val) = .reaches → epDrains s m = false →
    exec (.mbRspCiWrite r m v) s = .next (if ciOk s.mb[m].rspPi s.mb[m].rspCi (v.extractLsb' 0 16)
      then postWaiting m 8 (updMb m (fun b => { b with rspCi := v.extractLsb' 0 16 }) s)
      else updMb m (fun b => { b with idxErr := true }) s)) ∧
  (∀ r m v s, bridgeOff s = false → classify s r true (0x1014 + 0x40 * m.val) = .reaches → epDrains s m = false →
    exec (.mbEvtCiWrite r m v) s = .next (if ciOk s.mb[m].evtPi s.mb[m].evtCi (v.extractLsb' 0 16)
      then updMb m (fun b => { b with evtCi := v.extractLsb' 0 16 }) s else updMb m (fun b => { b with idxErr := true }) s)) ∧
  (∀ r m v s, bridgeOff s = false → classify s r true (0x101C + 0x40 * m.val) = .reaches →
    exec (.mbCtrlLostClr r m v) s = .next (updMb m (fun b => { b with
      holdoff := v.extractLsb' 8 8, tunIntEn := v.getLsbD 1, evtLost := if v.getLsbD 2 then 0 else b.evtLost }) s)) ∧
  (∀ r hi v s b, bridgeOff s = false → classify s r true (0x2000 + 4 * bitNat hi) = .reaches → bankOfRequester s r = some b →
    exec (.evtPendClear r hi v) s =
      .next (updateInt { s with ev := { s.ev with pend := upd s.ev.pend b (fun w => w &&& ~~~ asHalf hi v) } })) ∧
  (∀ r hi v s, bridgeOff s = false → classify s r true (0x2010 + 4 * bitNat hi) = .reaches →
    exec (.intEnWrite r hi v) s =
      .next (updateInt { s with ev := { s.ev with intEn := putHalf s.ev.intEn hi v &&& eventsPresent s } })) ∧
  (∀ r (w : Fin 1024) v s, bridgeOff s = false → classify s r true (0x3000 + 4 * w.val) = .reaches → w ≠ 256 → w ≠ 257 →
    exec (.pbWordWrite r w v) s = .next (pbWrite s w.val v))

/-- A register write that reaches, is refused, or finds nothing there; the display's commit register. While the bridge carries
out accesses, a write to an offset at which nothing is there changes nothing, one that the requester's rights do not reach
raises event 6 and changes nothing else, and one that reaches it does what the register does: SCRATCH is replaced, every
other register of the identity range and those of the check channels, which are read-only, and the response and event rings
are unchanged, a command slot takes the word, and DISP_COMMIT starts its commits. While the bridge is off neither kind of
write changes anything. (R18, R20, R21, R74, R203, R564) -/
def Obligations.RegisterWritesReachOrAreRefused : Prop :=
  (∀ r off v s, bridgeOff s = true → exec (.registerWrite r off v) s = .next s) ∧
  (∀ r (off : BitVec 18) v s, bridgeOff s = false → classify s r true (off.toNat / 4 * 4) = .quiet →
    exec (.registerWrite r off v) s = .next s) ∧
  (∀ r (off : BitVec 18) v s, bridgeOff s = false → classify s r true (off.toNat / 4 * 4) = .refused →
    exec (.registerWrite r off v) s = .next (raise (.denied r) 6 (violationWindow r true (off.toNat / 4 * 4)) s)) ∧
  (∀ r v s, bridgeOff s = false → classify s r true 0x40 = .reaches →
    exec (.registerWrite r 0x40 v) s = .next { s with scratch := v }) ∧
  (∀ r (off : BitVec 18) v s, bridgeOff s = false → classify s r true (off.toNat / 4 * 4) = .reaches → 0x10000 ≤ off.toNat →
    off.toNat < 0x20000 → off.toNat % 0x4000 < 0x1000 →
    exec (.registerWrite r off v) s = .next { s with window := memWrite s.window (off.toNat / 4 * 4) (wordBytes v) }) ∧
  (∀ r (off : BitVec 18) v s, bridgeOff s = false → 0x10000 ≤ off.toNat → off.toNat < 0x20000 → 0x1000 ≤ off.toNat % 0x4000 →
    classify s r true (off.toNat / 4 * 4) = .reaches → exec (.registerWrite r off v) s = .next s) ∧
  (∀ r (off : BitVec 18) v s, bridgeOff s = false →
    (off.toNat < 0x1000 ∧ off.toNat / 4 * 4 ≠ 0x40) ∨ (0x5000 ≤ off.toNat ∧ off.toNat < 0x6000) →
    classify s r true (off.toNat / 4 * 4) = .reaches → exec (.registerWrite r off v) s = .next s) ∧
  (∀ r (o : OutNo) v s, bridgeOff s = true → exec (.dispCommitWrite r o v) s = .next s) ∧
  (∀ r (o : OutNo) v s, bridgeOff s = false → classify s r true (0x400C + 0x400 * o.val) = .reaches →
    exec (.dispCommitWrite r o v) s = .next (settleOff o ((List.finRange 6).foldl (commitBit r o v) s)))

/-- Management requests of a host are carried out and completed, one completion each. While no completion of tunnel 0 is held
back, the request at its head, where it has the type the row names, is taken from the tunnel. While the bridge is off it is
discarded without a completion. A well-formed READ_REQ of this chip is answered by one READ_CPL of status 0 with its id,
count and offset and the words it reads; a well-formed WRITE_REQ writes its words in order and is answered by one WRITE_ACK;
a malformed one, and one of any other type, is answered with status 1, count 0 and its own type with bit 7 set, its id and,
by the model's choice (log entry 98), its offset. A well-formed one for the partner is forwarded in Span. While a completion
is held back none is taken. The end of the interrupt hold-off sends the INTERRUPT packet where an index has advanced and
TUN_INT_EN is set, and otherwise only ends the hold-off. (R60, R61, R62, R63, R95, R564, R385) -/
def Obligations.ManagementRequests : Prop :=
  (∀ u s m t, zeroHeld s u = false → takeMessage (hostOnUp s u) 0 s = some (m, t) → mgType m.bytes = 1 → bridgeOff s = false →
    mgMalformed t m.bytes = false → mgPartner m.bytes = false →
    exec (.readReq u) s = .next (
      let h := hostOnUp t u
      let ws := windowReads (hostRequester h) (mgOff m.bytes) (mgCount m.bytes) t
      sendZero h (mgmtHeader 0 (mgCount m.bytes) (mgId m.bytes) 0x81 false (mgOff m.bytes) ++ ws.1.flatMap wordBytes) ws.2)) ∧
  (∀ u s m t, zeroHeld s u = false → takeMessage (hostOnUp s u) 0 s = some (m, t) → mgType m.bytes = 2 → bridgeOff s = false →
    mgMalformed t m.bytes = false → mgPartner m.bytes = false →
    exec (.writeReq u) s = .next (
      let h := hostOnUp t u
      sendZero h (mgmtHeader 0 (mgCount m.bytes) (mgId m.bytes) 0x82 false (mgOff m.bytes))
        (windowWrites (hostRequester h) (mgOff m.bytes) (mgWords m.bytes) t))) ∧
  (∀ u s m t, zeroHeld s u = false → takeMessage (hostOnUp s u) 0 s = some (m, t) → mgType m.bytes ≠ 1 → mgType m.bytes ≠ 2 →
    bridgeOff s = false →
    exec (.mgmtOtherType u) s = .next (sendZero (hostOnUp t u)
      (mgmtHeader 1 0 (mgId m.bytes) (mgType m.bytes ||| 0x80) false (mgOff m.bytes)) t)) ∧
  (∀ u s m t, zeroHeld s u = false → takeMessage (hostOnUp s u) 0 s = some (m, t) → bridgeOff s = false →
    mgMalformed t m.bytes = true →
    (let done : Answer := .next (sendZero (hostOnUp t u)
      (mgmtHeader 1 0 (mgId m.bytes) (mgType m.bytes ||| 0x80) false (mgOff m.bytes)) t)
    (mgType m.bytes = 1 → exec (.readReq u) s = done) ∧ (mgType m.bytes = 2 → exec (.writeReq u) s = done))) ∧
  (∀ u s m t, zeroHeld s u = false → takeMessage (hostOnUp s u) 0 s = some (m, t) → bridgeOff s = false →
    mgMalformed t m.bytes = false → mgPartner m.bytes = true →
    (mgType m.bytes = 1 → exec (.readReq u) s = .next (mgForward u m.bytes t)) ∧
    (mgType m.bytes = 2 → exec (.writeReq u) s = .next (mgForward u m.bytes t))) ∧
  (∀ u s m t, zeroHeld s u = false → takeMessage (hostOnUp s u) 0 s = some (m, t) → bridgeOff s = true →
    (mgType m.bytes = 1 → exec (.readReq u) s = .next t) ∧ (mgType m.bytes = 2 → exec (.writeReq u) s = .next t) ∧
    (mgType m.bytes ≠ 1 → mgType m.bytes ≠ 2 → exec (.mgmtOtherType u) s = .next t)) ∧
  (∀ u s, zeroHeld s u = true →
    exec (.readReq u) s = .next s ∧ exec (.writeReq u) s = .next s ∧ exec (.mgmtOtherType u) s = .next s) ∧
  (∀ (u : Up) s (m : MbNo), m.val = u.val → s.mb[m].intOwed = true → s.mb[m].tunIntEn = true →
    exec (.tunIntHoldoffExpiry u) s = .next (sendInterrupt m (updMb m (fun b => { b with intRunning := false }) s))) ∧
  (∀ (u : Up) s (m : MbNo), m.val = u.val → s.mb[m].intOwed = false ∨ s.mb[m].tunIntEn = false →
    exec (.tunIntHoldoffExpiry u) s = .next (updMb m (fun b => { b with intRunning := false }) s))

/-- The window endpoints of the management function. For the uplink whose host owns the USB function, with the function
configured and the bridge on: a vendor READ that keeps the addressing rules returns the words it reads, a vendor WRITE that
keeps them writes its words and completes, and one of either kind that does not is stalled; the same requests come by their
setup bytes, 0xC0 and 0x01 for READ, 0x40 and 0x02 for WRITE. A bulk OUT transfer puts its whole slot images into command
slots, each advancing MB_CMD_PI by one; while the ring is full it answers NAK and takes nothing, and a partial image at the
end of a transfer sets FMT_ERR and is discarded; while its mailbox drains through the endpoints and a response, or an event
entry, waits, its acknowledgement returns it and advances MB_RSP_CI, or MB_EVT_CI, and with none waiting, or with the
endpoint carved to 0, the endpoint answers NAK. An upstream bus reset of a presented hub resets its hub functions, disables
its ports and resets the management function. (R64, R65, R66, R67, R68, R69) -/
def Obligations.WindowEndpoints : Prop :=
  (∀ a b l s u off, mgmtUp s = some u → vendorOffset a b l = some off → s.usb.mgmtConfig = true → bridgeOff s = false →
    exec (.ep0VendorRead a b l) s = .next (
      let ws := windowReads (hostRequester s.usb.owner) off (l.toNat / 4) s
      egress (.ep0Data u (ws.1.flatMap wordBytes)) ws.2)) ∧
  (∀ a b l s u, mgmtUp s = some u → vendorOffset a b l = none → exec (.ep0VendorRead a b l) s = .next (egress (.ep0Stall u) s)) ∧
  (∀ a b l d s (u : Up) (m : MbNo) off, mgmtUp s = some u → m.val = u.val → vendorOffset a b l = some off →
    s.usb.mgmtConfig = true → bridgeOff s = false →
    exec (.ep0VendorWrite a b l d) s = .next (egress (.ep0Done u) (noteVia m s.mb[m].cmdPi
      (windowWrites (hostRequester s.usb.owner) off (bytesToWords (l.toNat / 4) d) s)))) ∧
  (∀ a b l d s u, mgmtUp s = some u → vendorOffset a b l = none →
    exec (.ep0VendorWrite a b l d) s = .next (egress (.ep0Stall u) s)) ∧
  (∀ ss u s (a b l : Half) d, let w := leBytes 2 a.toNat ++ leBytes 2 b.toNat ++ leBytes 2 l.toNat
    mgmtControl ss u ([0xC0, 1] ++ w) d s = vendorRead a b l s ∧ mgmtControl ss u ([0x40, 2] ++ w) d s = vendorWrite u a b l d s) ∧
  (∀ d s u, mgmtUp s = some u → s.usb.mgmtConfig = true → bridgeOff s = false → carveBytes s 1 ≠ 0 →
    exec (.ep1OutTransfer d) s = .next (
      let r := takeImages u 9 d s
      if r.2 = [] then r.1 else egress (.epNak u 1) r.1)) ∧
  (∀ d s u, mgmtUp s = some u → s.usb.mgmtConfig = true → bridgeOff s = false → carveBytes s 1 = 0 →
    exec (.ep1OutTransfer d) s = .next (egress (.epNak u 1) s)) ∧
  (∀ n d s (u : Up) (m : MbNo), m.val = u.val → 8 ≤ (s.mb[m].cmdPi - s.mb[m].cmdCi).toNat → d ≠ [] →
    takeImages u (n + 1) d s = (s, d)) ∧
  (∀ n d s (u : Up) (m : MbNo), m.val = u.val → (s.mb[m].cmdPi - s.mb[m].cmdCi).toNat < 8 → d ≠ [] → d.length < 512 →
    takeImages u (n + 1) d s = (updMb m (fun b => { b with fmtErr := true }) s, [])) ∧
  (∀ n d s (u : Up) (m : MbNo), m.val = u.val → (s.mb[m].cmdPi - s.mb[m].cmdCi).toNat < 8 → 512 ≤ d.length →
    takeImages u (n + 1) d s = takeImages u n (d.drop 512)
      (updMb m (fun b => { b with cmdPi := b.cmdPi + 1, viaMgmt := b.viaMgmt ++ [b.cmdPi] })
        { s with window := memWrite s.window (mbBase m + 512 * (s.mb[m].cmdPi.toNat % 8)) (d.take 512) })) ∧
  (∀ s (u : Up) (m : MbNo), mgmtUp s = some u → m.val = u.val → epDrains s m = true → s.mb[m].rspPi ≠ s.mb[m].rspCi →
    carveBytes s 2 ≠ 0 →
    exec .ep1InAcknowledged s = .next (
      let a := mbBase m + 0x1000 + 512 * (s.mb[m].rspCi.toNat % 8)
      postWaiting m 8 (updMb m (fun b => { b with rspCi := b.rspCi + 1 })
        (egress (.epIn u 1 (memRead s.window a (16 + leNat (memRead s.window (a + 4) 2)))) s)))) ∧
  (∀ s (u : Up) (m : MbNo), mgmtUp s = some u → m.val = u.val → epDrains s m = true → s.mb[m].evtPi ≠ s.mb[m].evtCi →
    carveBytes s 3 ≠ 0 →
    exec .ep2InAcknowledged s = .next (updMb m (fun b => { b with evtCi := b.evtCi + 1 })
      (egress (.epIn u 2 (memRead s.window (mbBase m + 0x2000 + 16 * (s.mb[m].evtCi.toNat % 64)) 16)) s))) ∧
  (∀ s (u : Up) (m : MbNo), mgmtUp s = some u → m.val = u.val → s.mb[m].rspPi = s.mb[m].rspCi ∨ carveBytes s 2 = 0 →
    exec .ep1InAcknowledged s = .next (egress (.epNak u 1) s)) ∧
  (∀ s (u : Up) (m : MbNo), mgmtUp s = some u → m.val = u.val → s.mb[m].evtPi = s.mb[m].evtCi ∨ carveBytes s 3 = 0 →
    exec .ep2InAcknowledged s = .next (egress (.epNak u 2) s)) ∧
  (∀ p s, s.usb.presented = true → exec (.upstreamBusReset p) s = .next (resetMgmt p (resetUsbPorts true (resetUpstream s))))

/-- The owner's SPI protocol. While the bridge is on: a WRITE at a good offset puts its words in order into the write buffer,
and records FORMAT where its last word is cut short; a READ at a good offset returns the words read, those that wait in the
buffer written first; a WRITE or READ at a bad offset only records FORMAT; STATUS returns the status byte and clears its
bits 3 to 1. A transaction given by its bytes is a WRITE after 0x02, a READ after 0x0B and a dummy byte, the offset most
significant byte first, or STATUS after 0x05; cut before its offset or its dummy byte, or begun with another byte, it
records FORMAT and accesses nothing, and without a whole byte it does nothing. A word that comes while 64 wait in the buffer
sets OVERRUN and is discarded. The write buffer's drain carries out its words in order and leaves it empty, so BUSY reads 0.
The end of INT_N's hold-off lets INT_N follow the enabled pending bits. (R70, R71, R72, R73, R94) -/
def Obligations.SpiProtocol : Prop :=
  (∀ off ws cut s, bridgeOff s = false → spiOffsetOk off = true →
    exec (.spiWrite off ws cut) s = .next (
      let t := spiWords off.toNat ws s
      { t with spi := { t.spi with format := t.spi.format || cut } })) ∧
  (∀ off ws cut s, bridgeOff s = false → spiOffsetOk off = false →
    exec (.spiWrite off ws cut) s = .next { s with spi := { s.spi with format := true } }) ∧
  (∀ off n s, bridgeOff s = false → spiOffsetOk off = true →
    exec (.spiRead off n) s = .next (
      let r := spiReads off.toNat n (spiDrainAll s)
      emit (.spiData (r.1.flatMap wordBytes)) r.2)) ∧
  (∀ off n s, bridgeOff s = false → spiOffsetOk off = false →
    exec (.spiRead off n) s = .next { s with spi := { s.spi with format := true } }) ∧
  (∀ s, bridgeOff s = false →
    exec .spiStatus s = .next { s with
      out := s.out ++ [.spiStatus (spiStatusByte s)]
      spi := { s.spi with denied := false, format := false, overrun := false } }) ∧
  (∀ s, bridgeOff s = false → exec (.spiBadTransaction []) s = .next s) ∧
  (∀ s r, bridgeOff s = false → exec (.spiBadTransaction (0x05 :: r)) s = exec .spiStatus s) ∧
  (∀ s (a b c : Byte) (ws : List Word) (tail : List Byte), bridgeOff s = false → tail.length < 4 →
    exec (.spiBadTransaction ([0x02, a, b, c] ++ ws.flatMap wordBytes ++ tail)) s =
      exec (.spiWrite (a ++ b ++ c) ws (tail ≠ [])) s) ∧
  (∀ s (a b c x : Byte) n ys, bridgeOff s = false → ys.length = 4 * n →
    exec (.spiBadTransaction ([0x0B, a, b, c, x] ++ ys)) s = exec (.spiRead (a ++ b ++ c) n) s) ∧
  (∀ (cmd : Byte) r s, bridgeOff s = false → cmd ≠ 0x05 → (cmd = 0x02 → r.length < 3) → (cmd = 0x0B → r.length < 4) →
    exec (.spiBadTransaction (cmd :: r)) s = .next { s with spi := { s.spi with format := true } }) ∧
  (∀ s, bridgeOff s = false → ∃ t, exec .spiWriteBufferDrained s = .next t ∧ t.spi.buffer = [] ∧
    t = spiDrain s.spi.buffer.length s) ∧
  (∀ off w s, ∃ n t, t = spiDrain n (takeFree 7 s).2 ∧
    (64 ≤ t.spi.buffer.length → spiWord off w s = { t with spi := { t.spi with overrun := true } }) ∧
    (t.spi.buffer.length < 64 → spiWord off w s = { t with spi := { t.spi with buffer := t.spi.buffer ++ [(off, w)] } })) ∧
  (∀ off w ws s, spiWords off (w :: ws) s = spiWords (off + 4) ws (spiWord off w s)) ∧
  (∀ s off w r n, s.spi.buffer = (off, w) :: r → off < 0x40000 → classify s .owner true off ≠ .refused →
    spiDrain (n + 1) s = spiDrain n (windowWrite .owner off w { s with spi := { s.spi with buffer := r } })) ∧
  (∀ s, exec .intHoldoffExpiry s = .next (updateInt { s with ev := { s.ev with holdoffRunning := false } }))

/-- Karxo takes commands, carries the partner's, repeats Day's changes and sets READY. While Karxo runs with READY set, it
serves the next mailbox that has a command it may take; with none it changes nothing. In Span, with fewer than 16 of the
partner's commands unanswered, a forwarded command waits in MB3 with the requester it runs as; with 16 unanswered it
completes with BUSY. On a running Night, a command, a display set, a display's timing and the copy of Day's configuration
that Day has sent are applied; a persistent injection of a diverging command, which then acts again, apart. When start-up
has everything it needs, READY and INIT are set, INT_N follows its pending bits, the events that the start and a wake owe
are raised, and the uplinks that wait for READY begin. (R79, R84, R385, R391, R393) -/
def Obligations.KarxoTakesCommands : Prop :=
  (∀ s m, karxoRuns s = true → s.ready = true → nextServed s = some m → exec .karxoTakeCommand s = .next (serve m s)) ∧
  (∀ s, nextServed s = none → exec .karxoTakeCommand s = .next s) ∧
  (∀ r i w0 w1 w2 w3 p s, dataOn s = true → inSpan s = true → s.pair.held.length < 16 →
    exec (.forwardedCommand r i w0 w1 w2 w3 p) s = .next (updPair (fun x => { x with
      held := x.held ++ [i]
      fwd := x.fwd ++ [cmdOfHeader (.forwarded (forwardedAs r) i) 0 w0 w1 (w2 &&& 0x7FFFFFFF) w3 p] }) s)) ∧
  (∀ r i w0 w1 w2 w3 p s, dataOn s = true → inSpan s = true → 16 ≤ s.pair.held.length →
    exec (.forwardedCommand r i w0 w1 w2 w3 p) s = .next (
      let t := cmdOfHeader (.forwarded (forwardedAs r) i) 0 w0 w1 (w2 &&& 0x7FFFFFFF) w3 p
      fail t.opcode t.cmd stBusy s)) ∧
  (∀ o t s, dataOn s = true → isNight s = true → karxoRuns s = true → s.ready = true →
    exec (.mirrorStateForward (.timing o t)) s = .next (lockTiming o t s)) ∧
  (∀ c s, dataOn s = true → isNight s = true → karxoRuns s = true → s.ready = true →
    exec (.mirrorStateForward (.copy c)) s = .next (installCopy c s)) ∧
  (∀ o g ws f s, dataOn s = true → isNight s = true → karxoRuns s = true → s.ready = true →
    exec (.mirrorStateForward (.displaySet o g ws f)) s = .next (applyMirrorSet o g ws f s)) ∧
  (∀ id op c st s, dataOn s = true → isNight s = true → karxoRuns s = true → s.ready = true →
    exec (.mirrorStateForward (.command id op c st)) s = .next (persistPair [1] (mirrorCommand id op c st s))) ∧
  (∀ s, canStart s = true →
    exec .karxoReady s = .next (settleUplinks (wakeEvent (startEvents (updateInt { s with init := true, ready := true })))))

/-- LINK_STATUS, LINK_EQ_REPORT, LINK_SLEEP_POLICY, LINK_LANE_SPARE and LINK_COUNTERS read and set what the rules name. On a
link its target names, an accepted LINK_STATUS answers with the 16-byte report whose byte 0 is the link's state, and
LINK_EQ_REPORT with the equaliser records of the pairs, brought up to date with the continuous adaptation, or with the
stored sets. On an uplink: LINK_SLEEP_POLICY of length 0 answers with the policy, and one in range stores it, announces it
on an Active link and answers with it; LINK_LANE_SPARE reads or stores the policy; LINK_COUNTERS answers with the counters
and the fired bitmap and clears the bitmap, with payload 1 clears the counters too, and with a threshold in range sets it
with its window restarted. (R540, R543, R544, R545, R546, R134) -/
def Obligations.LinkReportsAndPolicies : Prop :=
  (∀ c s l, accepted linkStatusSpec c s = true → linkOfCode (linkCode c) = some l →
    exec (.linkStatus c) s = carried linkStatusSpec c (fun t => ok 0x0201 c (linkReport t l) t) s) ∧
  (∀ s l, (linkReport s l).length = 16 ∧ byteAt (linkReport s l) 0 = s.links[l].state.val) ∧
  (∀ c s l, accepted linkEqSpec c s = true → c.payload = [] → linkOfCode (linkCode c) = some l →
    exec (.linkEqReport c) s = carried linkEqSpec c (fun t =>
      ok 0x0204 c (eqReport (adaptAll l t) l) (adaptAll l t)) s) ∧
  (∀ c s l, accepted linkEqSpec c s = true → c.payload = [1] → linkOfCode (linkCode c) = some l →
    exec (.linkEqReportStored c) s = carried linkEqSpec c (fun t => ok 0x0204 c (eqStored t l) t) s) ∧
  (∀ c s (u : Up), accepted linkSleepSpec c s = true → linkCode c = u.val → c.payload = [] →
    exec (.linkSleepPolicy c) s = carried linkSleepSpec c (fun t => ok 0x0205 c (policyBytes t (linkOfUp u)) t) s) ∧
  (∀ c s (u : Up) m (q d e : Half), accepted linkSleepSpec c s = true → linkCode c = u.val →
    c.payload = [m, 0] ++ leBytes 2 q.toNat ++ leBytes 2 d.toNat ++ leBytes 2 e.toNat → m.toNat < 8 →
    1 ≤ q.toNat → q.toNat ≤ 1000 → 10 ≤ d.toNat → d.toNat ≤ 60000 → 1 ≤ e.toNat → e.toNat ≤ 60000 →
    exec (.linkSleepPolicy c) s = carried linkSleepSpec c (fun t =>
      let t := announce (linkOfUp u) (updLink (linkOfUp u) (fun k => { k with policy := ⟨m.setWidth 3, q, d, e⟩ }) t)
      ok 0x0205 c (policyBytes t (linkOfUp u)) t) s) ∧
  (∀ c s (u : Up), accepted linkSpareSpec c s = true → linkCode c = u.val → c.payload = [] →
    exec (.linkLaneSpare c) s = carried linkSpareSpec c (fun t =>
      ok 0x0206 c [BitVec.ofNat 8 (bitNat t.links[linkOfUp u].sparing), 0, 0, 0] t) s) ∧
  (∀ c s (u : Up) on, accepted linkSpareSpec c s = true → linkCode c = u.val → c.payload = [BitVec.ofNat 8 (bitNat on), 0, 0, 0] →
    exec (.linkLaneSpare c) s = carried linkSpareSpec c (fun t =>
      ok 0x0206 c [BitVec.ofNat 8 (bitNat on), 0, 0, 0]
        (announce (linkOfUp u) (updLink (linkOfUp u) (fun k => { k with sparing := on }) t))) s) ∧
  (∀ c s (u : Up), accepted linkCountersSpec c s = true → linkCode c = u.val → c.payload = [] →
    exec (.linkCountersRead c) s = carried linkCountersSpec c (fun t =>
      ok 0x0207 c (counterReport t.links[linkOfUp u]) (updLink (linkOfUp u) (fun k => { k with fired := 0 }) t)) s) ∧
  (∀ c s (u : Up), accepted linkCountersSpec c s = true → linkCode c = u.val → c.payload = [1] →
    exec (.linkCountersClear c) s = carried linkCountersSpec c (fun t =>
      ok 0x0207 c (counterReport t.links[linkOfUp u])
        (updLink (linkOfUp u) (fun k => { k with fired := 0, counters := Vector.replicate 16 0 }) t)) s) ∧
  (∀ c s (u : Up) (k : Fin 16) (n w : Word), accepted linkCountersSpec c s = true → linkCode c = u.val →
    c.payload = [2, BitVec.ofNat 8 k.val, 0, 0] ++ leBytes 4 n.toNat ++ leBytes 4 w.toNat → 1 ≤ w.toNat → w.toNat ≤ 3600000 →
    exec (.linkCountersThreshold c) s = carried linkCountersSpec c (fun t =>
      ok 0x0207 c [] (updLink (linkOfUp u) (fun x => { x with thresholds := upd x.thresholds k (fun _ => ⟨n, w, 0, false⟩) }) t)) s)

/-- LINK_ALLOT and the lane turn it starts, to its completion, refusal or loss. LINK_ALLOT of length 0 answers with the
allotment. One whose checks pass and whose allotment is already in force answers OK; one that needs a turn posts PENDING and
sends ALLOT for its first pair. While a change of level is in progress it is held. An ALLOT_ACK that echoes the awaited
ALLOT starts the turn, or, refusing, ends it with NO_RESOURCE for LINK_ALLOT; with no ALLOT_ACK in time the same. Block lock
of a pair turned toward the hub sends ALLOT_DONE, its byte 2 free where a spare turn's directions have no code, and awaits
its first frame, which completes the turn; the host's ALLOT_DONE completes one toward the host. A completed turn that is not
a spare's and reaches the allotment asked for ends LINK_ALLOT with OK, and else the next pair's turn begins. A pair that has
no block lock in time, turned or spare, is lost: LINK_ALLOT then ends with NO_RESOURCE, and a spare turn ends in a retrain.
(R140, R141, R142, R146, R39, R541) -/
def Obligations.LaneTurns : Prop :=
  (∀ c s (u : Up), accepted linkAllotSpec c s = true → linkCode c = u.val → c.payload = [] →
    exec (.linkAllot c) s = carried linkAllotSpec c (fun t =>
      ok 0x0202 c [BitVec.ofNat 8 t.links[linkOfUp u].allot.val, 0, 0, 0] t) s) ∧
  (∀ c s (u : Up) (a : Fin 3), accepted linkAllotSpec c s = true → linkCode c = u.val → c.payload = [BitVec.ofNat 8 a.val, 0, 0, 0] →
    plBusy s = false → allotCheck s u a = none → pairsToTurn s.links[linkOfUp u] a = [] →
    exec (.linkAllot c) s = carried linkAllotSpec c (ok 0x0202 c []) s) ∧
  (∀ c s (u : Up) (a : Fin 3), accepted linkAllotSpec c s = true → linkCode c = u.val → c.payload = [BitVec.ofNat 8 a.val, 0, 0, 0] →
    plBusy s = false → allotCheck s u a = none → pairsToTurn s.links[linkOfUp u] a ≠ [] → mayPend s c = true →
    exec (.linkAllot c) s = carried linkAllotSpec c (fun t => beginTurn u a (holdPending 0x0202 c (.allot u) t)) s) ∧
  (∀ c s (u : Up) (a : Fin 3), accepted linkAllotSpec c s = true → linkCode c = u.val → c.payload = [BitVec.ofNat 8 a.val, 0, 0, 0] →
    plBusy s = true → exec (.linkAllot c) s = carried linkAllotSpec c (holdRequest 0x0202 c) s) ∧
  (∀ s u t b2 b3, dataOn s = true → s.links[linkOfUp u].turn = some t → t.phase = .awaitAck →
    turnEchoed s.links[linkOfUp u] t b2 b3 = true →
    exec (.allotAckReceived u b2 b3 true) s = .next (refuseTurn u s) ∧
    exec (.allotAckReceived u b2 b3 false) s = .next (updLink (linkOfUp u) (fun k => { k with turn := some { t with phase := .turning } })
      (if t.toHub then sendSetOn (linkOfUp u) t.pair 0x30 [4] s else s))) ∧
  (∀ s u t, dataOn s = true → s.links[linkOfUp u].turn = some t → t.phase = .awaitAck →
    exec (.allotAckTimeout u) s = .next (refuseTurn u s)) ∧
  (∀ u s, ∃ r, refuseTurn u s = finish (.allot u) stNoResource [] r ∧ r.links[linkOfUp u].turn = none ∧ r.pend = s.pend) ∧
  (∀ u t s, t.spare = false → ∃ r, loseTurning u t s = finish (.allot u) stNoResource [] r ∧
    r.links[linkOfUp u].turn = none ∧ r.links[linkOfUp u].lost.getLsbD t.pair.val = true) ∧
  (∀ u t s, t.spare = true → ∃ r, loseTurning u t s = startRetrain (linkOfUp u) true r ∧
    r.links[linkOfUp u].turn = none ∧ r.links[linkOfUp u].lost.getLsbD t.pair.val = true) ∧
  (∀ u t s, t.spare = false → t.target = t.final → ∃ r, completeTurn u t s = finish (.allot u) stOk [] r) ∧
  (∀ u t s, t.spare = false → t.target ≠ t.final → ∃ r, completeTurn u t s = beginTurn u t.final r) ∧
  (∀ s u t, dataOn s = true → s.links[linkOfUp u].turn = some t → t.phase = .turning → t.toHub = true →
    ∀ b, (turnBytes s.links[linkOfUp u] t).1 = some b →
    exec (.turnBlockLock u) s = .next (sendSet (linkOfUp u) 0x42 [b, (turnBytes s.links[linkOfUp u] t).2]
      (updLink (linkOfUp u) (fun k => { k with turn := some { t with phase := .awaitFrame } }) s))) ∧
  (∀ s u t, dataOn s = true → s.links[linkOfUp u].turn = some t → t.phase = .turning → t.toHub = true →
    (turnBytes s.links[linkOfUp u] t).1 = none →
    exec (.turnBlockLock u) s = .next (
      let r := takeFree 8 s
      sendSet (linkOfUp u) 0x42 [r.1, 0xFF] (updLink (linkOfUp u) (fun k => { k with turn := some { t with phase := .awaitFrame } }) r.2))) ∧
  (∀ k t, t.spare = false → turnBytes k t = (some (BitVec.ofNat 8 (t.target.val + 16 * t.pair.val + 64 * bitNat t.toHub)), t.trans)) ∧
  (∀ s u t, dataOn s = true → s.links[linkOfUp u].turn = some t → t.phase = .turning → t.spare = false →
    exec (.turnBlockLockTimeout u) s = .next (loseTurning u t s)) ∧
  (∀ s u t, dataOn s = true → s.links[linkOfUp u].turn = some t → t.phase = .turning → t.spare = true →
    exec (.spareTurnTimeout u) s = .next (loseTurning u t s)) ∧
  (∀ s u t, dataOn s = true → s.links[linkOfUp u].turn = some t → t.phase = .awaitFrame →
    exec (.turnFirstFrame u) s = .next (completeTurn u t s)) ∧
  (∀ s u t b2 b3, dataOn s = true → s.links[linkOfUp u].turn = some t → t.phase = .turning → t.toHub = false →
    turnEchoed s.links[linkOfUp u] t b2 b3 = true →
    exec (.allotDoneReceived u b2 b3) s = .next (completeTurn u t s))

/-- USB PD discovery, entering and leaving the Xansa mode, and the decisions to fall back. On an attached uplink with the shell
running: Discover Identity, SVIDs and Modes are answered with the objects of the rules, and another SVID's modes with NAK.
Enter Mode in Run after READY, with a contract, a qualified cable, no suppression and the island not parked, starts bring-up
from Detect; for another SVID it is answered NAK; before READY, outside Run or in the safe state, BUSY. Exit Mode is
answered ACK on a link not in Off and falls back, at once in Run outside the safe state and else once the links move again;
in Off it is answered NAK. With a link in Off, the expiry of the contract's or of Enter Mode's second falls back; where Exit
Mode has not arrived within its wait a Hard Reset is sent. (R98, R99, R101, R102) -/
def Obligations.XansaModeEntry : Prop :=
  (∀ s u, s.power.shell = true → s.links[linkOfUp u].cc ≠ 0 →
    exec (.vdmDiscoverIdentity u) s = .next (emit (.vdm u 1 1 [0x3A71, BitVec.ofNat 32 (productId s), 1]) s) ∧
    exec (.vdmDiscoverSvids u) s = .next (emit (.vdm u 1 2 (if offersXansa s.links[linkOfUp u] then [0x3A71] else [])) s) ∧
    exec (.vdmDiscoverModes u 0x3A71) s = .next (emit (.vdm u 1 3 [modeVdo s]) s) ∧
    (∀ svid, svid ≠ 0x3A71 → exec (.vdmDiscoverModes u svid) s = .next (emit (.vdm u 0 3 []) s) ∧
      (dataOn s = true → s.pm.phase = .run → s.ready = true → exec (.enterMode u svid) s = .next (emit (.vdm u 0 4 []) s))) ∧
    (∀ svid, dataOn s = false ∨ s.pm.phase ≠ .run ∨ s.ready = false → exec (.enterMode u svid) s = .next (emit (.vdm u 2 4 []) s))) ∧
  (∀ s u, s.power.shell = true → dataOn s = true → s.pm.phase = .run → s.ready = true → s.power.pd[u].contract.isSome = true →
    offersXansa s.links[linkOfUp u] = true → s.pm.setting[(⟨u.val, by omega⟩ : Island)] ≠ 1 →
    ∃ t, exec (.enterMode u 0x3A71) s = .next t ∧ t.links[linkOfUp u].state = 1 ∧ t.links[linkOfUp u].phase = 1 ∧
      t.links[linkOfUp u].usbTerm = false ∧ t.links[linkOfUp u].exitWait = false) ∧
  (∀ s u, s.power.shell = true → s.links[linkOfUp u].state ≠ 0 → s.links[linkOfUp u].cc ≠ 0 →
    exec (.exitMode u) s = .next (updLink (linkOfUp u) (fun k => { k with exitWait := false })
      (finish (.retrainFull (linkOfUp u)) stNoResource [] (fallBackOrOwe u (emit (.vdm u 1 5 []) s))))) ∧
  (∀ s u, s.power.shell = true → s.links[linkOfUp u].state = 0 → s.links[linkOfUp u].cc ≠ 0 →
    exec (.exitMode u) s = .next (emit (.vdm u 0 5 []) s)) ∧
  (∀ s u, (dataOn s = true → s.pm.phase = .run → fallBackOrOwe u s = fallBack u s) ∧
    (dataOn s = false ∨ s.pm.phase ≠ .run → fallBackOrOwe u s = updLink (linkOfUp u) (fun k => { k with due := 1 }) s)) ∧
  (∀ s u, dataOn s = true → s.links[linkOfUp u].state = 0 →
    (s.power.pd[u].contract = none → exec (.noContractTimeout u) s = .next (fallBack u s)) ∧
    (s.power.pd[u].contract.isSome = true → exec (.noEnterModeTimeout u) s = .next (fallBack u s))) ∧
  (∀ s u, dataOn s = true → s.links[linkOfUp u].exitWait = true →
    exec (.exitModeWaitTimeout u) s = .next (hardReset u true s))

/-- Bring-up and retrain of a link. While a link is being brought up: the end of a state whose condition is met, and a time-out
of a state in which the primaries met it, go to the next state; a time-out without it, or of the Active state, fails the
attempt. A failed attempt of a bring-up waits in Detect and counts, below the third on an uplink; a failed retrain starts
again at Training and keeps retry buffers, sequence numbers and tunnels. In Capability an accepted CAP is recorded and one
that is not fails the attempt, and a block of an unknown type counts in counter 1. The wait after a failed attempt ends in
the next attempt. LINK_RETRAIN option 0 on a carrying link posts PENDING and clears the limit of R147 and starts a retrain,
option 1 on a link not in fall-back starts a bring-up from Detect, option 2 clears the limit and retries every lost lane, or
answers OK where none is lost. A RETRAIN from the peer starts a retrain. A retrain of 100 ms loses the uplink's host, or
starts the bond link again. (R104, R106, R107, R108, R109, R114, R542) -/
def Obligations.BringUpAndRetrain : Prop :=
  (∀ s l m, dataOn s = true → bringingUp s.links[l] = true → s.links[l].phase ≠ 5 → stateMet l s.links[l] m = true →
    exec (.bringupStateExit l m) s = .next (nextPhase l m s)) ∧
  (∀ s l m, dataOn s = true → bringingUp s.links[l] = true → s.links[l].phase ≠ 5 → s.links[l].phase ≠ 6 → stateMet l s.links[l] m = true →
    exec (.bringupStateTimeout l m) s = .next (nextPhase l m s)) ∧
  (∀ s l m, dataOn s = true → bringingUp s.links[l] = true → s.links[l].reversed = false → s.links[l].phase = 6 →
    exec (.bringupStateTimeout l m) s = .next (failAttempt l s)) ∧
  (∀ s l m, dataOn s = true → bringingUp s.links[l] = true → s.links[l].reversed = false → stateMet l s.links[l] m = false →
    exec (.bringupStateTimeout l m) s = .next (failAttempt l s)) ∧
  (∀ s l, dataOn s = true → s.links[l].retryWait = true → exec (.bringupRetryWait l) s = .next (nextAttempt l s)) ∧
  (∀ s l, 1 ≤ s.links[l].state.val → s.links[l].state.val ≤ 5 → s.links[l].retraining = false → s.links[l].deepWake = false →
    s.links[l].fromDeep = 0 → (upOfLink l = none ∨ s.links[l].attempts < 2) →
    (failAttempt l s).links[l].state = 1 ∧ (failAttempt l s).links[l].retryWait = true ∧
    (failAttempt l s).links[l].attempts = s.links[l].attempts + 1) ∧
  (∀ s l, s.links[l].state = 8 → (failAttempt l s).links[l].state = 8 ∧ (failAttempt l s).links[l].phase = 2 ∧
    (failAttempt l s).links[l].retry = s.links[l].retry ∧ (failAttempt l s).links[l].txSeq = s.links[l].txSeq ∧
    (failAttempt l s).links[l].rxSeq = s.links[l].rxSeq ∧ (failAttempt l s).tunnels = s.tunnels) ∧
  (∀ s l b, dataOn s = true → bringingUp s.links[l] = true → s.links[l].phase = 5 → knownBlock b = false →
    exec (.capReceived l b) s = .next (linkCount l 1 1 s)) ∧
  (∀ s l b, dataOn s = true → bringingUp s.links[l] = true → s.links[l].phase = 5 → blockByte b 0 = 0x4B → blockByte b 1 = 0x10 →
    (capAccepted s l b = true → exec (.capReceived l b) s = .next (updLink l (fun k => { k with
      cap := some ⟨(blockByte b 3).testBit 6, BitVec.ofNat 5 (blockByte b 3), BitVec.ofNat 3 (blockByte b 4),
        BitVec.ofNat 3 (blockByte b 4 / 8), BitVec.ofNat 8 (blockByte b 5)⟩ }) s)) ∧
    (capAccepted s l b = false → exec (.capReceived l b) s = .next (failAttempt l s))) ∧
  (∀ c s (u : Up), accepted linkRetrainSpec c s = true → linkCode c = u.val → c.payload = [0, 0, 0, 0] → retrainBusy s u true = false →
    s.links[linkOfUp u].state ≠ 0 → s.links[linkOfUp u].state ≠ 7 → mayPend s c = true →
    exec (.linkRetrainRetrain c) s = carried linkRetrainSpec c (fun t =>
      startRetrain (linkOfUp u) true (clearLimit (linkOfUp u) (holdPending 0x0203 c (.retrain (linkOfUp u)) t))) s) ∧
  (∀ c s (u : Up), accepted linkRetrainSpec c s = true → linkCode c = u.val → c.payload = [1, 0, 0, 0] → retrainBusy s u false = false →
    s.links[linkOfUp u].state ≠ 0 → s.links[linkOfUp u].state ≠ 7 → mayPend s c = true →
    exec (.linkRetrainFull c) s = carried linkRetrainSpec c (fun t =>
      startBringUp (linkOfUp u) (closeTid0 u (updLink (linkOfUp u) (fun k => { k with suppressed := false })
        (clearLimit (linkOfUp u) (holdPending 0x0203 c (.retrainFull (linkOfUp u)) t))))) s) ∧
  (∀ c s (u : Up), accepted linkRetrainSpec c s = true → linkCode c = u.val → c.payload = [2, 0, 0, 0] → retrainBusy s u false = false →
    s.links[linkOfUp u].lost = 0 →
    exec (.linkRetrainLanes c) s = carried linkRetrainSpec c (fun t => ok 0x0203 c [] (clearLimit (linkOfUp u) t)) s) ∧
  (∀ c s (u : Up), accepted linkRetrainSpec c s = true → linkCode c = u.val → c.payload = [2, 0, 0, 0] → retrainBusy s u false = false →
    s.links[linkOfUp u].lost ≠ 0 → mayPend s c = true →
    exec (.linkRetrainLanes c) s = carried linkRetrainSpec c (fun t => tryLanes (linkOfUp u)
      (clearLimit (linkOfUp u) (holdPending 0x0203 c (.retrainLanes (linkOfUp u)) t))) s) ∧
  (∀ s l, dataOn s = true → exec (.retrainReceived l) s = .next (startRetrain l false s)) ∧
  (∀ s l u, dataOn s = true → s.links[l].state = 8 → upOfLink l = some u → exec (.retrainTimeout l) s = .next (loseAttached u s)) ∧
  (∀ s, dataOn s = true → s.links[(2 : LinkNo)].state = 8 → exec (.retrainTimeout 2) s = .next (startBringUp 2 s))

/-- The scrambler of a lane, its inverse and its recovery. A scrambled bit is the payload bit added to the bits sent 39 and 58
bits before it, in transmission order, and the state left is the last 58 bits sent; sync headers pass unchanged. The state
runs on from one run of blocks to the next. The descrambler that holds the sender's state gives every block back as it was;
with any other state its output is the same from the 58th bit received onward. (R110, R111) -/
def Obligations.ScramblerAndItsInverse : Prop :=
  (∀ (st : BitVec 58) (d : Dword) (i : Nat), i < 64 →
    (scramble st d).1.getLsbD i =
      (d.getLsbD i ^^ ((scramble st d).1 ++ st : BitVec 122).getLsbD (58 + i - 39) ^^ ((scramble st d).1 ++ st : BitVec 122).getLsbD (58 + i - 58))) ∧
  (∀ st d, (scramble st d).2 = ((scramble st d).1 ++ st : BitVec 122).extractLsb' 64 58) ∧
  (∀ f st bs, (mapBlocks f st bs).1.map (fun b => b.sync) = bs.map (fun b => b.sync)) ∧
  (∀ f st as bs, mapBlocks f st (as ++ bs) =
    ((mapBlocks f st as).1 ++ (mapBlocks f (mapBlocks f st as).2 bs).1, (mapBlocks f (mapBlocks f st as).2 bs).2)) ∧
  (∀ st bs, mapBlocks descramble st (mapBlocks scramble st bs).1 = (bs, (mapBlocks scramble st bs).2)) ∧
  (∀ (st x : BitVec 58) (w : Dword) (i : Nat), 58 ≤ i → (descramble st w).1.getLsbD i = (descramble x w).1.getLsbD i) ∧
  (∀ st x b bs, (mapBlocks descramble st (b :: bs)).1.tail = (mapBlocks descramble x (b :: bs)).1.tail)

/-- Frames on a link: received, refused, acknowledged, replayed and sent. On an Active link: the blocks of a lane the hub
receives on run through the descrambler; one with an invalid sync header, or a control block of an unknown type, is
discarded and advances counter 1, and no other is; a header, 62 data blocks and a trailer are a frame, taken as a good one
or as one with a failed CRC; a NAK whose check word is good advances counter 4 and queues the frame it names for replay, one
of an unknown type counts in counter 1, and any other NAK changes nothing; the replay timer queues every frame of the retry
buffer and advances counter 6; on an awake lane that it sends on, the hub sends the next frame, a replay first while one
waits. (R110, R111, R112, R115, R116, R120, R124, R125) -/
def Obligations.LinkFrames : Prop :=
  (∀ s l p bs, dataOn s = true → s.links[l].state = 6 → p ∈ receiveLanes l s.links[l] →
    exec (.linkFrameReceive l p bs) s = .next (receiveFrame l p (takeBlocks l p bs s).1 (takeBlocks l p bs s).2)) ∧
  (∀ s l p bs n, n = ((mapBlocks descramble s.links[l].rxScr[p] bs).1.filter (fun b => !blockKept b)).length →
    (takeBlocks l p bs s).2 =
      (let t := updLink l (fun k => { k with rxScr := k.rxScr.set p (mapBlocks descramble s.links[l].rxScr[p] bs).2 }) s
       if n = 0 then t else linkCount l 1 n t) ∧
    (takeBlocks l p bs s).1 = (mapBlocks descramble s.links[l].rxScr[p] bs).1.filter blockKept) ∧
  (∀ b : Block, blockKept b = true ↔ b.sync = 2 ∨ (b.sync = 1 ∧ b.word.toNat % 256 ∈ [0x78, 0x87, 0x4B, 0x2D, 0x1E])) ∧
  (∀ s l p f, f.payload.length = 496 → f.hdr.toNat % 256 = 0x78 → f.trl.toNat % 256 = 0x87 →
    receiveFrame l p (frameBlocks f) s = if frameGood f then goodFrame l p f s else badFrame l p s) ∧
  (∀ s l b, dataOn s = true → s.links[l].state = 6 → knownBlock b = false → exec (.nakReceived l b) s = .next (linkCount l 1 1 s)) ∧
  (∀ s l b, dataOn s = true → s.links[l].state = 6 → blockByte b 0 = 0x2D → b.extractLsb' 32 16 = ~~~ (b.extractLsb' 8 16) →
    exec (.nakReceived l b) s = .next (updLink l (fun k =>
      if k.retry.any (fun r => r.frame.seq == b.extractLsb' 8 12) && !k.replayQ.contains (b.extractLsb' 8 12)
      then { k with replayQ := k.replayQ ++ [b.extractLsb' 8 12] } else k) (linkCount l 4 1 s))) ∧
  (∀ s l b, dataOn s = true → knownBlock b = true → b.extractLsb' 32 16 ≠ ~~~ (b.extractLsb' 8 16) →
    exec (.nakReceived l b) s = .next s) ∧
  (∀ s l, dataOn s = true → s.links[l].state = 6 → s.links[l].retry ≠ [] →
    exec (.replayTimeout l) s =
      .next (linkCount l 6 1 (updLink l (fun k => { k with replayQ := k.retry.map (fun r => r.frame.seq) }) s))) ∧
  (∀ s l p, dataOn s = true → s.links[l].state = 6 → p ∈ sendLanes l s.links[l] → s.links[l].txSleep[p] = none →
    exec (.linkFrameSend l p) s = .next (sendFrame l p s)) ∧
  (∀ s l p q qs, s.links[l].replayQ = q :: qs → sendFrame l p s = sendReplay l p q s)

/-- Lanes lost, retried and restored; the link counters' windows and tap saturation. On an Active link: a lane lost with its
block lock advances counter 2 and is lost as the rules say, and on a lane being retried the retry has ended without success;
LANE_DOWN acts on each pair in order; a retry is attempted of a lost lane that is not limited, while the link carries
tunnels, with its training on a lane that the hub sends on; a lane being retried that carries again is restored and
LANE_DOWN names it so, one that is not being retried stays as it is, and LINK_RETRAIN option 2 completes with OK when the
last retried lane is restored. A tap at its limit for 10 ms sets its bit and advances counter 15. At the end of a counter's
window its count is 0 and its event may be raised again. (R130, R144, R146, R147, R148) -/
def Obligations.LaneLossAndRestoration : Prop :=
  (∀ s l p, dataOn s = true → s.links[l].state = 6 → s.links[l].restoring.getLsbD p.val = false →
    exec (.laneLost l p false) s = .next (laneFails l p s)) ∧
  (∀ s l p, dataOn s = true → s.links[l].state = 6 → s.links[l].restoring.getLsbD p.val = true →
    exec (.laneLost l p false) s = .next (retryFails l p s)) ∧
  (∀ s l a b d, dataOn s = true → s.links[l].state = 6 →
    exec (.laneDownReceived l a b d) s = .next (allPairs.foldl (laneDown l a b d) s)) ∧
  (∀ s l p, dataOn s = true → s.links[l].restoring.getLsbD p.val = false → s.links[l].lost.getLsbD p.val = true →
    s.links[l].noRestore.getLsbD p.val = false → carries s.links[l] = true →
    exec (.laneRestoreAttempt l p) s = .next (tryLane l p s)) ∧
  (∀ s l p, (tryLane l p s).links[l].restoring = setBit s.links[l].restoring p.val true) ∧
  (∀ s l p, (restoreLane l p s).links[l].lost.getLsbD p.val = false) ∧
  (∀ s l p, dataOn s = true → s.links[l].lost.getLsbD p.val = true → s.links[l].restoring.getLsbD p.val = true →
    (adaptFrom l p (restoreLane l p s)).links[l].restoring ≠ 0 →
    exec (.laneRestored l p) s = .next (adaptFrom l p (restoreLane l p s))) ∧
  (∀ s l p, dataOn s = true → s.links[l].lost.getLsbD p.val = true → s.links[l].restoring.getLsbD p.val = true →
    (adaptFrom l p (restoreLane l p s)).links[l].restoring = 0 →
    exec (.laneRestored l p) s = .next (finish (.retrainLanes l) stOk [] (adaptFrom l p (restoreLane l p s)))) ∧
  (∀ s l p, dataOn s = true → s.links[l].restoring.getLsbD p.val = false → exec (.laneRestored l p) s = .next s) ∧
  (∀ s l p k, dataOn s = true → receiverInUse l s.links[l] p = true →
    exec (.tapSaturationTimeout l p k) s = .next (linkCount l 15 1 (updLink l (fun x => { x with
      eqHub := upd x.eqHub p (fun e => { e with satBits := setBit e.satBits k.val true }) }) s))) ∧
  (∀ s u k, dataOn s = true → exec (.linkCounterWindow u k) s = .next (updLink (linkOfUp u) (fun x => { x with
    thresholds := upd x.thresholds k (fun t => { t with count := 0, raised := false }) }) s))

/-- Lanes sleep and wake. On a link whose rules let an awake lane enter a sleep state, the idle timer sends an idle frame and
EIOS with the target, counts it, and the lane sleeps there. An EIOS that names a permitted sleep state puts the received
lane to sleep; one that names another state also counts it in counter 11 and sends POLICY. A frame to send wakes its lane;
RESUME wakes a received lane that is not in Deep. A wake burst while the receive primary is in Deep is counted and answered
with one burst; in a collision within 1 us, or when the hub's pattern is answered, the repetition ends; both go to Bit lock.
The pattern with no answer after its 32 bursts starts a retrain. Each burst goes out on the transmit primary. (R131, R132,
R133, R134, R135, R136, R137) -/
def Obligations.LaneSleepAndWake : Prop :=
  (∀ s l p x, dataOn s = true → maySleep s l p x = true → s.links[l].txSleep[p] = none →
    exec (.laneIdleTimeout l p x) s = .next (settleDeep l (linkCount l 11 1 (updLink l (fun k => { k with txSleep := k.txSleep.set p (some x) })
      (sendSetOn l p 0x30 [BitVec.ofNat 8 (sleepCode x)] (putFrame l p true false s.links[l].txSeq 63 0 [] s)))))) ∧
  (∀ s l p b x, dataOn s = true → s.links[l].state = 6 → eiosTarget b = some x → p ∈ receiveLanes l s.links[l] →
    ∀ t, t = updLink l (fun k => { k with rxSleep := k.rxSleep.set p (some x), laneSeq := k.laneSeq.set p none }) (adaptTo l s p) →
    sleepAllowed (sleepPermitted t l) x = true →
    exec (.eiosReceived l p b) s = .next (settleDeep l t)) ∧
  (∀ s l p b x, dataOn s = true → s.links[l].state = 6 → eiosTarget b = some x → p ∈ receiveLanes l s.links[l] →
    ∀ t, t = updLink l (fun k => { k with rxSleep := k.rxSleep.set p (some x), laneSeq := k.laneSeq.set p none }) (adaptTo l s p) →
    sleepAllowed (sleepPermitted t l) x = false →
    exec (.eiosReceived l p b) s = .next (settleDeep l (linkCount l 11 1 (announce l t)))) ∧
  (∀ s l p, dataOn s = true → s.links[l].state = 6 → p ∈ sendLanes l s.links[l] →
    exec (.laneWake l p) s = .next (wakeLane l p s)) ∧
  (∀ s l p, dataOn s = true → s.links[l].state = 6 → s.links[l].rxSleep[p] ≠ some .deep →
    exec (.resumeReceived l p) s = .next (resumeLane l p s) ∧ (resumeLane l p s).links[l].rxSleep[p] = none) ∧
  (∀ s u, dataOn s = true → s.links[linkOfUp u].state = 6 ∨ s.links[linkOfUp u].state = 9 → s.links[linkOfUp u].deepWake = false →
    s.links[linkOfUp u].waking = false → s.links[linkOfUp u].rxSleep[receivePrimary (linkOfUp u) s.links[linkOfUp u]] = some .deep →
    exec (.wakeBurstReceived u) s = .next (leaveDeep (linkOfUp u) (repeatBursts (linkOfUp u) 1 (linkCount (linkOfUp u) 13 1 s)))) ∧
  (∀ s u t r, dataOn s = true → s.links[linkOfUp u].state = 6 ∨ s.links[linkOfUp u].state = 9 → s.links[linkOfUp u].deepWake = false →
    s.links[linkOfUp u].waking = true → t = linkCount (linkOfUp u) 13 1 s → r = burstsSince s.links[linkOfUp u] t →
    exec (.wakeBurstReceived u) s = .next (leaveDeep (linkOfUp u) (repeatBursts (linkOfUp u) r.1 r.2))) ∧
  (∀ k s, (burstsSince k s).1 ≤ 31 ∧ ((s.clock.hubTime - k.wakeStart).toNat ≤ 1300 → burstsSince k s = (0, s))) ∧
  (∀ l s, (leaveDeep l s).links[l].deepWake = true ∧ (leaveDeep l s).links[l].phase = 3 ∧ (leaveDeep l s).links[l].waking = false) ∧
  (∀ l n s, (repeatBursts l n s).out = s.out ++ List.replicate n (.wakeBurst l (sendPrimary l s.links[l]))) ∧
  (∀ s u, dataOn s = true → s.links[linkOfUp u].waking = true →
    exec (.wakePatternTimeout u) s = .next (startRetrain (linkOfUp u) true (repeatBursts (linkOfUp u) 31 s)))

/-- Tunnels open, drain and close. A TUN_OPEN of a tunnel that ends on this chip and passes the checks of R162 adds an Open
tunnel with the credit of its buffers (Standby on Night), answers OK and starts what its engine starts; an own host's
TUN_CLOSE of a Closed TID answers OK, and of an open tunnel posts PENDING and marks it closing, a USB tunnel's requests
cancelled and a switch tunnel's port down at once; a tunnel accepts packets while it is not closing or Standby and, where it
lies on the bond link, that link is Active; a closing tunnel with empty queues, no TLP in the bridge and no USB request, or
whose drain time ends, is Closed, while one of which the bridge holds a TLP stays: of a tunnel of no storage, USB or switch
engine that ends here the close drops the record, completes the held command and reports state 0 with event 16. (R156, R162,
R163, R164, R253, R289, R388, R391) -/
def Obligations.TunnelsOpenAndClose : Prop :=
  (∀ c s u v, accepted tunOpenSpec c s = true → upOfHost s (tgHost c) = some u → openFieldsOk s c = true → plBusy s = false →
    opensFar s c = false → v = { openedTunnel s c with standby := isNight s } → v.cross = none → openingTunnel s v = false → carries s.links[linkOfUp u] = true → findTunnel s v.host v.tid = none →
    engineTested s (enginePorts s v) = false → (creditClass v.cls = true → poolUsed s v.host + v.hubBuf ≤ 1572864) →
    engineOut s (enginePorts s v) = false → admitTunnel s (s.tunnels ++ [v]) v s.perf.pl = true →
    shaperAgrees (tunM v) v.shHost = true → shaperAgrees (tunM v) v.shHub = true → endpointCheck s v = none →
    exec (.tunOpen c) s = carried tunOpenSpec c (fun t =>
      engineOpens v (noteTunnel v.host v.tid (ok 0x0301 c [] { t with tunnels := s.tunnels ++ [v] }))) s) ∧
  (∀ s c, (openedTunnel s c).host = tgHost c ∧ (openedTunnel s c).tid = tgTid c ∧ (openedTunnel s c).closing = false ∧ (openedTunnel s c).held = [] ∧
    (openedTunnel s c).peerCredit = (openedTunnel s c).hostBuf / 64 ∧ (openedTunnel s c).granted = (openedTunnel s c).hubBuf / 64 ∧
    (openedTunnel s c).txSeq = 0 ∧ (openedTunnel s c).rxSeq = 0) ∧
  (∀ c s u, accepted tunCloseSpec c s = true → upOfHost s (tgHost c) = some u → tgTid c ≠ 0 →
    farTunnel s c = none → findTunnel s (tgHost c) (tgTid c) = none → exec (.tunClose c) s = carried tunCloseSpec c (ok 0x0302 c []) s) ∧
  (∀ c s u v, accepted tunCloseSpec c s = true → upOfHost s (tgHost c) = some u → tgTid c ≠ 0 →
    farTunnel s c = none → findTunnel s (tgHost c) (tgTid c) = some v → v.closing = false → mayPend s c = true →
    exec (.tunClose c) s = carried tunCloseSpec c (fun t =>
      (if carriesPort v then downVirtual (virtualPort (tgHost c) v.endpoint.toNat) else id)
        (noteTunnel (tgHost c) (tgTid c) (updTunnel (tgHost c) (tgTid c) (fun x => { x with closing := true })
          ((if isUsbTunnel v then cancelTunnel (tgHost c) (tgTid c) else id)
            (holdPending 0x0302 c (.tunClose (tgHost c) (tgTid c)) t))))) s) ∧
  (∀ s h i v, dataOn s = true → findTunnel s h i = some v → v.closing = true → v.queue = [] → v.held = [] → v.inbox = [] →
    bridgeHolds s h i = false → s.usb.requests.any (fun r => r.host == h && r.tid == i) = false →
    exec (.tunCloseDrained h i) s = .next (closeTunnel v s)) ∧
  (∀ s h i v, dataOn s = true → findTunnel s h i = some v → v.closing = true →
    exec (.tunCloseTimeout h i) s = .next (closeTunnel v (if v.cls = 3 then abandonStorage v s else s))) ∧
  (∀ s v, v.cls ≠ 3 → v.cls ≠ 5 → isNetTunnel v = false → v.cross = none →
    closeTunnel v s = tunEvent v.host v.tid 0 (finish (.tunClose v.host v.tid) stOk [] (dropTunnel v.host v.tid s))) ∧
  (∀ s h i v, dataOn s = true → findTunnel s h i = some v → bridgeHolds s h i = true → exec (.tunCloseDrained h i) s = .next s) ∧
  (∀ s v, accepts s v = true ↔ v.closing = false ∧ v.standby = false ∧ (onBond v = false ∨ s.links[(2 : LinkNo)].state = 6)) ∧
  (∀ s h i, findTunnel (dropTunnel h i s) h i = none)

/-- TUN_SHAPE, TUN_POLICE and CLASS_SET wait for the refill, which applies them; TUN_QUERY reports the tunnel. An admitted
TUN_SHAPE of the direction toward the host, an admitted TUN_POLICE, and a CLASS_SET of 12 bytes, post nothing at once: the
set waits for the refill with its command. SCHED_REFILL refills the storm buckets and then runs the refill. Of what it
applies, a policer set for an open tunnel whose burst is 0 or at least M is in force, with its command answered OK; one with
a smaller burst answers GROUP_MISMATCH with event 19 and changes no setting. CLASS_SET of length 1 reports the setting in
force. TUN_QUERY answers with the report as at the latest refill, and with 1 also clears the counters. (R172, R173, R174,
R175, R177, R182, R547, R548) -/
def Obligations.ShapingAndReports : Prop :=
  (∀ c s u v, accepted tunShapeSpec c s = true → upOfHost s (tgHost c) = some u → tgTid c ≠ 0 → byteAt c.payload 0 = 1 →
    zeroAt c.payload 1 3 = true → findTunnel s (tgHost c) (tgTid c) = some v → v.cls ≠ 1 → v.closing = false →
    shaperInRange (shaperAt c.payload 4) = true → plBusy s = false →
    admitShape s u v { v with shHost := shaperAt c.payload 4 } s.perf.pl = true →
    groupBusy s (.shape v.host v.tid (some (shaperAt c.payload 4)) none) = false →
    exec (.tunShape c) s = carried tunShapeSpec c (fun t => { t with commits := t.commits ++
      [⟨.shape v.host v.tid (some (shaperAt c.payload 4)) none, c.src, c.seq, c.tag, c.flags, 0x0303⟩] }) s) ∧
  (∀ c s u v p, accepted tunPoliceSpec c s = true → upOfHost s (tgHost c) = some u → tgTid c ≠ 0 → byteAt c.payload 0 ≤ 1 →
    zeroAt c.payload 1 3 = true → findTunnel s (tgHost c) (tgTid c) = some v → creditClass v.cls = false → v.closing = false →
    p = ⟨byteAt c.payload 0 == 1, BitVec.ofNat 32 (fieldAt c.payload 4 4), BitVec.ofNat 32 (fieldAt c.payload 8 4)⟩ →
    rateOk p.rate = true → burstOk p.burst = true → admitPolice s u v { v with police := p } s.perf.pl = true →
    groupBusy s (.police v.host v.tid p) = false →
    exec (.tunPolice c) s = carried tunPoliceSpec c (fun t => { t with commits := t.commits ++
      [⟨.police v.host v.tid p, c.src, c.seq, c.tag, c.flags, 0x0304⟩] }) s) ∧
  (∀ c s u (k : Fin 8), accepted classSetSpec c s = true → upOfHost s (tgHost c) = some u → byteAt c.payload 0 = k.val → k ≠ 0 →
    c.payload.length = 12 → zeroAt c.payload 2 2 = true → rateOk (BitVec.ofNat 32 (fieldAt c.payload 4 4)) = true →
    burstOk (BitVec.ofNat 32 (fieldAt c.payload 8 4)) = true →
    groupBusy s (.cls u (c.target.getLsbD 16) k (BitVec.ofNat 8 (byteAt c.payload 1)) (BitVec.ofNat 32 (fieldAt c.payload 4 4)) (BitVec.ofNat 32 (fieldAt c.payload 8 4))) = false →
    exec (.classSet c) s = carried classSetSpec c (fun t => { t with commits := t.commits ++
      [⟨.cls u (c.target.getLsbD 16) k (BitVec.ofNat 8 (byteAt c.payload 1)) (BitVec.ofNat 32 (fieldAt c.payload 4 4)) (BitVec.ofNat 32 (fieldAt c.payload 8 4)), c.src, c.seq, c.tag, c.flags, 0x0306⟩] }) s) ∧
  (∀ c s u (k : Fin 8), accepted classSetSpec c s = true → upOfHost s (tgHost c) = some u → byteAt c.payload 0 = k.val → k ≠ 0 →
    c.payload.length = 1 → exec (.classSet c) s = carried classSetSpec c
      (ok 0x0306 c (classBytes k.val (if c.target.getLsbD 16 then s.scheds[u].toHub[k] else s.scheds[u].toHost[k]))) s) ∧
  (∀ s, dataOn s = true → exec .schedRefill s = .next (refill (updNet (fun n => { n with ports := n.ports.map refillStorm }) s))) ∧
  (∀ k s h i p v, k.set = .police h i p → findTunnel s h i = some v → v.closing = false → (p.burst = 0 ∨ tunM v ≤ p.burst.toNat) →
    applyCommit k s = noteTunnel h i (commitReply k stOk [] (updTunnel h i (fun t => { t with
      police := p
      polBits := if p.enabled then (if t.police.enabled then clipBucket t.polBits p.rate p.burst
        else if holds p.rate p.burst then 0 else 8 * p.burst.toNat) else 0 }) s))) ∧
  (∀ k s h i p v, k.set = .police h i p → findTunnel s h i = some v → v.closing = false → p.burst ≠ 0 → p.burst.toNat < tunM v →
    applyCommit k s = commitReply k stGroupMismatch [] (raise (.hosts (hostBit h)) 19 (2 ^ 16 * 0x10 + commitField 1 h true 0 i.toNat) s)) ∧
  (∀ c s u, accepted tunQuerySpec c s = true → upOfHost s (tgHost c) = some u → c.payload = [] →
    exec (.tunQuery c) s = carried tunQuerySpec c (ok 0x0305 c (queryReport s u (tgHost c) (tgTid c))) s) ∧
  (∀ c s u, accepted tunQuerySpec c s = true → upOfHost s (tgHost c) = some u → c.payload = [1] →
    exec (.tunQueryClear c) s = carried tunQuerySpec c (fun t =>
      ok 0x0305 c (queryReport s u (tgHost c) (tgTid c)) (clearQuery u (tgHost c) (tgTid c) t)) s) ∧
  (∀ s u h i v, findTunnel s h i = some v → i ≠ 0 → queryReport s u h i = padTo 176 v.snap) ∧
  (∀ s u h i, findTunnel s h i = none → i ≠ 0 → queryReport s u h i = zeros 176)

/-- Packets, the scheduler, the tunnel timers and the queue sampling. The oldest packet of an uplink is received, what it
completes on a crossing tunnel goes to the partner and the credit that arrives is used; a whole packet with a good header on
a TID other than 0 is replicated to Night too. A packet with a bad header only counts as malformed; a whole one that its
tunnel accepts and whose CLASS is the tunnel's is received on that tunnel. On an Active link select_next chooses what is
sent. Released units that wait for the credit-return time, and a keep-alive that is due, owe a zero-length packet; a silent
tunnel is Silent; a head packet that waits too long for credit raises event 17 once. A sampling session starts with its
selectors and buffer 0, a stop closes the buffer that fills as it stands, and a release reports the skipped refills and
clears their count. (R152, R156, R166, R167, R169, R177, R183, R184, R558, R388, R392) -/
def Obligations.PacketsTimersAndSampling : Prop :=
  (∀ s u p ps, dataOn s = true → s.links[linkOfUp u].rxPackets = p :: ps →
    tpTid p.hdr.toNat = 0 ∨ p.badHdr = true ∨ p.whole = false → exec (.tunnelPacketReceive u) s =
      .next (let t := receivePacket u p (updLink (linkOfUp u) (fun k => { k with rxPackets := ps }) s)
        creditArrives (hostOnUp t u) (tpTid p.hdr.toNat) (carryAcross (hostOnUp t u) (tpTid p.hdr.toNat) t))) ∧
  (∀ s u p ps, dataOn s = true → s.links[linkOfUp u].rxPackets = p :: ps →
    tpTid p.hdr.toNat ≠ 0 → p.badHdr = false → p.whole = true → exec (.tunnelPacketReceive u) s =
      .next (let t := receivePacket u p (updLink (linkOfUp u) (fun k => { k with rxPackets := ps }) s)
        replicate (.packet u p.hdr p.body) (8 + p.body.length)
          (creditArrives (hostOnUp t u) (tpTid p.hdr.toNat) (carryAcross (hostOnUp t u) (tpTid p.hdr.toNat) t)))) ∧
  (∀ s u p, p.badHdr = true → receivePacket u p s = countMalformed u s) ∧
  (∀ s u p v, p.badHdr = false → p.whole = true → findTunnel s (hostOnUp s u) (tpTid p.hdr.toNat) = some v → accepts s v = true →
    v.cls = tpClass p.hdr.toNat → receivePacket u p s = noteTunnel (hostOnUp s u) v.tid (receiveOn (hostOnUp s u) v p s)) ∧
  (∀ s u, dataOn s = true → s.links[linkOfUp u].state = 6 → exec (.schedSelect u) s = .next (selectNext u s)) ∧
  (∀ s u i v, dataOn s = true → s.links[linkOfUp u].state = 6 → findTunnel s (hostOnUp s u) i = some v → 0 < v.release →
    exec (.creditReturnTimeout u i) s = .next (owe v s)) ∧
  (∀ s u i v, dataOn s = true → s.links[linkOfUp u].state = 6 → findTunnel s (hostOnUp s u) i = some v → v.keepalive ≠ 0 →
    exec (.keepaliveSendTimeout u i) s = .next (owe v s)) ∧
  (∀ s u i v, dataOn s = true → s.links[linkOfUp u].state = 6 → findTunnel s (hostOnUp s u) i = some v → v.keepalive ≠ 0 →
    exec (.tunnelSilentTimeout u i) s =
      .next (noteTunnel v.host v.tid (updTunnel v.host v.tid (fun t => { t with silent := true }) s))) ∧
  (∀ s u i v p ps, dataOn s = true → findTunnel s (hostOnUp s u) i = some v → v.queue = p :: ps →
    peerOk v p = false → v.stalled = false →
    exec (.creditStallTimeout u i) s = .next (raise (.hosts (hostBit v.host)) 17 (tunArg v.host v.tid 0)
      (updTunnel v.host v.tid (fun t => { t with stalled := true }) s))) ∧
  (∀ c s m, accepted schedSampleSpec c s = true → c.src = .mailbox m → smStart c = true → 0 < byteAt c.payload 4 → byteAt c.payload 4 ≤ 16 →
    fieldAt c.payload 2 2 ≠ 0 →
    (smSelectors c).all (fun w => w.toNat &&& 0xFCFCFF00 == 0 && (!w.getLsbD 17 || decide (w.toNat % 256 ≤ 7))) = true →
    s.variant = .qt9840 → (smSelectors c).all (fun w => (upOfHost s (selHost w)).isSome) = true → s.sampling.running = false →
    exec (.schedSampleStart c) s = carried schedSampleSpec c (fun t => ok 0x0307 c [] { t with sampling :=
      { running := true, issuer := requesterCode (cmdRequester s c), mailbox := m, interval := BitVec.ofNat 16 (fieldAt c.payload 2 2)
        count := ⟨byteAt c.payload 4 % 17, Nat.mod_lt _ (by decide)⟩, elapsed := 0, selectors := smSelectors c, buf0 := 1, buf1 := 0
        cur := false, fill := 0, skipped := 0 } }) s) ∧
  (∀ c s, accepted schedSampleSpec c s = true → c.payload = [1] → s.sampling.running = true → bufState s.sampling s.sampling.cur = 1 →
    exec (.schedSampleStop c) s = carried schedSampleSpec c (fun t =>
      ok 0x0307 c [] { t with sampling := { setBuf s.sampling s.sampling.cur 2 with running := false } }) s) ∧
  (∀ c s b, accepted schedSampleSpec c s = true → c.payload = [2, b] → b.toNat ≤ 1 → s.sampling.running = false →
    bufState s.sampling (b == 1) = 2 →
    exec (.schedSampleRelease c) s = carried schedSampleSpec c (fun t =>
      ok 0x0307 c (wordBytes s.sampling.skipped) { t with sampling := { setBuf s.sampling (b == 1) 0 with skipped := 0 } }) s)

/-- Modes, vertical blanking, sinks and check values of an output. DISP_MODE_SET to the mode in force answers OK; to a mode of
an output that is off, when the checks of R228 pass, it posts PENDING and the change waits for the PLL, or at once completes
for mode 0; the lock starts the new timing and trains the sink. Vertical blanking counts the frame, raises event 20 + n,
applies the safe point and a set that Day tagged with this frame, leaves hold where it may, goes on with the mode change
and, on Day, tells Night the timing; Night trains no sink, takes Day's frame, blanking time, link, rate and drive, and its
transmitters stay idle. A hot-plug event, the end of a training and its retry change the sink's link as stated; an underrun
counts and logs class 0x0A; the hold timeout shows the hold screen; a check value is latched at the end of its frame and
each comparison of its region is made, in Midnight the path comparison of every defined region. (R202, R214, R215, R218,
R220, R221, R223, R228, R393, R394) -/
def Obligations.OutputTiming : Prop :=
  (∀ c s, accepted dispModeSetSpec c s = true → modeArgsOk c = true → othersLayer s (tgOut c) (cmdRequester s c) = false →
    s.disp.outs[tgOut c].change = none → modeRefused s (tgOut c) ⟨byteAt c.payload 0 % 21, Nat.mod_lt _ (by decide)⟩ = false →
    s.disp.outs[tgOut c].mode = ⟨byteAt c.payload 0 % 21, Nat.mod_lt _ (by decide)⟩ →
    (byteAt c.payload 0 = 0 ∨ s.disp.outs[tgOut c].bpc10 = (byteAt c.payload 1 == 10)) →
    exec (.dispModeSet c) s = carried dispModeSetSpec c (ok 0x0401 c []) s) ∧
  (∀ c s (m : Fin 21), accepted dispModeSetSpec c s = true → modeArgsOk c = true → othersLayer s (tgOut c) (cmdRequester s c) = false →
    s.disp.outs[tgOut c].change = none → byteAt c.payload 0 = m.val → m ≠ 0 → modeRefused s (tgOut c) m = false →
    s.disp.outs[tgOut c].mode = 0 → plBusy s = false → admitMode s (tgOut c) m (byteAt c.payload 1 == 10) s.perf.pl = true →
    mayPend s c = true →
    exec (.dispModeSet c) s = carried dispModeSetSpec c (fun t => stopVideo (tgOut c)
      (updOut (tgOut c) (fun x => { x with change := some ⟨m, byteAt c.payload 1 == 10, .awaitBlank⟩ })
        (holdPending 0x0401 c (.displayMode (tgOut c)) t))) s) ∧
  (∀ s o k, s.disp.outs[o].change = some k → k.mode ≠ 0 →
    stopVideo o s = updOut o (fun x => { x with change := some { k with phase := .awaitPll } }) s) ∧
  (∀ s o k, dataOn s = true → s.disp.outs[o].change = some k → k.phase = .awaitPll →
    exec (.dispPllLocked o) s = .next (updOut o (fun x => trainSink { x with
      mode := k.mode, bpc10 := k.bpc10, change := some { k with phase := .awaitFrame }
      blankAt := s.clock.hubTime - BitVec.ofNat 64 (blankLength k.mode) }) s)) ∧
  (∀ s o, dataOn s = true → timing s.disp.outs[o] = true → consumed s o = false →
    exec (.vblankStart o) s = .next (
      let a := updOut o (fun x => showResults { x with frame := x.frame + 1, blankAt := s.clock.hubTime }) s
      let b := raise (.hosts (outputHosts (forgetLandings a) o)) (outEvent 20 o) (forgetLandings a).disp.outs[o].frame.toNat (forgetLandings a)
      sendTiming (blankMode o (noteHoldReads o (updOut o blankHold (leaveHold o (applyMirror o (safePoint o b)))))) o)) ∧
  (∀ s o, (forgetLandings (updOut o (fun x => showResults { x with frame := x.frame + 1, blankAt := s.clock.hubTime }) s)).disp.outs[o].frame
    = s.disp.outs[o].frame + 1) ∧
  (∀ s o e, dataOn s = true → outPresent s o = true → exec (.dpHpdChange o e) s = .next (updOut o (hpdChange e) s)) ∧
  (∀ s o, dataOn s = true → s.disp.outs[o].link = 1 → isNight s = false → exec (.dpLinkTrainingDone o true) s =
    .next (showLink (sendTiming (updOut o (fun x => { x with link := 2, drive := (takeFree 32 s).1 }) (takeFree 32 s).2) o) o)) ∧
  (∀ s o, dataOn s = true → s.disp.outs[o].link = 1 → isNight s = false → exec (.dpLinkTrainingDone o false) s =
    .next (sendTiming (updOut o (fun x => { x with link := 3 }) s) o)) ∧
  (∀ s o b, dataOn s = true → isNight s = true → exec (.dpLinkTrainingDone o b) s = .next s) ∧
  (∀ s o t, timing s.disp.outs[o] = true → lockTiming o t s = showLink (applyMirror o (updOut o (fun x => { x with
    frame := t.frame, blankAt := s.clock.hubTime - t.age, link := t.link, rate := t.rate, drive := t.drive }) s)) o) ∧
  (∀ s o, isNight s = true → drives s o = false) ∧
  (∀ s o, dataOn s = true → exec (.dpLinkRetryTimeout o) s = .next (updOut o (fun x => if x.link = 3 then trainSink x else x) s)) ∧
  (∀ s o, dataOn s = true → timing s.disp.outs[o] = true → s.flt.isolated.getLsbD (composePort o) = false →
    exec (.scanoutUnderrun o) s = .next (logFault 0x0A o.val { reaction := 1 } (updOut o (fun x => { x with underruns := satInc x.underruns }) s))) ∧
  (∀ s o, dataOn s = true → s.disp.outs[o].hold = true → s.disp.outs[o].holdTimer = true → outOff s.disp.outs[o] = false →
    exec (.holdTimeout o) s = .next (updOut o (fun x => if x.hold && x.holdTimer then
      (let y := { x with holdTimer := false, holdExpired := true }
       if outOff y then { y with shown := holdShows y } else y) else x) s)) ∧
  (∀ s o (r : Fin 8) d, dataOn s = true → timing s.disp.outs[o] = true → consumed s o = false → s.flt.isolated.getLsbD 13 = false →
    comparedRegion s s.disp.outs[o].checks[r].force = true →
    exec (.crcRegionFinal o (some r) d) s = .next (
      let f := s.disp.outs[o].checks[r].force
      let v := regionValue s o f
      let t := updOut o (fun x => { x with checks := upd x.checks r (fun y => { y with newest := BitVec.ofNat 64 v }) }) s
      (frameComparisons s f).foldl (fun u p => compareRegion o (some r) p (regionDiffers s f v d p) u) t)) ∧
  (∀ s f, s.perf.profile = .midnight → ckW f ≠ 0 → ckH f ≠ 0 → true ∈ frameComparisons s f) ∧
  (∀ s f, ckEnable f = true → ckPath f ∈ frameComparisons s f)

/-- Regions, layers and check-value regions are allocated, adopted, bound and granted as stated. An allocation of no area
answers handle 0; one with space and quota gets the next handle, a cleared area and event 31; adoption gives the orphaned
layers of a region back to its host, whose link must be Active again (else WORLD_DENIED); a quota is set; a region no layer
uses is freed with its release, and a leased one at release level 3 is released later (DEFERRED). DISP_LAYER_BIND writes the
shadow, or writes it and commits the claim, or commits a release; DISP_CRC_REGION writes shadows, commits all eight regions,
grants and revokes. A commit holds its command until the safe point, at which an output that is off is at once. (R187, R188,
R189, R203, R204, R208, R224, R229, R231, R232) -/
def Obligations.RegionsLayersAndChecks : Prop :=
  (∀ c s, accepted dispRegionAllocSpec c s = true → byteAt c.payload 0 = 0 → byteAt c.payload 1 < 4 → zeroAt c.payload 2 2 = true →
    fieldAt c.payload 4 2 = 0 → fieldAt c.payload 6 2 ≤ 8192 →
    exec (.dispRegionAllocAllocate c) s = carried dispRegionAllocSpec c (ok 0x0402 c (allocReply 0 0)) s) ∧
  (∀ c s n a (r : Region), accepted dispRegionAllocSpec c s = true → byteAt c.payload 0 = 0 → byteAt c.payload 1 < 4 → zeroAt c.payload 2 2 = true →
    0 < fieldAt c.payload 4 2 → fieldAt c.payload 4 2 ≤ 8192 → 0 < fieldAt c.payload 6 2 → fieldAt c.payload 6 2 ≤ 8192 →
    n = unitsFor (fieldAt c.payload 4 2) (fieldAt c.payload 6 2) → findSpace s n = some a →
    quotaUsed s (cmdHost s c) + 2 * n ≤ s.disp.quotas[cmdHost s c] → s.disp.regions.length < 1024 →
    r = { handle := nextHandle s 65535 s.disp.nextHandle, width := fieldAt c.payload 4 2, height := fieldAt c.payload 6 2
          format := ⟨byteAt c.payload 1 % 4, Nat.mod_lt _ (by decide)⟩, offset := a, units := n, owner := cmdHost s c
          orphan := false, leaving := false } →
    exec (.dispRegionAllocAllocate c) s = carried dispRegionAllocSpec c (fun t =>
      raise (.hosts (hostBit r.owner)) 31 r.handle.toNat (ok 0x0402 c (allocReply r.handle (2 * n))
        (clearPoison (fun x => decide (regionBase r ≤ 8 * x) && decide (8 * x < regionBase r + 2097152 * n))
          { t with disp := { s.disp with
            regions := s.disp.regions ++ [r], nextHandle := r.handle + 1
            mem := memClear s.disp.mem (regionBase r) (2097152 * n) } }))) s) ∧
  (∀ c s r, accepted dispRegionAllocSpec c s = true → byteAt c.payload 0 = 1 → zeroAt c.payload 1 3 = true → zeroAt c.payload 6 2 = true →
    findRegion s (BitVec.ofNat 16 (fieldAt c.payload 4 2)) = some r → r.orphan = true → r.owner = cmdHost s c →
    linkBack s (cmdHost s c) = true → adoptable s (BitVec.ofNat 16 (fieldAt c.payload 4 2)) = true →
    exec (.dispRegionAllocAdopt c) s = carried dispRegionAllocSpec c (fun t =>
      let u := updRegion (BitVec.ofNat 16 (fieldAt c.payload 4 2)) (fun r => { r with orphan := false }) t
      ok 0x0402 c (allocReply (BitVec.ofNat 16 (fieldAt c.payload 4 2)) (2 * r.units))
        ((List.finRange 4).foldl (fun v o => settleOff o v) { u with disp := { u.disp with outs := u.disp.outs.map (fun (x : Output) =>
          { x with layers := x.layers.map (fun (l : Layer) =>
            if l.orphan && lyrHandle l.force == BitVec.ofNat 16 (fieldAt c.payload 4 2) then
              { l with orphan := false, owner := hostCode r.owner } else l) }) } })) s) ∧
  (∀ c s (h : HostNo), accepted dispRegionAllocSpec c s = true → byteAt c.payload 0 = 2 → byteAt c.payload 1 = h.val → zeroAt c.payload 2 2 = true →
    exec (.dispRegionAllocQuota c) s = carried dispRegionAllocSpec c (fun t =>
      ok 0x0402 c (allocReply 0 0) { t with disp := { s.disp with quotas := s.disp.quotas.set h (fieldAt c.payload 4 4) } }) s) ∧
  (∀ c s r, accepted dispRegionReleaseSpec c s = true → zeroAt c.payload 2 2 = true →
    findRegion s (BitVec.ofNat 16 (fieldAt c.payload 0 2)) = some r →
    (isHost (cmdRequester s c) = true → r.owner = cmdHost s c ∧ r.orphan = false) → r.leaving = false →
    leased s (BitVec.ofNat 16 (fieldAt c.payload 0 2)) = false →
    exec (.dispRegionRelease c) s = carried dispRegionReleaseSpec c (fun t =>
      freeRegion (BitVec.ofNat 16 (fieldAt c.payload 0 2)) (ok 0x0403 c [] t)) s) ∧
  (∀ c s r, accepted dispRegionReleaseSpec c s = true → zeroAt c.payload 2 2 = true →
    findRegion s (BitVec.ofNat 16 (fieldAt c.payload 0 2)) = some r →
    (isHost (cmdRequester s c) = true → r.owner = cmdHost s c ∧ r.orphan = false) → r.leaving = false →
    leased s (BitVec.ofNat 16 (fieldAt c.payload 0 2)) = true → 2 < s.fw.level.toNat →
    exec (.dispRegionRelease c) s = carried dispRegionReleaseSpec c (fun t =>
      respond 0x0403 c stDeferred [] (updRegion (BitVec.ofNat 16 (fieldAt c.payload 0 2)) (fun r => { r with leaving := true }) t)) s) ∧
  (∀ c s, accepted dispLayerBindSpec c s = true → opByte 1 0 c = true → bindArgsOk s c = true → pendingFull s c = false →
    exec (.dispLayerBindClaim c) s = carried dispLayerBindSpec c (fun t =>
      commitFor 0x0404 c (tgOut c) (layerGroup (bindLayer c)) (some (requesterCode (cmdRequester s c))) false
        (setShadow (tgOut c) (bindLayer c) (layerRegsAt c.payload 4) t)) s) ∧
  (∀ c s, accepted dispLayerBindSpec c s = true → opByte 1 1 c = true → bindArgsOk s c = true →
    exec (.dispLayerBindShadow c) s = carried dispLayerBindSpec c (fun t =>
      ok 0x0404 c [] (setShadow (tgOut c) (bindLayer c) (layerRegsAt c.payload 4) t)) s) ∧
  (∀ c s, accepted dispLayerBindSpec c s = true → opByte 1 2 c = true → bindArgsOk s c = true →
    exec (.dispLayerBindRelease c) s = carried dispLayerBindSpec c
      (commitFor 0x0404 c (tgOut c) (layerGroup (bindLayer c)) none true) s) ∧
  (∀ c s r, accepted dispRegionAllocSpec c s = true → byteAt c.payload 0 = 1 → zeroAt c.payload 1 3 = true → zeroAt c.payload 6 2 = true →
    findRegion s (BitVec.ofNat 16 (fieldAt c.payload 4 2)) = some r → r.orphan = true → r.owner = cmdHost s c →
    linkBack s (cmdHost s c) = false →
    exec (.dispRegionAllocAdopt c) s = carried dispRegionAllocSpec c (fail 0x0402 c stWorldDenied) s) ∧
  (∀ op c o g w b s, pendingFull s c = false → mayPend (requestCommit o g w b s) c = true →
    commitFor op c o g w b s = settleOff o (holdPending op c (groupKind o g) (requestCommit o g w b s))) ∧
  (∀ c s, accepted dispCrcRegionSpec c s = true → opByte 1 0 c = true → crcArgsOk s c = true → zeroAt c.payload 2 1 = true →
    exec (.dispCrcRegionWrite c) s = carried dispCrcRegionSpec c (fun t => ok 0x0405 c [] (crcShadow c t)) s) ∧
  (∀ c s, accepted dispCrcRegionSpec c s = true → opByte 1 1 c = true → crcArgsOk s c = true → zeroAt c.payload 2 1 = true →
    pendingFull s c = false →
    exec (.dispCrcRegionCommit c) s = carried dispCrcRegionSpec c (fun t => commitFor 0x0405 c (tgOut c) 5 none false (crcShadow c t)) s) ∧
  (∀ c s h, accepted dispCrcRegionSpec c s = true → opByte 1 2 c = true → hostOfCode (byteAt c.payload 2) = some h → crcArgsOk s c = true →
    exec (.dispCrcRegionGrant c) s = carried dispCrcRegionSpec c (fun t => ok 0x0405 c [] (updOut (tgOut c) (fun x => { x with
      checks := upd x.checks (crcRegion c) (fun r => { r with grants := setBit r.grants h.val true }) }) t)) s) ∧
  (∀ c s h, accepted dispCrcRegionSpec c s = true → opByte 1 3 c = true → hostOfCode (byteAt c.payload 2) = some h → crcArgsOk s c = true →
    exec (.dispCrcRegionRevoke c) s = carried dispCrcRegionSpec c (fun t => ok 0x0405 c [] (updOut (tgOut c) (fun x => { x with
      checks := upd x.checks (crcRegion c) (fun r => { r with grants := setBit r.grants h.val false }) }) t)) s)

/-- Hold policy, hold screen and the output's status. DISP_HOLD_POLICY puts its policy in force at once; DISP_OUTPUT_STATUS
answers with the report of 88 bytes, a block of the sink's EDID, or the report and cleared counters; DISP_HOLD_SCREEN starts
a hold-screen tile with a part at offset 0, decodes one that is whole and lands it where the DRAM map admits the hold image
(else only event 6 is raised), places the hold image at vertical blanking, or at once on an output that is off, and brings
outputs into hold and out of it. A whole TILE or FLIP message of a class 1 tunnel is taken and acted on; another message
counts as malformed. (R194, R206, R225, R226, R233, R234, R235, R501, R549) -/
def Obligations.HoldStatusAndMessages : Prop :=
  (∀ c s, accepted dispHoldPolicySpec c s = true → byteAt c.payload 0 < 4 → byteAt c.payload 1 < 4 → zeroAt c.payload 2 2 = true →
    zeroAt c.payload 6 2 = true →
    exec (.dispHoldPolicy c) s = carried dispHoldPolicySpec c (fun t => ok 0x0406 c [] (updOut (tgOut c)
      (setPolicy ⟨⟨byteAt c.payload 0 % 4, Nat.mod_lt _ (by decide)⟩, (byteAt c.payload 1).testBit 0, (byteAt c.payload 1).testBit 1,
        BitVec.ofNat 16 (fieldAt c.payload 4 2)⟩) t)) s) ∧
  (∀ c s, accepted dispOutputStatusSpec c s = true → statusIsRead c = true →
    exec (.dispOutputStatusRead c) s = carried dispOutputStatusSpec c (ok 0x0407 c (outputReport s (tgOut c))) s) ∧
  (∀ s o, (outputReport s o).length = 88) ∧
  (∀ c s, accepted dispOutputStatusSpec c s = true → statusIsEdid c = true → s.disp.outs[tgOut c].sink = true →
    128 * (byteAt c.payload 1 + 1) ≤ s.disp.outs[tgOut c].edid.length →
    exec (.dispOutputStatusEdid c) s = carried dispOutputStatusSpec c
      (ok 0x0407 c ((s.disp.outs[tgOut c].edid.drop (128 * byteAt c.payload 1)).take 128)) s) ∧
  (∀ c s, accepted dispOutputStatusSpec c s = true → statusIsClear c = true →
    exec (.dispOutputStatusClear c) s = carried dispOutputStatusSpec c (outStatusClearOp c) s) ∧
  (∀ c s, (outStatusClearOp c s).disp.outs[tgOut c].underruns = 0 ∧ (outStatusClearOp c s).disp.outs[tgOut c].retrains = 0) ∧
  (∀ c s n, accepted dispHoldScreenSpec c s = true → byteAt c.payload 0 = 0 → zeroAt c.payload 1 3 = true → 12 ≤ c.payload.length →
    n = fieldAt c.payload 8 4 → 16 ≤ n → n ≤ 16432 → fieldAt c.payload 4 4 = 0 → c.payload.length - 12 < n →
    exec (.dispHoldScreenLoad c) s = carried dispHoldScreenSpec c (fun t =>
      ok 0x0408 c [] (setAssembly (some ⟨n, c.payload.drop 12⟩) t)) s) ∧
  (∀ c s m, accepted dispHoldScreenSpec c s = true → byteAt c.payload 0 = 0 → zeroAt c.payload 1 3 = true → 12 ≤ c.payload.length →
    fieldAt c.payload 8 4 = c.payload.length - 12 → 16 ≤ c.payload.length - 12 → fieldAt c.payload 4 4 = 0 →
    holdTile (c.payload.drop 12) s.disp.mem = some m →
    exec (.dispHoldScreenLoad c) s = carried dispHoldScreenSpec c (fun t =>
      ok 0x0408 c [] (landHold (cmdRequester s c) (c.payload.drop 12) m (setAssembly none t))) s) ∧
  (∀ r b m s, holdAdmits s = false → landHold r b m s = raise (.denied r) 6 (violationDram r true 4) s) ∧
  (∀ c s p, accepted dispHoldScreenSpec c s = true → byteAt c.payload 0 = 1 → c.payload.length = 16 → zeroAt c.payload 1 3 = true →
    p = Placement.mk (fieldAt c.payload 4 2) (fieldAt c.payload 6 2) (fieldAt c.payload 8 2) (fieldAt c.payload 10 2)
      (BitVec.ofNat 32 (fieldAt c.payload 12 4)) →
    p.width ≤ 1024 → p.height ≤ 512 → bitsOf (fieldAt c.payload 12 4) 30 2 = 0 → targetLow 2 c = true →
    exec (.dispHoldScreenPlace c) s = carried dispHoldScreenSpec c (fun t => ok 0x0408 c [] (updOut (tgOut c) (fun x =>
      if outOff x then { x with place := some p, newPlace := none } else { x with newPlace := some p }) t)) s) ∧
  (∀ c s, accepted dispHoldScreenSpec c s = true → byteAt c.payload 0 = 2 → c.payload.length = 4 → zeroAt c.payload 1 3 = true →
    targetLow 4 c = true → exec (.dispHoldScreenEnter c) s = carried dispHoldScreenSpec c (fun t =>
      holdOutputs 2 (outMap (fun o => (holdMap c).getLsbD o.val && !s.disp.outs[o].hold)) (ok 0x0408 c []
        { t with disp := { s.disp with outs := s.disp.outs.mapFinIdx (fun i x _ =>
          if (holdMap c).getLsbD i then { x with ownerHold := true } else x) } })) s) ∧
  (∀ c s, accepted dispHoldScreenSpec c s = true → byteAt c.payload 0 = 3 → c.payload.length = 4 → zeroAt c.payload 1 3 = true →
    targetLow 4 c = true → exec (.dispHoldScreenLeave c) s = carried dispHoldScreenSpec c (fun t =>
      (List.finRange 4).foldl (fun u o => settleOff o u) (ok 0x0408 c []
        { t with disp := { s.disp with outs := s.disp.outs.mapFinIdx (fun i x _ =>
          if (holdMap c).getLsbD i then { x with ownerHold := false } else x) } })) s) ∧
  (∀ s h i m t, dataOn s = true → tileHead s h i = some m → isFlip m = false → takeMessage h i s = some (m, t) →
    m.broken = false → m.bytes ≠ [] → m.bytes.length ≤ 16432 → tileType m.bytes = 1 →
    exec (.tileMessage h i) s = .next (runTile h m.bytes (heard h t))) ∧
  (∀ s h i m t, dataOn s = true → tileHead s h i = some m → isFlip m = false → takeMessage h i s = some (m, t) →
    m.bytes.length ≤ 16432 → m.bytes ≠ [] → tileType m.bytes ≠ 1 → exec (.tileMessage h i) s = .next (countTileBad h (heard h t))) ∧
  (∀ s h i m t, dataOn s = true → tileHead s h i = some m → isFlip m = true → takeMessage h i s = some (m, t) →
    exec (.flipMessage h i) s = .next (runFlip h m.bytes (heard h t)))

/-- The PCIe commands configure ports and windows, read the logs, run slots and show the lock. PCIE_PORT_CFG of length 0 reports
the port; operation 0 with the port's own uplink applies rate and flags, with another posts PENDING and moves the port,
which leaves its uplink at once and is held in reset, with none unassigns it at once and reports; operation 1 stores the
next split. PCIE_WINDOW_SET reports, or sets and discards the window's prefetched data. PCIE_ERRLOG_READ answers with the
header and the entries of the requester, and with byte 1 = 1 also empties the log. PCIE_HOTPLUG reports the slot after its
operation, which no reassignment of the port may precede unless it only reads. PCIE_LOCK_STATUS reports the lock, and with
payload 1 releases it first. (R250, R252, R262, R264, R267, R270, R274, R275, R276, R277) -/
def Obligations.PcieCommands : Prop :=
  (∀ c s, accepted pciePortCfgSpec c s = true → c.payload = [] → noPort s c = false →
    exec (.pciePortCfgSet c) s = carried pciePortCfgSpec c (ok 0x0501 c (portReport s (tgPort c))) s) ∧
  (∀ c s, accepted pciePortCfgSpec c s = true → c.payload ≠ [] → byteAt c.payload 0 = 0 → noPort s c = false → portArgsOk c = true →
    waitsFor s (.pciePort (tgPort c)) = false → cfgUplink c = s.pcie.ports[tgPort c].assigned →
    ((BitVec.ofNat 3 (byteAt c.payload 2)).toNat < s.pcie.ports[tgPort c].maxRate.toNat → ([0, 1, 2, 3] : List HostNo).all (fun h =>
      !(s.pcie.ports[tgPort c].assigned == some h) || admitStorage (updPort (tgPort c) (fun x => { x with
        assigned := cfgUplink c, maxRate := BitVec.ofNat 3 (byteAt c.payload 2) }) s) s.tunnels h) = true) →
    exec (.pciePortCfgSet c) s = carried pciePortCfgSpec c (fun t =>
      let u := storePorts (applyPort (tgPort c) (BitVec.ofNat 3 (byteAt c.payload 2)) (BitVec.ofNat 5 (byteAt c.payload 3)) t)
      ok 0x0501 c (portReport u (tgPort c)) u) s) ∧
  (∀ c s, accepted pciePortCfgSpec c s = true → c.payload ≠ [] → byteAt c.payload 0 = 0 → noPort s c = false → portArgsOk c = true →
    waitsFor s (.pciePort (tgPort c)) = false → cfgUplink c ≠ s.pcie.ports[tgPort c].assigned → cfgUplink c ≠ none →
    ([0, 1, 2, 3] : List HostNo).all (fun h => !(s.pcie.ports[tgPort c].assigned == some h || cfgUplink c == some h) ||
      admitStorage (updPort (tgPort c) (fun x => { x with
        assigned := cfgUplink c, maxRate := BitVec.ofNat 3 (byteAt c.payload 2) }) s) s.tunnels h) = true →
    mayPend s c = true →
    exec (.pciePortCfgSet c) s = carried pciePortCfgSpec c (fun t =>
      storePorts (movePort (tgPort c) (cfgUplink c) (settlePresence (tgPort c) (mirrorSlot (tgPort c) (updPort (tgPort c) (fun x => { x with
        assigned := none, maxRate := BitVec.ofNat 3 (byteAt c.payload 2), flags := BitVec.ofNat 5 (byteAt c.payload 3) })
        (leaveUplink (tgPort c) (holdPending 0x0501 c (.pciePort (tgPort c)) t))))))) s) ∧
  (∀ c s, accepted pciePortCfgSpec c s = true → c.payload ≠ [] → byteAt c.payload 0 = 0 → noPort s c = false → portArgsOk c = true →
    waitsFor s (.pciePort (tgPort c)) = false → s.pcie.ports[tgPort c].assigned ≠ none → cfgUplink c = none →
    ([0, 1, 2, 3] : List HostNo).all (fun h => !(s.pcie.ports[tgPort c].assigned == some h) ||
      admitStorage (updPort (tgPort c) (fun x => { x with
        assigned := none, maxRate := BitVec.ofNat 3 (byteAt c.payload 2) }) s) s.tunnels h) = true →
    exec (.pciePortCfgSet c) s = carried pciePortCfgSpec c (fun t =>
      let u := storePorts (movePort (tgPort c) none
        (applyPort (tgPort c) (BitVec.ofNat 3 (byteAt c.payload 2)) (BitVec.ofNat 5 (byteAt c.payload 3)) t))
      ok 0x0501 c (portReport u (tgPort c)) u) s) ∧
  (∀ c s, accepted pciePortCfgSpec c s = true → c.payload ≠ [] → byteAt c.payload 0 = 1 → noPort s c = false → byteAt c.payload 4 < 2 →
    zeroAt c.payload 5 3 = true → waitsFor s (.pciePort (tgPort c)) = false →
    exec (.pciePortCfgSplit c) s = carried pciePortCfgSpec c (fun t =>
      let u := storePorts { t with pcie := { t.pcie with splitNext := byteAt c.payload 4 == 1 } }
      ok 0x0501 c (portReport u (tgPort c)) u) s) ∧
  (∀ c s, accepted pcieWindowSetSpec c s = true → pciePresent s (windowPort (tgWindow c)) = true → c.payload = [] →
    exec (.pcieWindowSet c) s = carried pcieWindowSetSpec c (ok 0x0502 c (windowReport s.pcie.windows[tgWindow c])) s) ∧
  (∀ c s, accepted pcieWindowSetSpec c s = true → pciePresent s (windowPort (tgWindow c)) = true → c.payload ≠ [] →
    windowArgsOk c.payload = true → permO (cmdRequester s c) = true →
    exec (.pcieWindowSet c) s = carried pcieWindowSetSpec c (fun t =>
      let u := dropPrefetch (windowPort (tgWindow c)) (fun e => e.window == tgWindow c) 4 (countWindow (tgWindow c) (fun x => { x with
        owner := ⟨byteAt c.payload 0 == 1, ⟨byteAt c.payload 1 % 9, Nat.mod_lt _ (by decide)⟩, holesOf c.payload (byteAt c.payload 2)⟩ }) t)
      ok 0x0502 c (windowReport u.pcie.windows[tgWindow c]) u) s) ∧
  (∀ c s (n : Fin 3) l, accepted pcieErrlogReadSpec c s = true → byteAt c.payload 0 = n.val → l = s.pcie.logs[n] → byteAt c.payload 2 < 32 →
    byteAt c.payload 3 < 16 → byteAt c.payload 1 = 0 →
    exec (.pcieErrlogRead c) s = carried pcieErrlogReadSpec c (ok 0x0503 c (
      (wordBytes l.written ++ wordBytes l.overwritten ++ [(match l.newest with | some i => BitVec.ofNat 8 i.val | none => 0xFF),
        BitVec.ofNat 8 (logEntries l (cmdRequester s c) (byteAt c.payload 2) (byteAt c.payload 3)).length] ++ zeros 6)
      ++ (logEntries l (cmdRequester s c) (byteAt c.payload 2) (byteAt c.payload 3)).flatMap bridgeBytes)) s) ∧
  (∀ c s, accepted pcieErrlogReadSpec c s = true → byteAt c.payload 1 = 1 →
    exec (.pcieErrlogReadEmpty c) s = carried pcieErrlogReadSpec c (errlogOp true c) s) ∧
  (∀ c s (n : Fin 3), byteAt c.payload 0 = n.val → byteAt c.payload 2 < 32 → byteAt c.payload 3 < 16 →
    (errlogOp true c s).pcie.logs[n] = BridgeLog.reset) ∧
  (∀ e, (bridgeBytes e).length = 32) ∧
  (∀ c s, accepted pcieHotplugSpec c s = true → byteAt c.payload 0 = 0 → noPort s c = false → zeroAt c.payload 1 3 = true →
    exec (.pcieHotplugRead c) s = carried pcieHotplugSpec c (ok 0x0504 c (slotReport s (tgPort c))) s) ∧
  (∀ c s, accepted pcieHotplugSpec c s = true → byteAt c.payload 0 = 1 → noPort s c = false → zeroAt c.payload 1 3 = true →
    waitsFor s (.pciePort (tgPort c)) = false → exec (.pcieHotplugRemove c) s = carried pcieHotplugSpec c (fun t =>
      ok 0x0504 c (slotReport (slotChange (tgPort c) (2 ^ 16) 8 t) (tgPort c)) (slotChange (tgPort c) (2 ^ 16) 8 t)) s) ∧
  (∀ c s, accepted pcieHotplugSpec c s = true → byteAt c.payload 0 = 2 → noPort s c = false → zeroAt c.payload 1 3 = true →
    s.pcie.ports[tgPort c].flags.getLsbD 2 = true →
    waitsFor s (.pciePort (tgPort c)) = false → exec (.pcieHotplugPowerOff c) s = carried pcieHotplugSpec c (fun t =>
      ok 0x0504 c (slotReport (powerOffSlot (tgPort c) t) (tgPort c)) (powerOffSlot (tgPort c) t)) s) ∧
  (∀ c s, accepted pcieHotplugSpec c s = true → byteAt c.payload 0 = 3 → noPort s c = false → zeroAt c.payload 1 3 = true →
    s.pcie.ports[tgPort c].flags.getLsbD 2 = true →
    waitsFor s (.pciePort (tgPort c)) = false → exec (.pcieHotplugPowerOn c) s = carried pcieHotplugSpec c (fun t =>
      ok 0x0504 c (slotReport (powerOnSlot (tgPort c) t) (tgPort c)) (powerOnSlot (tgPort c) t)) s) ∧
  (∀ c s, accepted pcieHotplugSpec c s = true → byteAt c.payload 0 = 4 → noPort s c = false → fieldAt c.payload 1 2 < 8192 →
    byteAt c.payload 3 = 0 →
    waitsFor s (.pciePort (tgPort c)) = false → exec (.pcieHotplugSlotNumber c) s = carried pcieHotplugSpec c (fun t =>
      let u := storePorts (mirrorSlot (tgPort c) (updPort (tgPort c) (fun x => { x with slotNo := BitVec.ofNat 13 (fieldAt c.payload 1 2) }) t))
      ok 0x0504 c (slotReport u (tgPort c)) u) s) ∧
  (∀ c s, accepted pcieLockStatusSpec c s = true → lockReports c = true →
    exec (.pcieLockStatus c) s = carried pcieLockStatusSpec c (ok 0x0505 c (lockReport s)) s) ∧
  (∀ c s, accepted pcieLockStatusSpec c s = true → lockForces c = true →
    exec (.pcieLockForceRelease c) s = carried pcieLockStatusSpec c (fun t => ok 0x0505 c (lockReport (releaseLock false t)) (releaseLock false t)) s)

/-- TLPs, prefetched data, the lock's timers, slots and links. A TLP at the head of a storage tunnel that ends here, or from a
downstream link, goes to the bridge, and a broken one is recorded as malformed; a Type 0 configuration read of device 0
function 0 is answered with the register. A request whose completion never comes is answered with CA and logged with status
3. Data that arrives completes the reads waiting for it; expired data that answered no read is dropped. The oldest waiting
locked read times out with CA; an idle lock is released. A link that comes up advertises its flow-control credits, answers
the waiting PCIE_PORT_CFG and gets what waits for it. A slot's inputs and power good, the end of a reset, a link's state
change and the end of an NVMe shutdown change the port as stated. (R247, R248, R249, R253, R256, R260, R263, R264, R267,
R268, R270, R272) -/
def Obligations.PcieTraffic : Prop :=
  (∀ s h i v m t, dataOn s = true → findTunnel s h i = some v → v.cls = 3 → v.cross = none → takeMessage h i s = some (m, t) → m.broken = false →
    exec (.pcieTlpFromHost h i) s = .next (fromHost h i m.bytes t)) ∧
  (∀ s h i v m t, dataOn s = true → findTunnel s h i = some v → v.cls = 3 → v.cross = none → takeMessage h i s = some (m, t) → m.broken = true →
    exec (.pcieTlpFromHost h i) s = .next (aerRecord h 0 18 m.bytes t)) ∧
  (∀ s h i b, b ≠ [] → tlpWellFormed b = true → (tlpHasData b = true → 4 * tlpLenDw b ≤ maxPayload s h) → tlpKind b = .cfgRead0 →
    tlpDev b = 0 → tlpFn b = 0 →
    fromHost h i b s = sendToHost h (makeCpl false cplOk (fnId s h 0) (tlpRid b) (tlpTag b) 4 0 (wordBytes (cfgRead s h 0 (tlpReg b)))) s) ∧
  (∀ s p b, dataOn s = true → exec (.pcieTlpFromDevice p b) s = .next (fromDevice p b s)) ∧
  (∀ s p d r g k, dataOn s = true →
    s.pcie.tracked.find? (fun q => q.port == p && q.toHost == d && q.rid == r && q.tag == g) = some k →
    exec (.pcieCompletionTimeout p d r g) s = .next (logCompletion k.host k.tid p k.tlp 3
      (answerNp k cplCa { s with pcie := { s.pcie with tracked := s.pcie.tracked.erase k } }))) ∧
  (∀ s p d, dataOn s = true → exec (.pcieNpOverflowForward p d) s = .next (forwardHeld p d s)) ∧
  (∀ s p k, dataOn s = true → exec (.prefetchExpiry p k) s = .next (dropPrefetch p (fun e => e.slot == k && e.arrived && e.consumed.isEmpty) 1 s)) ∧
  (∀ s p k d, dataOn s = true → exec (.prefetchDataArrived p k d) s = .next (prefetchArrives p k d s)) ∧
  (∀ s r rs, dataOn s = true → s.pcie.lock.waiting = r :: rs →
    exec .lockWaitTimeout s = .next (logCompletion r.host r.tid r.port r.tlp 4 (answerNp r cplCa { s with pcie := { s.pcie with
      lock := { s.pcie.lock with waiting := rs, timeouts := satInc s.pcie.lock.timeouts } } }))) ∧
  (∀ s, dataOn s = true → exec .lockIdleTimeout s = .next (releaseLock false s)) ∧
  (∀ s p b, dataOn s = true → pciePresent s p = true → s.pcie.ports[p].flags.getLsbD 1 = true →
    exec (.pcieSlotInputChange p (.presence b)) s = .next (presenceChange p b (updPort p (fun x => { x with pin := b }) s))) ∧
  (∀ s p, dataOn s = true → s.pcie.ports[p].flags.getLsbD 2 = true → s.pcie.ports[p].pwren = true →
    mayTrain (updPort p (fun x => { x with powerGood := true }) s) p = true →
    exec (.pcieSlotPowerGood p) s = .next (trainPort p (updPort p (fun x => { x with powerGood := true }) s))) ∧
  (∀ s p, dataOn s = true → mayTrain s p = true → exec (.pcieReassignPerstDone p) s = .next (trainPort p s)) ∧
  (∀ s p r w, dataOn s = true → s.pcie.ports[p].state = 2 → exec (.pcieLinkStateChange p 3 r w) s = .next (linkUp p r w s)) ∧
  (∀ s p r w, s.pcie.ports[p].state = 2 → s.pcie.ports[p].karxo = false →
    let st : Fin 9 := if r.toNat < s.pcie.ports[p].maxRate.toNat || w.toNat < portLanes s then 4 else 3
    let t := setPortState p st (updPort p (fun x => { x with rate := r, width := w, phase := .idle, shown := true }) s)
    let u := noteSlot p (2 ^ 24 + (if s.pcie.ports[p].shown then 0 else 2 ^ 19)) 2 (inBand p true (emit (.pcieCredits p (64, 2048) (64, 64) (64, 2048)) t))
    linkUp p r w s = drainPort p (finish (.pciePort p) stOk (portReport u p) u)) ∧
  (∀ s p r w, dataOn s = true → s.pcie.ports[p].state = 3 → exec (.pcieLinkStateChange p 8 r w) s = .next (linkDown p s)) ∧
  (∀ s p, dataOn s = true → s.pcie.ports[p].karxo = true → s.pcie.ports[p].phase = .shutdown →
    portWanted (updPort p (fun x => { x with karxo := false, phase := .idle, namespaces := 0 }) s) p = true →
    exec (.nvmeShutdownDone p) s = .next (resetPort p (updPort p (fun x => { x with karxo := false, phase := .idle, namespaces := 0 }) s))) ∧
  (∀ s p, dataOn s = true → s.pcie.ports[p].karxo = true → s.pcie.ports[p].phase = .shutdown →
    portWanted (updPort p (fun x => { x with karxo := false, phase := .idle, namespaces := 0 }) s) p = false →
    exec (.nvmeShutdownDone p) s = .next (disablePort p (updPort p (fun x => { x with karxo := false, phase := .idle, namespaces := 0 }) s)))

/-- The USB commands set ports, owner, carve and charging, and report. USB_PORT_CFG of length 0 reports; on target 0 it sets the
named owner and policy, at once where the owner stays and with PENDING and a move where it changes; on a port it sets the
flags: a port that it disables is disconnected, one that keeps its supply while powered off is left alone, any other settles
its VBUS. USB_EP_CARVE reports, or stores the carve for the next configuration. USB_PORT_STATUS reports 24 bytes and clears
the latched wake, and with 1 the counters. USB_CHARGE_CFG reports, or sets mode and Rp request and settles role and eFuses.
(R280, R281, R302, R304, R312, R313, R314, R315) -/
def Obligations.UsbCommands : Prop :=
  (∀ c s, accepted usbPortCfgSpec c s = true → c.payload = [] → (c.target.toNat % 16 = 0 ∨ usbTargetOk s c = true) →
    exec (.usbPortCfg c) s = carried usbPortCfgSpec c (ok 0x0601 c (usbSetting s (tgUsb c))) s) ∧
  (∀ c s (h : HostNo) u, accepted usbPortCfgSpec c s = true → c.payload ≠ [] → c.target.toNat % 16 = 0 → byteAt c.payload 0 = h.val →
    byteAt c.payload 1 < 2 → zeroAt c.payload 2 6 = true → (upOfHost s h).isSome = true →
    u = storeUsb (updUsb (fun v => { v with named := h, policy := ⟨byteAt c.payload 1 % 2, Nat.mod_lt _ (by decide)⟩ }) (fresh s)) →
    ownerFor u = s.usb.owner → exec (.usbPortCfg c) s = carried usbPortCfgSpec c (fun _ => ok 0x0601 c (usbSetting u 0) u) s) ∧
  (∀ c s (h : HostNo) (f : State → State), accepted usbPortCfgSpec c s = true → c.payload ≠ [] → c.target.toNat % 16 = 0 → byteAt c.payload 0 = h.val →
    byteAt c.payload 1 < 2 → zeroAt c.payload 2 6 = true → (upOfHost s h).isSome = true →
    f = (fun t => storeUsb (updUsb (fun v => { v with named := h, policy := ⟨byteAt c.payload 1 % 2, Nat.mod_lt _ (by decide)⟩ }) t)) →
    ownerFor (f (fresh s)) ≠ s.usb.owner → mayPend s c = true → exec (.usbPortCfg c) s = carried usbPortCfgSpec c (fun t =>
      let u := holdPending 0x0601 c .usbOwner t
      moveUsb (ownerFor (f u)) (f u)) s) ∧
  (∀ c s (n : Fin 8) (f : BitVec 6) off, accepted usbPortCfgSpec c s = true → c.payload ≠ [] → c.target.toNat % 16 = n.val → n ≠ 0 →
    usbTargetOk s c = true → byteAt c.payload 0 < 64 → zeroAt c.payload 1 7 = true → f = BitVec.ofNat 6 (byteAt c.payload 0) →
    (f.getLsbD 1 = true → n.val ≤ usbPortsS s) → off = (upEnabled s.usb.ports[n] && !f.getLsbD 0) →
    (off = true → admitUsb (updUsbPort n (fun x => { x with flags := f }) s) s.tunnels s.usb.owner = true) →
    exec (.usbPortCfg c) s = carried usbPortCfgSpec c (fun t =>
      let v := storeUsb (updUsbPort n (fun x => { x with flags := f }) t)
      let kept := v.usb.ports[n].vbus && f.getLsbD 2 && !(stPowered false (extHalf v false n) || stPowered true (extHalf v true n))
      let u := if off then unplugPort n v else if kept then v else settleVbus n v
      ok 0x0601 c (usbSetting u n) u) s) ∧
  (∀ c s, accepted usbEpCarveSpec c s = true → c.payload = [] → usbTargetOk s c = true →
    exec (.usbEpCarve c) s = carried usbEpCarveSpec c (ok 0x0602 c (s.usb.carve ++ s.usb.carveNext)) s) ∧
  (∀ c s, accepted usbEpCarveSpec c s = true → c.payload ≠ [] → usbTargetOk s c = true → carveOk c.payload = true →
    exec (.usbEpCarve c) s = carried usbEpCarveSpec c (fun t =>
      let u := storeSetting 8 c.payload (updUsb (fun u => { u with carveNext := c.payload }) t)
      ok 0x0602 c (u.usb.carve ++ u.usb.carveNext) u) s) ∧
  (∀ p, carveOk p = true → (p.map (fun b => b.toNat)).sum ≤ 64 ∧ 1 ≤ byteAt p 0) ∧
  (∀ c s, accepted usbPortStatusSpec c s = true → c.payload = [] → usbTargetOk s c = true →
    exec (.usbPortStatus c) s = carried usbPortStatusSpec c (fun t =>
      updUsbPort (tgUsb c) (fun p => { p with wake := false }) (ok 0x0603 c (usbReport s (tgUsb c)) t)) s) ∧
  (∀ s n, (usbReport s n).length = 24) ∧
  (∀ c s, accepted usbPortStatusSpec c s = true → c.payload = [1] → usbTargetOk s c = true →
    exec (.usbPortStatusClear c) s = carried usbPortStatusSpec c (fun t =>
      updUsbPort (tgUsb c) (fun p => { p with wake := false, txErrors := 0, missed := 0 }) (ok 0x0603 c (usbReport s (tgUsb c)) t)) s) ∧
  (∀ c s, accepted usbChargeCfgSpec c s = true → usbTargetOk s c = true → c.payload = [] →
    exec (.usbChargeCfg c) s = carried usbChargeCfgSpec c (ok 0x0604 c (chargeReport s (tgUsb c))) s) ∧
  (∀ c s, accepted usbChargeCfgSpec c s = true → usbTargetOk s c = true → c.payload ≠ [] → byteAt c.payload 0 < 4 → byteAt c.payload 1 = 0 →
    zeroAt c.payload 2 2 = true →
    exec (.usbChargeCfg c) s = carried usbChargeCfgSpec c (fun t =>
      let u := settleEfuses (settleRole (storeCharge (updUsbPort (tgUsb c) (fun x => { x with
        mode := ⟨byteAt c.payload 0 % 4, Nat.mod_lt _ (by decide)⟩, rpReq := ⟨byteAt c.payload 1 % 3, Nat.mod_lt _ (by decide)⟩ }) t)) (tgUsb c))
      ok 0x0604 c (chargeReport u (tgUsb c)) u) s)

/-- Requests of the tunnelled root, the microframe, ports, wakes and the management function. The head message of a USB tunnel
that is of the named kind is taken and acted on. The end of a transfer on the bus completes its request with status and
data. At a microframe on the Xansa link SOF and ITP go out, periodic requests are issued in theirs or end with status 4 when
it is missed, and TIME is sent once a millisecond; in fall-back the loopback interface runs. Port changes, remote wake,
upstream suspend, LPM, resume, BC 1.2, charge-role and Type-C events change the port as stated; a storage command and a hub
class request are answered; a bulk loopback packet waits in the buffer of its IN endpoint or, where it finds no room, is
NAKed, and one on which a sequence error is seen (a free value) raises the endpoint error instead. (R283, R288, R289, R290,
R291, R292, R299, R301, R306, R307, R308, R310) -/
def Obligations.UsbTraffic : Prop :=
  (∀ s h i, dataOn s = true →
    exec (.usbRequest h i) s = .next (usbTake h i .request (fun t b s => serveInternal false (runRequest t b s)) s) ∧ exec (.usbHubRequest h i) s = .next (usbTake h i .hub runHubRequest s) ∧
    exec (.usbCancel h i) s = .next (usbTake h i .cancel (fun t b s => runCancel t.host b s) s) ∧
    exec (.usbMalformedMessage h i) s = .next (usbTake h i .malformed runMalformed s)) ∧
  (∀ s h i k f v m ms n t, findTunnel s h i = some v → v.inbox = m :: ms → isUsbTunnel v = true → v.cross = none →
    (if m.broken then UsbMessage.malformed else classifyUsb s v m.bytes) = k → takeMessage h i s = some (n, t) → n.bytes ≠ [] →
    t.flt.isolated.getLsbD 8 = false → (n.broken = true → v.cls ≠ 7) → usbTake h i k f s = f v n.bytes t) ∧
  (∀ s h i x st a d r, dataOn s = true → findRequest s h x.toNat = some r → r.tid = i → r.phase = .onBus → umType r.hdr ≠ 1 → umIn r.hdr = true →
    exec (.usbTransferDone h i x st a d) s =
      .next (finishUsb r st.toNat (min a (umLen r.hdr)) (padTo (min a (umLen r.hdr)) d) s)) ∧
  (∀ s, dataOn s = true → ownerOnXansa s = true → s.usb.presented = true →
    exec .usbMicroframeBoundary s = .next (
      let i := uframeNow s
      sendTime i (dropIsoDue i (serveInternal true (serveRounds i
        ((sendSofs i s).usb.requests.foldl (stepPeriodic i) (sendSofs i s))))))) ∧
  (∀ s, dataOn s = true → ownerOnXansa s = false → ownerFallback s = true → s.usb.presented = true →
    exec .usbMicroframeBoundary s = .next (dropIsoDue (uframeNow s) (loopFallback (uframeNow s) s))) ∧
  (∀ i s t, usbTunnel s 2 = some t → i % 8 = 0 → sendTime i s = sendMessage t.host t.tid
    (usbHeader 6 false 0 i 0 ++ leBytes 8 (s.clock.hubTime.toNat / 125000 * 125000)) s) ∧
  (∀ i s r x, r.target = some x → isInternal s r = false → (i + 16384 - x) % 16384 < 8192 → r ∈ s.usb.requests →
    (r.phase = .resuming → stepPeriodic i s r = finishUsb r 4 0 [] s) ∧
    (r.phase = .scheduled → i = x → x < 16384 → isHead s r = true → ttRoom s r = true → stepPeriodic i s r = issueUsb r s) ∧
    (r.phase = .scheduled → umType r.hdr = 1 → i ≠ x → i < 16384 → x < 16384 → stepPeriodic i s r = finishUsb r 4 0 [] s)) ∧
  (∀ s ss n st ch, dataOn s = true → usbPortOf s ss n = true → stPowered ss (usbHalf s ss n) = true → upEnabled s.usb.ports[n] = true →
    s.flt.isolated.getLsbD 8 = false → isNight s = false →
    exec (.usbPortChange ss n st ch) s = .next (
      let power : Half := BitVec.ofNat 16 (2 ^ powerBit ss)
      let a := updHalf ss n (fun y => { y with status := (seenStatus s n st &&& ~~~ power) ||| power }) s
      let b := updUsbPort n (fun p => { p with overCurrent := st.getLsbD 3 }) a
      let d := if stConnected (usbHalf s ss n) && !(seenStatus s n st).getLsbD 0 then endUsb (onHalf ss n) 5 b else b
      setChange ss n ch (settleVbus n d))) ∧
  (∀ s n, dataOn s = true → usbPortOf s false n = true → stEnabled (usbHalf s false n) = true → halfAsleep s false n = true → s.usb.ports[n].wake = false →
    ∃ t, exec (.usbRemoteWake false n) s = .next t ∧ t.usb.ports[n].wake = true ∧ usbPower false t.usb.halves2[n] = 0) ∧
  (∀ s b, dataOn s = true → ownerFallback s = true → s.usb.presented = true →
    exec (.usbUpstreamSuspend b) s = .next (raise (.uplink s.usb.owner) 39 (bitNat b)
      (updUsb (fun u => { u with upSuspended := !b, upL1 := u.upL1 && !b }) s))) ∧
  (∀ s, dataOn s = true → ownerFallback s = true → s.usb.presented = true →
    ∃ b, exec .usbLpmToken s = .next (egress (.usbLpm b) (updUsb (fun u => { u with upL1 := u.upL1 || b }) s)) ∧
      (b = true ↔ ∀ n : Fin 8, 1 ≤ n.val → n.val ≤ 6 → usbExternal s n.val = true → stEnabled s.usb.halves2[n] = true → halfAsleep s false n = true)) ∧
  (∀ s n, dataOn s = true → s.usb.requests = [] → exec (.usbResumeDone n) s = .next s) ∧
  (∀ s n r x, dataOn s = true → s.usb.requests = [r] → r.phase = .resuming → umPort r.hdr = n → halfAsleep s (umSs r.hdr) n = false → r.target = some x →
    exec (.usbResumeDone n) s = .next (serveInternal false (startReady (updUsb (fun u => { u with requests := [{ r with phase := .scheduled }] }) s)))) ∧
  (∀ s n k, dataOn s = true → usbExternal s n.val = true → (k = 1 ∨ k = 2) →
    exec (.bc12Detection n k) s = .next (raise (.uplink s.usb.owner) 42 (16 * k.toNat + n.val) (updUsbPort n (fun p => { p with detected := k }) s))) ∧
  (∀ s n r, dataOn s = true → s.usb.ports[n].swap = some r →
    exec (.chargeRoleChangeDone n) s = .next (settleVbus n (updUsbPort n (fun p => { p with role := r, swap := none }) s))) ∧
  (∀ s n b, dataOn s = true → usbPortOf s true n = true → s.usb.ports[n].typeC = true → s.usb.ports[n].attached = false →
    exec (.typecRdAttach n b) s = .next (raise (.uplink s.usb.owner) 42 (48 + n.val) (settleVbus n
      (updUsbPort n (fun p => { p with attached := true, cc2 := b, detected := 3 }) s)))) ∧
  (∀ s n, dataOn s = true → s.usb.ports[n].attached = true →
    exec (.typecRdAbsent n) s = .next (settleVbus n (updUsbPort n (fun p => { p with attached := false }) s))) ∧
  (∀ s p l b d, dataOn s = true → s.usb.presented = true → carveBytes s (storageEp s p).1 ≠ 0 →
    (∀ i ∈ storageReplyEps s p, carveBytes s i ≠ 0) →
    exec (.usbStorageCommand p l b d) s = .next (
      let r := storageReply p l b d s
      egress (.usbStorage p r.2.1 r.2.2.1 r.2.2.2) r.1)) ∧
  (∀ s p l b d, dataOn s = true → s.usb.presented = true → carveBytes s (storageEp s p).1 = 0 →
    exec (.usbStorageCommand p l b d) s = .next (egress (.epNak (mgmtUplink s) (storageEp s p).2) s)) ∧
  (∀ b, (byteAt b 0 = 0x28 → nvmeCommand b = some (.read, cdbField b 2 4, cdbField b 7 2)) ∧
    (byteAt b 0 = 0x2A → nvmeCommand b = some (.write, cdbField b 2 4, cdbField b 7 2)) ∧
    (byteAt b 0 = 0x35 → nvmeCommand b = some (.flush, cdbField b 2 4, cdbField b 7 2))) ∧
  (∀ s t d, dataOn s = true → s.usb.presented = true → d.length ≤ 1024 → carveBytes s 12 ≠ 0 → t = { s with freeCtr := s.freeCtr + 1 } →
    exec (.usbLoopbackPacket false d) s = .next (if Config.freeBool s.freeCtr then endpointError 7 t
      else if carveBytes (drainSome t) 13 < bufferBytes (drainSome t) 13 + d.length then egress (.epNak (mgmtUplink (drainSome t)) 7) (drainSome t)
      else updWaiting 13 (fun q => q ++ [d]) (drainSome t))) ∧
  (∀ s ss x d, dataOn s = true → ownerFallback s = true → s.usb.presented = true → d.length ≤ 49152 →
    requestFunction s ss (leBytes 8 x.toNat) ≠ 2 → suClass (leBytes 8 x.toNat) = 1 →
    exec (.hubClassRequest ss x d) s = .next (answerEp0 (mgmtUplink s) ((byteAt (leBytes 8 x.toNat) 0).testBit 7)
      (hubRequest ss (leBytes 8 x.toNat) s)))

/-- The network commands set ports, VLANs, addresses, marking, overflow, the resequencer and counters. NET_PORT_CFG reports, or
applies an in-range configuration that needs no more rate; NET_VLAN_SET sets a VLAN (no members: removes it), adds and
removes a static address, flushes learned ones, sets the aging time and reads a VLAN; NET_MARK_CFG of a physical port,
NET_OVERFLOW_CFG and NET_RESEQ_CFG report or set and store; an overflow shrink posts PENDING, and ends when what is held
fits, or by its timeout; NET_COUNTERS reports and clears the bitmap, with 1 the counters too, and sets a threshold. (R336,
R343, R345, R346, R347, R348, R349, R350, R351) -/
def Obligations.NetCommands : Prop :=
  (∀ c s, accepted netPortCfgSpec c s = true → swTargetOk c = true → c.payload = [] →
    exec (.netPortCfg c) s = carried netPortCfgSpec c (ok 0x0701 c (netPortReport s (tgSw c))) s) ∧
  (∀ c s, accepted netPortCfgSpec c s = true → swTargetOk c = true → c.payload ≠ [] → netCfgOk (tgSw c) c.payload = true →
    (s.variant ≠ .qt9824 ∨ byteAt c.payload 0 ≠ 1) →
    headroomOf (portsWith s (tgSw c) c.payload)[(0 : SwPort)] + headroomOf (portsWith s (tgSw c) c.payload)[(1 : SwPort)] ≤ 2048 →
    byteAt c.payload 0 = ncIface s.net.ports[tgSw c] →
    exec (.netPortCfg c) s = carried netPortCfgSpec c (fun t =>
      ok 0x0701 c (netPortReport (applyNetCfg (tgSw c) c.payload t) (tgSw c)) (applyNetCfg (tgSw c) c.payload t)) s) ∧
  (∀ c s m u, accepted netVlanSetSpec c s = true → vlanSets c = true → zeroAt c.payload 1 1 = true → vidOk (vlanVid c) = true →
    m = fieldAt c.payload 4 4 → u = fieldAt c.payload 8 4 → m < 2 ^ 18 → u < 2 ^ 18 → u &&& m = u →
    exec (.netVlanSetVlan c) s = carried netVlanSetSpec c (fun t => ok 0x0702 c [] (updNet (fun n => { n with
      vlans := sparsePut ⟨0, 0⟩ n.vlans (vlanVid c) (if m = 0 then ⟨0, 0⟩ else ⟨BitVec.ofNat 18 m, BitVec.ofNat 18 u⟩) }) t)) s) ∧
  (∀ c s p, accepted netVlanSetSpec c s = true → vlanAdds c = true → zeroAt c.payload 1 1 = true → vidOk (vlanVid c) = true →
    zeroAt c.payload 11 1 = true → swByteOk (byteAt c.payload 10) = true → findAddr s (vlanAddr c) (BitVec.ofNat 12 (vlanVid c)) = none →
    (s.net.addrs.filter (fun e => e.fixed)).length < 1024 → addrRoom s (vlanAddr c) (BitVec.ofNat 12 (vlanVid c)) = some p →
    exec (.netVlanAddStatic c) s = carried netVlanSetSpec c (fun t => ok 0x0702 c [] (updNet (fun n => { n with addrs := n.addrs ++
      [⟨vlanAddr c, BitVec.ofNat 12 (vlanVid c), BitVec.ofNat 8 (byteAt c.payload 10), true, p, s.clock.hubTime⟩] }) t)) s) ∧
  (∀ c s, accepted netVlanSetSpec c s = true → vlanRemoves c = true → zeroAt c.payload 1 1 = true → vidOk (vlanVid c) = true →
    zeroAt c.payload 11 1 = true → s.net.addrs.any (fun e => sameAddr (vlanAddr c) (BitVec.ofNat 12 (vlanVid c)) e && e.fixed) = true →
    exec (.netVlanRemoveStatic c) s = carried netVlanSetSpec c (fun t => ok 0x0702 c [] (updNet (fun n => { n with
      addrs := n.addrs.filter (fun e => !(sameAddr (vlanAddr c) (BitVec.ofNat 12 (vlanVid c)) e && e.fixed)) }) t)) s) ∧
  (∀ c s, accepted netVlanSetSpec c s = true → vlanFlushes c = true → swByteOk (byteAt c.payload 1) = true → vlanVid c ≤ 4094 →
    exec (.netVlanFlush c) s = carried netVlanSetSpec c (fun t => ok 0x0702 c [] (updNet (fun n => { n with addrs := n.addrs.filter (fun e =>
      e.fixed || !(byteAt c.payload 1 == 255 || e.port.toNat == byteAt c.payload 1) || !(vlanVid c == 0 || e.vid.toNat == vlanVid c)) }) t)) s) ∧
  (∀ c s, accepted netVlanSetSpec c s = true → vlanAges c = true → zeroAt c.payload 1 3 = true → 10 ≤ fieldAt c.payload 4 4 →
    fieldAt c.payload 4 4 ≤ 1000000 →
    exec (.netVlanAging c) s = carried netVlanSetSpec c (fun t =>
      ok 0x0702 c [] (updNet (fun n => { n with aging := BitVec.ofNat 32 (fieldAt c.payload 4 4) }) t)) s) ∧
  (∀ c s, accepted netVlanSetSpec c s = true → vlanReads c = true → zeroAt c.payload 1 1 = true → vidOk (vlanVid c) = true →
    exec (.netVlanRead c) s = carried netVlanSetSpec c (ok 0x0702 c (leBytes 2 (vlanVid c) ++ [0, 0] ++
      leBytes 4 (vlanOf s (BitVec.ofNat 12 (vlanVid c))).members.toNat ++ leBytes 4 (vlanOf s (BitVec.ofNat 12 (vlanVid c))).untagged.toNat)) s) ∧
  (∀ c s (q : Fin 8), accepted netMarkCfgSpec c s = true → swTargetOk c = true → byteAt c.payload 0 = q.val → c.payload.length = 1 →
    exec (.netMarkCfg c) s = carried netMarkCfgSpec c (ok 0x0703 c (netMarkReport s (tgSw c) q)) s) ∧
  (∀ c s (q : Fin 8), accepted netMarkCfgSpec c s = true → swTargetOk c = true → byteAt c.payload 0 = q.val → c.payload.length = 12 →
    byteAt c.payload 1 < 2 → zeroAt c.payload 2 2 = true → fieldAt c.payload 4 4 ≤ 4194304 → fieldAt c.payload 8 4 ≤ 8192 →
    (ethOf (tgSw c)).isSome = true →
    exec (.netMarkCfg c) s = carried netMarkCfgSpec c (fun t =>
      let u := storeNetQueues (settleNet (updQueue (tgSw c) q (fun x => { x with
        mark := byteAt c.payload 1 == 1, k := fieldAt c.payload 4 4, limit := fieldAt c.payload 8 4 }) t))
      ok 0x0703 c (netMarkReport u (tgSw c) q) u) s) ∧
  (∀ c s, accepted overflowSpec c s = true → physicalTarget c = true → c.payload = [] →
    exec (.netOverflowCfgPort c) s = carried overflowSpec c (ok 0x0704 c (overflowReport s (tgEth c))) s) ∧
  (∀ c s, accepted overflowSpec c s = true → physicalTarget c = true → c.payload ≠ [] → byteAt c.payload 0 = 0 → byteAt c.payload 1 < 2 →
    zeroAt c.payload 2 2 = true → fieldAt c.payload 4 4 ≤ 1024 →
    exec (.netOverflowCfgPort c) s = carried overflowSpec c (fun t =>
      let u := storeOverflow (updEth (tgEth c) (fun x => { x with overflow := byteAt c.payload 1 == 1, limitMiB := fieldAt c.payload 4 4 }) t)
      ok 0x0704 c (overflowReport u (tgEth c)) u) s) ∧
  (∀ c s, accepted overflowSpec c s = true → byteAt c.payload 0 = 1 → c.target.toNat % 32 = 0 → zeroAt c.payload 1 3 = true →
    fieldAt c.payload 4 4 % 64 = 0 → fieldAt c.payload 4 4 ≤ s.perf.overflowMiB → s.net.shrink = none → mayPend s c = true →
    exec (.netOverflowCfgShrink c) s = carried overflowSpec c (fun t =>
      updNet (fun x => { x with shrink := some (fieldAt c.payload 4 4) }) (holdPending 0x0704 c .netShrink t)) s) ∧
  (∀ s n, dataOn s = true → s.net.shrink = some n → overflowUsed s ≤ 1048576 * n → exec .overflowShrinkDrained s = .next (endShrink n s)) ∧
  (∀ s n, dataOn s = true → s.net.shrink = some n → n < s.perf.overflowMiB →
    exec .overflowShrinkTimeout s = .next (endShrink n (settleNet (([0, 1] : List EthPort).foldl (dropArea n) s)))) ∧
  (∀ c s, accepted netReseqCfgSpec c s = true → physicalTarget c = true → c.payload = [] →
    exec (.netReseqCfg c) s = carried netReseqCfgSpec c (ok 0x0705 c (reseqBytes s.net.eth[tgEth c])) s) ∧
  (∀ c s, accepted netReseqCfgSpec c s = true → physicalTarget c = true → c.payload ≠ [] → byteAt c.payload 0 < 2 → zeroAt c.payload 1 1 = true →
    16 ≤ fieldAt c.payload 2 2 → fieldAt c.payload 2 2 ≤ 1024 → 1 ≤ fieldAt c.payload 4 4 → fieldAt c.payload 4 4 ≤ 10000 →
    exec (.netReseqCfg c) s = carried netReseqCfgSpec c (fun t =>
      let u := storeReseq ((List.finRange 8).foldl (fun s q => settleQueue (tgEth c) q s) (updEth (tgEth c) (fun x => { x with
        reseq := byteAt c.payload 0 == 1, reseqW := BitVec.ofNat 16 (fieldAt c.payload 2 2), reseqUs := BitVec.ofNat 32 (fieldAt c.payload 4 4) }) t))
      ok 0x0705 c (reseqBytes u.net.eth[tgEth c]) u) s) ∧
  (∀ c s, accepted netCountersSpec c s = true → swTargetOk c = true → c.payload = [] →
    exec (.netCountersRead c) s = carried netCountersSpec c (fun t =>
      ok 0x0706 c (netCounterReport s (tgSw c)) (updSw (tgSw c) (fun x => { x with fired := 0 }) t)) s) ∧
  (∀ s p, (netCounterReport s p).length = 196) ∧
  (∀ c s, accepted netCountersSpec c s = true → swTargetOk c = true → c.payload = [1] →
    exec (.netCountersClear c) s = carried netCountersSpec c (fun t =>
      ok 0x0706 c (netCounterReport s (tgSw c)) (updSw (tgSw c) (fun x => { x with fired := 0, counters := Vector.replicate 24 0 }) t)) s) ∧
  (∀ c s (k : Fin 24), accepted netCountersSpec c s = true → swTargetOk c = true → c.payload.length = 12 → byteAt c.payload 0 = 2 →
    byteAt c.payload 1 = k.val → zeroAt c.payload 2 2 = true → 1 ≤ fieldAt c.payload 8 4 → fieldAt c.payload 8 4 ≤ 3600000 →
    exec (.netCountersThreshold c) s = carried netCountersSpec c (fun t => ok 0x0706 c [] (updSw (tgSw c) (fun x => { x with
      thresholds := x.thresholds.set k ⟨BitVec.ofNat 32 (fieldAt c.payload 4 4), BitVec.ofNat 32 (fieldAt c.payload 8 4), 0, false⟩ }) t)) s)

/-- Frames, links, pauses, addresses and the counters of the switch. A frame received on a port that is up is replicated by Day,
counted by the coding and taken; a message on a virtual port's tunnel enters the switch; a link that may come up is up with
its speed and event 44 or 45, and goes down. Egress selection, pause refresh and expiry, address aging, the resequencer's
timeout, an overflow read-back and a counter's window act as the rules say: aging removes the learned address, once its
aging time has passed since it was seen, and no other; a pause that expires ends for the priorities it names. (R318, R321,
R323, R324, R329, R333, R334, R337, R338, R343, R392) -/
def Obligations.NetTraffic : Prop :=
  (∀ s p f, dataOn s = true → s.net.eth[p].up = true →
    ∀ good, exec (.ethFrameReceive p f good) s = .next (receiveEth p f good (countCoding p good (replicate (.eth p f good) f.length s)))) ∧
  (∀ s h i v m t, dataOn s = true → findTunnel s h i = some v → isNetTunnel v = true → v.cross = none → takeMessage h i s = some (m, t) →
    engineOut t [9, 10] = false →
    exec (.netMessageReceive h i) s = .next (receiveVirtual (virtualPort h v.endpoint.toNat) m.bytes m.broken (!v.guarded) t)) ∧
  (∀ s p v a b, dataOn s = true → linkAllowed s p = true → s.net.eth[p].up = false →
    exec (.ethLinkChange p true v a b) s = .next (raise .all (ethEvent p) 1 (updEth p (fun x => { x with
      up := true, speed := linkSpeed (ncIface s.net.ports[swOfEth p]) v, pauseTx := a, pauseRx := b }) s))) ∧
  (∀ s p v a b, dataOn s = true → exec (.ethLinkChange p false v a b) s = .next (ethDown p s)) ∧
  (∀ s p, dataOn s = true → exec (.netEgressSelect p) s = .next (selectEgress p s)) ∧
  (∀ s p, dataOn s = true → s.net.ports[swOfEth p].xoff = 0 → exec (.pauseRefreshTimeout p) s = .next s) ∧
  (∀ s p, dataOn s = true → s.net.ports[swOfEth p].xoff = 0x80 → exec (.pauseRefreshTimeout p) s = .next (sendPause p 7 0xFFFF s)) ∧
  (∀ s p m, dataOn s = true →
    exec (.pauseQuantaExpiry p m) s = .next (updSw (swOfEth p) (fun x => { x with paused := x.paused &&& ~~~m }) s)) ∧
  (∀ s a v, dataOn s = true → ∃ t, exec (.addressAgingTimeout a v) s = .next t ∧
    (∀ e, e ∈ t.net.addrs ↔ e ∈ s.net.addrs ∧ ¬ (e.addr = a ∧ e.vid = v ∧ e.fixed = false ∧ aged s e = true))) ∧
  (∀ s p q n g, dataOn s = true → exec (.overflowReadbackDone p q n g) s = .next (readbackDone p q n g s)) ∧
  (∀ s p q, dataOn s = true → s.net.eth[p].reseq = true →
    s.net.ports[swOfEth p].queues[q].entries.any (fun e => e.seq == s.net.ports[swOfEth p].queues[q].nextRel) = false →
    s.net.ports[swOfEth p].queues[q].entries.any (fun e => e.place == .onDie &&
      decide ((e.seq - s.net.ports[swOfEth p].queues[q].nextRel).toNat < 32768)) = true →
    exec (.reseqTimeout p q) s = .next (settleQueue p q (giveUp p q s))) ∧
  (∀ s p k, dataOn s = true → exec (.netCounterWindow p k) s =
    .next (updSw p (fun x => { x with thresholds := upd x.thresholds k (fun t => { t with count := 0, raised := false }) }) s))

/-- CAN ports, the signal map, signals and legacy routes are set and read by their commands. CAN_PORT_CFG reports 48 bytes, or
applies and stores an in-range setting. CAN_MAP_LOAD clears the staging map, stages frames and signals at their indices,
commits a staging map without a fault (stored, with the routes dropped, where asked), answers BAD_ARG with the fault's place
otherwise, and reports. CAN_SIGNAL_READ answers with the generation and an entry for each signal; CAN_SIGNAL_WRITE of the
current generation applies entries all of which may be written, and no entry otherwise. CAN_LEGACY_ROUTE clears, loads,
stores and reads routes. (R358, R366, R370, R371, R372, R373, R374) -/
def Obligations.CanCommands : Prop :=
  (∀ c s, accepted canPortCfgSpec c s = true → c.payload = [] →
    exec (.canPortCfg c) s = carried canPortCfgSpec c (ok 0x0801 c (canPortReport s (tgCan c))) s) ∧
  (∀ c s, accepted canPortCfgSpec c s = true → c.payload ≠ [] → canSettingOk c.payload = true →
    exec (.canPortCfg c) s = carried canPortCfgSpec c (fun t =>
      let u := storeCan (tgCan c) c.payload (applyCanPort (tgCan c) c.payload t)
      ok 0x0801 c (canPortReport u (tgCan c)) u) s) ∧
  (∀ c s, accepted canMapSpec c s = true → byteAt c.payload 0 = 0 → bare 1 c = true →
    exec (.canMapBegin c) s = carried canMapSpec c (fun t => ok 0x0802 c [] (updCan (fun x => { x with staging := ⟨[], []⟩ }) t)) s) ∧
  (∀ c s, accepted canMapSpec c s = true → byteAt c.payload 0 = 1 → loadOk c 256 = true →
    exec (.canMapFrames c) s = carried canMapSpec c (fun t => ok 0x0802 c [] (updCan (fun x => { x with
      staging := { x.staging with frames := putEntries x.staging.frames (loadFirst c) (loadEntries c) } }) t)) s) ∧
  (∀ c s, accepted canMapSpec c s = true → byteAt c.payload 0 = 2 → loadOk c 1024 = true →
    exec (.canMapSignals c) s = carried canMapSpec c (fun t => ok 0x0802 c [] (updCan (fun x => { x with
      staging := { x.staging with signals := putEntries x.staging.signals (loadFirst c) (loadEntries c) } }) t)) s) ∧
  (∀ c s, accepted canMapSpec c s = true → byteAt c.payload 0 = 3 → bare 2 c = true → byteAt c.payload 1 = 0 → mapFault s s.can.staging = none →
    exec (.canMapCommit c) s = carried canMapSpec c (fun t =>
      ok 0x0802 c [] (updCan (fun x => { x with mapIsStored := false }) (commitMap s.can.staging t))) s) ∧
  (∀ c s, accepted canMapSpec c s = true → byteAt c.payload 0 = 3 → bare 2 c = true → byteAt c.payload 1 = 1 → mapFault s s.can.staging = none →
    exec (.canMapCommit c) s = carried canMapSpec c (fun t =>
      ok 0x0802 c [] (updCan (fun x => { x with stored := some s.can.staging, storedRoutes := [] })
        (updCan (fun x => { x with mapIsStored := true }) (commitMap s.can.staging t)))) s) ∧
  (∀ c s k, accepted canMapSpec c s = true → byteAt c.payload 0 = 3 → bare 2 c = true → byteAt c.payload 1 < 2 → mapFault s s.can.staging = some k →
    exec (.canMapCommit c) s = carried canMapSpec c (respond 0x0802 c stBadArg (leBytes 4 k)) s) ∧
  (∀ c s, accepted canMapSpec c s = true → byteAt c.payload 0 = 4 → bare 1 c = true →
    exec (.canMapStatus c) s = carried canMapSpec c (ok 0x0802 c (canMapReport s)) s) ∧
  (∀ c s, accepted canSignalReadSpec c s = true → readCount c ≤ 30 → readFirst c + readCount c ≤ 1024 →
    exec (.canSignalRead c) s = carried canSignalReadSpec c (ok 0x0803 c (leBytes 4 s.can.generation.toNat ++ zeros 4
      ++ (List.range (readCount c)).flatMap (fun k => updateEntry s (readFirst c + k) false))) s) ∧
  (∀ c s n, accepted canSignalWriteSpec c s = true → fieldAt c.payload 4 2 = n → n ≤ 30 → zeroAt c.payload 6 2 = true →
    c.payload.length = 8 + 16 * n → fieldAt c.payload 0 4 = s.can.generation.toNat →
    (entriesOf n (c.payload.drop 8)).all (fun e => zeroAt e 2 6 && writeOk s (hostOfRequester (cmdRequester s c)) e) = true →
    exec (.canSignalWrite c) s = carried canSignalWriteSpec c (fun t =>
      ok 0x0804 c [] (applyEntries (hostOfRequester (cmdRequester s c)) (entriesOf n (c.payload.drop 8)) t)) s) ∧
  (∀ c s n, accepted canSignalWriteSpec c s = true → fieldAt c.payload 4 2 = n → n ≤ 30 → zeroAt c.payload 6 2 = true →
    c.payload.length = 8 + 16 * n → fieldAt c.payload 0 4 = s.can.generation.toNat →
    (entriesOf n (c.payload.drop 8)).all (fun e => zeroAt e 2 6 && writeOk s (hostOfRequester (cmdRequester s c)) e) = false →
    exec (.canSignalWrite c) s = carried canSignalWriteSpec c (fail 0x0804 c stBadArg) s) ∧
  (∀ c s, accepted canRouteSpec c s = true → byteAt c.payload 0 = 0 → bare 1 c = true →
    exec (.canLegacyRouteClear c) s = carried canRouteSpec c (fun t => ok 0x0805 c [] (updCan (fun x => { x with routes := [] }) t)) s) ∧
  (∀ c s, accepted canRouteSpec c s = true → byteAt c.payload 0 = 1 → loadOk c 128 = true →
    (loadEntries c).all (routeOk s.can.map) = true → routesDistinct (putEntries s.can.routes (loadFirst c) (loadEntries c)) = true →
    exec (.canLegacyRouteLoad c) s = carried canRouteSpec c (fun t =>
      ok 0x0805 c [] (updCan (fun x => { x with routes := putEntries s.can.routes (loadFirst c) (loadEntries c) }) t)) s) ∧
  (∀ c s, accepted canRouteSpec c s = true → byteAt c.payload 0 = 2 → bare 1 c = true → s.can.mapIsStored = true →
    exec (.canLegacyRouteStore c) s = carried canRouteSpec c (fun t => ok 0x0805 c [] (updCan (fun x => { x with storedRoutes := x.routes }) t)) s) ∧
  (∀ c s, accepted canRouteSpec c s = true → byteAt c.payload 0 = 3 → zeroAt c.payload 1 1 = true → zeroAt c.payload 6 10 = true →
    c.payload.length = 16 → loadCount c ≤ 30 → loadFirst c + loadCount c ≤ 128 →
    exec (.canLegacyRouteRead c) s = carried canRouteSpec c (ok 0x0805 c
      ((List.range (loadCount c)).flatMap (fun k => sparseGet (zeros 16) s.can.routes (loadFirst c + k)))) s)

/-- Frames, schedules, delivery, staleness and written signals of the bridge. A frame received on a port in mode 1 or 2 while
the bridge is on its buses is decoded, and Day sends it to Night; a bus state changes to bus-off where it is reported and
else as its counts say, except that bus-off ends only by recovery; a due period queues its frame; the end of a gap offers
the frame, queued again where a change waited; a frame sent on a port in mode 1 out of standby is counted, its gap (if it
has one) begins, the transmit error count falls (log entry 130) and the next is offered; a signal whose interval is over is
delivered and a late one becomes stale as the rules say; a whole message of a signal tunnel is applied and a broken one
counts. (R353, R355, R359, R360, R361, R362, R365, R392) -/
def Obligations.CanTraffic : Prop :=
  (∀ s p f, dataOn s = true → canOnBus s = true → (cpMode s.can.ports[p] = 1 ∨ cpMode s.can.ports[p] = 2) →
    exec (.canFrameReceive p f) s = .next (receiveCan p f (replicate (.can p f) (8 + f.data.length) s))) ∧
  (∀ s p b x y, dataOn s = true → canOnBus s = true → canPresent s p = true → (cpMode s.can.ports[p] = 1 ∨ cpMode s.can.ports[p] = 2) →
    s.can.ports[p].bus ≠ .busOff → exec (.canBusStateChange p b x y) s = .next (setBus p (busOf b x y) x y s)) ∧
  (∀ s p b x y, dataOn s = true → s.can.ports[p].bus = .busOff → exec (.canBusStateChange p b x y) s = .next s) ∧
  (∀ s p, dataOn s = true → s.can.ports[p].bus = .busOff → cpFlag s.can.ports[p] 1 = true →
    (cpMode s.can.ports[p] = 1 ∨ cpMode s.can.ports[p] = 2) → exec (.canBusOffRecovered p) s = .next (setBus p .errorActive 0 0 s)) ∧
  (∀ s f, dataOn s = true → (signalsOf s.can.map f.val).any (fun x => sePeriod x.2 != 0) = true →
    exec (.canPeriodDue f) s = .next (queueFrame f s)) ∧
  (∀ s f, dataOn s = true → (txState s f.val).gap = true → exec (.canGapExpiry f) s = .next (
    let t := setTx f.val (fun _ => ⟨false, false⟩) s
    offerFrame (fePort (frameAt t.can.map f.val)) (if (txState s f.val).held then queueFrame f t else t))) ∧
  (∀ s p, dataOn s = true → cpMode s.can.ports[p] = 1 → canStb s p = false → exec (.canFrameSent p) s = .next (frameSent p s)) ∧
  (∀ s p, dataOn s = true → (cpMode s.can.ports[p] ≠ 1 ∨ canStb s p = true) → exec (.canFrameSent p) s = .next s) ∧
  (∀ s p f d e, s.can.ports[p].buffer = some (f, d) → e = frameAt s.can.map f.val →
    frameSent p s = offerFrame p (sentWell p ((if feGap e = 0 then id else setTx f.val (fun t => { t with gap := true }))
      (canCount p 1 1 (egress (.canFrame p ⟨BitVec.ofNat 29 (feId e), feIde e, feFd e, feBrs e, false, d⟩)
        (updCanPort p (fun x => { x with buffer := none }) s)))))) ∧
  (∀ s h k, dataOn s = true → intervalOver s k.val (sigState s k.val).hosts[h] = true →
    exec (.canDeliveryDue h k) s = .next (deliverSigs h [k.val] s)) ∧
  (∀ s h k, dataOn s = true → intervalOver s k.val (sigState s k.val).hosts[h] = false → exec (.canDeliveryDue h k) s = .next s) ∧
  (∀ s k, dataOn s = true → exec (.canSignalStale k) s = .next (staleSig k.val s)) ∧
  (∀ s k, (s.clock.hubTime - lastSeen s k).toNat < 1000000 * seTimeout (signalAt s.can.map k) → staleSig k s = s) ∧
  (∀ s h i v m t, dataOn s = true → findTunnel s h i = some v → v.cls = 6 → v.cross = none → takeMessage h i s = some (m, t) →
    t.flt.isolated.getLsbD 11 = false → m.broken = false → exec (.canWriteMessage h i) s = .next (runWrite h m.bytes t)) ∧
  (∀ s h i v m t, dataOn s = true → findTunnel s h i = some v → v.cls = 6 → v.cross = none → takeMessage h i s = some (m, t) →
    t.flt.isolated.getLsbD 11 = false → m.broken = true →
    exec (.canWriteMessage h i) s = .next (updCan (fun c => { c with badMessages := satInc c.badMessages }) t))

/-- Pairing commands, joining, leaving and the loss of the partner. A PAIR_JOIN with good fields and free of the checks posts
PENDING, stores its request, is Joining in state 1 when it was Unpaired, and tells the partner; one that comes too late ends
with NO_RESOURCE; a matching partner whose checks pass forms a Span pair or starts the Mirror copy, and one whose checks
fail ends the join with their status. In state 9 with the flag set, a rejoining partner whose checks pass starts the Mirror
join, and in state 0 the newcomer joins as Night or goes back to Unpaired. The end of the copy moves Day to state 7 and
Night to state 8. PAIR_LEAVE answers OK when Unpaired, BUSY while Joining or Leaving, and else posts PENDING, is Leaving,
and tells a partner that is there or leaves at once; its end leaves. PAIR_STATUS answers the report, after the clearing form
with its counters cleared. A handover not planned, or planned with no output on, yields at once; planned with one on it
waits. PAIR_COMPARE_CFG answers its settings and stores those in range. BND_PRES_N low for its time starts the bond link
where it may, high ends it; a lost partner moves a Span pair to state 4, Day to 9 and Night to 10. (R375, R380, R381, R382,
R383, R384, R390, R408, R409, R410, R411) -/
def Obligations.PairingCommands : Prop :=
  (∀ c s, accepted pairJoinSpec c s = true → joinFieldsOk c = true → s.pm.setting[(2 : Fin 12)] ≠ 1 → waitsFor s .pairJoin = false →
    joinAllowed s c = true → mayPend s c = true →
    exec (.pairJoin c) s = carried pairJoinSpec c (fun t => emit (.pairControl 2 (BitVec.ofNat 64 ((joinMode c).val + 4 * bitNat (joinDay c))))
      (let u := storePairing (updPair (fun p => { p with join := some ⟨joinMode c, joinDay c⟩, autoRejoin := byteAt c.payload 2 == 1 })
          (holdPending 0x0901 c .pairJoin t))
        if u.pair.state = 0 then setPairState 1 u else u)) s) ∧
  (∀ s c, joinAllowed s c = true ↔ bondActive s = true ∧ (s.pair.state = 0 ∨ (s.pair.state = 9 ∧ joinMode c = 2 ∧ joinDay c = true))) ∧
  (∀ s q, dataOn s = true → s.pair.join = some q → (s.pair.state = 1 ∨ s.pair.state = 9) →
    exec .pairJoinTimeout s = .next (joinFails stNoResource s)) ∧
  (∀ st s, joinFails st s = (let t := finish .pairJoin st [] (updPair (fun p => { p with join := none }) s)
    if t.pair.state = 1 then setPairState 0 t else t)) ∧
  (∀ s q j, dataOn s = true → s.pair.join = some q → bondActive s = true → (s.pair.state = 1 ∨ s.pair.state = 9) →
    joinChecks (updPair (fun p => { p with partnerPl := j.pl }) s) q.mode q.day j = none →
    exec (.pairJoinMatched j) s = .next (if q.mode = 2 then startMirror q.day j (updPair (fun p => { p with partnerPl := j.pl }) s)
      else enterSpan (updPair (fun p => { p with partnerPl := j.pl }) s))) ∧
  (∀ s q j st, dataOn s = true → s.pair.join = some q → bondActive s = true → (s.pair.state = 1 ∨ s.pair.state = 9) →
    joinChecks (updPair (fun p => { p with partnerPl := j.pl }) s) q.mode q.day j = some st →
    exec (.pairJoinMatched j) s = .next (joinFails st (updPair (fun p => { p with partnerPl := j.pl }) s))) ∧
  (∀ s j, dataOn s = true → bondActive s = true → s.pair.join = none → s.pair.state = 9 → s.pair.autoRejoin = true →
    joinChecks s 2 true { j with mode := 2, wantsDay := false } = none → exec (.autoRejoin j) s = .next (startMirror true j s)) ∧
  (∀ s j t, dataOn s = true → bondActive s = true → s.pair.join = none → s.pair.state = 0 → t = setPairState 1 s →
    (joinChecks t 2 false { j with mode := 2, wantsDay := true } = none → exec (.autoRejoin j) s = .next (startMirror false j t)) ∧
    (∀ st, joinChecks t 2 false { j with mode := 2, wantsDay := true } = some st → exec (.autoRejoin j) s = .next (setPairState 0 t))) ∧
  (∀ s, dataOn s = true → s.pair.state = 5 →
    exec .mirrorSyncDone s = .next (finish .pairJoin stOk [] (persistPair [2, 3] (setPairState 7 (updPair (fun p => { p with join := none })
      ((List.finRange 4).foldl sendTiming s)))))) ∧
  (∀ s, dataOn s = true → s.pair.state = 6 →
    exec .mirrorSyncDone s = .next (finish .pairJoin stOk [] (persistPair [2]
      (setPairState 8 (updPair (fun p => { p with join := none, ilkLow := true }) s))))) ∧
  (∀ c s, accepted pairLeaveSpec c s = true → s.pair.state = 0 → exec (.pairLeave c) s = carried pairLeaveSpec c (ok 0x0902 c []) s) ∧
  (∀ c s, accepted pairLeaveSpec c s = true → (s.pair.state = 1 ∨ s.pair.state = 11) →
    exec (.pairLeave c) s = carried pairLeaveSpec c (fail 0x0902 c stBusy) s) ∧
  (∀ c s, accepted pairLeaveSpec c s = true → s.pair.state ≠ 0 → s.pair.state ≠ 1 → s.pair.state ≠ 11 → waitsFor s .pairJoin = false →
    waitsFor s .handover = false → mayPend s c = true →
    exec (.pairLeave c) s = carried pairLeaveSpec c (fun t =>
      let u := setPairState 11 (updPair (fun p => { p with leftFrom := s.pair.state }) (holdPending 0x0902 c .pairLeave t))
      if s.pair.state = 4 || partnerGone u then leaveDone u else emit (.pairControl 3 0) u) s) ∧
  (∀ s, dataOn s = true → exec .pairLeaveDone s = .next (leaveDone s)) ∧
  (∀ s, (s.pair.state = 0 ∨ s.pair.state = 1 ∨ s.pair.state = 9) → leaveDone s = s) ∧
  (∀ c s, accepted pairStatusSpec c s = true → c.payload = [] → exec (.pairStatus c) s = carried pairStatusSpec c (fun t =>
    ok 0x0903 c (pairReport (seeIlk t)) (seeIlk t)) s) ∧
  (∀ c s, accepted pairStatusSpec c s = true → c.payload = [1] → exec (.pairStatusClear c) s = carried pairStatusSpec c (fun t =>
    ok 0x0903 c (pairReport (seeIlk t)) (updLink 2 (fun k => { k with counters := (k.counters.set 0 0).set 5 0 })
      (updPair (fun p => { p with mismatches := 0, transients := 0, selfFails := 0, handovers := 0 }) (seeIlk t)))) s) ∧
  (∀ c s, accepted pairHandoverSpec c s = true → byteAt c.payload 0 = 0 → s.pair.state = 7 → waitsFor s .handover = false → mayPend s c = true →
    (s.disp.outs.toList.any (fun x => x.mode != 0) = true →
      exec (.pairHandoverPlanned c) s = carried pairHandoverSpec c (holdPending 0x0904 c .handover) s) ∧
    (s.disp.outs.toList.any (fun x => x.mode != 0) = false →
      exec (.pairHandoverPlanned c) s = carried pairHandoverSpec c (fun t => yieldDay true (holdPending 0x0904 c .handover t)) s)) ∧
  (∀ c s, accepted pairHandoverSpec c s = true → byteAt c.payload 0 = 1 → s.pair.state = 7 → waitsFor s .handover = false → mayPend s c = true →
    exec (.pairHandoverImmediate c) s = carried pairHandoverSpec c (fun t => yieldDay false (holdPending 0x0904 c .handover t)) s) ∧
  (∀ c s, accepted pairCompareSpec c s = true → c.payload = [] → exec (.pairCompareCfg c) s = carried pairCompareSpec c (ok 0x0905 c s.pair.compareCfg) s) ∧
  (∀ c s, accepted pairCompareSpec c s = true → c.payload.length = 8 → byteAt c.payload 0 < 16 → byteAt c.payload 1 < 16 → byteAt c.payload 2 < 16 →
    zeroAt c.payload 3 1 = true → fieldAt c.payload 4 2 < 64 → zeroAt c.payload 7 1 = true →
    exec (.pairCompareCfg c) s = carried pairCompareSpec c (fun t =>
      let u := storePairing (updPair (fun x => { x with compareCfg := c.payload }) t)
      ok 0x0905 c u.pair.compareCfg u) s) ∧
  (∀ s, dataOn s = true → s.variant = .qt9840 → s.pm.phase = .run → s.pm.setting[(2 : Fin 12)] ≠ 1 → s.links[(2 : LinkNo)].state = 0 →
    exec .bndPresLow s = .next (startBringUp 2 (updPair (fun p => { p with bndPres := true }) s))) ∧
  (∀ s, dataOn s = true → exec (.partnerLost true) s = .next (losePartner (endLink 2 0 (updPair (fun p => { p with bndPres := false }) s)))) ∧
  (∀ s, dataOn s = true → bondActive s = true → exec (.partnerLost false) s = .next s) ∧
  (∀ s, dataOn s = true → bondActive s = false → s.links[(2 : LinkNo)].state ≠ 8 → exec (.partnerLost false) s = .next (losePartner s)) ∧
  (∀ s, (s.pair.state = 2 ∨ s.pair.state = 3) → losePartner s = movePair 4 (losePartnerHosts (dropForwarded s))) ∧
  (∀ s, (s.pair.state = 5 ∨ s.pair.state = 7) → losePartner s =
    setPairState 9 (finish .handover stNoResource [] (finish .pairJoin stNoResource [] (updPair (fun p => { p with join := none }) s)))) ∧
  (∀ s, s.pair.state = 6 → losePartner s = setPairState 10 (finish .pairJoin stNoResource [] (updPair (fun p => { p with join := none }) s))) ∧
  (∀ s, s.pair.state = 8 → s.pair.ilkLow = true → losePartner s = setPairState 10 s)

/-- What crosses the bond link, the interlock, signatures and the handover. In Span, a window access forwarded by the partner
for its hosts is carried out and completed over the bond link; while paired, so is an access of the partner's own. A relayed
event is delivered to its mailboxes with this chip's time; a final relayed response ends its forwarded command, or on Day a
change forwarded to Night; the measured offset is kept. Night takes replicated packets, Ethernet and CAN frames; a missing
forwarding moves Day to 9, and Night to 10 with event 4. On Night a rise of ILK_N starts the claim wait; its end claims a
line that is still high; a confirmed claim makes Day, and one not confirmed, or a line high while this Day drives it,
releases it with a fault; no holder is an interlock fault. An expired watchdog releases Day unless firmware activates. A
boundary signs the next block of its stream; the partner's record is compared with the own one that counts, and a different
or an absent record is a mismatch, counted, with a self-test. The verdict: a Day that alone fails yields, a Night that alone
fails is out, and so is it with event 4 where both fail. A planned handover begins at its blanking; DAY_PRSNT high yields;
the take-over is counted and timed; a layer owner silent after it is lost. (R56, R386, R387, R391, R392, R396, R397, R398,
R400, R402, R403, R405) -/
def Obligations.PairTraffic : Prop :=
  (∀ s r i o n ws, r ≠ .partner → inSpan s = true → bridgeOff s = false →
    exec (.forwardedWindowAccess r i o n (some ws)) s = .next (emit (.accessCompletion r i n []) (forwardedWrites r o.toNat (ws.take n) s))) ∧
  (∀ s r i o n, r ≠ .partner → inSpan s = true → bridgeOff s = false → exec (.forwardedWindowAccess r i o n none) s =
    .next (emit (.accessCompletion r i n (forwardedReads r o.toNat n s).1) (forwardedReads r o.toNat n s).2)) ∧
  (∀ s i o n, paired s = true → bridgeOff s = false → o.toNat % 4 = 0 → n ≤ 512 → o.toNat + 4 * n ≤ 0x40000 →
    exec (.forwardedWindowAccess .partner i o n none) s =
      .next (emit (.accessCompletion .partner i n (windowReads .partner o.toNat n s).1) (windowReads .partner o.toNat n s).2) ∧
    ∀ ws, exec (.forwardedWindowAccess .partner i o n (some ws)) s =
      .next (emit (.accessCompletion .partner i n []) (windowWrites .partner o.toNat (ws.take n) s))) ∧
  (∀ s e m t a, dataOn s = true → inSpan s = true → exec (.relayedEvent e (some m) t a) s =
    .next ((([0, 1] : List MbNo).filter (fun k => m.getLsbD k.val)).foldl (deliver e false true (t - s.pair.timeOffset) a) s)) ∧
  (∀ s e t a, dataOn s = true → inSpan s = true → exec (.relayedEvent e none t a) s =
    .next ((([0, 1, 2, 3] : List MbNo).filter (mailboxExists s)).foldl (deliver e false true (t - s.pair.timeOffset) a) s)) ∧
  (∀ s i f st p, dataOn s = true → s.pair.forwarded.find? (fun f => f.id == i) = some f → waitsFor s (.partner i) = true →
    exec (.relayedResponse i true st p) s = .next (finish (.partner i) st p (openedAcross i st
      (updPair (fun q => { q with forwarded := q.forwarded.filter (fun g => g.id != i) }) s)))) ∧
  (∀ s i st p, dataOn s = true → isDay s = true → s.pair.forwarded.find? (fun f => f.id == i) = none →
    exec (.relayedResponse i true st p) s = .next (persistPair [1] (nightApplied i s))) ∧
  (∀ s o, dataOn s = true → inSpan s = true → exec (.pairTimeMeasure o) s = .next (updPair (fun p => { p with timeOffset := o }) s)) ∧
  (∀ s p f good, dataOn s = true → isNight s = true → exec (.replicatedTraffic (.eth p f good)) s = .next (receiveEth p f good s)) ∧
  (∀ s p f, dataOn s = true → isNight s = true → exec (.replicatedTraffic (.can p f)) s = .next (receiveCan p f s)) ∧
  (∀ s u d p x, dataOn s = true → isNight s = true → findTunnel s (hostOnUp s u) (tpTid d.toNat) = some x → x.tid ≠ 0 →
    x.cls = tpClass d.toNat → exec (.replicatedTraffic (.packet u d p)) s = .next (receiveOn (hostOnUp s u) x ⟨d, p, true, true, false⟩ s)) ∧
  (∀ s, dataOn s = true → isNight s = true → exec .mirrorForwardTimeout s = .next (setPairState 10 (pairFault 1 0 s))) ∧
  (∀ s, dataOn s = true → isDay s = true → exec .mirrorForwardTimeout s = .next (setPairState 9 s)) ∧
  (∀ s b, dataOn s = true → s.pair.state = 8 →
    exec (.ilkRiseSeen b) s = .next (updPair (fun p => { p with ilkLow := false, claimWait := true, planned := b }) s)) ∧
  (∀ s b, dataOn s = true → s.pair.state ≠ 8 → exec (.ilkRiseSeen b) s = .next (updPair (fun p => { p with ilkLow := false }) s)) ∧
  (∀ s, dataOn s = true → s.pair.ilkLow = true → exec .ilkClaimWaitExpiry s = .next s) ∧
  (∀ s, dataOn s = true → s.pair.state = 8 → s.pair.claimWait = true → s.pair.ilkLow = false → exec .ilkClaimWaitExpiry s =
    .next (updPair (fun p => { p with claimWait := false, confirming := true, ilkDrive := true, ilkLow := true, bndDay := true }) s)) ∧
  (∀ s, dataOn s = true → s.pair.confirming = true → exec (.ilkClaimConfirm true) s = .next (becomeDay s) ∧
    exec (.ilkClaimConfirm false) s = .next (setPairState 10 (releaseIlk (pairFault 2 7 s)))) ∧
  (∀ s, dataOn s = true → s.pair.ilkDrive = true → exec .ilkHighWhileDay s = .next (faultRelease 2 s)) ∧
  (∀ n s, isDay s = true → faultRelease n s = pairFault n 7 (yieldDay false s)) ∧
  (∀ s, dataOn s = true → (isDay s = true ∨ isNight s = true) → s.pair.ilkDrive = false → exec .ilkNoHolderTimeout s =
    .next (pairFault 2 0 (updPair (fun p => { p with ilkFault := true, ilkLow := true, claimWait := false }) s))) ∧
  (∀ s, dataOn s = true → (s.activating = true → exec .pairWatchdogExpiry s = .next s) ∧
    (s.activating = false → exec .pairWatchdogExpiry s = .next (faultRelease 3 s))) ∧
  (∀ s k, dataOn s = true → exec (.signatureBoundary k) s = .next (sigBoundary k s)) ∧
  (∀ s k x, (isDay s = true ∨ isNight s = true) → k.kind ≠ 1 → s.pair.streams = [x] → x.key = k → x.bytes ≠ [] →
    sigBoundary k s = sendRecord k x.blocks (crc32 (x.bytes.take 4096)) (min 4096 x.bytes.length)
      (updPair (fun p => { p with streams := [{ x with blocks := x.blocks + 1, bytes := x.bytes.drop 4096 }] }) s)) ∧
  (∀ s k n v, dataOn s = true → (isDay s = true ∨ isNight s = true) →
    exec (.signatureRecordReceived k n v) s = .next (joinRecord ⟨k, n, false, v, false, 0⟩ s)) ∧
  (∀ s k n v r, isDay s = true → bondActive s = true → s.pair.records = [r] → r.key = k → r.seq = n → r.own = true → r.counts = true →
    joinRecord ⟨k, n, false, v, false, 0⟩ s =
      if r.value = v then updPair (fun p => { p with records := [] }) s else mismatch k (updPair (fun p => { p with records := [] }) s)) ∧
  (∀ s k n r, dataOn s = true → isDay s = true → s.pair.records = [r] → r.key = k → r.seq = n → r.own = true → r.counts = true →
    bondActive s = true →
    exec (.signatureRecordTimeout k n) s = .next (mismatch k (updPair (fun p => { p with records := [] }) s))) ∧
  (∀ s k, (mismatch k s).pair.mismatches = satInc s.pair.mismatches ∧ (s.pair.selfTest = none → (mismatch k s).pair.selfTest = some k)) ∧
  (∀ s a b, dataOn s = true → s.pair.selfTest ≠ none →
    exec (.pairSelftestDone a b) s = .next (verdict (a && !injectedAt s 0x15 4) b s)) ∧
  (∀ s, isDay s = true → (∃ r, verdict false true s = yieldDay false r) ∧ (∃ r, verdict true false s = nightFails r) ∧
    (∃ r, verdict false false s = nightFails (pairFault 4 0 r)) ∧ (verdict true true s).pair.selfTest = none) ∧
  (∀ s, (isDay s = true → nightFails s = setPairState 9 s) ∧ (isNight s = true → nightFails s = setPairState 10 s)) ∧
  (∀ s, dataOn s = true → waitsFor s .handover = true → s.pair.state = 7 → exec .handoverPlannedStart s = .next (yieldDay true s)) ∧
  (∀ s, dataOn s = true → s.pair.state = 7 → exec .dayPrsntRise s = .next (yieldDay false s)) ∧
  (∀ s, dataOn s = true → isDay s = true → s.pair.takeover = true →
    ∃ t, exec .newDayTakeover s = .next t ∧ t.pair.takeover = false ∧ t.pair.handoverTime = s.clock.hubTime ∧
      t.pair.handovers = satInc s.pair.handovers) ∧
  (∀ s h, dataOn s = true → isDay s = true → s.pair.silent.getLsbD h.val = true → exec (.layerOwnerSilentTimeout h) s =
    .next (loseHost h (updPair (fun p => { p with silent := setBit p.silent h.val false }) s)))

/-- Power-path commands: settings, status, policies and the clearing of faults. An allowed read of the feed, hot-swap, eFuse or
PD settings answers them, the eFuse channel with its state and trip count. An allowed setting within its ranges is taken,
stored in its record and answered: the feed windows are judged again, an eFuse channel that may conduct again is armed, and
a current limit of 0 powers its USB port off. A value out of range completes with BAD_ARG and no other effect. PWR_STATUS
answers its report, and with payload 1 clears the TRIP flags after it. PWR_FAULT_CLEAR, by its bits, ends a latched or
waiting hot swap with its count and retry time, clears eFuse trips, and ends a converter lockout that is in force; a bit
outside Table 11.9 is BAD_ARG. What the shell measures is a free value (log entry 2). (R426, R439, R440, R441, R442, R443,
R444, R445) -/
def Obligations.PowerCommands : Prop :=
  (∀ c s, accepted pwrFeedCfgSpec c s = true → c.payload = [] →
    exec (.pwrFeedCfg c) s = carried pwrFeedCfgSpec c (ok 0x0A01 c s.power.feedCfg) s) ∧
  (∀ c s, accepted pwrFeedCfgSpec c s = true → c.payload.length = 16 → feedCfgOk c.payload = true →
    exec (.pwrFeedCfg c) s = carried pwrFeedCfgSpec c (fun t =>
      ok 0x0A01 c c.payload (newFeedCfg c.payload t)) s) ∧
  (∀ b s, newFeedCfg b s = noteFeed (fun t => rewindow (rewindow t .a) .b)
    (storeSetting 16 b (updPower (fun p => { p with feedCfg := b }) s))) ∧
  (∀ c s, accepted pwrFeedCfgSpec c s = true → c.payload.length = 16 → feedCfgOk c.payload = false →
    exec (.pwrFeedCfg c) s = carried pwrFeedCfgSpec c (fail 0x0A01 c stBadArg) s) ∧
  (∀ c s, accepted pwrHotswapCfgSpec c s = true → c.payload = [] →
    exec (.pwrHotswapCfg c) s = carried pwrHotswapCfgSpec c (ok 0x0A02 c s.power.hswCfg) s) ∧
  (∀ c s, accepted pwrHotswapCfgSpec c s = true → c.payload.length = 16 → hswCfgOk c.payload = true →
    exec (.pwrHotswapCfg c) s = carried pwrHotswapCfgSpec c (fun t =>
      ok 0x0A02 c c.payload (storeSetting 17 c.payload (updPower (fun p => { p with hswCfg := c.payload }) t))) s) ∧
  (∀ c s, accepted pwrHotswapCfgSpec c s = true → c.payload.length = 16 → hswCfgOk c.payload = false →
    exec (.pwrHotswapCfg c) s = carried pwrHotswapCfgSpec c (fail 0x0A02 c stBadArg) s) ∧
  (∀ c s (ch : Fin 6), accepted pwrEfuseCfgSpec c s = true → c.target.toNat % 8 = ch.val → c.payload = [] →
    exec (.pwrEfuseCfg c) s = carried pwrEfuseCfgSpec c (fun t => ok 0x0A03 c (efuseReport ch t).1 (efuseReport ch t).2) s) ∧
  (∀ c s (ch : Fin 6), accepted pwrEfuseCfgSpec c s = true → c.target.toNat % 8 = ch.val → c.payload.length = 8 → efuseCfgOk c.payload = true →
    exec (.pwrEfuseCfg c) s = carried pwrEfuseCfgSpec c (fun t =>
      let u := updPower (fun p => { p with efuses := upd p.efuses ch (fun e => { e with setting := c.payload }) }) t
      let v := resumeEfuse ch (storeSetting 18 (u.power.efuses.toList.flatMap (fun e => e.setting)) u)
      let w := settlePorts7 (if fieldAt c.payload 0 2 = 0 && usbExternal v (ch.val + 1) then portOff ⟨ch.val + 1, by omega⟩ v else v)
      ok 0x0A03 c (efuseReport ch w).1 (efuseReport ch w).2) s) ∧
  (∀ c s (ch : Fin 6), accepted pwrEfuseCfgSpec c s = true → c.target.toNat % 8 = ch.val → c.payload.length = 8 → efuseCfgOk c.payload = false →
    exec (.pwrEfuseCfg c) s = carried pwrEfuseCfgSpec c (fail 0x0A03 c stBadArg) s) ∧
  (∀ c s, accepted pwrEfuseCfgSpec c s = true → 6 ≤ c.target.toNat % 8 →
    exec (.pwrEfuseCfg c) s = carried pwrEfuseCfgSpec c (fail 0x0A03 c stBadArg) s) ∧
  (∀ c s, accepted pwrStatusSpec c s = true → c.payload = [] →
    exec (.pwrStatus c) s = carried pwrStatusSpec c (fun t => ok 0x0A04 c (pwrReport t).1 (pwrReport t).2) s) ∧
  (∀ c s, accepted pwrStatusSpec c s = true → c.payload = [1] →
    exec (.pwrStatusClear c) s = carried pwrStatusSpec c (fun t =>
      ok 0x0A04 c (pwrReport t).1 (updPower (fun p => { p with trip := 0 }) (pwrReport t).2)) s) ∧
  (∀ c s, accepted pwrPdPolicySpec c s = true → c.payload = [] →
    exec (.pwrPdPolicy c) s = carried pwrPdPolicySpec c (ok 0x0A05 c (pdPolicyReport s (tgUp c))) s) ∧
  (∀ c s, accepted pwrPdPolicySpec c s = true → c.payload.length = 8 → pdPolicyOk c.payload = true →
    exec (.pwrPdPolicy c) s = carried pwrPdPolicySpec c (fun t =>
      let u := setPdPolicy (tgUp c) c.payload t
      ok 0x0A05 c (pdPolicyReport u (tgUp c)) u) s) ∧
  (∀ c s, accepted pwrPdPolicySpec c s = true → c.payload.length = 8 → pdPolicyOk c.payload = false →
    exec (.pwrPdPolicy c) s = carried pwrPdPolicySpec c (fail 0x0A05 c stBadArg) s) ∧
  (∀ c s a b, accepted pwrFaultClearSpec c s = true → c.payload = [a, b] → a.toNat < 128 → b.toNat < 4 →
    exec (.pwrFaultClear c) s = carried pwrFaultClearSpec c (fun t =>
      let t := if a.toNat.testBit 0 then clearHsw t else t
      let t := ((List.finRange 6).filter (fun ch => a.toNat.testBit (ch.val + 1))).foldl clearEfuse t
      let t := if b.toNat.testBit 0 then clearLockout 0 t else t
      ok 0x0A06 c [] (if b.toNat.testBit 1 then clearLockout 1 t else t)) s) ∧
  (∀ s ch, clearEfuse s ch = updPower (fun p => { p with efuses := upd p.efuses ch (fun e => { e with tripped := false }) }) s) ∧
  (∀ u s, (s.power.pd[u].lockedOut = false → clearLockout u s = s) ∧ (s.power.pd[u].lockedOut = true →
    clearLockout u s = startFive u (updPd u (fun x => { x with lockedOut := false, faultTimes := [] }) s))) ∧
  (∀ c s, accepted pwrFaultClearSpec c s = true → c.payload = [1, 0] → (s.power.latched = true ∨ s.power.retryMs ≠ 0) →
    exec (.pwrFaultClear c) s = carried pwrFaultClearSpec c (fun t => ok 0x0A06 c []
      (settleHsw (storeRetry (updPower (fun p => { p with latched := false, retryMs := 0, count := 0 }) t)))) s) ∧
  (∀ c s, accepted pwrFaultClearSpec c s = true → c.payload = [1, 0] → s.power.latched = false → s.power.retryMs = 0 →
    exec (.pwrFaultClear c) s = carried pwrFaultClearSpec c (ok 0x0A06 c []) s) ∧
  (∀ c s, accepted pwrFaultClearSpec c s = true → (128 ≤ byteAt c.payload 0 ∨ 4 ≤ byteAt c.payload 1) →
    exec (.pwrFaultClear c) s = carried pwrFaultClearSpec c (fail 0x0A06 c stBadArg) s)

/-- The power-path shell: feeds, hot swap, retry and eFuse trips. While the shell runs: a feed enters its window at UV and below
OV, and leaves it below 0.98 of UV or from OV on; the preferred feed that qualifies with none in use is taken with event 58,
which may wake the chip; feed A in use that leaves its window is logged and feed B, in its window, follows after the gap;
the revertive return and the gap act so; with no feed HSW_GATE goes low. The insertion delay starts the ramp; power-good
raises PG_OUT, and its loss is the fall of PG_OUT; a fast trip or a ramp time-out is a fault; current regulation after the
ramp starts the ramp timer, its end with VDS below 100 mV stops it; the end of the retry time lets the ramp start again, its
checkpoint stores it, and the count is cleared after good time; a removed card drives the gate low and one inserted starts
afresh. An eFuse trip opens its channel, sets TRIP, counts, raises event 60 and logs; its off time ends. (R413, R414, R415,
R416, R417, R418, R420, R421, R423, R424, R425, R429) -/
def Obligations.PowerShell : Prop :=
  (∀ s, s.power.shell = true → exec .shellStart s = .next s) ∧
  (∀ s, s.power.shell = false → ∃ t, exec .shellStart s = .next t ∧ t.clock.powered = true ∧ t.clock.inReset = true) ∧
  (∀ s f v, s.power.shell = true → (feedOf s.power f).inWindow = false → (senseFeed s.power v.toNat (feedOf s.power f)).inWindow = true →
    exec (.feedWindowEnter f v) s = .next (updPower (fun p => setFeed f (senseFeed p v.toNat) p) s)) ∧
  (∀ p m x, x.high = false → ((senseFeed p m x).inWindow = true ↔
    m < feedOv p ∧ if x.inWindow then 98 * feedUv p ≤ 100 * m else feedUv p ≤ m)) ∧
  (∀ s f, s.power.shell = true → (feedOf s.power f).inWindow = true → s.power.inUse = none → s.power.toFeed = none → pwPreferred s.power = f →
    exec (.feedQualified f) s = .next (recogniseToo 0x20 (useFeed (some f) (updPower (setFeed f (fun x => { x with qualified := true })) s)))) ∧
  (∀ s f, s.power.inUse ≠ some f → useFeed (some f) s =
    settleHsw (raise .all 58 (match f with | .a => 0 | .b => 1) (updPower (fun p => { p with inUse := some f }) s))) ∧
  (∀ s v, s.power.shell = true → s.power.feedA.inWindow = true → s.power.feedB.inWindow = true → s.power.inUse = some .a → s.power.toFeed = none →
    (senseFeed s.power v.toNat s.power.feedA).inWindow = false →
    exec (.feedWindowLeave .a v) s = .next (updPower (fun p => { p with toFeed := some .b })
      (powerFault 0x10 0 1 0 (updPower (fun p => setFeed .a (senseFeed p v.toNat) p) s)))) ∧
  (∀ s, s.power.shell = true → pwRevertive s.power = true → pwPreferred s.power = .a → s.power.inUse = some .b → s.power.feedA.qualified = true →
    s.power.toFeed = none → exec .feedReturnDelayExpiry s = .next (updPower (fun p => { p with toFeed := some .a }) s)) ∧
  (∀ s f, s.power.shell = true → s.power.toFeed = some f → s.power.inUse ≠ some f →
    exec .feedGapExpiry s = .next (recogniseToo 0x20 (useFeed (some f) (updPower (fun p => { p with toFeed := none }) s)))) ∧
  (∀ s f, s.power.shell = true → s.power.toFeed = some f → s.power.inUse = some f →
    exec .feedGapExpiry s = .next (updPower (fun p => { p with toFeed := none }) s)) ∧
  (∀ s, s.power.shell = true → s.power.inUse = none →
    exec .noFeedTimeout s = .next (gateOff 0 (updPower (fun p => { p with inserted := false }) s))) ∧
  (∀ s, s.power.shell = true → s.power.seated = true → s.power.inUse ≠ none → s.power.retryMs = 0 → s.power.latched = false → s.power.gate = false →
    exec .insertionDelayExpiry s = .next (startRamp (updPower (fun p => { p with inserted := true }) s))) ∧
  (∀ s, s.power.shell = true → s.power.gate = true → s.power.pg = false → exec .powerGood s = .next (pgRise s)) ∧
  (∀ s, s.power.shell = true → s.power.pg = true → exec .vbusGateDelayExpiry s = .next (updPower (fun p => { p with vbusGate := true }) s)) ∧
  (∀ s, s.power.shell = true → s.power.pg = true →
    exec .powerFail s = .next (updPower (fun p => { p with hsw := if p.hsw = 3 then 2 else p.hsw }) (pgFall s))) ∧
  (∀ s v, s.power.shell = true → s.power.gate = true → exec (.fastTrip v) s = .next (hswFault 1 v s)) ∧
  (∀ s v, s.power.shell = true → s.power.gate = true → s.power.ramping = true → exec (.rampTimerExpiry v) s = .next (hswFault 2 v s)) ∧
  (∀ s v, s.power.shell = true → s.power.gate = true → s.power.inserting = false →
    exec (.hotswapRegulation true v) s = .next (updPower (fun p => { p with ramping := true, hsw := 4 }) s) ∧
    (v.toNat < 10 → exec (.hotswapRegulation false v) s =
      .next (updPower (fun p => { p with ramping := false, hsw := if p.pg then 3 else 2 }) s))) ∧
  (∀ s, s.power.shell = true → s.power.retryMs ≠ 0 →
    exec .retryTimerExpiry s = .next (settleHsw (storeRetry (updPower (fun p => { p with retryMs := 0 }) s))) ∧
    exec .retryStateCheckpoint s = .next (storeRetry (updPower (fun p => { p with retryMs := max 1 (p.retryMs - 1) }) s))) ∧
  (∀ s, s.power.shell = true → s.power.pg = true → exec .retryCountReset s = .next (storeRetry (updPower (fun p => { p with count := 0 }) s))) ∧
  (∀ s, s.power.shell = true → exec .prsntRemoved s = .next (gateOff 0 (updPower (fun p => { p with seated := false, inserted := false }) s))) ∧
  (∀ s, s.power.shell = true → s.power.seated = false →
    exec .prsntInserted s = .next (settleHsw (updPower (fun p => { p with seated := true, inserted := false }) s))) ∧
  (∀ s ch ma, s.power.shell = true → s.power.efuses[ch].on = true →
    exec (.efuseOverloadTrip ch ma) s = .next (efuseTrip ch 1 ma s) ∧ exec (.efuseSevereTrip ch ma) s = .next (efuseTrip ch 2 ma s)) ∧
  (∀ s ch cause ma, s.power.efuses[ch].on = true → efuseTrip ch cause ma s =
    (let t := powerFault 0x12 (2 + ch.val) cause ma (raise .all 60 ch.val (updPower (fun p => { p with
      efuses := upd p.efuses ch (fun e => { e with on := false, tripped := true, held := true, offTime := true, trips := satInc e.trips })
      trip := setBit p.trip ch.val true }) s))
    if usbExternal t (ch.val + 1) then portOverCurrent ⟨ch.val + 1, by omega⟩ t else t)) ∧
  (∀ s ch, s.power.shell = true → exec (.efuseOffTimeExpiry ch) s =
    .next (updPower (fun p => { p with efuses := upd p.efuses ch (fun e => { e with offTime := false }) }) s))

/-- USB PD sources: VBUS and PG_OUT, attach, contract, hard reset and the converters. While PG_OUT is low no uplink may have
VBUS, and its fall opens each VBUS switch and ends its contract. While the shell runs: an attachment on a chip's uplink
whose converter answers records the CC pin and the cable and, where it may, puts VBUS to 5 V, and may wake the chip; VBUS
ready sends the capabilities; a Request the offer holds is accepted and any other rejected; the accepted contract sets the
converter, and at the end of the transition is in force with PS_RDY and event 61, and the first one on a cable not qualified
falls back; a late PS_RDY, a missing PPS Request or answer to new capabilities is a Hard Reset; a Get_Status, a swap or a
message outside Table 11.6 gets Not_Supported. A detach cuts VBUS and ends the host. A fault shown by a converter is handled
once for an alert or a poll. (R431, R432, R433, R434, R435, R436, R437) -/
def Obligations.PdSources : Prop :=
  (∀ s u, s.power.pg = false → mayVbus s u = false) ∧
  (∀ (s : State) (u : Up), s.power.pg = true → (pgFall s).power.pg = false ∧ (pgFall s).power.pd[u].vbus = false ∧
    (pgFall s).power.pd[u].contract = none ∧ (pgFall s).power.pd[u].accepted = none) ∧
  (∀ s u b k, s.power.shell = true → s.power.pd[u].vbus = false → s.power.pd[u].convAbsent = false → mayVbus s u = true →
    exec (.pdAttach u b k) s = .next (recogniseToo (BitVec.ofNat 8 (0x14 + u.val)) (refreshOffer (otherUp u)
      (emits [.pmbus (.vbus u) 0x21 5000, .pmbus (.vbus u) 0x01 0x80] (updPd u (fun x => { x with vbus := true })
        (updPd u (fun x => { x with cable := some k })
          (updLink (linkOfUp u) (fun l => { l with cc := if b then 2 else 1, qualified := k.emarker && k.speed == 3 }) s))))))) ∧
  (∀ s u b k, s.power.shell = true → u.val < uplinks s → s.power.pd[u].vbus = false → s.power.pd[u].convAbsent = false → mayVbus s u = false →
    exec (.pdAttach u b k) s = .next (recogniseToo (BitVec.ofNat 8 (0x14 + u.val)) (refreshOffer (otherUp u)
      (updPd u (fun x => { x with cable := some k })
        (updLink (linkOfUp u) (fun l => { l with cc := if b then 2 else 1, qualified := k.emarker && k.speed == 3 }) s))))) ∧
  (∀ s u, s.power.shell = true → u.val < uplinks s → s.links[linkOfUp u].cc ≠ 0 → mayVbus s u = true → s.power.pd[u].offer = [] →
    exec (.pdVbusReady u) s = .next (sendCaps u (updPd u (fun x => { x with vbus := true })
      (updPerf (fun p => { p with abandoned := p.abandoned.set (u.val + 1) 0 }) s)))) ∧
  (∀ s u rq k, s.power.shell = true → s.power.pd[u].vbus = true → s.power.pd[u].offer ≠ [] → requestFits s.power u rq = some k →
    exec (.pdRequest u rq) s = .next (emit (.pd u "Accept" []) (updPd u (fun x => { x with accepted := some k, newCaps := false }) s))) ∧
  (∀ s u rq, s.power.shell = true → s.power.pd[u].vbus = true → s.power.pd[u].offer ≠ [] → requestFits s.power u rq = none →
    exec (.pdRequest u rq) s = .next (emit (.pd u "Reject" []) s)) ∧
  (∀ s u k, s.power.shell = true → s.power.pd[u].accepted = some k → exec (.pdTransitionStart u) s = .next (setConverter u k s)) ∧
  (∀ s u k t, s.power.shell = true → s.power.pd[u].accepted = some k →
    t = refreshOffer (otherUp u) (raise .all 61 (256 * u.val + k.idx.toNat)
      (emit (.pd u "PS_RDY" []) (updPd u (fun x => { x with contract := some k, accepted := none }) s))) →
    ((s.power.pd[u].contract ≠ none ∨ t.links[linkOfUp u].qualified = true ∨ t.links[linkOfUp u].state ≠ 0) →
      exec (.pdTransitionDone u) s = .next t) ∧
    (s.power.pd[u].contract = none → t.links[linkOfUp u].qualified = false → t.links[linkOfUp u].state = 0 →
      exec (.pdTransitionDone u) s = .next (fallBackOrOwe u t))) ∧
  (∀ s u, s.power.shell = true → s.power.pd[u].accepted ≠ none → exec (.pdPsRdyTimeout u) s = .next (hardReset u true s)) ∧
  (∀ s u, s.power.shell = true → u.val < uplinks s → s.links[linkOfUp u].cc ≠ 0 → ∃ t, exec (.pdDetach u) s = .next t ∧
    t.power.pd[u].cable = none ∧ t.links[linkOfUp u].cc = 0 ∧ t.links[linkOfUp u].qualified = false) ∧
  (∀ s u, s.power.shell = true → u.val < uplinks s → s.links[linkOfUp u].cc ≠ 0 → exec (.pdHardReset u) s = .next (hardReset u false s)) ∧
  (∀ s u k, s.power.shell = true → s.power.pd[u].contract = some k → k.pps = true → exec (.pdPpsRequestTimeout u) s = .next (hardReset u true s)) ∧
  (∀ s u, s.power.shell = true → s.power.pd[u].newCaps = true → exec (.pdNewCapsTimeout u) s = .next (hardReset u true s)) ∧
  (∀ s u m, s.power.shell = true → u.val < uplinks s → s.links[linkOfUp u].cc ≠ 0 →
    (m = .getStatus ∨ m = .drSwap ∨ m = .prSwap ∨ m = .vconnSwap) → exec (.pdOtherMessage u m) s = .next (emit (.pd u "Not_Supported" []) s)) ∧
  (∀ s u n, s.power.shell = true → u.val < uplinks s → s.links[linkOfUp u].cc ≠ 0 → n ≠ 0x11 →
    exec (.pdOtherMessage u (.other n)) s = .next (emit (.pd u "Not_Supported" []) s)) ∧
  (∀ s u, s.power.shell = true → u.val < uplinks s → s.power.pd[u].convAbsent = false →
    exec (.pmbusAlert u) s = .next (converterFault u s) ∧ exec (.pmbusStatusPoll u true) s = .next (converterFault u s) ∧
    exec (.pmbusStatusPoll u false) s = .next s)

/-- Power-state commands, island sleep, Stop, waking and brown-out. Reads answer island states and settings, the wake settings
and PM_STATUS; parking an island that may enter S2 puts it there and stores the setting, and one that may not answers BUSY;
wake settings are stored; PM_STATUS with payload 1 clears what it reported. A permitted PM_STOP answers OK and quiesces the
blocks; the point of no return counts the entry and turns VDD_FAB off; Twilight follows, and a latched source wakes at once.
A debounced pin that carries no CAN wake, and a recognised source, when enabled raise event 62 in Run, abort the entry, are
latched past the point of no return and while waking, and wake from Stop; a CAN wake in Run raises event 53. The wake ends
with the kept state, and event 62 unless an uplink is still returning, or without retention as a cold start that notes it; a
brown-out in Twilight is a cold start. (R448, R449, R450, R453, R454, R455, R456, R457, R458, R465, R467, R468) -/
def Obligations.PowerStates : Prop :=
  (∀ c s, accepted pmIslandSetSpec c s = true → c.payload = [] →
    exec (.pmIslandSet c) s = carried pmIslandSetSpec c (ok 0x0B01 c (islandReport s)) s) ∧
  (∀ c s (i : Fin 10), accepted pmIslandSetSpec c s = true → c.payload = [BitVec.ofNat 8 (i.val + 1), 1, 0, 0] →
    s.pm.setting[i.val] ≠ 1 → s2Allowed s (Fin.castLE (by omega) i) = true →
    exec (.pmIslandSet c) s = carried pmIslandSetSpec c (fun t =>
      let u := updPm (fun p => { p with setting := p.setting.set i.val 1 }) t
      let v := updPm (fun p => { p with island := p.island.set i.val 2 }) u
      let w := storeSetting 22 (leBytes 4 (parkMap v)) v
      ok 0x0B01 c (islandReport w) w) s) ∧
  (∀ c s (i : Fin 10), accepted pmIslandSetSpec c s = true → c.payload = [BitVec.ofNat 8 (i.val + 1), 1, 0, 0] →
    s.pm.setting[i.val] ≠ 1 → s2Allowed s (Fin.castLE (by omega) i) = false →
    exec (.pmIslandSet c) s = carried pmIslandSetSpec c (fail 0x0B01 c stBusy) s) ∧
  (∀ c s, accepted pmWakeCfgSpec c s = true → c.payload = [] →
    exec (.pmWakeCfg c) s = carried pmWakeCfgSpec c (ok 0x0B03 c s.pm.wakeCfg) s) ∧
  (∀ c s, accepted pmWakeCfgSpec c s = true → c.payload.length = 8 → byteAt c.payload 1 < 16 → zeroAt c.payload 6 2 = true →
    exec (.pmWakeCfg c) s = carried pmWakeCfgSpec c (fun t => ok 0x0B03 c c.payload (storeSetting 21 c.payload (updPm (fun p =>
      { p with wakeCfg := c.payload
               pinActive := p.pinActive ^^^ (BitVec.ofNat 4 (byteAt c.payload 1) ^^^ BitVec.ofNat 4 (byteAt s.pm.wakeCfg 1)) }) t))) s) ∧
  (∀ c s, accepted pmStatusSpec c s = true → c.payload = [] →
    exec (.pmStatus c) s = carried pmStatusSpec c (ok 0x0B04 c (pmReport s)) s) ∧
  (∀ c s, accepted pmStatusSpec c s = true → c.payload = [1] → s.pm.brownOut = false →
    exec (.pmStatusClear c) s = carried pmStatusSpec c (fun t =>
      ok 0x0B04 c (pmReport s) (updPm (fun p => { p with brownOut := false, sources := 0 }) t)) s) ∧
  (∀ c s, accepted pmStatusSpec c s = true → c.payload = [1] → s.pm.brownOut = true →
    exec (.pmStatusClear c) s = carried pmStatusSpec c (fun t =>
      ok 0x0B04 c (pmReport s) (storePm (updPm (fun p => { p with brownOut := false, sources := 0 }) t))) s) ∧
  (∀ c s, accepted pmStopSpec c s = true → byteAt c.payload 0 ≤ 1 → zeroAt c.payload 1 3 = true → s.pair.state = 0 →
    stopBusy s = false → byteAt s.pm.wakeCfg 0 ≠ 0 → hasConv s = true → pinWaiting s = false →
    exec (.pmStop c) s = carried pmStopSpec c (fun t => stopBlocks (updPm (fun p => { p with
      phase := .entering, retain := byteAt c.payload 0 == 1, sources := 0, heldBack := [], wakeOwed := none }) (ok 0x0B02 c [] t))) s) ∧
  (∀ s i, dataOn s = true → s.pm.setting[i] ≠ 1 → s2Allowed s i = true →
    exec (.islandSleepEntry i true) s = .next (updPm (fun p => { p with island := p.island.set i 2 }) s)) ∧
  (∀ s i, dataOn s = true → s.pm.setting[i] ≠ 1 → s.pm.island[i] = 0 → s1Allowed s i = true → s1Automatic s i = true →
    exec (.islandSleepEntry i false) s = .next (updPm (fun p => { p with island := p.island.set i 1 }) s)) ∧
  (∀ s i, dataOn s = true → s.pm.setting[i] ≠ 1 →
    exec (.islandSleepExit i) s = .next (updPm (fun p => { p with island := p.island.set i 0 }) s)) ∧
  (∀ s, aonOn s = true → s.flt.safe = none → s.pm.phase = .entering → exec .stopPointOfNoReturn s =
    .next (storePm (emit (.pmbus .vddFab 0x01 0) (updPm (fun p => { p with phase := .committed, stops := satInc p.stops }) { s with ready := false })))) ∧
  (∀ s, aonOn s = true → s.flt.safe = none → s.pm.phase = .committed → s.pm.sources = 0 → exec .twilightEntry s =
    .next (updPm (fun p => { p with phase := .stop, twilight := true, island := p.island.set 10 (if s.pm.retain then 1 else 2) }) s)) ∧
  (∀ s, aonOn s = true → s.flt.safe = none → s.pm.phase = .committed → s.pm.sources ≠ 0 → exec .twilightEntry s =
    .next (startWake (updPm (fun p => { p with phase := .stop, twilight := true, island := p.island.set 10 (if s.pm.retain then 1 else 2) }) s))) ∧
  (∀ s pin, aonOn s = true → s.flt.safe = none → s.pm.pinActive.getLsbD pin.val = false → canOfPin s pin = [] →
    exec (.wakePinDebounced pin true) s = .next (recognise (BitVec.ofNat 8 (1 + pin.val))
      (updPm (fun p => { p with pinActive := setBit p.pinActive pin.val true }) s))) ∧
  (∀ s pin, aonOn s = true → s.flt.safe = none →
    exec (.wakePinDebounced pin false) s = .next (updPm (fun p => { p with pinActive := setBit p.pinActive pin.val false }) s)) ∧
  (∀ s src, aonOn s = true → s.flt.safe = none → exec (.wakeSourceRecognised src) s = .next (recognise src.code s)) ∧
  (∀ s code, sourceEnabled s code = true → s.pm.phase = .stop → recognise code s = startWake (latchSource code s)) ∧
  (∀ s code, sourceEnabled s code = true → s.pm.phase = .entering → recognise code s = abortStop (latchSource code s)) ∧
  (∀ s code, sourceEnabled s code = true → s.pm.phase = .run → (code.toNat ≤ 4 ∨ code = 0x20) → recognise code s = raise .all 62 code.toNat s) ∧
  (∀ s code, sourceEnabled s code = true → (s.pm.phase = .committed ∨ s.pm.phase = .waking) → recognise code s = latchSource code s) ∧
  (∀ s code, sourceEnabled s code = false → recognise code s = s) ∧
  (∀ s p, s.pm.phase = .run → canPresent s p = true → cpMode s.can.ports[p] = 3 → cpFlag s.can.ports[p] 3 = true →
    cpFlag s.can.ports[p] 7 = false → canWakeOn p s = raise .all 53 p.val s) ∧
  (∀ s p, aonOn s = true → s.flt.safe = none → cpFlag s.can.ports[p] 4 = false → exec (.canWake p) s = .next (canWakeOn p s)) ∧
  (∀ s, aonOn s = true → s.flt.safe = none → s.pm.phase = .waking → exec .wakeVddFabReady s = .next (updPm (fun p => { p with resumed := true }) s)) ∧
  (∀ s, aonOn s = true → s.flt.safe = none → s.pm.phase = .waking → s.pm.resumed = true →
    (s.pm.retain = true → exec .wakeComplete s = .next (wakeRetained s)) ∧
    (s.pm.retain = false → exec .wakeComplete s = .next (wakeCold s))) ∧
  (∀ s, ∃ r, wakeRetained s = if uplinkReturning r then r else wakeEvent r) ∧
  (∀ s, (wakeCold s).pm.noRetention = true ∧ (wakeCold s).pm.wakeOwed = some s.pm.lastSource) ∧
  (∀ s, aonOn s = true → s.flt.safe = none → s.ready = true → s.pm.phase = .run → exec .wakeEventTimeout s = .next (wakeEvent s)) ∧
  (∀ s, aonOn s = true → s.flt.safe = none → s.pm.twilight = true →
    exec .twilightBrownout s = .next (restart true none (updPm (fun p => { p with brownNote := true }) s)))

/-- Fault, injection, check-channel, scrub and repair commands. FLT_STATUS answers its report, with payload 1 clears the class
counters after it, and with operation 2 in the allowed life cycle takes the set of disabled classes, which only maskable
ones may be. FLT_LOG_READ answers the newest index, the entries written and those of the range that the requester may see; a
range of more than 15 entries is BAD_ARG. FLT_INJECT answers OK before its fault, which is transient or held, and operation
2 ends every held injection; a location that does not exist is BAD_ARG, and class 0x15 outside Mirror PAIR_ROLE. A check
channel that nothing uses is configured, and one is assigned and read, as its bytes say. SCRUB_CFG is reported, taken within
its ranges and stored in word 24. REPAIR_STATUS answers the repairs made and left. (R488, R490, R491, R492, R493, R494,
R495) -/
def Obligations.IntegrityCommands : Prop :=
  (∀ c s, accepted fltStatusSpec c s = true → c.payload = [] →
    exec (.fltStatus c) s = carried fltStatusSpec c (ok 0x0C01 c (fltReport s)) s) ∧
  (∀ c s, accepted fltStatusSpec c s = true → c.payload = [1] → exec (.fltStatusClear c) s = carried fltStatusSpec c (fun t =>
    ok 0x0C01 c (fltReport s) (updFlt (fun f => { f with counts := Vector.replicate 24 0 }) t)) s) ∧
  (∀ c s m, accepted fltStatusSpec c s = true → c.payload = [2, 0, 0, 0] ++ leBytes 4 m → m < 4294967296 → m &&& 0x0D86 = m →
    exec (.fltStatusDisable c) s = carried fltStatusSpec c (fun t =>
      let u := updFlt (fun f => { f with disabled := BitVec.ofNat 24 m }) t
      ok 0x0C01 c (fltReport u) u) s) ∧
  (∀ c s m, accepted fltStatusSpec c s = true → c.payload = [2, 0, 0, 0] ++ leBytes 4 m → m < 4294967296 → m &&& 0x0D86 ≠ m →
    exec (.fltStatusDisable c) s = carried fltStatusSpec c (fail 0x0C01 c stBadArg) s) ∧
  (∀ c s, accepted fltLogReadSpec c s = true → byteAt c.payload 2 ≤ 15 → zeroAt c.payload 3 1 = true →
    exec (.fltLogRead c) s = carried fltLogReadSpec c (fun t =>
      let es := (List.range (byteAt c.payload 2)).filterMap (fun i => t.flt.log.find? (fun e =>
        e.index.toNat == (fieldAt c.payload 0 2 + i) % 65536 && shownTo (cmdRequester t c) e))
      ok 0x0C02 c (leBytes 2 (newestIndex t) ++ [BitVec.ofNat 8 es.length, 0]
        ++ wordBytes (if t.flt.log.isEmpty then 0 else t.flt.written) ++ zeros 8 ++ es.flatMap entryBytes) t) s) ∧
  (∀ c s, accepted fltLogReadSpec c s = true → 15 < byteAt c.payload 2 →
    exec (.fltLogRead c) s = carried fltLogReadSpec c (fail 0x0C02 c stBadArg) s) ∧
  (∀ c s (b : Bool), accepted fltInjectSpec c s = true → byteAt c.payload 1 = (if b then 1 else 0) → zeroAt c.payload 2 2 = true →
    (byteAt c.payload 0 ≠ 0x15 ∨ isDay s = true ∨ isNight s = true) →
    locationExists s (byteAt c.payload 0) (fieldAt c.payload 4 4) (fieldAt c.payload 8 8) = true →
    (if b then exec (.fltInjectPersistent c) s else exec (.fltInjectTransient c) s) = carried fltInjectSpec c (fun t =>
      causeFault (byteAt c.payload 0) (fieldAt c.payload 4 4) (fieldAt c.payload 8 8) b (ok 0x0C03 c [] t)) s) ∧
  (∀ c s, accepted fltInjectSpec c s = true → byteAt c.payload 1 = 0 → zeroAt c.payload 2 2 = true →
    byteAt c.payload 0 ≠ 0x15 → locationExists s (byteAt c.payload 0) (fieldAt c.payload 4 4) (fieldAt c.payload 8 8) = false →
    exec (.fltInjectTransient c) s = carried fltInjectSpec c (fail 0x0C03 c stBadArg) s) ∧
  (∀ c s, accepted fltInjectSpec c s = true → byteAt c.payload 1 = 0 → zeroAt c.payload 2 2 = true → byteAt c.payload 0 = 0x15 →
    isDay s = false → isNight s = false → exec (.fltInjectTransient c) s = carried fltInjectSpec c (fail 0x0C03 c stPairRole) s) ∧
  (∀ c s, accepted fltInjectSpec c s = true → byteAt c.payload 1 = 2 → zeroAt c.payload 2 2 = true → exec (.fltInjectClear c) s =
    carried fltInjectSpec c (fun t => ok 0x0C03 c [] (updFlt (fun f => { f with injections := [] }) t)) s) ∧
  (∀ c s w, accepted crcChannelSpec c s = true → byteAt c.payload 0 = 0 → byteAt c.payload 1 = w → (w = 8 ∨ w = 16 ∨ w = 24 ∨ w = 32 ∨ w = 64) →
    byteAt c.payload 2 ≤ 7 → zeroAt c.payload 3 1 = true → fieldAt c.payload 4 8 < 2 ^ w → fieldAt c.payload 12 8 < 2 ^ w → zeroAt c.payload 20 4 = true →
    channelTunnels s (tgChannel c) = 0 → channelRegions s (tgChannel c) = 0 →
    exec (.crcChannelConfigure c) s = carried crcChannelSpec c (fun t =>
      let u := updChannel c (fun x => { x with
        width := BitVec.ofNat 8 w, poly := BitVec.ofNat 64 (fieldAt c.payload 4 8), init := BitVec.ofNat 64 (fieldAt c.payload 12 8)
        refIn := (byteAt c.payload 2).testBit 0, refOut := (byteAt c.payload 2).testBit 1, finalInv := (byteAt c.payload 2).testBit 2 }) t
      ok 0x0C04 c (channelReport u c) u) s) ∧
  (∀ c s (a : Fin 8), accepted crcChannelSpec c s = true → byteAt c.payload 0 = 1 → zeroAt c.payload 1 2 = true → byteAt c.payload 3 = a.val →
    zeroAt c.payload 4 20 = true → (a = 7 ∨ hostOfCode a.val ≠ none) → exec (.crcChannelAssign c) s = carried crcChannelSpec c (fun t =>
      let u := updChannel c (fun x => { x with assign := a }) t
      ok 0x0C04 c (channelReport u c) u) s) ∧
  (∀ c s, accepted crcChannelSpec c s = true → byteAt c.payload 0 = 2 → zeroAt c.payload 1 23 = true →
    exec (.crcChannelRead c) s = carried crcChannelSpec c (ok 0x0C04 c (channelReport s c)) s) ∧
  (∀ c s, accepted scrubCfgSpec c s = true → c.payload = [] → exec (.scrubCfg c) s = carried scrubCfgSpec c (ok 0x0C05 c (scrubReport s)) s) ∧
  (∀ c s ms dh, accepted scrubCfgSpec c s = true → c.payload = leBytes 2 ms ++ leBytes 2 dh → 1 ≤ ms → ms ≤ 10 → 10 ≤ dh → dh ≤ 240 →
    exec (.scrubCfg c) s = carried scrubCfgSpec c (fun t =>
      let u := updFlt (fun f => { f with scrub := { f.scrub with sramMs := BitVec.ofNat 8 ms, dramDeciH := BitVec.ofNat 16 dh } }) t
      ok 0x0C05 c (scrubReport u) (storeWord 24 (BitVec.ofNat 32 (ms + 65536 * dh)) u)) s) ∧
  (∀ c s, accepted repairStatusSpec c s = true → c.payload = [] → exec (.repairStatus c) s = carried repairStatusSpec c
    (ok 0x0C06 c (leBytes 2 s.ident.rows.length ++ leBytes 2 (fullMacros s) ++ leBytes 2 s.ident.retired.length
      ++ leBytes 2 (128 - s.ident.retired.length) ++ leBytes 4 (sparesLeft s) ++ zeros 4)) s)

/-- Port isolation, processor restart, memory errors, REFCLK and the safe state. A fabric fault changes nothing on an isolated
port, and on another is logged; with its class enabled it isolates and tests the port, which does what Table 13.4 gives it:
a link's port retrains, the USB port is reset, an Ethernet port goes down, and port 14 or one of 16 to 19 enters the safe
state. A passed self-test ends the isolation. A core mismatch or a watchdog expiry restarts the processor; the watchdog
pauses while ACTIVATING is set; a first restart within 1 s holds READY off, discards staging and held requests, and its end
answers what it held. A corrected SRAM error is logged; an uncorrectable error is logged, poisons what it met and is
repaired. A scrub read goes on to the next word and acts on an error it met. REFCLK loss enters the safe state, which ends
in a warm reset once its cause has gone, unless it stays. (R46, R474, R476, R477, R478, R479, R480, R484, R485) -/
def Obligations.FaultHandling : Prop :=
  (∀ s p x b f, coreOn s = true → s.flt.isolated.getLsbD p.val = true → exec (.fabricInvalidCode p x b f) s = .next s ∧
    ∀ ph, exec (.fabricStall p x ph) s = .next s) ∧
  (∀ s p x ph, coreOn s = true →
    exec (.fabricStall p x ph) s = .next (fabricFault 0x02 p (p.val + 256 * bitNat x + 512 * ph.toNat) false s)) ∧
  (∀ s p x b f, coreOn s = true → exec (.fabricInvalidCode p x b f) s =
    .next (fabricFault 0x01 p (p.val + 256 * bitNat x + 512 * b.toNat + 2 ^ 18 * bitNat f) false s)) ∧
  (∀ s cls p loc j, s.flt.isolated.getLsbD p.val = false → (logFault cls loc { reaction := 2, injected := j } s).flt.disabled.getLsbD cls.val = true →
    fabricFault cls p loc j s = logFault cls loc { reaction := 2, injected := j } s) ∧
  (∀ s cls p loc j t, s.flt.isolated.getLsbD p.val = false → (logFault cls loc { reaction := 2, injected := j } s).flt.disabled.getLsbD cls.val = false →
    t = setReaction cls loc 2 (updFlt (fun f =>
      { f with isolated := setBit f.isolated p.val true, testing := setBit f.testing p.val true })
      (logFault cls loc { reaction := 2, injected := j } s)) →
    (safePort p = true → fabricFault cls p loc j s = enterSafe .other (setReaction cls loc 6 t)) ∧
    (safePort p = false → p ≠ 3 → p ≠ 4 → p ≠ 5 → p ≠ 12 → fabricFault cls p loc j s = isolateEffect p t) ∧
    (p = 3 ∨ p = 4 ∨ p = 5 → fabricFault cls p loc j s = releaseFor cls loc t) ∧
    (p = 12 → fabricFault cls p loc j s = releaseFor cls loc (processorRestart cls loc t))) ∧
  (∀ p, safePort p = true ↔ p = 14 ∨ 16 ≤ p.val) ∧
  (∀ s, isolateEffect 0 s = startRetrain 0 true s ∧ isolateEffect 1 s = startRetrain 1 true s ∧ isolateEffect 2 s = startRetrain 2 true s ∧
    isolateEffect 8 s = resetUsbPorts false s ∧ isolateEffect 9 s = ethDown 0 s ∧ isolateEffect 10 s = ethDown 1 s) ∧
  (∀ s p, coreOn s = true → p ≠ 15 → s.flt.testing.getLsbD p.val = true → injectedPort s p = false →
    exec (.portSelftestDone p true) s = .next (setPortReaction p 3 (updFlt (fun f =>
      { f with isolated := setBit f.isolated p.val false, testing := setBit f.testing p.val false }) s))) ∧
  (∀ s p, coreOn s = true → p ≠ 15 → s.flt.testing.getLsbD p.val = true → exec (.portSelftestDone p false) s = .next (failPort p s)) ∧
  (∀ s g, coreOn s = true → s.flt.restarting = false → exec (.lockstepMismatch g) s = .next (coreFault 0x07 g.toNat false s)) ∧
  (∀ s, coreOn s = true → s.flt.restarting = false → s.activating = false → exec .processorWatchdogExpiry s = .next (coreFault 0x08 0 false s)) ∧
  (∀ s, s.activating = true → exec .processorWatchdogExpiry s = .next s) ∧
  (∀ s cls loc, s.flt.lastRestart = none → ∃ t, processorRestart cls loc s = setReaction cls loc 5 t ∧ t.flt.restarting = true ∧
    t.ready = false ∧ t.fw.staging = false ∧ t.perf.held = [] ∧ t.flt.safe = s.flt.safe) ∧
  (∀ s, coreOn s = true → s.flt.restarting = true → s.pend = [] → s.flt.injections = [] →
    exec .processorRestartDone s = .next (updFlt (fun f => { f with restarting := false }) { s with ready := true, pend := [] })) ∧
  (∀ s p k, coreOn s = true → s.flt.restarting = true → s.pend = [p] → p.kind = .restart k →
    s.flt.injections = [] → exec .processorRestartDone s =
      .next (answerRestart (updFlt (fun f => { f with restarting := false }) { s with ready := true, pend := [] }) p)) ∧
  (∀ s p k, p.kind = .restart k → answerRestart s p = finishOne (if committedKind p.kind then stOk else stBusy) [] s p) ∧
  (∀ s e, coreOn s = true → e.double = false → e.dram = false → injectedHere s e = false → exec (.memoryEccError e) s =
    .next (logFault 3 (e.sram.toNat + 65536 * e.row.toNat) { reaction := 0, detail := e.syndrome, addr := 0 } s)) ∧
  (∀ s e, coreOn s = true → e.double = true → injectedHere s e = false → exec (.memoryEccError e) s =
    .next (repair e (poisonEffect e (logFault (eccClass e) (eccLoc e) { reaction := 1, detail := e.syndrome, addr := eccAddr e } s)))) ∧
  (∀ s d e, scrubs s = true → exec (.scrubRead d e) s = .next (scrubStep d e s)) ∧
  (∀ s d, s.flt.injections = [] → scrubStep d none s = scrubOn d s ∧
    ∀ e, e.dram = d → scrubStep d (some e) s = scrubOn d (scrubFound e s)) ∧
  (∀ s d e, s.flt.isolated.getLsbD 13 = true → exec (.scrubRead d e) s = .next s) ∧
  (∀ s, s.clock.powered = true → s.clock.refclk = true → coreOn s = true → s.flt.safe = none → ∃ t, exec .refclkLoss s = .next (enterSafe .refclk t) ∧
    t = logFault 0x09 0 { reaction := 6 } { s with clock := { s.clock with refclk := false, untimed := true } }) ∧
  (∀ s, exec .refclkReturn s = .next { s with clock := { s.clock with refclk := true } }) ∧
  (∀ s, s.flt.safeStays = false → coreOn s = true → s.flt.safe = some .refclk →
    (s.clock.refclk = true → exec .safeStateExit s = .next (restart false none s)) ∧
    (s.clock.refclk = false → exec .safeStateExit s = .next s)) ∧
  (∀ s, s.flt.safeStays = true → exec .safeStateExit s = .next s) ∧
  (∀ s, s.flt.safeStays = false → coreOn s = true → s.flt.safe = some .critical →
    (s.tel.tj.toInt < 920 → exec .safeStateExit s = .next (restart false none s)) ∧
    (920 ≤ s.tel.tj.toInt → exec .safeStateExit s = .next s)) ∧
  (∀ s, s.flt.safeStays = false → coreOn s = true → s.flt.safe = some .other → exec .safeStateExit s = .next (restart false none s)) ∧
  (∀ s, s.flt.safe = some .scrapped → exec .safeStateExit s = .next s)

/-- World tables, life-cycle status and transitions, wear counts and attestation. Reads answer the Block and the Region World
Table. An entry set over no live resource is taken, stored in record 4 and answered OK; one that takes a right from a host
with a live resource there is BUSY; a byte for an entry not for tunnel buffers is BAD_ARG. LC_STATUS answers the state, and
issues the owner a new nonce, which is a free value; NV_WEAR_READ answers the wear counts in its range, else BAD_ARG;
SEC_ATTEST answers its report, signed, and its certificate, whose signature and bytes are external (log entry 3), and fails
with NO_RESOURCE once that engine's port has failed its self-test. LC_TRANSITION on an unpaired chip, of a transition and
signer the table names, runs where its nonce, key field and signature hold, and is BAD_ARG else: it posts PENDING and
quiesces, the new state, its owner key and the wipe-pending flag are written and the cold reset begins; a paired chip
answers PAIR_ROLE, any other transition LIFECYCLE. Whether a signature verifies is external (log entry 3). (R500, R503,
R515, R524, R525, R526, R527, R505, R506, R507) -/
def Obligations.WorldCommands : Prop :=
  (∀ c s, accepted secBlockWorldSpec c s = true → c.payload = [] →
    exec (.secBlockWorld c) s = carried secBlockWorldSpec c (ok 0x0D01 c (s.worlds.block.toList.flatMap wordBytes)) s) ∧
  (∀ c s (b : Fin 16) (v : Nat), accepted secBlockWorldSpec c s = true → c.payload = [BitVec.ofNat 8 b.val, 1, 0, 0] ++ leBytes 4 v → v < 4294967296 →
    v / 2 ^ 17 % 2 ^ 14 = 0 → v % 256 = 0 → (∀ h, liveIn s (Fin.castLE (by omega) b) h = false) →
    exec (.secBlockWorld c) s = carried secBlockWorldSpec c (fun t =>
      let new := s.worlds.block.set b.val (BitVec.ofNat 32 v)
      ok 0x0D01 c [] (storeSetting 4 (new.toList.flatMap wordBytes) { t with worlds := { t.worlds with block := new } })) s) ∧
  (∀ c s (b : Fin 16) (v : Nat) h, accepted secBlockWorldSpec c s = true → c.payload = [BitVec.ofNat 8 b.val, 1, 0, 0] ++ leBytes 4 v → v < 4294967296 →
    v / 2 ^ 17 % 2 ^ 14 = 0 → v % 256 = 0 → takesRight s.worlds.block[b.val] (BitVec.ofNat 32 v) h = true →
    liveIn s (Fin.castLE (by omega) b) h = true → exec (.secBlockWorld c) s = carried secBlockWorldSpec c (fail 0x0D01 c stBusy) s) ∧
  (∀ c s, accepted secRegionWorldSpec c s = true → c.payload = [] →
    exec (.secRegionWorld c) s = carried secRegionWorldSpec c (ok 0x0D02 c (regionReport s)) s) ∧
  (∀ c s (i : Fin 128) v, accepted secRegionWorldSpec c s = true → c.payload = [BitVec.ofNat 8 i.val, 1, 0, 0, v] →
    regionByteOk s i.val 0 v.toNat = true → sparesUsed s i.val = [] →
    exec (.secRegionWorld c) s = carried secRegionWorldSpec c (fun t =>
      let e := s.worlds.region[i.val]
      let new := s.worlds.region.set i.val { e with secure := decide (128 ≤ v.toNat), assignee := ⟨v.toNat % 8, Nat.mod_lt _ (by decide)⟩ }
      ok 0x0D02 c [] (storeSetting 5 (regionNibbles new) { t with worlds := { t.worlds with region := new } })) s) ∧
  (∀ c s (i : Fin 128) v, accepted secRegionWorldSpec c s = true → c.payload = [BitVec.ofNat 8 i.val, 1, 0, 0, v] →
    regionByteOk s i.val 0 v.toNat = false → exec (.secRegionWorld c) s = carried secRegionWorldSpec c (fail 0x0D02 c stBadArg) s) ∧
  (∀ c s, accepted lcStatusSpec c s = true → cmdRequester s c ≠ .owner →
    exec (.lcStatus c) s = carried lcStatusSpec c (ok 0x0D04 c (lcReport s (zeros 32))) s) ∧
  (∀ c s, accepted lcStatusSpec c s = true → cmdRequester s c = .owner → exec (.lcStatus c) s = carried lcStatusSpec c (fun t =>
    ok 0x0D04 c (lcReport s (nonceBytes s.freeCtr)) { t with freeCtr := s.freeCtr + 1, fw := { t.fw with nonce := some s.freeCtr } }) s) ∧
  (∀ c s first (n : Byte), accepted nvWearReadSpec c s = true → c.payload = leBytes 2 first ++ [n, 0] → first < 1024 → n.toNat ≤ 60 → first + n.toNat ≤ 1024 →
    exec (.nvWearRead c) s = carried nvWearReadSpec c (ok 0x0D05 c (leBytes 2 first ++ leBytes 2 n.toNat ++ zeros 4
      ++ (List.range n.toNat).flatMap (fun k => leBytes 8 (sparseGet 0 s.persist.wear (first + k)).toNat))) s) ∧
  (∀ c s first (n : Byte), accepted nvWearReadSpec c s = true → c.payload = leBytes 2 first ++ [n, 0] → first < 1024 → 1024 < first + n.toNat →
    exec (.nvWearRead c) s = carried nvWearReadSpec c (fail 0x0D05 c stBadArg) s) ∧
  (∀ c s nonce, accepted secAttestSpec c s = true → s.flt.isolated.getLsbD 15 = false → s.flt.failed.getLsbD 15 = false →
    c.payload = [0, 0, 0, 0] ++ nonce → nonce.length = 32 →
    exec (.secAttestReport c) s = carried secAttestSpec c
      (ok 0x0D06 c (attestBody s nonce ++ (List.range 96).map (Config.attestSigByte (attestBody s nonce)))) s) ∧
  (∀ c s off, accepted secAttestSpec c s = true → s.flt.isolated.getLsbD 15 = false → s.flt.failed.getLsbD 15 = false →
    c.payload = [1, 0, 0, 0] ++ leBytes 4 off → off < 4294967296 →
    exec (.secAttestCertificate c) s = carried secAttestSpec c (ok 0x0D06 c (leBytes 4 Config.certLength
      ++ (List.range (min 480 (Config.certLength - off))).map (fun k => Config.certByte (off + k)))) s) ∧
  (∀ c s, accepted secAttestSpec c s = true → s.flt.isolated.getLsbD 15 = true → s.flt.failed.getLsbD 15 = true →
    exec (.secAttestReport c) s = carried secAttestSpec c (fail 0x0D06 c stNoResource) s) ∧
  (∀ c s new, accepted lcTransitionSpec c s = true → s.flt.isolated.getLsbD 15 = false → s.flt.failed.getLsbD 15 = false → s.pair.state = 0 →
    fwBusy s = false → waitsFor s .lcTransition = false → lcOfCode (byteAt c.payload 0) = some new →
    lcAllowed s.ident.lc new (byteAt c.payload 1) = true → mayPend s c = true →
    exec (.lcTransition c) s = carried lcTransitionSpec c (fun t => if lcSigned s new c.payload
      then changeLc new c.payload (holdPending 0x0D03 c .lcTransition t) else fail 0x0D03 c stBadArg t) s) ∧
  (∀ c s, accepted lcTransitionSpec c s = true → s.flt.isolated.getLsbD 15 = false → s.flt.failed.getLsbD 15 = false →
    (s.pair.state ≠ 0 → exec (.lcTransition c) s = carried lcTransitionSpec c (fail 0x0D03 c stPairRole) s) ∧
    (s.pair.state = 0 → fwBusy s = false → waitsFor s .lcTransition = false →
      (∀ new, lcOfCode (byteAt c.payload 0) = some new → lcAllowed s.ident.lc new (byteAt c.payload 1) = false) →
      exec (.lcTransition c) s = carried lcTransitionSpec c (fail 0x0D03 c stLifecycle) s)) ∧
  (∀ new p s, (changeLc new p s).ident.lc = new ∧ (changeLc new p s).ident.wipePending = true ∧ (changeLc new p s).ready = false ∧
    (changeLc new p s).clock.inReset = true ∧ (changeLc new p s).clock.coldNext = true ∧
    (changeLc new p s).ident.ownerKey = (match new with
      | .provisioned => some ((p.drop 36).take 96) | .deployed => s.ident.ownerKey | .blank => none | .returned => none | .scrapped => none))

/-- Temperature, telemetry samples and their commands. TEL_SAMPLE_CFG, TEL_READ and TEL_THERMAL answer what they report; a
setting in range is taken and answered, one out of range is BAD_ARG; TEL_READ with payload 1, where a sample was taken since
they restarted, answers the extremes, which then restart. While the control processor can run, a telemetry sample advances
TEL_SEQ by two, takes its time, shows only the selected quantities and keeps the extremes; a thermal sample takes the
highest sensor as the junction temperature and its maximum, and one that stays below every threshold, or where none was
crossed, raises nothing. Crossing 130 degrees enters the safe state. (R462, R550, R551, R552, R553) -/
def Obligations.TelemetryAndHeat : Prop :=
  (∀ c s, accepted telSampleCfgSpec c s = true → c.payload = [] →
    exec (.telSampleCfg c) s = carried telSampleCfgSpec c (ok 0x0E01 c (telSampleReport s)) s) ∧
  (∀ c s sel ms, accepted telSampleCfgSpec c s = true → c.payload = leBytes 2 sel ++ [0, 0] ++ leBytes 4 ms → sel < 65536 → 1 ≤ ms → ms ≤ 60000 →
    exec (.telSampleCfg c) s = carried telSampleCfgSpec c (fun t =>
      let u := updTel (fun x => { x with select := BitVec.ofNat 16 sel, interval := BitVec.ofNat 16 ms }) t
      ok 0x0E01 c (telSampleReport u) u) s) ∧
  (∀ c s sel ms, accepted telSampleCfgSpec c s = true → c.payload = leBytes 2 sel ++ [0, 0] ++ leBytes 4 ms → ms < 4294967296 → (ms = 0 ∨ 60000 < ms) →
    exec (.telSampleCfg c) s = carried telSampleCfgSpec c (fail 0x0E01 c stBadArg) s) ∧
  (∀ c s, accepted telReadSpec c s = true → c.payload = [] → exec (.telRead c) s = carried telReadSpec c
    (ok 0x0E02 c (leBytes 8 s.tel.time.toNat ++ s.tel.latest.toList.flatMap wordBytes)) s) ∧
  (∀ c s, accepted telReadSpec c s = true → c.payload = [1] → s.tel.sampled = true → exec (.telReadExtremes c) s = carried telReadSpec c (fun t =>
    ok 0x0E02 c (leBytes 8 s.tel.time.toNat ++ ((List.finRange 16).flatMap (fun i => [s.tel.minima[i], s.tel.maxima[i]])).flatMap wordBytes)
      (updTel (fun x => { x with sampled := false }) t)) s) ∧
  (∀ c s, accepted telThermalSpec c s = true → c.payload = [] →
    exec (.telThermal c) s = carried telThermalSpec c (ok 0x0E03 c (telThermalReport s)) s) ∧
  (∀ c s (w h : Byte), accepted telThermalSpec c s = true → c.payload = [w, h, 0, 0] → w.toNat ≤ h.toNat → h.toNat ≤ 125 →
    exec (.telThermal c) s = carried telThermalSpec c (fun t =>
      let u := updTel (fun x => { x with warnC := w, highC := h }) t
      ok 0x0E03 c (telThermalReport u) u) s) ∧
  (∀ c s (w h : Byte), accepted telThermalSpec c s = true → c.payload = [w, h, 0, 0] → (125 < h.toNat ∨ h.toNat < w.toNat) →
    exec (.telThermal c) s = carried telThermalSpec c (fail 0x0E03 c stBadArg) s) ∧
  (∀ s q, bridgeOff s = false → ∃ t, exec (.telemetrySample q) s = .next t ∧ t.tel.seq = s.tel.seq + 2 ∧ t.tel.time = s.clock.hubTime ∧
    (∀ i : Fin 16, t.tel.latest[i] = (quantities s q)[i] ∧
      t.tel.shown[i] = (if s.tel.select.getLsbD i.val then (quantities s q)[i] else 0) ∧
      (s.tel.sampled = false → t.tel.minima[i] = (quantities s q)[i] ∧ t.tel.maxima[i] = (quantities s q)[i]) ∧
      (s.tel.sampled = true → t.tel.minima[i] = lesser s.tel.minima[i] (quantities s q)[i] ∧
        t.tel.maxima[i] = greater s.tel.maxima[i] (quantities s q)[i])) ∧ { t with tel := s.tel } = s) ∧
  (∀ s v, coreOn s = true → s.tel.overWarn = false → s.tel.overHigh = false → s.tel.overCrit = false →
    (highest v).toInt < 8 * (s.tel.warnC.toNat : Int) → (highest v).toInt < 8 * (s.tel.highC.toNat : Int) → (highest v).toInt < 1040 →
    exec (.thermalSample v) s = .next (updTel (fun x => { x with
      tj := highest v, tjSeen := true
      tjMax := if x.tjSeen && decide ((highest v).toInt < x.tjMax.toInt) then x.tjMax else highest v
      overWarn := false, overHigh := false, overCrit := false }) s)) ∧
  (∀ s v, coreOn s = true → s.tel.warnC.toNat ≤ 125 → s.tel.highC.toNat ≤ 125 → s.tel.overCrit = false → 1040 ≤ (highest v).toInt → ∃ t u, exec (.thermalSample v) s = .next t ∧
    t = criticalTemp u ∧ u.tel.tj = highest v ∧ u.tel.overCrit = true)

/-- A step runs the command at the front of its queue; with none waiting it is a reference cycle; no step stops. For every
command c and state, a step of the state with c at the front of its queue is exec of c on the state with the queue's rest,
and with an empty queue it is a reference cycle: while the chip is powered and not held in reset, hub time advances, by 25
while REFCLK runs and nothing else changes, and by a free value while it is lost; otherwise nothing changes. That a step
with an empty queue is a reference cycle is the model's choice (log entry 1). No step stops: whatever the command, its
operands and the state, the step answers a next state. (R16) -/
def Obligations.StepRunsTheFrontCommand : Prop :=
  (∀ c rest (s : State), step (s.withPending (c :: rest)) = exec c (s.withPending rest)) ∧
  (∀ s, s.pending = [] → s.clock.refclk = true → s.clock.powered = true → s.clock.inReset = false →
    step s = .next { s with clock := { s.clock with hubTime := s.clock.hubTime + 25 } }) ∧
  (∀ s, s.pending = [] → s.clock.refclk = false → s.clock.powered = true → s.clock.inReset = false →
    step s = .next { s with clock := { s.clock with hubTime := s.clock.hubTime + Config.freeValue 64 s.freeCtr },
                            freeCtr := s.freeCtr + 1 }) ∧
  (∀ s, s.pending = [] → (s.clock.powered = false ∨ s.clock.inReset = true) → step s = .next s) ∧
  (∀ s, safeStep s)

/-- A command that fails a check is refused alike in every row, and one for the partner is carried over. For every one of the
140 command rows, command and state: in Span, a command with bit 31 of its target set is carried to the partner, whose
checks decide, unless a PM_STOP was accepted or its payload is longer than 496 bytes. Of every other, a check of Table 2.11
or R530 that fails completes the command with that check's status and an empty payload and has no other effect, but that a
refusal by the command's block also raises event 6 with the requester, the direction and the opcode, before; one that passes
them with bit 31 of its target set completes with PAIR_ROLE. A payload length that the opcode does not allow is BAD_LENGTH
before any other check. (R82, R385, R499, R528, R530) -/
def Obligations.ChecksRefuseAlike : Prop :=
  (∀ e ∈ commandRows, ∀ c s, forPartner s c = true → exec (e.2 c) s = .next (forwardCmd e.1.op c s)) ∧
  (∀ s c, forPartner s c = true ↔ c.target.getLsbD 31 = true ∧ inSpan s = true ∧ stopAccepted s = false ∧ c.payload.length ≤ 496) ∧
  (∀ e ∈ commandRows, ∀ c s st, forPartner s c = false → checkCmd e.1 s c = some st → blockDenied e.1 s c = false →
    exec (e.2 c) s = .next (fail e.1.op c st s)) ∧
  (∀ e ∈ commandRows, ∀ c s, forPartner s c = false → checkCmd e.1 s c = some stWorldDenied → blockDenied e.1 s c = true →
    exec (e.2 c) s = .next (fail e.1.op c stWorldDenied (raise (.denied (cmdRequester s c)) 6
      (violationCommand (cmdRequester s c) (e.1.write c) e.1.op.toNat) s))) ∧
  (∀ e ∈ commandRows, ∀ c s, forPartner s c = false → checkCmd e.1 s c = none → c.target.getLsbD 31 = true →
    exec (e.2 c) s = .next (fail e.1.op c stPairRole s)) ∧
  (∀ sp s c, (496 < c.payload.length ∨ sp.lens c.payload.length = false) → checkCmd sp s c = some stBadLength)

/-- SYS_NOP copies its payload back and changes nothing. SYS_NOP allows exactly the payload lengths 0 to 496. Whenever it passes
the checks it completes with OK and its own payload, whatever the payload, and has no effect beside that response and what
ends every command that is carried out: the mark that one is being carried out goes, and responses held back for Night that
wait for nothing more are posted. (R535) -/
def Obligations.SysNopCopiesItsPayload : Prop :=
  (∀ n, sysNopSpec.lens n = true ↔ n ≤ 496) ∧
  (∀ c s, accepted sysNopSpec c s = true →
    exec (.sysNop c) s = .next (releaseDeferred (updPair (fun p => { p with running := false }) (respond 0x0100 c stOk c.payload (fresh s)))))

/-- A response takes the slot at MB_RSP_PI and registers its event, or waits in order while no slot is free. With a free slot
and nothing waiting, posting a response to a mailbox advances its MB_RSP_PI by one and writes the header and payload of
Table 2.10 into the slot that the index names; the bit of its response-ready event is set in the requester's bank; every
byte of the window outside that slot's bytes and the one event entry that may be written reads as before. With no free slot,
or others waiting, the response waits behind them and nothing else changes (log entry 10: the spec bounds the commands
taken, and does not say what a full ring does). (R77, R78, R81, R91) -/
def Obligations.ResponsesTakeTheirSlots : Prop :=
  (∀ m r s, s.mb[m].waiting = [] → 0 < freeSlots s.mb[m] → r.payload.length ≤ 496 → memWf s.window = true →
    let t := postResponse m r s
    let slot := mbBase m + 0x1000 + 512 * (s.mb[m].rspPi.toNat % 8)
    let entry := mbBase m + 0x2000 + 16 * (s.mb[m].evtPi.toNat % 64)
    t.mb[m].rspPi = s.mb[m].rspPi + 1 ∧ t.mb[m].cmdPi = s.mb[m].cmdPi ∧ t.mb[m].cmdCi = s.mb[m].cmdCi ∧ t.mb[m].waiting = [] ∧
    (∀ i < 16 + r.payload.length, memByte t.window (slot + i) = (responseBytes r s.clock.hubTime).getD i 0) ∧
    t.ev.pend[bankOf s m].getLsbD m.val = true ∧
    (∀ a, (a < slot ∨ slot + 16 + r.payload.length ≤ a) → (a < entry ∨ entry + 16 ≤ a) → memByte t.window a = memByte s.window a)) ∧
  (∀ m r s, (s.mb[m].waiting ≠ [] ∨ freeSlots s.mb[m] = 0) →
    postResponse m r s = updMb m (fun mb => { mb with waiting := mb.waiting ++ [r] }) s)

/-- An event sets its pending bit, and enters the ring of a mailbox that enables it. Delivered to a mailbox, an event sets its
bit in the requester's bank whether or not the mask enables it. Where the mask enables it or the command asked for it, and
the ring has room, MB_EVT_PI advances by one and the 16 bytes of Table 2.13 stand at the entry the index names, with bit 16
where events were lost before; otherwise the indices stay. Every byte of the window outside that entry reads as before, and
no other mailbox's indices move. (R89, R90, R91) -/
def Obligations.EventsReachTheirRings : Prop :=
  (∀ e f p w a s m, (deliver e f p w a s m).ev.pend[bankOf s m].getLsbD e.val = true) ∧
  (∀ e f p w a s m (g : Fin 64), g ≠ e → (deliver e f p w a s m).ev.pend[bankOf s m].getLsbD g.val = s.ev.pend[bankOf s m].getLsbD g.val) ∧
  (∀ e f p w a s m, (f || s.mb[m].mask.getLsbD e.val) = true → (s.mb[m].evtPi - s.mb[m].evtCi).toNat < 64 → memWf s.window = true →
    let t := deliver e f p w a s m
    let entry := mbBase m + 0x2000 + 16 * (s.mb[m].evtPi.toNat % 64)
    t.mb[m].evtPi = s.mb[m].evtPi + 1 ∧ t.mb[m].lostMark = false ∧ t.mb[m].evtLost = s.mb[m].evtLost ∧
    (∀ i < 16, memByte t.window (entry + i) = (eventEntry s.mb[m].lostMark s.clock.untimed p e w a).getD i 0) ∧
    (∀ b, (b < entry ∨ entry + 16 ≤ b) → memByte t.window b = memByte s.window b) ∧
    (∀ k : MbNo, k ≠ m → t.mb[k] = s.mb[k])) ∧
  (∀ e p w a s m, s.mb[m].mask.getLsbD e.val = false →
    (deliver e false p w a s m).window = s.window ∧ (deliver e false p w a s m).mb = s.mb)

/-- A full event ring loses the event and says so. When the ring of a mailbox is full, an event delivered to it writes no entry
and changes no byte of the window, leaves the ring's indices, increments the saturating EVT_LOST and sets EVT_OVF; the
event's pending bit is set all the same; and the next entry that is written carries flag bit 16. (R92) -/
def Obligations.FullEventRingLosesTheEvent : Prop :=
  (∀ e f p w a s m, (f || s.mb[m].mask.getLsbD e.val) = true → 64 ≤ (s.mb[m].evtPi - s.mb[m].evtCi).toNat →
    let t := deliver e f p w a s m
    t.window = s.window ∧ t.mb[m].evtPi = s.mb[m].evtPi ∧ t.mb[m].evtCi = s.mb[m].evtCi ∧ t.mb[m].evtLost = satInc s.mb[m].evtLost ∧
    t.mb[m].evtOvf = true ∧ t.mb[m].lostMark = true ∧ t.ev.pend[bankOf s m].getLsbD e.val = true) ∧
  (∀ e f p w a s m, (f || s.mb[m].mask.getLsbD e.val) = true → (s.mb[m].evtPi - s.mb[m].evtCi).toNat < 64 → s.mb[m].lostMark = true →
    memWf s.window = true →
    (memByte (deliver e f p w a s m).window (mbBase m + 0x2000 + 16 * (s.mb[m].evtPi.toNat % 64) + 2)).getLsbD 0 = true)

/-- What raising an event and completing a command leave unchanged. Raising an event changes nothing but mailboxes, the window's
buffers, the pending bits and INT_N, the queues of tunnels, the wake reason of a link and the output log; of a mailbox, the
command and response indices and the mask stay. Completing a command changes besides only what the pair notes of commands in
Mirror: a status, the commands held for the partner, and the responses and changes that await Night; what ends a command
that was carried out is of the same kind. So a command whose statement gives its next state by its response and an update
changes nothing else: its registers, its memories and its settings stay. (R77, R90, R95, R528) -/
def Obligations.ReportsLeaveTheRest : Prop :=
  (∀ sc e a (s : State), let t := raise sc e a s
    t = { s with mb := t.mb, window := t.window, ev := t.ev, tunnels := t.tunnels, links := t.links, out := t.out } ∧
    (∀ m : MbNo, t.mb[m].cmdPi = s.mb[m].cmdPi ∧ t.mb[m].cmdCi = s.mb[m].cmdCi ∧ t.mb[m].rspPi = s.mb[m].rspPi ∧ t.mb[m].rspCi = s.mb[m].rspCi ∧
      t.mb[m].mask = s.mb[m].mask ∧ t.mb[m].evtCi = s.mb[m].evtCi) ∧
    (∀ l : LinkNo, { t.links[l] with wakeReason := s.links[l].wakeReason } = s.links[l])) ∧
  (∀ op c st p s, let t := respond op c st p s
    t = { s with mb := t.mb, window := t.window, ev := t.ev, tunnels := t.tunnels, links := t.links, out := t.out, pair := t.pair } ∧
    { t.pair with lastStatus := s.pair.lastStatus, held := s.pair.held, deferred := s.pair.deferred } = s.pair ∧
    (∀ m : MbNo, t.mb[m].cmdPi = s.mb[m].cmdPi ∧ t.mb[m].cmdCi = s.mb[m].cmdCi ∧ t.mb[m].rspCi = s.mb[m].rspCi ∧ t.mb[m].mask = s.mb[m].mask) ∧
    (∀ l : LinkNo, { t.links[l] with wakeReason := s.links[l].wakeReason } = s.links[l])) ∧
  (∀ sp c s, let t := forwardChange sp c s
    t = { s with mb := t.mb, window := t.window, ev := t.ev, tunnels := t.tunnels, links := t.links, out := t.out, pair := t.pair } ∧
    { t.pair with running := s.pair.running, nextId := s.pair.nextId, awaiting := s.pair.awaiting, deferred := s.pair.deferred } = s.pair ∧
    (∀ m : MbNo, t.mb[m].cmdPi = s.mb[m].cmdPi ∧ t.mb[m].cmdCi = s.mb[m].cmdCi ∧ t.mb[m].rspCi = s.mb[m].rspCi ∧ t.mb[m].mask = s.mb[m].mask) ∧
    (∀ l : LinkNo, { t.links[l] with wakeReason := s.links[l].wakeReason } = s.links[l]))

/-- Commands that wait are answered together, in order, and at most four of a mailbox hold PENDING. Ending what commands wait
for leaves none of them waiting for it, and every other waiting command as it was, in order; where none waits it changes
nothing. A command that would post PENDING while four of its mailbox hold PENDING completes with BUSY and has no effect.
(R80, R81) -/
def Obligations.WaitingCommandsAreAnswered : Prop :=
  (∀ k st p s, waitsFor (finish k st p s) k = false ∧ (finish k st p s).pend = s.pend.filter (fun x => x.kind != k)) ∧
  (∀ k st p s, waitsFor s k = false → finish k st p s = s) ∧
  (∀ k st p s x, s.pend = [x] → x.kind = k → finish k st p s = finishOne st p { s with pend := [] } x) ∧
  (∀ op c k f s, heldBefore s c = false → pendingFull s c = true → startPending op c k f s = fail op c stBusy s) ∧
  (∀ op c k f s m, c.src = .mailbox m → heldBefore s c = false → holding s m < 4 →
    startPending op c k f s = f { respondTo c.src c.seq c.tag c.flags op stPending true [] s with pend := s.pend ++ [pendOf op c k true] })

/-- A persistent word holds what was written and counts it; a setting that is stored is what the next reset loads. After a
completed write of a persistent word, the word reads as the value written, its wear counter is one higher and saturates,
every other word and counter is as it was, and nothing else changes. For every setting of Table 14.14 that has a check word
and every body of its length, storing it and reading it back as a reset does gives that body; a stored record is never taken
for unset or rejected. Every other setting, of several words or of one, reads as before. A record whose words are all 0 is
unset. (R516, R517, R519) -/
def Obligations.PersistentWordsAndSettings : Prop :=
  (∀ s w v, sparseWf 0 s.persist.words = true → pbWord (pbWrite s w v) w = v) ∧
  (∀ s w v k, k ≠ w → pbWord (pbWrite s w v) k = pbWord s k ∧
    sparseGet 0 (pbWrite s w v).persist.wear k = sparseGet 0 s.persist.wear k) ∧
  (∀ s w v, sparseWf 0 s.persist.wear = true →
    sparseGet 0 (pbWrite s w v).persist.wear w = satInc (sparseGet 0 s.persist.wear w)) ∧
  (∀ s w v, { pbWrite s w v with persist := s.persist } = s) ∧
  (∀ n ∈ [4, 5, 6, 7, 8, 9, 10, 11, 12, 13, 14, 15, 16, 17, 18, 19, 21, 22, 23], ∀ b s,
    b.length = 4 * ((settingPlace n).2 - 1) → sparseWf 0 s.persist.words = true → loadSetting (storeSetting n b s) n = .bytes b) ∧
  (∀ n ∈ [4, 5, 6, 7, 8, 9, 10, 11, 12, 13, 14, 15, 16, 17, 18, 19, 21, 22, 23],
    ∀ k ∈ [4, 5, 6, 7, 8, 9, 10, 11, 12, 13, 14, 15, 16, 17, 18, 19, 21, 22, 23], k ≠ n → ∀ b s,
    loadSetting (storeSetting n b s) k = loadSetting s k) ∧
  (∀ n ∈ [4, 5, 6, 7, 8, 9, 10, 11, 12, 13, 14, 15, 16, 17, 18, 19, 21, 22, 23], ∀ k ∈ [1, 20, 24], ∀ b s,
    pbWord (storeSetting n b s) (settingPlace k).1 = pbWord s (settingPlace k).1) ∧
  (∀ s n, pbWord s ((settingPlace n).1 + (settingPlace n).2 - 1) = 0 → loadSetting s n = .unset)

/-- The fault log coalesces within a second, keeps 256 entries and raises event 4 by class. A fault whose class and location
match the newest entry of its class, less than 1 s after that entry was first written, adds no entry and raises nothing. Any
other is a new entry at the head, with the next index, hub time and a count of 1; the log keeps at most 256 entries, and the
index and the count of entries written advance. A class whose detection is disabled gets reaction 9. An entry raises event 4
only where its class is reported so, is enabled and has raised none within the last millisecond; the class counter counts
every occurrence. (R472, R473, R490) -/
def Obligations.FaultLogEntries : Prop :=
  (∀ cls loc i s, coalesces s cls (BitVec.ofNat 32 loc) = true →
    let t := logFault cls loc i s
    t.flt.log.length = s.flt.log.length ∧ t.flt.next = s.flt.next ∧ t.flt.written = s.flt.written ∧
    t.flt.counts[cls] = satInc s.flt.counts[cls] ∧ { t with flt := s.flt } = s) ∧
  (∀ cls loc i s, coalesces s cls (BitVec.ofNat 32 loc) = false →
    let t := logFault cls loc i s
    let e : FaultEntry :=
      { index := s.flt.next, cls := BitVec.ofNat 8 cls.val
        reaction := if s.flt.disabled.getLsbD cls.val then 9 else i.reaction
        boot := i.boot, scrub := i.scrub, injected := i.injected, untimed := s.clock.untimed, loc := BitVec.ofNat 32 loc
        time := s.clock.hubTime, since := s.clock.hubTime, count := 1, detail := i.detail, addr := i.addr }
    t.flt.log = (e :: s.flt.log).take 256 ∧ t.flt.next = s.flt.next + 1 ∧ t.flt.written = satInc s.flt.written ∧
    t.flt.counts[cls] = satInc s.flt.counts[cls]) ∧
  (∀ cls loc i s, coalesces s cls (BitVec.ofNat 32 loc) = false →
    (classRaises cls = false ∨ s.flt.disabled.getLsbD cls.val = true ∨ recentEvent s cls = true) →
    { logFault cls loc i s with flt := s.flt } = s) ∧
  (∀ cls loc i s, coalesces s cls (BitVec.ofNat 32 loc) = false → classRaises cls = true → s.flt.disabled.getLsbD cls.val = false →
    recentEvent s cls = false → ∃ t, logFault cls loc i s = raise .all 4 (65536 * s.flt.next.toNat + cls.val) t ∧
      t.flt.lastEvent[cls] = some s.clock.hubTime)

/-- A fault on the payload bus leaves the feeds as they were. A fast trip and an expired ramp timer, the two mechanisms that end
a fault on the payload bus, leave the feed in use, the feed a change leads to and both feeds' window and qualification as
they were, in every state, the retry and the latch that follow included. (R422) -/
def Obligations.PayloadFaultsKeepTheFeeds : Prop :=
  ∀ s v, ∃ t u, exec (.fastTrip v) s = .next t ∧ exec (.rampTimerExpiry v) s = .next u ∧
    t.power.inUse = s.power.inUse ∧ t.power.toFeed = s.power.toFeed ∧ t.power.feedA = s.power.feedA ∧ t.power.feedB = s.power.feedB ∧
    u.power.inUse = s.power.inUse ∧ u.power.toFeed = s.power.toFeed ∧ u.power.feedA = s.power.feedA ∧ u.power.feedB = s.power.feedB

/-- The state at reset keeps the canonical form. At reset the window's buffers, the frame store, the persistent bank's words and
wear counters and the bridge's configuration registers are in canonical form: they list nothing, and read 0. (R508, R517) -/
def Obligations.ResetIsCanonical : Prop := canonical State.reset = true

/-- Every step keeps every memory in its canonical form. From every state whose sparse memories are in canonical form (addresses
strictly rising, no entry equal to what an unlisted address reads as), every step, whatever the command, answers a state
whose sparse memories are: the window's command, response, event, management and sample buffers, the frame store in DRAM,
the persistent bank's words and wear counters, and the configuration registers of the virtual switches. So two states with
the same contents of memory are equal data. (R74, R76, R90, R186, R508, R516, R517) -/
def Obligations.StepKeepsCanonical : Prop := ∀ s t, canonical s = true → step s = .next t → canonical t = true

/-- A scrapped part stays scrapped, and no step changes the variant. Table 14.6 has no transition out of SCRAPPED: from every
state in that life-cycle state, every step, whatever the command and its operands, resets and power loss included, answers a
state in it. No step changes which variant the part is. (R1, R504, R505) -/
def Obligations.ScrappedIsFinal : Prop :=
  ∀ s t, step s = .next t → t.variant = s.variant ∧ (s.ident.lc = .scrapped → t.ident.lc = .scrapped)
end

