-- ==== Sys2Proof/Laws/State.lean ====
section
/-! SUPPORT. What each small update of the state leaves of every field: one lemma per field and update. -/
namespace Sys2Proof.Machine

variable (s : State)

@[simp] theorem updMb_variant (m : MbNo) (f : Mailbox → Mailbox) : (updMb m f s).variant = s.variant := rfl
@[simp] theorem updMb_ident (m : MbNo) (f : Mailbox → Mailbox) : (updMb m f s).ident = s.ident := rfl
@[simp] theorem updMb_fw (m : MbNo) (f : Mailbox → Mailbox) : (updMb m f s).fw = s.fw := rfl
@[simp] theorem updMb_persist (m : MbNo) (f : Mailbox → Mailbox) : (updMb m f s).persist = s.persist := rfl
@[simp] theorem updMb_worlds (m : MbNo) (f : Mailbox → Mailbox) : (updMb m f s).worlds = s.worlds := rfl
@[simp] theorem updMb_perf (m : MbNo) (f : Mailbox → Mailbox) : (updMb m f s).perf = s.perf := rfl
@[simp] theorem updMb_clock (m : MbNo) (f : Mailbox → Mailbox) : (updMb m f s).clock = s.clock := rfl
@[simp] theorem updMb_ready (m : MbNo) (f : Mailbox → Mailbox) : (updMb m f s).ready = s.ready := rfl
@[simp] theorem updMb_activating (m : MbNo) (f : Mailbox → Mailbox) : (updMb m f s).activating = s.activating := rfl
@[simp] theorem updMb_init (m : MbNo) (f : Mailbox → Mailbox) : (updMb m f s).init = s.init := rfl
@[simp] theorem updMb_scratch (m : MbNo) (f : Mailbox → Mailbox) : (updMb m f s).scratch = s.scratch := rfl
@[simp] theorem updMb_mb (m : MbNo) (f : Mailbox → Mailbox) : (updMb m f s).mb = upd s.mb m f := rfl
@[simp] theorem updMb_window (m : MbNo) (f : Mailbox → Mailbox) : (updMb m f s).window = s.window := rfl
@[simp] theorem updMb_nextMb (m : MbNo) (f : Mailbox → Mailbox) : (updMb m f s).nextMb = s.nextMb := rfl
@[simp] theorem updMb_pend (m : MbNo) (f : Mailbox → Mailbox) : (updMb m f s).pend = s.pend := rfl
@[simp] theorem updMb_ev (m : MbNo) (f : Mailbox → Mailbox) : (updMb m f s).ev = s.ev := rfl
@[simp] theorem updMb_spi (m : MbNo) (f : Mailbox → Mailbox) : (updMb m f s).spi = s.spi := rfl
@[simp] theorem updMb_tel (m : MbNo) (f : Mailbox → Mailbox) : (updMb m f s).tel = s.tel := rfl
@[simp] theorem updMb_flt (m : MbNo) (f : Mailbox → Mailbox) : (updMb m f s).flt = s.flt := rfl
@[simp] theorem updMb_links (m : MbNo) (f : Mailbox → Mailbox) : (updMb m f s).links = s.links := rfl
@[simp] theorem updMb_tunnels (m : MbNo) (f : Mailbox → Mailbox) : (updMb m f s).tunnels = s.tunnels := rfl
@[simp] theorem updMb_scheds (m : MbNo) (f : Mailbox → Mailbox) : (updMb m f s).scheds = s.scheds := rfl
@[simp] theorem updMb_commits (m : MbNo) (f : Mailbox → Mailbox) : (updMb m f s).commits = s.commits := rfl
@[simp] theorem updMb_sampling (m : MbNo) (f : Mailbox → Mailbox) : (updMb m f s).sampling = s.sampling := rfl
@[simp] theorem updMb_disp (m : MbNo) (f : Mailbox → Mailbox) : (updMb m f s).disp = s.disp := rfl
@[simp] theorem updMb_pcie (m : MbNo) (f : Mailbox → Mailbox) : (updMb m f s).pcie = s.pcie := rfl
@[simp] theorem updMb_usb (m : MbNo) (f : Mailbox → Mailbox) : (updMb m f s).usb = s.usb := rfl
@[simp] theorem updMb_net (m : MbNo) (f : Mailbox → Mailbox) : (updMb m f s).net = s.net := rfl
@[simp] theorem updMb_can (m : MbNo) (f : Mailbox → Mailbox) : (updMb m f s).can = s.can := rfl
@[simp] theorem updMb_pair (m : MbNo) (f : Mailbox → Mailbox) : (updMb m f s).pair = s.pair := rfl
@[simp] theorem updMb_power (m : MbNo) (f : Mailbox → Mailbox) : (updMb m f s).power = s.power := rfl
@[simp] theorem updMb_pm (m : MbNo) (f : Mailbox → Mailbox) : (updMb m f s).pm = s.pm := rfl
@[simp] theorem updMb_out (m : MbNo) (f : Mailbox → Mailbox) : (updMb m f s).out = s.out := rfl
@[simp] theorem updMb_freeCtr (m : MbNo) (f : Mailbox → Mailbox) : (updMb m f s).freeCtr = s.freeCtr := rfl
@[simp] theorem updMb_pending (m : MbNo) (f : Mailbox → Mailbox) : (updMb m f s).pending = s.pending := rfl

@[simp] theorem updLink_variant (l : LinkNo) (f : Link → Link) : (updLink l f s).variant = s.variant := rfl
@[simp] theorem updLink_ident (l : LinkNo) (f : Link → Link) : (updLink l f s).ident = s.ident := rfl
@[simp] theorem updLink_fw (l : LinkNo) (f : Link → Link) : (updLink l f s).fw = s.fw := rfl
@[simp] theorem updLink_persist (l : LinkNo) (f : Link → Link) : (updLink l f s).persist = s.persist := rfl
@[simp] theorem updLink_worlds (l : LinkNo) (f : Link → Link) : (updLink l f s).worlds = s.worlds := rfl
@[simp] theorem updLink_perf (l : LinkNo) (f : Link → Link) : (updLink l f s).perf = s.perf := rfl
@[simp] theorem updLink_clock (l : LinkNo) (f : Link → Link) : (updLink l f s).clock = s.clock := rfl
@[simp] theorem updLink_ready (l : LinkNo) (f : Link → Link) : (updLink l f s).ready = s.ready := rfl
@[simp] theorem updLink_activating (l : LinkNo) (f : Link → Link) : (updLink l f s).activating = s.activating := rfl
@[simp] theorem updLink_init (l : LinkNo) (f : Link → Link) : (updLink l f s).init = s.init := rfl
@[simp] theorem updLink_scratch (l : LinkNo) (f : Link → Link) : (updLink l f s).scratch = s.scratch := rfl
@[simp] theorem updLink_mb (l : LinkNo) (f : Link → Link) : (updLink l f s).mb = s.mb := rfl
@[simp] theorem updLink_window (l : LinkNo) (f : Link → Link) : (updLink l f s).window = s.window := rfl
@[simp] theorem updLink_nextMb (l : LinkNo) (f : Link → Link) : (updLink l f s).nextMb = s.nextMb := rfl
@[simp] theorem updLink_pend (l : LinkNo) (f : Link → Link) : (updLink l f s).pend = s.pend := rfl
@[simp] theorem updLink_ev (l : LinkNo) (f : Link → Link) : (updLink l f s).ev = s.ev := rfl
@[simp] theorem updLink_spi (l : LinkNo) (f : Link → Link) : (updLink l f s).spi = s.spi := rfl
@[simp] theorem updLink_tel (l : LinkNo) (f : Link → Link) : (updLink l f s).tel = s.tel := rfl
@[simp] theorem updLink_flt (l : LinkNo) (f : Link → Link) : (updLink l f s).flt = s.flt := rfl
@[simp] theorem updLink_links (l : LinkNo) (f : Link → Link) : (updLink l f s).links = upd s.links l f := rfl
@[simp] theorem updLink_tunnels (l : LinkNo) (f : Link → Link) : (updLink l f s).tunnels = s.tunnels := rfl
@[simp] theorem updLink_scheds (l : LinkNo) (f : Link → Link) : (updLink l f s).scheds = s.scheds := rfl
@[simp] theorem updLink_commits (l : LinkNo) (f : Link → Link) : (updLink l f s).commits = s.commits := rfl
@[simp] theorem updLink_sampling (l : LinkNo) (f : Link → Link) : (updLink l f s).sampling = s.sampling := rfl
@[simp] theorem updLink_disp (l : LinkNo) (f : Link → Link) : (updLink l f s).disp = s.disp := rfl
@[simp] theorem updLink_pcie (l : LinkNo) (f : Link → Link) : (updLink l f s).pcie = s.pcie := rfl
@[simp] theorem updLink_usb (l : LinkNo) (f : Link → Link) : (updLink l f s).usb = s.usb := rfl
@[simp] theorem updLink_net (l : LinkNo) (f : Link → Link) : (updLink l f s).net = s.net := rfl
@[simp] theorem updLink_can (l : LinkNo) (f : Link → Link) : (updLink l f s).can = s.can := rfl
@[simp] theorem updLink_pair (l : LinkNo) (f : Link → Link) : (updLink l f s).pair = s.pair := rfl
@[simp] theorem updLink_power (l : LinkNo) (f : Link → Link) : (updLink l f s).power = s.power := rfl
@[simp] theorem updLink_pm (l : LinkNo) (f : Link → Link) : (updLink l f s).pm = s.pm := rfl
@[simp] theorem updLink_out (l : LinkNo) (f : Link → Link) : (updLink l f s).out = s.out := rfl
@[simp] theorem updLink_freeCtr (l : LinkNo) (f : Link → Link) : (updLink l f s).freeCtr = s.freeCtr := rfl
@[simp] theorem updLink_pending (l : LinkNo) (f : Link → Link) : (updLink l f s).pending = s.pending := rfl

@[simp] theorem updOut_variant (o : OutNo) (f : Output → Output) : (updOut o f s).variant = s.variant := rfl
@[simp] theorem updOut_ident (o : OutNo) (f : Output → Output) : (updOut o f s).ident = s.ident := rfl
@[simp] theorem updOut_fw (o : OutNo) (f : Output → Output) : (updOut o f s).fw = s.fw := rfl
@[simp] theorem updOut_persist (o : OutNo) (f : Output → Output) : (updOut o f s).persist = s.persist := rfl
@[simp] theorem updOut_worlds (o : OutNo) (f : Output → Output) : (updOut o f s).worlds = s.worlds := rfl
@[simp] theorem updOut_perf (o : OutNo) (f : Output → Output) : (updOut o f s).perf = s.perf := rfl
@[simp] theorem updOut_clock (o : OutNo) (f : Output → Output) : (updOut o f s).clock = s.clock := rfl
@[simp] theorem updOut_ready (o : OutNo) (f : Output → Output) : (updOut o f s).ready = s.ready := rfl
@[simp] theorem updOut_activating (o : OutNo) (f : Output → Output) : (updOut o f s).activating = s.activating := rfl
@[simp] theorem updOut_init (o : OutNo) (f : Output → Output) : (updOut o f s).init = s.init := rfl
@[simp] theorem updOut_scratch (o : OutNo) (f : Output → Output) : (updOut o f s).scratch = s.scratch := rfl
@[simp] theorem updOut_mb (o : OutNo) (f : Output → Output) : (updOut o f s).mb = s.mb := rfl
@[simp] theorem updOut_window (o : OutNo) (f : Output → Output) : (updOut o f s).window = s.window := rfl
@[simp] theorem updOut_nextMb (o : OutNo) (f : Output → Output) : (updOut o f s).nextMb = s.nextMb := rfl
@[simp] theorem updOut_pend (o : OutNo) (f : Output → Output) : (updOut o f s).pend = s.pend := rfl
@[simp] theorem updOut_ev (o : OutNo) (f : Output → Output) : (updOut o f s).ev = s.ev := rfl
@[simp] theorem updOut_spi (o : OutNo) (f : Output → Output) : (updOut o f s).spi = s.spi := rfl
@[simp] theorem updOut_tel (o : OutNo) (f : Output → Output) : (updOut o f s).tel = s.tel := rfl
@[simp] theorem updOut_flt (o : OutNo) (f : Output → Output) : (updOut o f s).flt = s.flt := rfl
@[simp] theorem updOut_links (o : OutNo) (f : Output → Output) : (updOut o f s).links = s.links := rfl
@[simp] theorem updOut_tunnels (o : OutNo) (f : Output → Output) : (updOut o f s).tunnels = s.tunnels := rfl
@[simp] theorem updOut_scheds (o : OutNo) (f : Output → Output) : (updOut o f s).scheds = s.scheds := rfl
@[simp] theorem updOut_commits (o : OutNo) (f : Output → Output) : (updOut o f s).commits = s.commits := rfl
@[simp] theorem updOut_sampling (o : OutNo) (f : Output → Output) : (updOut o f s).sampling = s.sampling := rfl
@[simp] theorem updOut_disp (o : OutNo) (f : Output → Output) : (updOut o f s).disp = { s.disp with outs := upd s.disp.outs o f } := rfl
@[simp] theorem updOut_pcie (o : OutNo) (f : Output → Output) : (updOut o f s).pcie = s.pcie := rfl
@[simp] theorem updOut_usb (o : OutNo) (f : Output → Output) : (updOut o f s).usb = s.usb := rfl
@[simp] theorem updOut_net (o : OutNo) (f : Output → Output) : (updOut o f s).net = s.net := rfl
@[simp] theorem updOut_can (o : OutNo) (f : Output → Output) : (updOut o f s).can = s.can := rfl
@[simp] theorem updOut_pair (o : OutNo) (f : Output → Output) : (updOut o f s).pair = s.pair := rfl
@[simp] theorem updOut_power (o : OutNo) (f : Output → Output) : (updOut o f s).power = s.power := rfl
@[simp] theorem updOut_pm (o : OutNo) (f : Output → Output) : (updOut o f s).pm = s.pm := rfl
@[simp] theorem updOut_out (o : OutNo) (f : Output → Output) : (updOut o f s).out = s.out := rfl
@[simp] theorem updOut_freeCtr (o : OutNo) (f : Output → Output) : (updOut o f s).freeCtr = s.freeCtr := rfl
@[simp] theorem updOut_pending (o : OutNo) (f : Output → Output) : (updOut o f s).pending = s.pending := rfl

@[simp] theorem updFlt_variant (f : Faults → Faults) : (updFlt f s).variant = s.variant := rfl
@[simp] theorem updFlt_ident (f : Faults → Faults) : (updFlt f s).ident = s.ident := rfl
@[simp] theorem updFlt_fw (f : Faults → Faults) : (updFlt f s).fw = s.fw := rfl
@[simp] theorem updFlt_persist (f : Faults → Faults) : (updFlt f s).persist = s.persist := rfl
@[simp] theorem updFlt_worlds (f : Faults → Faults) : (updFlt f s).worlds = s.worlds := rfl
@[simp] theorem updFlt_perf (f : Faults → Faults) : (updFlt f s).perf = s.perf := rfl
@[simp] theorem updFlt_clock (f : Faults → Faults) : (updFlt f s).clock = s.clock := rfl
@[simp] theorem updFlt_ready (f : Faults → Faults) : (updFlt f s).ready = s.ready := rfl
@[simp] theorem updFlt_activating (f : Faults → Faults) : (updFlt f s).activating = s.activating := rfl
@[simp] theorem updFlt_init (f : Faults → Faults) : (updFlt f s).init = s.init := rfl
@[simp] theorem updFlt_scratch (f : Faults → Faults) : (updFlt f s).scratch = s.scratch := rfl
@[simp] theorem updFlt_mb (f : Faults → Faults) : (updFlt f s).mb = s.mb := rfl
@[simp] theorem updFlt_window (f : Faults → Faults) : (updFlt f s).window = s.window := rfl
@[simp] theorem updFlt_nextMb (f : Faults → Faults) : (updFlt f s).nextMb = s.nextMb := rfl
@[simp] theorem updFlt_pend (f : Faults → Faults) : (updFlt f s).pend = s.pend := rfl
@[simp] theorem updFlt_ev (f : Faults → Faults) : (updFlt f s).ev = s.ev := rfl
@[simp] theorem updFlt_spi (f : Faults → Faults) : (updFlt f s).spi = s.spi := rfl
@[simp] theorem updFlt_tel (f : Faults → Faults) : (updFlt f s).tel = s.tel := rfl
@[simp] theorem updFlt_flt (f : Faults → Faults) : (updFlt f s).flt = f s.flt := rfl
@[simp] theorem updFlt_links (f : Faults → Faults) : (updFlt f s).links = s.links := rfl
@[simp] theorem updFlt_tunnels (f : Faults → Faults) : (updFlt f s).tunnels = s.tunnels := rfl
@[simp] theorem updFlt_scheds (f : Faults → Faults) : (updFlt f s).scheds = s.scheds := rfl
@[simp] theorem updFlt_commits (f : Faults → Faults) : (updFlt f s).commits = s.commits := rfl
@[simp] theorem updFlt_sampling (f : Faults → Faults) : (updFlt f s).sampling = s.sampling := rfl
@[simp] theorem updFlt_disp (f : Faults → Faults) : (updFlt f s).disp = s.disp := rfl
@[simp] theorem updFlt_pcie (f : Faults → Faults) : (updFlt f s).pcie = s.pcie := rfl
@[simp] theorem updFlt_usb (f : Faults → Faults) : (updFlt f s).usb = s.usb := rfl
@[simp] theorem updFlt_net (f : Faults → Faults) : (updFlt f s).net = s.net := rfl
@[simp] theorem updFlt_can (f : Faults → Faults) : (updFlt f s).can = s.can := rfl
@[simp] theorem updFlt_pair (f : Faults → Faults) : (updFlt f s).pair = s.pair := rfl
@[simp] theorem updFlt_power (f : Faults → Faults) : (updFlt f s).power = s.power := rfl
@[simp] theorem updFlt_pm (f : Faults → Faults) : (updFlt f s).pm = s.pm := rfl
@[simp] theorem updFlt_out (f : Faults → Faults) : (updFlt f s).out = s.out := rfl
@[simp] theorem updFlt_freeCtr (f : Faults → Faults) : (updFlt f s).freeCtr = s.freeCtr := rfl
@[simp] theorem updFlt_pending (f : Faults → Faults) : (updFlt f s).pending = s.pending := rfl

@[simp] theorem updPerf_variant (f : Perf → Perf) : (updPerf f s).variant = s.variant := rfl
@[simp] theorem updPerf_ident (f : Perf → Perf) : (updPerf f s).ident = s.ident := rfl
@[simp] theorem updPerf_fw (f : Perf → Perf) : (updPerf f s).fw = s.fw := rfl
@[simp] theorem updPerf_persist (f : Perf → Perf) : (updPerf f s).persist = s.persist := rfl
@[simp] theorem updPerf_worlds (f : Perf → Perf) : (updPerf f s).worlds = s.worlds := rfl
@[simp] theorem updPerf_perf (f : Perf → Perf) : (updPerf f s).perf = f s.perf := rfl
@[simp] theorem updPerf_clock (f : Perf → Perf) : (updPerf f s).clock = s.clock := rfl
@[simp] theorem updPerf_ready (f : Perf → Perf) : (updPerf f s).ready = s.ready := rfl
@[simp] theorem updPerf_activating (f : Perf → Perf) : (updPerf f s).activating = s.activating := rfl
@[simp] theorem updPerf_init (f : Perf → Perf) : (updPerf f s).init = s.init := rfl
@[simp] theorem updPerf_scratch (f : Perf → Perf) : (updPerf f s).scratch = s.scratch := rfl
@[simp] theorem updPerf_mb (f : Perf → Perf) : (updPerf f s).mb = s.mb := rfl
@[simp] theorem updPerf_window (f : Perf → Perf) : (updPerf f s).window = s.window := rfl
@[simp] theorem updPerf_nextMb (f : Perf → Perf) : (updPerf f s).nextMb = s.nextMb := rfl
@[simp] theorem updPerf_pend (f : Perf → Perf) : (updPerf f s).pend = s.pend := rfl
@[simp] theorem updPerf_ev (f : Perf → Perf) : (updPerf f s).ev = s.ev := rfl
@[simp] theorem updPerf_spi (f : Perf → Perf) : (updPerf f s).spi = s.spi := rfl
@[simp] theorem updPerf_tel (f : Perf → Perf) : (updPerf f s).tel = s.tel := rfl
@[simp] theorem updPerf_flt (f : Perf → Perf) : (updPerf f s).flt = s.flt := rfl
@[simp] theorem updPerf_links (f : Perf → Perf) : (updPerf f s).links = s.links := rfl
@[simp] theorem updPerf_tunnels (f : Perf → Perf) : (updPerf f s).tunnels = s.tunnels := rfl
@[simp] theorem updPerf_scheds (f : Perf → Perf) : (updPerf f s).scheds = s.scheds := rfl
@[simp] theorem updPerf_commits (f : Perf → Perf) : (updPerf f s).commits = s.commits := rfl
@[simp] theorem updPerf_sampling (f : Perf → Perf) : (updPerf f s).sampling = s.sampling := rfl
@[simp] theorem updPerf_disp (f : Perf → Perf) : (updPerf f s).disp = s.disp := rfl
@[simp] theorem updPerf_pcie (f : Perf → Perf) : (updPerf f s).pcie = s.pcie := rfl
@[simp] theorem updPerf_usb (f : Perf → Perf) : (updPerf f s).usb = s.usb := rfl
@[simp] theorem updPerf_net (f : Perf → Perf) : (updPerf f s).net = s.net := rfl
@[simp] theorem updPerf_can (f : Perf → Perf) : (updPerf f s).can = s.can := rfl
@[simp] theorem updPerf_pair (f : Perf → Perf) : (updPerf f s).pair = s.pair := rfl
@[simp] theorem updPerf_power (f : Perf → Perf) : (updPerf f s).power = s.power := rfl
@[simp] theorem updPerf_pm (f : Perf → Perf) : (updPerf f s).pm = s.pm := rfl
@[simp] theorem updPerf_out (f : Perf → Perf) : (updPerf f s).out = s.out := rfl
@[simp] theorem updPerf_freeCtr (f : Perf → Perf) : (updPerf f s).freeCtr = s.freeCtr := rfl
@[simp] theorem updPerf_pending (f : Perf → Perf) : (updPerf f s).pending = s.pending := rfl

@[simp] theorem updPair_variant (f : Pair → Pair) : (updPair f s).variant = s.variant := rfl
@[simp] theorem updPair_ident (f : Pair → Pair) : (updPair f s).ident = s.ident := rfl
@[simp] theorem updPair_fw (f : Pair → Pair) : (updPair f s).fw = s.fw := rfl
@[simp] theorem updPair_persist (f : Pair → Pair) : (updPair f s).persist = s.persist := rfl
@[simp] theorem updPair_worlds (f : Pair → Pair) : (updPair f s).worlds = s.worlds := rfl
@[simp] theorem updPair_perf (f : Pair → Pair) : (updPair f s).perf = s.perf := rfl
@[simp] theorem updPair_clock (f : Pair → Pair) : (updPair f s).clock = s.clock := rfl
@[simp] theorem updPair_ready (f : Pair → Pair) : (updPair f s).ready = s.ready := rfl
@[simp] theorem updPair_activating (f : Pair → Pair) : (updPair f s).activating = s.activating := rfl
@[simp] theorem updPair_init (f : Pair → Pair) : (updPair f s).init = s.init := rfl
@[simp] theorem updPair_scratch (f : Pair → Pair) : (updPair f s).scratch = s.scratch := rfl
@[simp] theorem updPair_mb (f : Pair → Pair) : (updPair f s).mb = s.mb := rfl
@[simp] theorem updPair_window (f : Pair → Pair) : (updPair f s).window = s.window := rfl
@[simp] theorem updPair_nextMb (f : Pair → Pair) : (updPair f s).nextMb = s.nextMb := rfl
@[simp] theorem updPair_pend (f : Pair → Pair) : (updPair f s).pend = s.pend := rfl
@[simp] theorem updPair_ev (f : Pair → Pair) : (updPair f s).ev = s.ev := rfl
@[simp] theorem updPair_spi (f : Pair → Pair) : (updPair f s).spi = s.spi := rfl
@[simp] theorem updPair_tel (f : Pair → Pair) : (updPair f s).tel = s.tel := rfl
@[simp] theorem updPair_flt (f : Pair → Pair) : (updPair f s).flt = s.flt := rfl
@[simp] theorem updPair_links (f : Pair → Pair) : (updPair f s).links = s.links := rfl
@[simp] theorem updPair_tunnels (f : Pair → Pair) : (updPair f s).tunnels = s.tunnels := rfl
@[simp] theorem updPair_scheds (f : Pair → Pair) : (updPair f s).scheds = s.scheds := rfl
@[simp] theorem updPair_commits (f : Pair → Pair) : (updPair f s).commits = s.commits := rfl
@[simp] theorem updPair_sampling (f : Pair → Pair) : (updPair f s).sampling = s.sampling := rfl
@[simp] theorem updPair_disp (f : Pair → Pair) : (updPair f s).disp = s.disp := rfl
@[simp] theorem updPair_pcie (f : Pair → Pair) : (updPair f s).pcie = s.pcie := rfl
@[simp] theorem updPair_usb (f : Pair → Pair) : (updPair f s).usb = s.usb := rfl
@[simp] theorem updPair_net (f : Pair → Pair) : (updPair f s).net = s.net := rfl
@[simp] theorem updPair_can (f : Pair → Pair) : (updPair f s).can = s.can := rfl
@[simp] theorem updPair_pair (f : Pair → Pair) : (updPair f s).pair = f s.pair := rfl
@[simp] theorem updPair_power (f : Pair → Pair) : (updPair f s).power = s.power := rfl
@[simp] theorem updPair_pm (f : Pair → Pair) : (updPair f s).pm = s.pm := rfl
@[simp] theorem updPair_out (f : Pair → Pair) : (updPair f s).out = s.out := rfl
@[simp] theorem updPair_freeCtr (f : Pair → Pair) : (updPair f s).freeCtr = s.freeCtr := rfl
@[simp] theorem updPair_pending (f : Pair → Pair) : (updPair f s).pending = s.pending := rfl

@[simp] theorem updTunnel_variant (h : HostNo) (i : Byte) (f : Tunnel → Tunnel) : (updTunnel h i f s).variant = s.variant := rfl
@[simp] theorem updTunnel_ident (h : HostNo) (i : Byte) (f : Tunnel → Tunnel) : (updTunnel h i f s).ident = s.ident := rfl
@[simp] theorem updTunnel_fw (h : HostNo) (i : Byte) (f : Tunnel → Tunnel) : (updTunnel h i f s).fw = s.fw := rfl
@[simp] theorem updTunnel_persist (h : HostNo) (i : Byte) (f : Tunnel → Tunnel) : (updTunnel h i f s).persist = s.persist := rfl
@[simp] theorem updTunnel_worlds (h : HostNo) (i : Byte) (f : Tunnel → Tunnel) : (updTunnel h i f s).worlds = s.worlds := rfl
@[simp] theorem updTunnel_perf (h : HostNo) (i : Byte) (f : Tunnel → Tunnel) : (updTunnel h i f s).perf = s.perf := rfl
@[simp] theorem updTunnel_clock (h : HostNo) (i : Byte) (f : Tunnel → Tunnel) : (updTunnel h i f s).clock = s.clock := rfl
@[simp] theorem updTunnel_ready (h : HostNo) (i : Byte) (f : Tunnel → Tunnel) : (updTunnel h i f s).ready = s.ready := rfl
@[simp] theorem updTunnel_activating (h : HostNo) (i : Byte) (f : Tunnel → Tunnel) : (updTunnel h i f s).activating = s.activating := rfl
@[simp] theorem updTunnel_init (h : HostNo) (i : Byte) (f : Tunnel → Tunnel) : (updTunnel h i f s).init = s.init := rfl
@[simp] theorem updTunnel_scratch (h : HostNo) (i : Byte) (f : Tunnel → Tunnel) : (updTunnel h i f s).scratch = s.scratch := rfl
@[simp] theorem updTunnel_mb (h : HostNo) (i : Byte) (f : Tunnel → Tunnel) : (updTunnel h i f s).mb = s.mb := rfl
@[simp] theorem updTunnel_window (h : HostNo) (i : Byte) (f : Tunnel → Tunnel) : (updTunnel h i f s).window = s.window := rfl
@[simp] theorem updTunnel_nextMb (h : HostNo) (i : Byte) (f : Tunnel → Tunnel) : (updTunnel h i f s).nextMb = s.nextMb := rfl
@[simp] theorem updTunnel_pend (h : HostNo) (i : Byte) (f : Tunnel → Tunnel) : (updTunnel h i f s).pend = s.pend := rfl
@[simp] theorem updTunnel_ev (h : HostNo) (i : Byte) (f : Tunnel → Tunnel) : (updTunnel h i f s).ev = s.ev := rfl
@[simp] theorem updTunnel_spi (h : HostNo) (i : Byte) (f : Tunnel → Tunnel) : (updTunnel h i f s).spi = s.spi := rfl
@[simp] theorem updTunnel_tel (h : HostNo) (i : Byte) (f : Tunnel → Tunnel) : (updTunnel h i f s).tel = s.tel := rfl
@[simp] theorem updTunnel_flt (h : HostNo) (i : Byte) (f : Tunnel → Tunnel) : (updTunnel h i f s).flt = s.flt := rfl
@[simp] theorem updTunnel_links (h : HostNo) (i : Byte) (f : Tunnel → Tunnel) : (updTunnel h i f s).links = s.links := rfl
@[simp] theorem updTunnel_tunnels (h : HostNo) (i : Byte) (f : Tunnel → Tunnel) : (updTunnel h i f s).tunnels = s.tunnels.map (fun t => if isTunnel h i t then f t else t) := rfl
@[simp] theorem updTunnel_scheds (h : HostNo) (i : Byte) (f : Tunnel → Tunnel) : (updTunnel h i f s).scheds = s.scheds := rfl
@[simp] theorem updTunnel_commits (h : HostNo) (i : Byte) (f : Tunnel → Tunnel) : (updTunnel h i f s).commits = s.commits := rfl
@[simp] theorem updTunnel_sampling (h : HostNo) (i : Byte) (f : Tunnel → Tunnel) : (updTunnel h i f s).sampling = s.sampling := rfl
@[simp] theorem updTunnel_disp (h : HostNo) (i : Byte) (f : Tunnel → Tunnel) : (updTunnel h i f s).disp = s.disp := rfl
@[simp] theorem updTunnel_pcie (h : HostNo) (i : Byte) (f : Tunnel → Tunnel) : (updTunnel h i f s).pcie = s.pcie := rfl
@[simp] theorem updTunnel_usb (h : HostNo) (i : Byte) (f : Tunnel → Tunnel) : (updTunnel h i f s).usb = s.usb := rfl
@[simp] theorem updTunnel_net (h : HostNo) (i : Byte) (f : Tunnel → Tunnel) : (updTunnel h i f s).net = s.net := rfl
@[simp] theorem updTunnel_can (h : HostNo) (i : Byte) (f : Tunnel → Tunnel) : (updTunnel h i f s).can = s.can := rfl
@[simp] theorem updTunnel_pair (h : HostNo) (i : Byte) (f : Tunnel → Tunnel) : (updTunnel h i f s).pair = s.pair := rfl
@[simp] theorem updTunnel_power (h : HostNo) (i : Byte) (f : Tunnel → Tunnel) : (updTunnel h i f s).power = s.power := rfl
@[simp] theorem updTunnel_pm (h : HostNo) (i : Byte) (f : Tunnel → Tunnel) : (updTunnel h i f s).pm = s.pm := rfl
@[simp] theorem updTunnel_out (h : HostNo) (i : Byte) (f : Tunnel → Tunnel) : (updTunnel h i f s).out = s.out := rfl
@[simp] theorem updTunnel_freeCtr (h : HostNo) (i : Byte) (f : Tunnel → Tunnel) : (updTunnel h i f s).freeCtr = s.freeCtr := rfl
@[simp] theorem updTunnel_pending (h : HostNo) (i : Byte) (f : Tunnel → Tunnel) : (updTunnel h i f s).pending = s.pending := rfl

@[simp] theorem updCan_variant (f : Can → Can) : (updCan f s).variant = s.variant := rfl
@[simp] theorem updCan_ident (f : Can → Can) : (updCan f s).ident = s.ident := rfl
@[simp] theorem updCan_fw (f : Can → Can) : (updCan f s).fw = s.fw := rfl
@[simp] theorem updCan_persist (f : Can → Can) : (updCan f s).persist = s.persist := rfl
@[simp] theorem updCan_worlds (f : Can → Can) : (updCan f s).worlds = s.worlds := rfl
@[simp] theorem updCan_perf (f : Can → Can) : (updCan f s).perf = s.perf := rfl
@[simp] theorem updCan_clock (f : Can → Can) : (updCan f s).clock = s.clock := rfl
@[simp] theorem updCan_ready (f : Can → Can) : (updCan f s).ready = s.ready := rfl
@[simp] theorem updCan_activating (f : Can → Can) : (updCan f s).activating = s.activating := rfl
@[simp] theorem updCan_init (f : Can → Can) : (updCan f s).init = s.init := rfl
@[simp] theorem updCan_scratch (f : Can → Can) : (updCan f s).scratch = s.scratch := rfl
@[simp] theorem updCan_mb (f : Can → Can) : (updCan f s).mb = s.mb := rfl
@[simp] theorem updCan_window (f : Can → Can) : (updCan f s).window = s.window := rfl
@[simp] theorem updCan_nextMb (f : Can → Can) : (updCan f s).nextMb = s.nextMb := rfl
@[simp] theorem updCan_pend (f : Can → Can) : (updCan f s).pend = s.pend := rfl
@[simp] theorem updCan_ev (f : Can → Can) : (updCan f s).ev = s.ev := rfl
@[simp] theorem updCan_spi (f : Can → Can) : (updCan f s).spi = s.spi := rfl
@[simp] theorem updCan_tel (f : Can → Can) : (updCan f s).tel = s.tel := rfl
@[simp] theorem updCan_flt (f : Can → Can) : (updCan f s).flt = s.flt := rfl
@[simp] theorem updCan_links (f : Can → Can) : (updCan f s).links = s.links := rfl
@[simp] theorem updCan_tunnels (f : Can → Can) : (updCan f s).tunnels = s.tunnels := rfl
@[simp] theorem updCan_scheds (f : Can → Can) : (updCan f s).scheds = s.scheds := rfl
@[simp] theorem updCan_commits (f : Can → Can) : (updCan f s).commits = s.commits := rfl
@[simp] theorem updCan_sampling (f : Can → Can) : (updCan f s).sampling = s.sampling := rfl
@[simp] theorem updCan_disp (f : Can → Can) : (updCan f s).disp = s.disp := rfl
@[simp] theorem updCan_pcie (f : Can → Can) : (updCan f s).pcie = s.pcie := rfl
@[simp] theorem updCan_usb (f : Can → Can) : (updCan f s).usb = s.usb := rfl
@[simp] theorem updCan_net (f : Can → Can) : (updCan f s).net = s.net := rfl
@[simp] theorem updCan_can (f : Can → Can) : (updCan f s).can = f s.can := rfl
@[simp] theorem updCan_pair (f : Can → Can) : (updCan f s).pair = s.pair := rfl
@[simp] theorem updCan_power (f : Can → Can) : (updCan f s).power = s.power := rfl
@[simp] theorem updCan_pm (f : Can → Can) : (updCan f s).pm = s.pm := rfl
@[simp] theorem updCan_out (f : Can → Can) : (updCan f s).out = s.out := rfl
@[simp] theorem updCan_freeCtr (f : Can → Can) : (updCan f s).freeCtr = s.freeCtr := rfl
@[simp] theorem updCan_pending (f : Can → Can) : (updCan f s).pending = s.pending := rfl

@[simp] theorem updCanPort_variant (p : CanPort) (f : CanPortState → CanPortState) : (updCanPort p f s).variant = s.variant := rfl
@[simp] theorem updCanPort_ident (p : CanPort) (f : CanPortState → CanPortState) : (updCanPort p f s).ident = s.ident := rfl
@[simp] theorem updCanPort_fw (p : CanPort) (f : CanPortState → CanPortState) : (updCanPort p f s).fw = s.fw := rfl
@[simp] theorem updCanPort_persist (p : CanPort) (f : CanPortState → CanPortState) : (updCanPort p f s).persist = s.persist := rfl
@[simp] theorem updCanPort_worlds (p : CanPort) (f : CanPortState → CanPortState) : (updCanPort p f s).worlds = s.worlds := rfl
@[simp] theorem updCanPort_perf (p : CanPort) (f : CanPortState → CanPortState) : (updCanPort p f s).perf = s.perf := rfl
@[simp] theorem updCanPort_clock (p : CanPort) (f : CanPortState → CanPortState) : (updCanPort p f s).clock = s.clock := rfl
@[simp] theorem updCanPort_ready (p : CanPort) (f : CanPortState → CanPortState) : (updCanPort p f s).ready = s.ready := rfl
@[simp] theorem updCanPort_activating (p : CanPort) (f : CanPortState → CanPortState) : (updCanPort p f s).activating = s.activating := rfl
@[simp] theorem updCanPort_init (p : CanPort) (f : CanPortState → CanPortState) : (updCanPort p f s).init = s.init := rfl
@[simp] theorem updCanPort_scratch (p : CanPort) (f : CanPortState → CanPortState) : (updCanPort p f s).scratch = s.scratch := rfl
@[simp] theorem updCanPort_mb (p : CanPort) (f : CanPortState → CanPortState) : (updCanPort p f s).mb = s.mb := rfl
@[simp] theorem updCanPort_window (p : CanPort) (f : CanPortState → CanPortState) : (updCanPort p f s).window = s.window := rfl
@[simp] theorem updCanPort_nextMb (p : CanPort) (f : CanPortState → CanPortState) : (updCanPort p f s).nextMb = s.nextMb := rfl
@[simp] theorem updCanPort_pend (p : CanPort) (f : CanPortState → CanPortState) : (updCanPort p f s).pend = s.pend := rfl
@[simp] theorem updCanPort_ev (p : CanPort) (f : CanPortState → CanPortState) : (updCanPort p f s).ev = s.ev := rfl
@[simp] theorem updCanPort_spi (p : CanPort) (f : CanPortState → CanPortState) : (updCanPort p f s).spi = s.spi := rfl
@[simp] theorem updCanPort_tel (p : CanPort) (f : CanPortState → CanPortState) : (updCanPort p f s).tel = s.tel := rfl
@[simp] theorem updCanPort_flt (p : CanPort) (f : CanPortState → CanPortState) : (updCanPort p f s).flt = s.flt := rfl
@[simp] theorem updCanPort_links (p : CanPort) (f : CanPortState → CanPortState) : (updCanPort p f s).links = s.links := rfl
@[simp] theorem updCanPort_tunnels (p : CanPort) (f : CanPortState → CanPortState) : (updCanPort p f s).tunnels = s.tunnels := rfl
@[simp] theorem updCanPort_scheds (p : CanPort) (f : CanPortState → CanPortState) : (updCanPort p f s).scheds = s.scheds := rfl
@[simp] theorem updCanPort_commits (p : CanPort) (f : CanPortState → CanPortState) : (updCanPort p f s).commits = s.commits := rfl
@[simp] theorem updCanPort_sampling (p : CanPort) (f : CanPortState → CanPortState) : (updCanPort p f s).sampling = s.sampling := rfl
@[simp] theorem updCanPort_disp (p : CanPort) (f : CanPortState → CanPortState) : (updCanPort p f s).disp = s.disp := rfl
@[simp] theorem updCanPort_pcie (p : CanPort) (f : CanPortState → CanPortState) : (updCanPort p f s).pcie = s.pcie := rfl
@[simp] theorem updCanPort_usb (p : CanPort) (f : CanPortState → CanPortState) : (updCanPort p f s).usb = s.usb := rfl
@[simp] theorem updCanPort_net (p : CanPort) (f : CanPortState → CanPortState) : (updCanPort p f s).net = s.net := rfl
@[simp] theorem updCanPort_pair (p : CanPort) (f : CanPortState → CanPortState) : (updCanPort p f s).pair = s.pair := rfl
@[simp] theorem updCanPort_power (p : CanPort) (f : CanPortState → CanPortState) : (updCanPort p f s).power = s.power := rfl
@[simp] theorem updCanPort_pm (p : CanPort) (f : CanPortState → CanPortState) : (updCanPort p f s).pm = s.pm := rfl
@[simp] theorem updCanPort_out (p : CanPort) (f : CanPortState → CanPortState) : (updCanPort p f s).out = s.out := rfl
@[simp] theorem updCanPort_freeCtr (p : CanPort) (f : CanPortState → CanPortState) : (updCanPort p f s).freeCtr = s.freeCtr := rfl
@[simp] theorem updCanPort_pending (p : CanPort) (f : CanPortState → CanPortState) : (updCanPort p f s).pending = s.pending := rfl

@[simp] theorem updNet_variant (f : Net → Net) : (updNet f s).variant = s.variant := rfl
@[simp] theorem updNet_ident (f : Net → Net) : (updNet f s).ident = s.ident := rfl
@[simp] theorem updNet_fw (f : Net → Net) : (updNet f s).fw = s.fw := rfl
@[simp] theorem updNet_persist (f : Net → Net) : (updNet f s).persist = s.persist := rfl
@[simp] theorem updNet_worlds (f : Net → Net) : (updNet f s).worlds = s.worlds := rfl
@[simp] theorem updNet_perf (f : Net → Net) : (updNet f s).perf = s.perf := rfl
@[simp] theorem updNet_clock (f : Net → Net) : (updNet f s).clock = s.clock := rfl
@[simp] theorem updNet_ready (f : Net → Net) : (updNet f s).ready = s.ready := rfl
@[simp] theorem updNet_activating (f : Net → Net) : (updNet f s).activating = s.activating := rfl
@[simp] theorem updNet_init (f : Net → Net) : (updNet f s).init = s.init := rfl
@[simp] theorem updNet_scratch (f : Net → Net) : (updNet f s).scratch = s.scratch := rfl
@[simp] theorem updNet_mb (f : Net → Net) : (updNet f s).mb = s.mb := rfl
@[simp] theorem updNet_window (f : Net → Net) : (updNet f s).window = s.window := rfl
@[simp] theorem updNet_nextMb (f : Net → Net) : (updNet f s).nextMb = s.nextMb := rfl
@[simp] theorem updNet_pend (f : Net → Net) : (updNet f s).pend = s.pend := rfl
@[simp] theorem updNet_ev (f : Net → Net) : (updNet f s).ev = s.ev := rfl
@[simp] theorem updNet_spi (f : Net → Net) : (updNet f s).spi = s.spi := rfl
@[simp] theorem updNet_tel (f : Net → Net) : (updNet f s).tel = s.tel := rfl
@[simp] theorem updNet_flt (f : Net → Net) : (updNet f s).flt = s.flt := rfl
@[simp] theorem updNet_links (f : Net → Net) : (updNet f s).links = s.links := rfl
@[simp] theorem updNet_tunnels (f : Net → Net) : (updNet f s).tunnels = s.tunnels := rfl
@[simp] theorem updNet_scheds (f : Net → Net) : (updNet f s).scheds = s.scheds := rfl
@[simp] theorem updNet_commits (f : Net → Net) : (updNet f s).commits = s.commits := rfl
@[simp] theorem updNet_sampling (f : Net → Net) : (updNet f s).sampling = s.sampling := rfl
@[simp] theorem updNet_disp (f : Net → Net) : (updNet f s).disp = s.disp := rfl
@[simp] theorem updNet_pcie (f : Net → Net) : (updNet f s).pcie = s.pcie := rfl
@[simp] theorem updNet_usb (f : Net → Net) : (updNet f s).usb = s.usb := rfl
@[simp] theorem updNet_net (f : Net → Net) : (updNet f s).net = f s.net := rfl
@[simp] theorem updNet_can (f : Net → Net) : (updNet f s).can = s.can := rfl
@[simp] theorem updNet_pair (f : Net → Net) : (updNet f s).pair = s.pair := rfl
@[simp] theorem updNet_power (f : Net → Net) : (updNet f s).power = s.power := rfl
@[simp] theorem updNet_pm (f : Net → Net) : (updNet f s).pm = s.pm := rfl
@[simp] theorem updNet_out (f : Net → Net) : (updNet f s).out = s.out := rfl
@[simp] theorem updNet_freeCtr (f : Net → Net) : (updNet f s).freeCtr = s.freeCtr := rfl
@[simp] theorem updNet_pending (f : Net → Net) : (updNet f s).pending = s.pending := rfl

@[simp] theorem updSw_variant (p : SwPort) (f : NetPort → NetPort) : (updSw p f s).variant = s.variant := rfl
@[simp] theorem updSw_ident (p : SwPort) (f : NetPort → NetPort) : (updSw p f s).ident = s.ident := rfl
@[simp] theorem updSw_fw (p : SwPort) (f : NetPort → NetPort) : (updSw p f s).fw = s.fw := rfl
@[simp] theorem updSw_persist (p : SwPort) (f : NetPort → NetPort) : (updSw p f s).persist = s.persist := rfl
@[simp] theorem updSw_worlds (p : SwPort) (f : NetPort → NetPort) : (updSw p f s).worlds = s.worlds := rfl
@[simp] theorem updSw_perf (p : SwPort) (f : NetPort → NetPort) : (updSw p f s).perf = s.perf := rfl
@[simp] theorem updSw_clock (p : SwPort) (f : NetPort → NetPort) : (updSw p f s).clock = s.clock := rfl
@[simp] theorem updSw_ready (p : SwPort) (f : NetPort → NetPort) : (updSw p f s).ready = s.ready := rfl
@[simp] theorem updSw_activating (p : SwPort) (f : NetPort → NetPort) : (updSw p f s).activating = s.activating := rfl
@[simp] theorem updSw_init (p : SwPort) (f : NetPort → NetPort) : (updSw p f s).init = s.init := rfl
@[simp] theorem updSw_scratch (p : SwPort) (f : NetPort → NetPort) : (updSw p f s).scratch = s.scratch := rfl
@[simp] theorem updSw_mb (p : SwPort) (f : NetPort → NetPort) : (updSw p f s).mb = s.mb := rfl
@[simp] theorem updSw_window (p : SwPort) (f : NetPort → NetPort) : (updSw p f s).window = s.window := rfl
@[simp] theorem updSw_nextMb (p : SwPort) (f : NetPort → NetPort) : (updSw p f s).nextMb = s.nextMb := rfl
@[simp] theorem updSw_pend (p : SwPort) (f : NetPort → NetPort) : (updSw p f s).pend = s.pend := rfl
@[simp] theorem updSw_ev (p : SwPort) (f : NetPort → NetPort) : (updSw p f s).ev = s.ev := rfl
@[simp] theorem updSw_spi (p : SwPort) (f : NetPort → NetPort) : (updSw p f s).spi = s.spi := rfl
@[simp] theorem updSw_tel (p : SwPort) (f : NetPort → NetPort) : (updSw p f s).tel = s.tel := rfl
@[simp] theorem updSw_flt (p : SwPort) (f : NetPort → NetPort) : (updSw p f s).flt = s.flt := rfl
@[simp] theorem updSw_links (p : SwPort) (f : NetPort → NetPort) : (updSw p f s).links = s.links := rfl
@[simp] theorem updSw_tunnels (p : SwPort) (f : NetPort → NetPort) : (updSw p f s).tunnels = s.tunnels := rfl
@[simp] theorem updSw_scheds (p : SwPort) (f : NetPort → NetPort) : (updSw p f s).scheds = s.scheds := rfl
@[simp] theorem updSw_commits (p : SwPort) (f : NetPort → NetPort) : (updSw p f s).commits = s.commits := rfl
@[simp] theorem updSw_sampling (p : SwPort) (f : NetPort → NetPort) : (updSw p f s).sampling = s.sampling := rfl
@[simp] theorem updSw_disp (p : SwPort) (f : NetPort → NetPort) : (updSw p f s).disp = s.disp := rfl
@[simp] theorem updSw_pcie (p : SwPort) (f : NetPort → NetPort) : (updSw p f s).pcie = s.pcie := rfl
@[simp] theorem updSw_usb (p : SwPort) (f : NetPort → NetPort) : (updSw p f s).usb = s.usb := rfl
@[simp] theorem updSw_can (p : SwPort) (f : NetPort → NetPort) : (updSw p f s).can = s.can := rfl
@[simp] theorem updSw_pair (p : SwPort) (f : NetPort → NetPort) : (updSw p f s).pair = s.pair := rfl
@[simp] theorem updSw_power (p : SwPort) (f : NetPort → NetPort) : (updSw p f s).power = s.power := rfl
@[simp] theorem updSw_pm (p : SwPort) (f : NetPort → NetPort) : (updSw p f s).pm = s.pm := rfl
@[simp] theorem updSw_out (p : SwPort) (f : NetPort → NetPort) : (updSw p f s).out = s.out := rfl
@[simp] theorem updSw_freeCtr (p : SwPort) (f : NetPort → NetPort) : (updSw p f s).freeCtr = s.freeCtr := rfl
@[simp] theorem updSw_pending (p : SwPort) (f : NetPort → NetPort) : (updSw p f s).pending = s.pending := rfl

@[simp] theorem updEth_variant (p : EthPort) (f : EthState → EthState) : (updEth p f s).variant = s.variant := rfl
@[simp] theorem updEth_ident (p : EthPort) (f : EthState → EthState) : (updEth p f s).ident = s.ident := rfl
@[simp] theorem updEth_fw (p : EthPort) (f : EthState → EthState) : (updEth p f s).fw = s.fw := rfl
@[simp] theorem updEth_persist (p : EthPort) (f : EthState → EthState) : (updEth p f s).persist = s.persist := rfl
@[simp] theorem updEth_worlds (p : EthPort) (f : EthState → EthState) : (updEth p f s).worlds = s.worlds := rfl
@[simp] theorem updEth_perf (p : EthPort) (f : EthState → EthState) : (updEth p f s).perf = s.perf := rfl
@[simp] theorem updEth_clock (p : EthPort) (f : EthState → EthState) : (updEth p f s).clock = s.clock := rfl
@[simp] theorem updEth_ready (p : EthPort) (f : EthState → EthState) : (updEth p f s).ready = s.ready := rfl
@[simp] theorem updEth_activating (p : EthPort) (f : EthState → EthState) : (updEth p f s).activating = s.activating := rfl
@[simp] theorem updEth_init (p : EthPort) (f : EthState → EthState) : (updEth p f s).init = s.init := rfl
@[simp] theorem updEth_scratch (p : EthPort) (f : EthState → EthState) : (updEth p f s).scratch = s.scratch := rfl
@[simp] theorem updEth_mb (p : EthPort) (f : EthState → EthState) : (updEth p f s).mb = s.mb := rfl
@[simp] theorem updEth_window (p : EthPort) (f : EthState → EthState) : (updEth p f s).window = s.window := rfl
@[simp] theorem updEth_nextMb (p : EthPort) (f : EthState → EthState) : (updEth p f s).nextMb = s.nextMb := rfl
@[simp] theorem updEth_pend (p : EthPort) (f : EthState → EthState) : (updEth p f s).pend = s.pend := rfl
@[simp] theorem updEth_ev (p : EthPort) (f : EthState → EthState) : (updEth p f s).ev = s.ev := rfl
@[simp] theorem updEth_spi (p : EthPort) (f : EthState → EthState) : (updEth p f s).spi = s.spi := rfl
@[simp] theorem updEth_tel (p : EthPort) (f : EthState → EthState) : (updEth p f s).tel = s.tel := rfl
@[simp] theorem updEth_flt (p : EthPort) (f : EthState → EthState) : (updEth p f s).flt = s.flt := rfl
@[simp] theorem updEth_links (p : EthPort) (f : EthState → EthState) : (updEth p f s).links = s.links := rfl
@[simp] theorem updEth_tunnels (p : EthPort) (f : EthState → EthState) : (updEth p f s).tunnels = s.tunnels := rfl
@[simp] theorem updEth_scheds (p : EthPort) (f : EthState → EthState) : (updEth p f s).scheds = s.scheds := rfl
@[simp] theorem updEth_commits (p : EthPort) (f : EthState → EthState) : (updEth p f s).commits = s.commits := rfl
@[simp] theorem updEth_sampling (p : EthPort) (f : EthState → EthState) : (updEth p f s).sampling = s.sampling := rfl
@[simp] theorem updEth_disp (p : EthPort) (f : EthState → EthState) : (updEth p f s).disp = s.disp := rfl
@[simp] theorem updEth_pcie (p : EthPort) (f : EthState → EthState) : (updEth p f s).pcie = s.pcie := rfl
@[simp] theorem updEth_usb (p : EthPort) (f : EthState → EthState) : (updEth p f s).usb = s.usb := rfl
@[simp] theorem updEth_can (p : EthPort) (f : EthState → EthState) : (updEth p f s).can = s.can := rfl
@[simp] theorem updEth_pair (p : EthPort) (f : EthState → EthState) : (updEth p f s).pair = s.pair := rfl
@[simp] theorem updEth_power (p : EthPort) (f : EthState → EthState) : (updEth p f s).power = s.power := rfl
@[simp] theorem updEth_pm (p : EthPort) (f : EthState → EthState) : (updEth p f s).pm = s.pm := rfl
@[simp] theorem updEth_out (p : EthPort) (f : EthState → EthState) : (updEth p f s).out = s.out := rfl
@[simp] theorem updEth_freeCtr (p : EthPort) (f : EthState → EthState) : (updEth p f s).freeCtr = s.freeCtr := rfl
@[simp] theorem updEth_pending (p : EthPort) (f : EthState → EthState) : (updEth p f s).pending = s.pending := rfl

@[simp] theorem updPort_variant (p : PciePort) (f : PciePortState → PciePortState) : (updPort p f s).variant = s.variant := rfl
@[simp] theorem updPort_ident (p : PciePort) (f : PciePortState → PciePortState) : (updPort p f s).ident = s.ident := rfl
@[simp] theorem updPort_fw (p : PciePort) (f : PciePortState → PciePortState) : (updPort p f s).fw = s.fw := rfl
@[simp] theorem updPort_persist (p : PciePort) (f : PciePortState → PciePortState) : (updPort p f s).persist = s.persist := rfl
@[simp] theorem updPort_worlds (p : PciePort) (f : PciePortState → PciePortState) : (updPort p f s).worlds = s.worlds := rfl
@[simp] theorem updPort_perf (p : PciePort) (f : PciePortState → PciePortState) : (updPort p f s).perf = s.perf := rfl
@[simp] theorem updPort_clock (p : PciePort) (f : PciePortState → PciePortState) : (updPort p f s).clock = s.clock := rfl
@[simp] theorem updPort_ready (p : PciePort) (f : PciePortState → PciePortState) : (updPort p f s).ready = s.ready := rfl
@[simp] theorem updPort_activating (p : PciePort) (f : PciePortState → PciePortState) : (updPort p f s).activating = s.activating := rfl
@[simp] theorem updPort_init (p : PciePort) (f : PciePortState → PciePortState) : (updPort p f s).init = s.init := rfl
@[simp] theorem updPort_scratch (p : PciePort) (f : PciePortState → PciePortState) : (updPort p f s).scratch = s.scratch := rfl
@[simp] theorem updPort_mb (p : PciePort) (f : PciePortState → PciePortState) : (updPort p f s).mb = s.mb := rfl
@[simp] theorem updPort_window (p : PciePort) (f : PciePortState → PciePortState) : (updPort p f s).window = s.window := rfl
@[simp] theorem updPort_nextMb (p : PciePort) (f : PciePortState → PciePortState) : (updPort p f s).nextMb = s.nextMb := rfl
@[simp] theorem updPort_pend (p : PciePort) (f : PciePortState → PciePortState) : (updPort p f s).pend = s.pend := rfl
@[simp] theorem updPort_ev (p : PciePort) (f : PciePortState → PciePortState) : (updPort p f s).ev = s.ev := rfl
@[simp] theorem updPort_spi (p : PciePort) (f : PciePortState → PciePortState) : (updPort p f s).spi = s.spi := rfl
@[simp] theorem updPort_tel (p : PciePort) (f : PciePortState → PciePortState) : (updPort p f s).tel = s.tel := rfl
@[simp] theorem updPort_flt (p : PciePort) (f : PciePortState → PciePortState) : (updPort p f s).flt = s.flt := rfl
@[simp] theorem updPort_links (p : PciePort) (f : PciePortState → PciePortState) : (updPort p f s).links = s.links := rfl
@[simp] theorem updPort_tunnels (p : PciePort) (f : PciePortState → PciePortState) : (updPort p f s).tunnels = s.tunnels := rfl
@[simp] theorem updPort_scheds (p : PciePort) (f : PciePortState → PciePortState) : (updPort p f s).scheds = s.scheds := rfl
@[simp] theorem updPort_commits (p : PciePort) (f : PciePortState → PciePortState) : (updPort p f s).commits = s.commits := rfl
@[simp] theorem updPort_sampling (p : PciePort) (f : PciePortState → PciePortState) : (updPort p f s).sampling = s.sampling := rfl
@[simp] theorem updPort_disp (p : PciePort) (f : PciePortState → PciePortState) : (updPort p f s).disp = s.disp := rfl
@[simp] theorem updPort_usb (p : PciePort) (f : PciePortState → PciePortState) : (updPort p f s).usb = s.usb := rfl
@[simp] theorem updPort_net (p : PciePort) (f : PciePortState → PciePortState) : (updPort p f s).net = s.net := rfl
@[simp] theorem updPort_can (p : PciePort) (f : PciePortState → PciePortState) : (updPort p f s).can = s.can := rfl
@[simp] theorem updPort_pair (p : PciePort) (f : PciePortState → PciePortState) : (updPort p f s).pair = s.pair := rfl
@[simp] theorem updPort_power (p : PciePort) (f : PciePortState → PciePortState) : (updPort p f s).power = s.power := rfl
@[simp] theorem updPort_pm (p : PciePort) (f : PciePortState → PciePortState) : (updPort p f s).pm = s.pm := rfl
@[simp] theorem updPort_out (p : PciePort) (f : PciePortState → PciePortState) : (updPort p f s).out = s.out := rfl
@[simp] theorem updPort_freeCtr (p : PciePort) (f : PciePortState → PciePortState) : (updPort p f s).freeCtr = s.freeCtr := rfl
@[simp] theorem updPort_pending (p : PciePort) (f : PciePortState → PciePortState) : (updPort p f s).pending = s.pending := rfl

@[simp] theorem updPower_variant (f : Power → Power) : (updPower f s).variant = s.variant := rfl
@[simp] theorem updPower_ident (f : Power → Power) : (updPower f s).ident = s.ident := rfl
@[simp] theorem updPower_fw (f : Power → Power) : (updPower f s).fw = s.fw := rfl
@[simp] theorem updPower_persist (f : Power → Power) : (updPower f s).persist = s.persist := rfl
@[simp] theorem updPower_worlds (f : Power → Power) : (updPower f s).worlds = s.worlds := rfl
@[simp] theorem updPower_perf (f : Power → Power) : (updPower f s).perf = s.perf := rfl
@[simp] theorem updPower_clock (f : Power → Power) : (updPower f s).clock = s.clock := rfl
@[simp] theorem updPower_ready (f : Power → Power) : (updPower f s).ready = s.ready := rfl
@[simp] theorem updPower_activating (f : Power → Power) : (updPower f s).activating = s.activating := rfl
@[simp] theorem updPower_init (f : Power → Power) : (updPower f s).init = s.init := rfl
@[simp] theorem updPower_scratch (f : Power → Power) : (updPower f s).scratch = s.scratch := rfl
@[simp] theorem updPower_mb (f : Power → Power) : (updPower f s).mb = s.mb := rfl
@[simp] theorem updPower_window (f : Power → Power) : (updPower f s).window = s.window := rfl
@[simp] theorem updPower_nextMb (f : Power → Power) : (updPower f s).nextMb = s.nextMb := rfl
@[simp] theorem updPower_pend (f : Power → Power) : (updPower f s).pend = s.pend := rfl
@[simp] theorem updPower_ev (f : Power → Power) : (updPower f s).ev = s.ev := rfl
@[simp] theorem updPower_spi (f : Power → Power) : (updPower f s).spi = s.spi := rfl
@[simp] theorem updPower_tel (f : Power → Power) : (updPower f s).tel = s.tel := rfl
@[simp] theorem updPower_flt (f : Power → Power) : (updPower f s).flt = s.flt := rfl
@[simp] theorem updPower_links (f : Power → Power) : (updPower f s).links = s.links := rfl
@[simp] theorem updPower_tunnels (f : Power → Power) : (updPower f s).tunnels = s.tunnels := rfl
@[simp] theorem updPower_scheds (f : Power → Power) : (updPower f s).scheds = s.scheds := rfl
@[simp] theorem updPower_commits (f : Power → Power) : (updPower f s).commits = s.commits := rfl
@[simp] theorem updPower_sampling (f : Power → Power) : (updPower f s).sampling = s.sampling := rfl
@[simp] theorem updPower_disp (f : Power → Power) : (updPower f s).disp = s.disp := rfl
@[simp] theorem updPower_pcie (f : Power → Power) : (updPower f s).pcie = s.pcie := rfl
@[simp] theorem updPower_usb (f : Power → Power) : (updPower f s).usb = s.usb := rfl
@[simp] theorem updPower_net (f : Power → Power) : (updPower f s).net = s.net := rfl
@[simp] theorem updPower_can (f : Power → Power) : (updPower f s).can = s.can := rfl
@[simp] theorem updPower_pair (f : Power → Power) : (updPower f s).pair = s.pair := rfl
@[simp] theorem updPower_power (f : Power → Power) : (updPower f s).power = f s.power := rfl
@[simp] theorem updPower_pm (f : Power → Power) : (updPower f s).pm = s.pm := rfl
@[simp] theorem updPower_out (f : Power → Power) : (updPower f s).out = s.out := rfl
@[simp] theorem updPower_freeCtr (f : Power → Power) : (updPower f s).freeCtr = s.freeCtr := rfl
@[simp] theorem updPower_pending (f : Power → Power) : (updPower f s).pending = s.pending := rfl

@[simp] theorem updPd_variant (u : Up) (f : PdSource → PdSource) : (updPd u f s).variant = s.variant := rfl
@[simp] theorem updPd_ident (u : Up) (f : PdSource → PdSource) : (updPd u f s).ident = s.ident := rfl
@[simp] theorem updPd_fw (u : Up) (f : PdSource → PdSource) : (updPd u f s).fw = s.fw := rfl
@[simp] theorem updPd_persist (u : Up) (f : PdSource → PdSource) : (updPd u f s).persist = s.persist := rfl
@[simp] theorem updPd_worlds (u : Up) (f : PdSource → PdSource) : (updPd u f s).worlds = s.worlds := rfl
@[simp] theorem updPd_perf (u : Up) (f : PdSource → PdSource) : (updPd u f s).perf = s.perf := rfl
@[simp] theorem updPd_clock (u : Up) (f : PdSource → PdSource) : (updPd u f s).clock = s.clock := rfl
@[simp] theorem updPd_ready (u : Up) (f : PdSource → PdSource) : (updPd u f s).ready = s.ready := rfl
@[simp] theorem updPd_activating (u : Up) (f : PdSource → PdSource) : (updPd u f s).activating = s.activating := rfl
@[simp] theorem updPd_init (u : Up) (f : PdSource → PdSource) : (updPd u f s).init = s.init := rfl
@[simp] theorem updPd_scratch (u : Up) (f : PdSource → PdSource) : (updPd u f s).scratch = s.scratch := rfl
@[simp] theorem updPd_mb (u : Up) (f : PdSource → PdSource) : (updPd u f s).mb = s.mb := rfl
@[simp] theorem updPd_window (u : Up) (f : PdSource → PdSource) : (updPd u f s).window = s.window := rfl
@[simp] theorem updPd_nextMb (u : Up) (f : PdSource → PdSource) : (updPd u f s).nextMb = s.nextMb := rfl
@[simp] theorem updPd_pend (u : Up) (f : PdSource → PdSource) : (updPd u f s).pend = s.pend := rfl
@[simp] theorem updPd_ev (u : Up) (f : PdSource → PdSource) : (updPd u f s).ev = s.ev := rfl
@[simp] theorem updPd_spi (u : Up) (f : PdSource → PdSource) : (updPd u f s).spi = s.spi := rfl
@[simp] theorem updPd_tel (u : Up) (f : PdSource → PdSource) : (updPd u f s).tel = s.tel := rfl
@[simp] theorem updPd_flt (u : Up) (f : PdSource → PdSource) : (updPd u f s).flt = s.flt := rfl
@[simp] theorem updPd_links (u : Up) (f : PdSource → PdSource) : (updPd u f s).links = s.links := rfl
@[simp] theorem updPd_tunnels (u : Up) (f : PdSource → PdSource) : (updPd u f s).tunnels = s.tunnels := rfl
@[simp] theorem updPd_scheds (u : Up) (f : PdSource → PdSource) : (updPd u f s).scheds = s.scheds := rfl
@[simp] theorem updPd_commits (u : Up) (f : PdSource → PdSource) : (updPd u f s).commits = s.commits := rfl
@[simp] theorem updPd_sampling (u : Up) (f : PdSource → PdSource) : (updPd u f s).sampling = s.sampling := rfl
@[simp] theorem updPd_disp (u : Up) (f : PdSource → PdSource) : (updPd u f s).disp = s.disp := rfl
@[simp] theorem updPd_pcie (u : Up) (f : PdSource → PdSource) : (updPd u f s).pcie = s.pcie := rfl
@[simp] theorem updPd_usb (u : Up) (f : PdSource → PdSource) : (updPd u f s).usb = s.usb := rfl
@[simp] theorem updPd_net (u : Up) (f : PdSource → PdSource) : (updPd u f s).net = s.net := rfl
@[simp] theorem updPd_can (u : Up) (f : PdSource → PdSource) : (updPd u f s).can = s.can := rfl
@[simp] theorem updPd_pair (u : Up) (f : PdSource → PdSource) : (updPd u f s).pair = s.pair := rfl
@[simp] theorem updPd_pm (u : Up) (f : PdSource → PdSource) : (updPd u f s).pm = s.pm := rfl
@[simp] theorem updPd_out (u : Up) (f : PdSource → PdSource) : (updPd u f s).out = s.out := rfl
@[simp] theorem updPd_freeCtr (u : Up) (f : PdSource → PdSource) : (updPd u f s).freeCtr = s.freeCtr := rfl
@[simp] theorem updPd_pending (u : Up) (f : PdSource → PdSource) : (updPd u f s).pending = s.pending := rfl

@[simp] theorem updPm_variant (f : Pm → Pm) : (updPm f s).variant = s.variant := rfl
@[simp] theorem updPm_ident (f : Pm → Pm) : (updPm f s).ident = s.ident := rfl
@[simp] theorem updPm_fw (f : Pm → Pm) : (updPm f s).fw = s.fw := rfl
@[simp] theorem updPm_persist (f : Pm → Pm) : (updPm f s).persist = s.persist := rfl
@[simp] theorem updPm_worlds (f : Pm → Pm) : (updPm f s).worlds = s.worlds := rfl
@[simp] theorem updPm_perf (f : Pm → Pm) : (updPm f s).perf = s.perf := rfl
@[simp] theorem updPm_clock (f : Pm → Pm) : (updPm f s).clock = s.clock := rfl
@[simp] theorem updPm_ready (f : Pm → Pm) : (updPm f s).ready = s.ready := rfl
@[simp] theorem updPm_activating (f : Pm → Pm) : (updPm f s).activating = s.activating := rfl
@[simp] theorem updPm_init (f : Pm → Pm) : (updPm f s).init = s.init := rfl
@[simp] theorem updPm_scratch (f : Pm → Pm) : (updPm f s).scratch = s.scratch := rfl
@[simp] theorem updPm_mb (f : Pm → Pm) : (updPm f s).mb = s.mb := rfl
@[simp] theorem updPm_window (f : Pm → Pm) : (updPm f s).window = s.window := rfl
@[simp] theorem updPm_nextMb (f : Pm → Pm) : (updPm f s).nextMb = s.nextMb := rfl
@[simp] theorem updPm_pend (f : Pm → Pm) : (updPm f s).pend = s.pend := rfl
@[simp] theorem updPm_ev (f : Pm → Pm) : (updPm f s).ev = s.ev := rfl
@[simp] theorem updPm_spi (f : Pm → Pm) : (updPm f s).spi = s.spi := rfl
@[simp] theorem updPm_tel (f : Pm → Pm) : (updPm f s).tel = s.tel := rfl
@[simp] theorem updPm_flt (f : Pm → Pm) : (updPm f s).flt = s.flt := rfl
@[simp] theorem updPm_links (f : Pm → Pm) : (updPm f s).links = s.links := rfl
@[simp] theorem updPm_tunnels (f : Pm → Pm) : (updPm f s).tunnels = s.tunnels := rfl
@[simp] theorem updPm_scheds (f : Pm → Pm) : (updPm f s).scheds = s.scheds := rfl
@[simp] theorem updPm_commits (f : Pm → Pm) : (updPm f s).commits = s.commits := rfl
@[simp] theorem updPm_sampling (f : Pm → Pm) : (updPm f s).sampling = s.sampling := rfl
@[simp] theorem updPm_disp (f : Pm → Pm) : (updPm f s).disp = s.disp := rfl
@[simp] theorem updPm_pcie (f : Pm → Pm) : (updPm f s).pcie = s.pcie := rfl
@[simp] theorem updPm_usb (f : Pm → Pm) : (updPm f s).usb = s.usb := rfl
@[simp] theorem updPm_net (f : Pm → Pm) : (updPm f s).net = s.net := rfl
@[simp] theorem updPm_can (f : Pm → Pm) : (updPm f s).can = s.can := rfl
@[simp] theorem updPm_pair (f : Pm → Pm) : (updPm f s).pair = s.pair := rfl
@[simp] theorem updPm_power (f : Pm → Pm) : (updPm f s).power = s.power := rfl
@[simp] theorem updPm_pm (f : Pm → Pm) : (updPm f s).pm = f s.pm := rfl
@[simp] theorem updPm_out (f : Pm → Pm) : (updPm f s).out = s.out := rfl
@[simp] theorem updPm_freeCtr (f : Pm → Pm) : (updPm f s).freeCtr = s.freeCtr := rfl
@[simp] theorem updPm_pending (f : Pm → Pm) : (updPm f s).pending = s.pending := rfl

@[simp] theorem updFw_variant (f : Firmware → Firmware) : (updFw f s).variant = s.variant := rfl
@[simp] theorem updFw_ident (f : Firmware → Firmware) : (updFw f s).ident = s.ident := rfl
@[simp] theorem updFw_fw (f : Firmware → Firmware) : (updFw f s).fw = f s.fw := rfl
@[simp] theorem updFw_persist (f : Firmware → Firmware) : (updFw f s).persist = s.persist := rfl
@[simp] theorem updFw_worlds (f : Firmware → Firmware) : (updFw f s).worlds = s.worlds := rfl
@[simp] theorem updFw_perf (f : Firmware → Firmware) : (updFw f s).perf = s.perf := rfl
@[simp] theorem updFw_clock (f : Firmware → Firmware) : (updFw f s).clock = s.clock := rfl
@[simp] theorem updFw_ready (f : Firmware → Firmware) : (updFw f s).ready = s.ready := rfl
@[simp] theorem updFw_activating (f : Firmware → Firmware) : (updFw f s).activating = s.activating := rfl
@[simp] theorem updFw_init (f : Firmware → Firmware) : (updFw f s).init = s.init := rfl
@[simp] theorem updFw_scratch (f : Firmware → Firmware) : (updFw f s).scratch = s.scratch := rfl
@[simp] theorem updFw_mb (f : Firmware → Firmware) : (updFw f s).mb = s.mb := rfl
@[simp] theorem updFw_window (f : Firmware → Firmware) : (updFw f s).window = s.window := rfl
@[simp] theorem updFw_nextMb (f : Firmware → Firmware) : (updFw f s).nextMb = s.nextMb := rfl
@[simp] theorem updFw_pend (f : Firmware → Firmware) : (updFw f s).pend = s.pend := rfl
@[simp] theorem updFw_ev (f : Firmware → Firmware) : (updFw f s).ev = s.ev := rfl
@[simp] theorem updFw_spi (f : Firmware → Firmware) : (updFw f s).spi = s.spi := rfl
@[simp] theorem updFw_tel (f : Firmware → Firmware) : (updFw f s).tel = s.tel := rfl
@[simp] theorem updFw_flt (f : Firmware → Firmware) : (updFw f s).flt = s.flt := rfl
@[simp] theorem updFw_links (f : Firmware → Firmware) : (updFw f s).links = s.links := rfl
@[simp] theorem updFw_tunnels (f : Firmware → Firmware) : (updFw f s).tunnels = s.tunnels := rfl
@[simp] theorem updFw_scheds (f : Firmware → Firmware) : (updFw f s).scheds = s.scheds := rfl
@[simp] theorem updFw_commits (f : Firmware → Firmware) : (updFw f s).commits = s.commits := rfl
@[simp] theorem updFw_sampling (f : Firmware → Firmware) : (updFw f s).sampling = s.sampling := rfl
@[simp] theorem updFw_disp (f : Firmware → Firmware) : (updFw f s).disp = s.disp := rfl
@[simp] theorem updFw_pcie (f : Firmware → Firmware) : (updFw f s).pcie = s.pcie := rfl
@[simp] theorem updFw_usb (f : Firmware → Firmware) : (updFw f s).usb = s.usb := rfl
@[simp] theorem updFw_net (f : Firmware → Firmware) : (updFw f s).net = s.net := rfl
@[simp] theorem updFw_can (f : Firmware → Firmware) : (updFw f s).can = s.can := rfl
@[simp] theorem updFw_pair (f : Firmware → Firmware) : (updFw f s).pair = s.pair := rfl
@[simp] theorem updFw_power (f : Firmware → Firmware) : (updFw f s).power = s.power := rfl
@[simp] theorem updFw_pm (f : Firmware → Firmware) : (updFw f s).pm = s.pm := rfl
@[simp] theorem updFw_out (f : Firmware → Firmware) : (updFw f s).out = s.out := rfl
@[simp] theorem updFw_freeCtr (f : Firmware → Firmware) : (updFw f s).freeCtr = s.freeCtr := rfl
@[simp] theorem updFw_pending (f : Firmware → Firmware) : (updFw f s).pending = s.pending := rfl

@[simp] theorem updSlot_variant (n : Fin 2) (f : Slot → Slot) : (updSlot n f s).variant = s.variant := rfl
@[simp] theorem updSlot_ident (n : Fin 2) (f : Slot → Slot) : (updSlot n f s).ident = s.ident := rfl
@[simp] theorem updSlot_fw (n : Fin 2) (f : Slot → Slot) : (updSlot n f s).fw = { s.fw with slots := upd s.fw.slots n f } := rfl
@[simp] theorem updSlot_persist (n : Fin 2) (f : Slot → Slot) : (updSlot n f s).persist = s.persist := rfl
@[simp] theorem updSlot_worlds (n : Fin 2) (f : Slot → Slot) : (updSlot n f s).worlds = s.worlds := rfl
@[simp] theorem updSlot_perf (n : Fin 2) (f : Slot → Slot) : (updSlot n f s).perf = s.perf := rfl
@[simp] theorem updSlot_clock (n : Fin 2) (f : Slot → Slot) : (updSlot n f s).clock = s.clock := rfl
@[simp] theorem updSlot_ready (n : Fin 2) (f : Slot → Slot) : (updSlot n f s).ready = s.ready := rfl
@[simp] theorem updSlot_activating (n : Fin 2) (f : Slot → Slot) : (updSlot n f s).activating = s.activating := rfl
@[simp] theorem updSlot_init (n : Fin 2) (f : Slot → Slot) : (updSlot n f s).init = s.init := rfl
@[simp] theorem updSlot_scratch (n : Fin 2) (f : Slot → Slot) : (updSlot n f s).scratch = s.scratch := rfl
@[simp] theorem updSlot_mb (n : Fin 2) (f : Slot → Slot) : (updSlot n f s).mb = s.mb := rfl
@[simp] theorem updSlot_window (n : Fin 2) (f : Slot → Slot) : (updSlot n f s).window = s.window := rfl
@[simp] theorem updSlot_nextMb (n : Fin 2) (f : Slot → Slot) : (updSlot n f s).nextMb = s.nextMb := rfl
@[simp] theorem updSlot_pend (n : Fin 2) (f : Slot → Slot) : (updSlot n f s).pend = s.pend := rfl
@[simp] theorem updSlot_ev (n : Fin 2) (f : Slot → Slot) : (updSlot n f s).ev = s.ev := rfl
@[simp] theorem updSlot_spi (n : Fin 2) (f : Slot → Slot) : (updSlot n f s).spi = s.spi := rfl
@[simp] theorem updSlot_tel (n : Fin 2) (f : Slot → Slot) : (updSlot n f s).tel = s.tel := rfl
@[simp] theorem updSlot_flt (n : Fin 2) (f : Slot → Slot) : (updSlot n f s).flt = s.flt := rfl
@[simp] theorem updSlot_links (n : Fin 2) (f : Slot → Slot) : (updSlot n f s).links = s.links := rfl
@[simp] theorem updSlot_tunnels (n : Fin 2) (f : Slot → Slot) : (updSlot n f s).tunnels = s.tunnels := rfl
@[simp] theorem updSlot_scheds (n : Fin 2) (f : Slot → Slot) : (updSlot n f s).scheds = s.scheds := rfl
@[simp] theorem updSlot_commits (n : Fin 2) (f : Slot → Slot) : (updSlot n f s).commits = s.commits := rfl
@[simp] theorem updSlot_sampling (n : Fin 2) (f : Slot → Slot) : (updSlot n f s).sampling = s.sampling := rfl
@[simp] theorem updSlot_disp (n : Fin 2) (f : Slot → Slot) : (updSlot n f s).disp = s.disp := rfl
@[simp] theorem updSlot_pcie (n : Fin 2) (f : Slot → Slot) : (updSlot n f s).pcie = s.pcie := rfl
@[simp] theorem updSlot_usb (n : Fin 2) (f : Slot → Slot) : (updSlot n f s).usb = s.usb := rfl
@[simp] theorem updSlot_net (n : Fin 2) (f : Slot → Slot) : (updSlot n f s).net = s.net := rfl
@[simp] theorem updSlot_can (n : Fin 2) (f : Slot → Slot) : (updSlot n f s).can = s.can := rfl
@[simp] theorem updSlot_pair (n : Fin 2) (f : Slot → Slot) : (updSlot n f s).pair = s.pair := rfl
@[simp] theorem updSlot_power (n : Fin 2) (f : Slot → Slot) : (updSlot n f s).power = s.power := rfl
@[simp] theorem updSlot_pm (n : Fin 2) (f : Slot → Slot) : (updSlot n f s).pm = s.pm := rfl
@[simp] theorem updSlot_out (n : Fin 2) (f : Slot → Slot) : (updSlot n f s).out = s.out := rfl
@[simp] theorem updSlot_freeCtr (n : Fin 2) (f : Slot → Slot) : (updSlot n f s).freeCtr = s.freeCtr := rfl
@[simp] theorem updSlot_pending (n : Fin 2) (f : Slot → Slot) : (updSlot n f s).pending = s.pending := rfl

@[simp] theorem updTel_variant (f : Telemetry → Telemetry) : (updTel f s).variant = s.variant := rfl
@[simp] theorem updTel_ident (f : Telemetry → Telemetry) : (updTel f s).ident = s.ident := rfl
@[simp] theorem updTel_fw (f : Telemetry → Telemetry) : (updTel f s).fw = s.fw := rfl
@[simp] theorem updTel_persist (f : Telemetry → Telemetry) : (updTel f s).persist = s.persist := rfl
@[simp] theorem updTel_worlds (f : Telemetry → Telemetry) : (updTel f s).worlds = s.worlds := rfl
@[simp] theorem updTel_perf (f : Telemetry → Telemetry) : (updTel f s).perf = s.perf := rfl
@[simp] theorem updTel_clock (f : Telemetry → Telemetry) : (updTel f s).clock = s.clock := rfl
@[simp] theorem updTel_ready (f : Telemetry → Telemetry) : (updTel f s).ready = s.ready := rfl
@[simp] theorem updTel_activating (f : Telemetry → Telemetry) : (updTel f s).activating = s.activating := rfl
@[simp] theorem updTel_init (f : Telemetry → Telemetry) : (updTel f s).init = s.init := rfl
@[simp] theorem updTel_scratch (f : Telemetry → Telemetry) : (updTel f s).scratch = s.scratch := rfl
@[simp] theorem updTel_mb (f : Telemetry → Telemetry) : (updTel f s).mb = s.mb := rfl
@[simp] theorem updTel_window (f : Telemetry → Telemetry) : (updTel f s).window = s.window := rfl
@[simp] theorem updTel_nextMb (f : Telemetry → Telemetry) : (updTel f s).nextMb = s.nextMb := rfl
@[simp] theorem updTel_pend (f : Telemetry → Telemetry) : (updTel f s).pend = s.pend := rfl
@[simp] theorem updTel_ev (f : Telemetry → Telemetry) : (updTel f s).ev = s.ev := rfl
@[simp] theorem updTel_spi (f : Telemetry → Telemetry) : (updTel f s).spi = s.spi := rfl
@[simp] theorem updTel_tel (f : Telemetry → Telemetry) : (updTel f s).tel = f s.tel := rfl
@[simp] theorem updTel_flt (f : Telemetry → Telemetry) : (updTel f s).flt = s.flt := rfl
@[simp] theorem updTel_links (f : Telemetry → Telemetry) : (updTel f s).links = s.links := rfl
@[simp] theorem updTel_tunnels (f : Telemetry → Telemetry) : (updTel f s).tunnels = s.tunnels := rfl
@[simp] theorem updTel_scheds (f : Telemetry → Telemetry) : (updTel f s).scheds = s.scheds := rfl
@[simp] theorem updTel_commits (f : Telemetry → Telemetry) : (updTel f s).commits = s.commits := rfl
@[simp] theorem updTel_sampling (f : Telemetry → Telemetry) : (updTel f s).sampling = s.sampling := rfl
@[simp] theorem updTel_disp (f : Telemetry → Telemetry) : (updTel f s).disp = s.disp := rfl
@[simp] theorem updTel_pcie (f : Telemetry → Telemetry) : (updTel f s).pcie = s.pcie := rfl
@[simp] theorem updTel_usb (f : Telemetry → Telemetry) : (updTel f s).usb = s.usb := rfl
@[simp] theorem updTel_net (f : Telemetry → Telemetry) : (updTel f s).net = s.net := rfl
@[simp] theorem updTel_can (f : Telemetry → Telemetry) : (updTel f s).can = s.can := rfl
@[simp] theorem updTel_pair (f : Telemetry → Telemetry) : (updTel f s).pair = s.pair := rfl
@[simp] theorem updTel_power (f : Telemetry → Telemetry) : (updTel f s).power = s.power := rfl
@[simp] theorem updTel_pm (f : Telemetry → Telemetry) : (updTel f s).pm = s.pm := rfl
@[simp] theorem updTel_out (f : Telemetry → Telemetry) : (updTel f s).out = s.out := rfl
@[simp] theorem updTel_freeCtr (f : Telemetry → Telemetry) : (updTel f s).freeCtr = s.freeCtr := rfl
@[simp] theorem updTel_pending (f : Telemetry → Telemetry) : (updTel f s).pending = s.pending := rfl

@[simp] theorem updUsb_variant (f : Usb → Usb) : (updUsb f s).variant = s.variant := rfl
@[simp] theorem updUsb_ident (f : Usb → Usb) : (updUsb f s).ident = s.ident := rfl
@[simp] theorem updUsb_fw (f : Usb → Usb) : (updUsb f s).fw = s.fw := rfl
@[simp] theorem updUsb_persist (f : Usb → Usb) : (updUsb f s).persist = s.persist := rfl
@[simp] theorem updUsb_worlds (f : Usb → Usb) : (updUsb f s).worlds = s.worlds := rfl
@[simp] theorem updUsb_perf (f : Usb → Usb) : (updUsb f s).perf = s.perf := rfl
@[simp] theorem updUsb_clock (f : Usb → Usb) : (updUsb f s).clock = s.clock := rfl
@[simp] theorem updUsb_ready (f : Usb → Usb) : (updUsb f s).ready = s.ready := rfl
@[simp] theorem updUsb_activating (f : Usb → Usb) : (updUsb f s).activating = s.activating := rfl
@[simp] theorem updUsb_init (f : Usb → Usb) : (updUsb f s).init = s.init := rfl
@[simp] theorem updUsb_scratch (f : Usb → Usb) : (updUsb f s).scratch = s.scratch := rfl
@[simp] theorem updUsb_mb (f : Usb → Usb) : (updUsb f s).mb = s.mb := rfl
@[simp] theorem updUsb_window (f : Usb → Usb) : (updUsb f s).window = s.window := rfl
@[simp] theorem updUsb_nextMb (f : Usb → Usb) : (updUsb f s).nextMb = s.nextMb := rfl
@[simp] theorem updUsb_pend (f : Usb → Usb) : (updUsb f s).pend = s.pend := rfl
@[simp] theorem updUsb_ev (f : Usb → Usb) : (updUsb f s).ev = s.ev := rfl
@[simp] theorem updUsb_spi (f : Usb → Usb) : (updUsb f s).spi = s.spi := rfl
@[simp] theorem updUsb_tel (f : Usb → Usb) : (updUsb f s).tel = s.tel := rfl
@[simp] theorem updUsb_flt (f : Usb → Usb) : (updUsb f s).flt = s.flt := rfl
@[simp] theorem updUsb_links (f : Usb → Usb) : (updUsb f s).links = s.links := rfl
@[simp] theorem updUsb_tunnels (f : Usb → Usb) : (updUsb f s).tunnels = s.tunnels := rfl
@[simp] theorem updUsb_scheds (f : Usb → Usb) : (updUsb f s).scheds = s.scheds := rfl
@[simp] theorem updUsb_commits (f : Usb → Usb) : (updUsb f s).commits = s.commits := rfl
@[simp] theorem updUsb_sampling (f : Usb → Usb) : (updUsb f s).sampling = s.sampling := rfl
@[simp] theorem updUsb_disp (f : Usb → Usb) : (updUsb f s).disp = s.disp := rfl
@[simp] theorem updUsb_pcie (f : Usb → Usb) : (updUsb f s).pcie = s.pcie := rfl
@[simp] theorem updUsb_usb (f : Usb → Usb) : (updUsb f s).usb = f s.usb := rfl
@[simp] theorem updUsb_net (f : Usb → Usb) : (updUsb f s).net = s.net := rfl
@[simp] theorem updUsb_can (f : Usb → Usb) : (updUsb f s).can = s.can := rfl
@[simp] theorem updUsb_pair (f : Usb → Usb) : (updUsb f s).pair = s.pair := rfl
@[simp] theorem updUsb_power (f : Usb → Usb) : (updUsb f s).power = s.power := rfl
@[simp] theorem updUsb_pm (f : Usb → Usb) : (updUsb f s).pm = s.pm := rfl
@[simp] theorem updUsb_out (f : Usb → Usb) : (updUsb f s).out = s.out := rfl
@[simp] theorem updUsb_freeCtr (f : Usb → Usb) : (updUsb f s).freeCtr = s.freeCtr := rfl
@[simp] theorem updUsb_pending (f : Usb → Usb) : (updUsb f s).pending = s.pending := rfl

@[simp] theorem updUsbPort_variant (n : Fin 8) (f : UsbPort → UsbPort) : (updUsbPort n f s).variant = s.variant := rfl
@[simp] theorem updUsbPort_ident (n : Fin 8) (f : UsbPort → UsbPort) : (updUsbPort n f s).ident = s.ident := rfl
@[simp] theorem updUsbPort_fw (n : Fin 8) (f : UsbPort → UsbPort) : (updUsbPort n f s).fw = s.fw := rfl
@[simp] theorem updUsbPort_persist (n : Fin 8) (f : UsbPort → UsbPort) : (updUsbPort n f s).persist = s.persist := rfl
@[simp] theorem updUsbPort_worlds (n : Fin 8) (f : UsbPort → UsbPort) : (updUsbPort n f s).worlds = s.worlds := rfl
@[simp] theorem updUsbPort_perf (n : Fin 8) (f : UsbPort → UsbPort) : (updUsbPort n f s).perf = s.perf := rfl
@[simp] theorem updUsbPort_clock (n : Fin 8) (f : UsbPort → UsbPort) : (updUsbPort n f s).clock = s.clock := rfl
@[simp] theorem updUsbPort_ready (n : Fin 8) (f : UsbPort → UsbPort) : (updUsbPort n f s).ready = s.ready := rfl
@[simp] theorem updUsbPort_activating (n : Fin 8) (f : UsbPort → UsbPort) : (updUsbPort n f s).activating = s.activating := rfl
@[simp] theorem updUsbPort_init (n : Fin 8) (f : UsbPort → UsbPort) : (updUsbPort n f s).init = s.init := rfl
@[simp] theorem updUsbPort_scratch (n : Fin 8) (f : UsbPort → UsbPort) : (updUsbPort n f s).scratch = s.scratch := rfl
@[simp] theorem updUsbPort_mb (n : Fin 8) (f : UsbPort → UsbPort) : (updUsbPort n f s).mb = s.mb := rfl
@[simp] theorem updUsbPort_window (n : Fin 8) (f : UsbPort → UsbPort) : (updUsbPort n f s).window = s.window := rfl
@[simp] theorem updUsbPort_nextMb (n : Fin 8) (f : UsbPort → UsbPort) : (updUsbPort n f s).nextMb = s.nextMb := rfl
@[simp] theorem updUsbPort_pend (n : Fin 8) (f : UsbPort → UsbPort) : (updUsbPort n f s).pend = s.pend := rfl
@[simp] theorem updUsbPort_ev (n : Fin 8) (f : UsbPort → UsbPort) : (updUsbPort n f s).ev = s.ev := rfl
@[simp] theorem updUsbPort_spi (n : Fin 8) (f : UsbPort → UsbPort) : (updUsbPort n f s).spi = s.spi := rfl
@[simp] theorem updUsbPort_tel (n : Fin 8) (f : UsbPort → UsbPort) : (updUsbPort n f s).tel = s.tel := rfl
@[simp] theorem updUsbPort_flt (n : Fin 8) (f : UsbPort → UsbPort) : (updUsbPort n f s).flt = s.flt := rfl
@[simp] theorem updUsbPort_links (n : Fin 8) (f : UsbPort → UsbPort) : (updUsbPort n f s).links = s.links := rfl
@[simp] theorem updUsbPort_tunnels (n : Fin 8) (f : UsbPort → UsbPort) : (updUsbPort n f s).tunnels = s.tunnels := rfl
@[simp] theorem updUsbPort_scheds (n : Fin 8) (f : UsbPort → UsbPort) : (updUsbPort n f s).scheds = s.scheds := rfl
@[simp] theorem updUsbPort_commits (n : Fin 8) (f : UsbPort → UsbPort) : (updUsbPort n f s).commits = s.commits := rfl
@[simp] theorem updUsbPort_sampling (n : Fin 8) (f : UsbPort → UsbPort) : (updUsbPort n f s).sampling = s.sampling := rfl
@[simp] theorem updUsbPort_disp (n : Fin 8) (f : UsbPort → UsbPort) : (updUsbPort n f s).disp = s.disp := rfl
@[simp] theorem updUsbPort_pcie (n : Fin 8) (f : UsbPort → UsbPort) : (updUsbPort n f s).pcie = s.pcie := rfl
@[simp] theorem updUsbPort_net (n : Fin 8) (f : UsbPort → UsbPort) : (updUsbPort n f s).net = s.net := rfl
@[simp] theorem updUsbPort_can (n : Fin 8) (f : UsbPort → UsbPort) : (updUsbPort n f s).can = s.can := rfl
@[simp] theorem updUsbPort_pair (n : Fin 8) (f : UsbPort → UsbPort) : (updUsbPort n f s).pair = s.pair := rfl
@[simp] theorem updUsbPort_power (n : Fin 8) (f : UsbPort → UsbPort) : (updUsbPort n f s).power = s.power := rfl
@[simp] theorem updUsbPort_pm (n : Fin 8) (f : UsbPort → UsbPort) : (updUsbPort n f s).pm = s.pm := rfl
@[simp] theorem updUsbPort_out (n : Fin 8) (f : UsbPort → UsbPort) : (updUsbPort n f s).out = s.out := rfl
@[simp] theorem updUsbPort_freeCtr (n : Fin 8) (f : UsbPort → UsbPort) : (updUsbPort n f s).freeCtr = s.freeCtr := rfl
@[simp] theorem updUsbPort_pending (n : Fin 8) (f : UsbPort → UsbPort) : (updUsbPort n f s).pending = s.pending := rfl

@[simp] theorem emit_variant (e : Emit) : (emit e s).variant = s.variant := rfl
@[simp] theorem emit_ident (e : Emit) : (emit e s).ident = s.ident := rfl
@[simp] theorem emit_fw (e : Emit) : (emit e s).fw = s.fw := rfl
@[simp] theorem emit_persist (e : Emit) : (emit e s).persist = s.persist := rfl
@[simp] theorem emit_worlds (e : Emit) : (emit e s).worlds = s.worlds := rfl
@[simp] theorem emit_perf (e : Emit) : (emit e s).perf = s.perf := rfl
@[simp] theorem emit_clock (e : Emit) : (emit e s).clock = s.clock := rfl
@[simp] theorem emit_ready (e : Emit) : (emit e s).ready = s.ready := rfl
@[simp] theorem emit_activating (e : Emit) : (emit e s).activating = s.activating := rfl
@[simp] theorem emit_init (e : Emit) : (emit e s).init = s.init := rfl
@[simp] theorem emit_scratch (e : Emit) : (emit e s).scratch = s.scratch := rfl
@[simp] theorem emit_mb (e : Emit) : (emit e s).mb = s.mb := rfl
@[simp] theorem emit_window (e : Emit) : (emit e s).window = s.window := rfl
@[simp] theorem emit_nextMb (e : Emit) : (emit e s).nextMb = s.nextMb := rfl
@[simp] theorem emit_pend (e : Emit) : (emit e s).pend = s.pend := rfl
@[simp] theorem emit_ev (e : Emit) : (emit e s).ev = s.ev := rfl
@[simp] theorem emit_spi (e : Emit) : (emit e s).spi = s.spi := rfl
@[simp] theorem emit_tel (e : Emit) : (emit e s).tel = s.tel := rfl
@[simp] theorem emit_flt (e : Emit) : (emit e s).flt = s.flt := rfl
@[simp] theorem emit_links (e : Emit) : (emit e s).links = s.links := rfl
@[simp] theorem emit_tunnels (e : Emit) : (emit e s).tunnels = s.tunnels := rfl
@[simp] theorem emit_scheds (e : Emit) : (emit e s).scheds = s.scheds := rfl
@[simp] theorem emit_commits (e : Emit) : (emit e s).commits = s.commits := rfl
@[simp] theorem emit_sampling (e : Emit) : (emit e s).sampling = s.sampling := rfl
@[simp] theorem emit_disp (e : Emit) : (emit e s).disp = s.disp := rfl
@[simp] theorem emit_pcie (e : Emit) : (emit e s).pcie = s.pcie := rfl
@[simp] theorem emit_usb (e : Emit) : (emit e s).usb = s.usb := rfl
@[simp] theorem emit_net (e : Emit) : (emit e s).net = s.net := rfl
@[simp] theorem emit_can (e : Emit) : (emit e s).can = s.can := rfl
@[simp] theorem emit_pair (e : Emit) : (emit e s).pair = s.pair := rfl
@[simp] theorem emit_power (e : Emit) : (emit e s).power = s.power := rfl
@[simp] theorem emit_pm (e : Emit) : (emit e s).pm = s.pm := rfl
@[simp] theorem emit_out (e : Emit) : (emit e s).out = s.out ++ [e] := rfl
@[simp] theorem emit_freeCtr (e : Emit) : (emit e s).freeCtr = s.freeCtr := rfl
@[simp] theorem emit_pending (e : Emit) : (emit e s).pending = s.pending := rfl

@[simp] theorem emits_variant (es : List Emit) : (emits es s).variant = s.variant := rfl
@[simp] theorem emits_ident (es : List Emit) : (emits es s).ident = s.ident := rfl
@[simp] theorem emits_fw (es : List Emit) : (emits es s).fw = s.fw := rfl
@[simp] theorem emits_persist (es : List Emit) : (emits es s).persist = s.persist := rfl
@[simp] theorem emits_worlds (es : List Emit) : (emits es s).worlds = s.worlds := rfl
@[simp] theorem emits_perf (es : List Emit) : (emits es s).perf = s.perf := rfl
@[simp] theorem emits_clock (es : List Emit) : (emits es s).clock = s.clock := rfl
@[simp] theorem emits_ready (es : List Emit) : (emits es s).ready = s.ready := rfl
@[simp] theorem emits_activating (es : List Emit) : (emits es s).activating = s.activating := rfl
@[simp] theorem emits_init (es : List Emit) : (emits es s).init = s.init := rfl
@[simp] theorem emits_scratch (es : List Emit) : (emits es s).scratch = s.scratch := rfl
@[simp] theorem emits_mb (es : List Emit) : (emits es s).mb = s.mb := rfl
@[simp] theorem emits_window (es : List Emit) : (emits es s).window = s.window := rfl
@[simp] theorem emits_nextMb (es : List Emit) : (emits es s).nextMb = s.nextMb := rfl
@[simp] theorem emits_pend (es : List Emit) : (emits es s).pend = s.pend := rfl
@[simp] theorem emits_ev (es : List Emit) : (emits es s).ev = s.ev := rfl
@[simp] theorem emits_spi (es : List Emit) : (emits es s).spi = s.spi := rfl
@[simp] theorem emits_tel (es : List Emit) : (emits es s).tel = s.tel := rfl
@[simp] theorem emits_flt (es : List Emit) : (emits es s).flt = s.flt := rfl
@[simp] theorem emits_links (es : List Emit) : (emits es s).links = s.links := rfl
@[simp] theorem emits_tunnels (es : List Emit) : (emits es s).tunnels = s.tunnels := rfl
@[simp] theorem emits_scheds (es : List Emit) : (emits es s).scheds = s.scheds := rfl
@[simp] theorem emits_commits (es : List Emit) : (emits es s).commits = s.commits := rfl
@[simp] theorem emits_sampling (es : List Emit) : (emits es s).sampling = s.sampling := rfl
@[simp] theorem emits_disp (es : List Emit) : (emits es s).disp = s.disp := rfl
@[simp] theorem emits_pcie (es : List Emit) : (emits es s).pcie = s.pcie := rfl
@[simp] theorem emits_usb (es : List Emit) : (emits es s).usb = s.usb := rfl
@[simp] theorem emits_net (es : List Emit) : (emits es s).net = s.net := rfl
@[simp] theorem emits_can (es : List Emit) : (emits es s).can = s.can := rfl
@[simp] theorem emits_pair (es : List Emit) : (emits es s).pair = s.pair := rfl
@[simp] theorem emits_power (es : List Emit) : (emits es s).power = s.power := rfl
@[simp] theorem emits_pm (es : List Emit) : (emits es s).pm = s.pm := rfl
@[simp] theorem emits_out (es : List Emit) : (emits es s).out = s.out ++ es := rfl
@[simp] theorem emits_freeCtr (es : List Emit) : (emits es s).freeCtr = s.freeCtr := rfl
@[simp] theorem emits_pending (es : List Emit) : (emits es s).pending = s.pending := rfl

@[simp] theorem fresh_variant : (fresh s).variant = s.variant := rfl
@[simp] theorem fresh_ident : (fresh s).ident = s.ident := rfl
@[simp] theorem fresh_fw : (fresh s).fw = s.fw := rfl
@[simp] theorem fresh_persist : (fresh s).persist = s.persist := rfl
@[simp] theorem fresh_worlds : (fresh s).worlds = s.worlds := rfl
@[simp] theorem fresh_perf : (fresh s).perf = s.perf := rfl
@[simp] theorem fresh_clock : (fresh s).clock = s.clock := rfl
@[simp] theorem fresh_ready : (fresh s).ready = s.ready := rfl
@[simp] theorem fresh_activating : (fresh s).activating = s.activating := rfl
@[simp] theorem fresh_init : (fresh s).init = s.init := rfl
@[simp] theorem fresh_scratch : (fresh s).scratch = s.scratch := rfl
@[simp] theorem fresh_mb : (fresh s).mb = s.mb := rfl
@[simp] theorem fresh_window : (fresh s).window = s.window := rfl
@[simp] theorem fresh_nextMb : (fresh s).nextMb = s.nextMb := rfl
@[simp] theorem fresh_pend : (fresh s).pend = s.pend := rfl
@[simp] theorem fresh_ev : (fresh s).ev = s.ev := rfl
@[simp] theorem fresh_spi : (fresh s).spi = s.spi := rfl
@[simp] theorem fresh_tel : (fresh s).tel = s.tel := rfl
@[simp] theorem fresh_flt : (fresh s).flt = s.flt := rfl
@[simp] theorem fresh_links : (fresh s).links = s.links := rfl
@[simp] theorem fresh_tunnels : (fresh s).tunnels = s.tunnels := rfl
@[simp] theorem fresh_scheds : (fresh s).scheds = s.scheds := rfl
@[simp] theorem fresh_commits : (fresh s).commits = s.commits := rfl
@[simp] theorem fresh_sampling : (fresh s).sampling = s.sampling := rfl
@[simp] theorem fresh_disp : (fresh s).disp = s.disp := rfl
@[simp] theorem fresh_pcie : (fresh s).pcie = s.pcie := rfl
@[simp] theorem fresh_usb : (fresh s).usb = s.usb := rfl
@[simp] theorem fresh_net : (fresh s).net = s.net := rfl
@[simp] theorem fresh_can : (fresh s).can = s.can := rfl
@[simp] theorem fresh_pair : (fresh s).pair = { s.pair with lastStatus := none, running := true } := rfl
@[simp] theorem fresh_power : (fresh s).power = s.power := rfl
@[simp] theorem fresh_pm : (fresh s).pm = s.pm := rfl
@[simp] theorem fresh_out : (fresh s).out = s.out := rfl
@[simp] theorem fresh_freeCtr : (fresh s).freeCtr = s.freeCtr := rfl
@[simp] theorem fresh_pending : (fresh s).pending = s.pending := rfl

@[simp] theorem withPending_variant (q : List Instr) : (s.withPending q).variant = s.variant := rfl
@[simp] theorem withPending_ident (q : List Instr) : (s.withPending q).ident = s.ident := rfl
@[simp] theorem withPending_fw (q : List Instr) : (s.withPending q).fw = s.fw := rfl
@[simp] theorem withPending_persist (q : List Instr) : (s.withPending q).persist = s.persist := rfl
@[simp] theorem withPending_worlds (q : List Instr) : (s.withPending q).worlds = s.worlds := rfl
@[simp] theorem withPending_perf (q : List Instr) : (s.withPending q).perf = s.perf := rfl
@[simp] theorem withPending_clock (q : List Instr) : (s.withPending q).clock = s.clock := rfl
@[simp] theorem withPending_ready (q : List Instr) : (s.withPending q).ready = s.ready := rfl
@[simp] theorem withPending_activating (q : List Instr) : (s.withPending q).activating = s.activating := rfl
@[simp] theorem withPending_init (q : List Instr) : (s.withPending q).init = s.init := rfl
@[simp] theorem withPending_scratch (q : List Instr) : (s.withPending q).scratch = s.scratch := rfl
@[simp] theorem withPending_mb (q : List Instr) : (s.withPending q).mb = s.mb := rfl
@[simp] theorem withPending_window (q : List Instr) : (s.withPending q).window = s.window := rfl
@[simp] theorem withPending_nextMb (q : List Instr) : (s.withPending q).nextMb = s.nextMb := rfl
@[simp] theorem withPending_pend (q : List Instr) : (s.withPending q).pend = s.pend := rfl
@[simp] theorem withPending_ev (q : List Instr) : (s.withPending q).ev = s.ev := rfl
@[simp] theorem withPending_spi (q : List Instr) : (s.withPending q).spi = s.spi := rfl
@[simp] theorem withPending_tel (q : List Instr) : (s.withPending q).tel = s.tel := rfl
@[simp] theorem withPending_flt (q : List Instr) : (s.withPending q).flt = s.flt := rfl
@[simp] theorem withPending_links (q : List Instr) : (s.withPending q).links = s.links := rfl
@[simp] theorem withPending_tunnels (q : List Instr) : (s.withPending q).tunnels = s.tunnels := rfl
@[simp] theorem withPending_scheds (q : List Instr) : (s.withPending q).scheds = s.scheds := rfl
@[simp] theorem withPending_commits (q : List Instr) : (s.withPending q).commits = s.commits := rfl
@[simp] theorem withPending_sampling (q : List Instr) : (s.withPending q).sampling = s.sampling := rfl
@[simp] theorem withPending_disp (q : List Instr) : (s.withPending q).disp = s.disp := rfl
@[simp] theorem withPending_pcie (q : List Instr) : (s.withPending q).pcie = s.pcie := rfl
@[simp] theorem withPending_usb (q : List Instr) : (s.withPending q).usb = s.usb := rfl
@[simp] theorem withPending_net (q : List Instr) : (s.withPending q).net = s.net := rfl
@[simp] theorem withPending_can (q : List Instr) : (s.withPending q).can = s.can := rfl
@[simp] theorem withPending_pair (q : List Instr) : (s.withPending q).pair = s.pair := rfl
@[simp] theorem withPending_power (q : List Instr) : (s.withPending q).power = s.power := rfl
@[simp] theorem withPending_pm (q : List Instr) : (s.withPending q).pm = s.pm := rfl
@[simp] theorem withPending_out (q : List Instr) : (s.withPending q).out = s.out := rfl
@[simp] theorem withPending_freeCtr (q : List Instr) : (s.withPending q).freeCtr = s.freeCtr := rfl
@[simp] theorem withPending_pending (q : List Instr) : (s.withPending q).pending = q := rfl

end Sys2Proof.Machine
end

