-- ==== Sys2Proof/Laws/Command.lean ====
section
/-! SUPPORT. What running a command comes to: a command that passes every check has its body's effect, and one that fails a check is refused with that check's status and nothing else. -/
namespace Sys2Proof.Machine

/-- An accepted command runs its body; Day then forwards it. -/
theorem runCmd_accepted {sp : OpSpec} {c : Cmd} {s : State} (body : Cmd → State → State) (h : accepted sp c s = true) :
    (.next (runCmd sp body c s) : Answer) = carried sp c (body c) s := by
  unfold accepted at h
  rw [Bool.and_eq_true, Option.isNone_iff_eq_none] at h
  obtain ⟨hc, ht⟩ := h
  rw [Bool.not_eq_true'] at ht
  simp only [runCmd, carried, forPartner, hc, ht, Bool.false_and]
  rfl

/-- The operation a payload names runs. -/
theorem onlyWhen_named {p : Cmd → Bool} {op : Half} {f : Cmd → State → State} {c : Cmd} {s : State} (h : p c = true) :
    onlyWhen p op f c s = f c s := by
  simp only [onlyWhen, h, if_true]

/-- A payload that names no such operation is refused with BAD_ARG (R529). -/
theorem onlyWhen_unnamed {p : Cmd → Bool} {op : Half} {f : Cmd → State → State} {c : Cmd} {s : State} (h : p c = false) :
    onlyWhen p op f c s = fail op c stBadArg s := by
  simp [onlyWhen, h]

/-- A command for this chip that fails a check other than its block's is refused with that check's status. -/
theorem runCmd_refused {sp : OpSpec} {c : Cmd} {s : State} {st : Half} (body : Cmd → State → State)
    (hp : forPartner s c = false) (h : checkCmd sp s c = some st) (hb : blockDenied sp s c = false) :
    runCmd sp body c s = fail sp.op c st s := by
  simp [runCmd, hp, h, hb]

/-- A command for which a place is left posts PENDING, is held, and has its effect. -/
theorem startPending_held {op : Half} {c : Cmd} {k : PendKind} {f : State → State} {s : State} (h : mayPend s c = true) :
    startPending op c k f s = f (holdPending op c k s) := by
  unfold mayPend at h
  rw [Bool.and_eq_true, Bool.not_eq_true', Bool.not_eq_true'] at h
  simp only [startPending, h.1, h.2, holdPending]
  rfl

/-- Data reaching a core whose data path runs has its effect. -/
theorem runCore_on {f : State → State} {s : State} (h : dataOn s = true) : runCore f s = .next (f s) := by
  simp [runCore, h]

/-- A power-path event has its effect while the shell runs. -/
theorem runShell_on {f : State → State} {s : State} (h : s.power.shell = true) : runShell f s = .next (f s) := by
  simp [runShell, h]

/-! ### Nothing that a command asks of the state depends on a noted status -/

@[simp] theorem paired_fresh (s : State) : paired (fresh s) = paired s := rfl
@[simp] theorem inSpan_fresh (s : State) : inSpan (fresh s) = inSpan s := rfl
@[simp] theorem spanFormed_fresh (s : State) : spanFormed (fresh s) = spanFormed s := rfl
@[simp] theorem pairMode_fresh (s : State) : pairMode (fresh s) = pairMode s := rfl
@[simp] theorem isNight_fresh (s : State) : isNight (fresh s) = isNight s := rfl
@[simp] theorem isDay_fresh (s : State) : isDay (fresh s) = isDay s := rfl
@[simp] theorem isFollower_fresh (s : State) : isFollower (fresh s) = isFollower s := rfl
@[simp] theorem hostOnUp_fresh (s : State) (u : Up) : hostOnUp (fresh s) u = hostOnUp s u := rfl
@[simp] theorem upOfHost_fresh (s : State) (h : HostNo) : upOfHost (fresh s) h = upOfHost s h := rfl
@[simp] theorem mailboxRequester_fresh (s : State) (m : MbNo) : mailboxRequester (fresh s) m = mailboxRequester s m := rfl
@[simp] theorem mailboxOfHost_fresh (s : State) (h : HostNo) : mailboxOfHost (fresh s) h = mailboxOfHost s h := rfl
@[simp] theorem uplinks_fresh (s : State) : uplinks (fresh s) = uplinks s := rfl
@[simp] theorem outputs_fresh (s : State) : outputs (fresh s) = outputs s := rfl
@[simp] theorem capacityMiB_fresh (s : State) : capacityMiB (fresh s) = capacityMiB s := rfl
@[simp] theorem findTunnel_fresh (s : State) (h : HostNo) (i : Byte) : findTunnel (fresh s) h i = findTunnel s h i := rfl
@[simp] theorem waitsFor_fresh (s : State) (k : PendKind) : waitsFor (fresh s) k = waitsFor s k := rfl
@[simp] theorem heldBefore_fresh (s : State) (c : Cmd) : heldBefore (fresh s) c = heldBefore s c := rfl
@[simp] theorem pendingFull_fresh (s : State) (c : Cmd) : pendingFull (fresh s) c = pendingFull s c := rfl
@[simp] theorem mayPend_fresh (s : State) (c : Cmd) : mayPend (fresh s) c = mayPend s c := rfl
@[simp] theorem secureWorld_fresh (s : State) (r : Requester) : secureWorld (fresh s) r = secureWorld s r := rfl
@[simp] theorem pbWord_fresh (s : State) (w : Nat) : pbWord (fresh s) w = pbWord s w := rfl
@[simp] theorem coreOn_fresh (s : State) : coreOn (fresh s) = coreOn s := rfl
@[simp] theorem dataOn_fresh (s : State) : dataOn (fresh s) = dataOn s := rfl

@[simp] theorem cmdRequester_fresh (s : State) (c : Cmd) : cmdRequester (fresh s) c = cmdRequester s c := by
  unfold cmdRequester
  cases c.src <;> rfl

@[simp] theorem ownMailbox_fresh (s : State) (c : Cmd) : ownMailbox (fresh s) c = ownMailbox s c := by
  unfold ownMailbox
  cases c.src <;> simp

end Sys2Proof.Machine
end

