-- ==== Sys2Proof/Laws/Frames.lean ====
section
/-! SUPPORT. What raising an event, answering a command and logging a fault leave alone: one lemma for each operation, and one for each field it leaves. -/
namespace Sys2Proof.Machine

/-- From one state to another, only what tells the outside has changed: mailboxes, event bits, what is sent, the fault log,
the commands that wait, the pair's bookkeeping of commands, queued packets and wake reasons. -/
structure Tells (s t : State) : Prop where
  variant : t.variant = s.variant
  ident : t.ident = s.ident
  fw : t.fw = s.fw
  persist : t.persist = s.persist
  worlds : t.worlds = s.worlds
  perf : t.perf = s.perf
  clock : t.clock = s.clock
  ready : t.ready = s.ready
  activating : t.activating = s.activating
  init : t.init = s.init
  scratch : t.scratch = s.scratch
  nextMb : t.nextMb = s.nextMb
  spi : t.spi = s.spi
  tel : t.tel = s.tel
  scheds : t.scheds = s.scheds
  commits : t.commits = s.commits
  sampling : t.sampling = s.sampling
  disp : t.disp = s.disp
  pcie : t.pcie = s.pcie
  usb : t.usb = s.usb
  net : t.net = s.net
  can : t.can = s.can
  power : t.power = s.power
  pm : t.pm = s.pm
  freeCtr : t.freeCtr = s.freeCtr
  pending : t.pending = s.pending
  linkState : ∀ l : LinkNo, t.links[l].state = s.links[l].state

theorem Tells.refl (s : State) : Tells s s := by constructor <;> (try intro l) <;> rfl

theorem Tells.trans {s t u : State} (h : Tells s t) (k : Tells t u) : Tells s u := by
  constructor
  · exact k.variant.trans h.variant
  · exact k.ident.trans h.ident
  · exact k.fw.trans h.fw
  · exact k.persist.trans h.persist
  · exact k.worlds.trans h.worlds
  · exact k.perf.trans h.perf
  · exact k.clock.trans h.clock
  · exact k.ready.trans h.ready
  · exact k.activating.trans h.activating
  · exact k.init.trans h.init
  · exact k.scratch.trans h.scratch
  · exact k.nextMb.trans h.nextMb
  · exact k.spi.trans h.spi
  · exact k.tel.trans h.tel
  · exact k.scheds.trans h.scheds
  · exact k.commits.trans h.commits
  · exact k.sampling.trans h.sampling
  · exact k.disp.trans h.disp
  · exact k.pcie.trans h.pcie
  · exact k.usb.trans h.usb
  · exact k.net.trans h.net
  · exact k.can.trans h.can
  · exact k.power.trans h.power
  · exact k.pm.trans h.pm
  · exact k.freeCtr.trans h.freeCtr
  · exact k.pending.trans h.pending
  · exact fun l => (k.linkState l).trans (h.linkState l)

theorem Tells.ite {p : Prop} [Decidable p] {s a b : State} (h : Tells s a) (k : Tells s b) : Tells s (if p then a else b) := by
  split
  · exact h
  · exact k

theorem Tells.foldl {α : Type} {f : State → α → State} (h : ∀ s x, Tells s (f s x)) (l : List α) (s : State) :
    Tells s (l.foldl f s) := by
  induction l generalizing s with
  | nil => exact .refl s
  | cons x r ih => exact (h s x).trans (ih (f s x))

theorem tells_updMb (m : MbNo) (f : Mailbox → Mailbox) (s : State) : Tells s (updMb m f s) := by
  constructor <;> (try intro l) <;> rfl
theorem tells_updFlt (f : Faults → Faults) (s : State) : Tells s (updFlt f s) := by
  constructor <;> (try intro l) <;> rfl
theorem tells_updPair (f : Pair → Pair) (s : State) : Tells s (updPair f s) := by
  constructor <;> (try intro l) <;> rfl
theorem tells_updTunnel (h : HostNo) (tid : Byte) (f : Tunnel → Tunnel) (s : State) : Tells s (updTunnel h tid f s) := by
  constructor <;> (try intro l) <;> rfl
theorem tells_emit (e : Emit) (s : State) : Tells s (emit e s) := by
  constructor <;> (try intro l) <;> rfl
theorem tells_window (w : Memory) (s : State) : Tells s { s with window := w } := by
  constructor <;> (try intro l) <;> rfl
theorem tells_pend (l : List Pending) (s : State) : Tells s { s with pend := l } := by
  constructor <;> (try intro l) <;> rfl
theorem tells_evPend (w : Vector Dword 4) (s : State) : Tells s { s with ev := { s.ev with pend := w } } := by
  constructor <;> (try intro l) <;> rfl
theorem tells_ev (e : Events) (s : State) : Tells s { s with ev := e } := by
  constructor <;> (try intro l) <;> rfl
theorem tells_held (l : List Nat) (s : State) : Tells s { s with pair := { s.pair with held := l } } := by
  constructor <;> (try intro l) <;> rfl

/-- One element of a vector changed: a property of the elements that the change keeps is as it was. -/
theorem upd_keeps {α β : Type} {n : Nat} (v : Vector α n) (i : Fin n) (f : α → α) (g : α → β) (h : ∀ x, g (f x) = g x)
    (l : Fin n) : g (upd v i f)[l] = g v[l] := by
  unfold upd
  by_cases hl : i.val = l.val
  · have : i = l := Fin.ext hl
    subst this
    simp [h]
  · simp [hl]

theorem tells_noteReason (h : HostNo) (code : Byte) (s : State) : Tells s (noteReason h code s) := by
  unfold noteReason
  split
  · constructor
    all_goals first
      | rfl
      | exact fun l => upd_keeps s.links _ (fun k =>
          if k.state = 9 && !k.deepWake && k.wakeReason.isNone && s.pm.phase == .run then { k with wakeReason := some code } else k)
          (fun k => k.state) (by intro x; split <;> rfl) l
  · exact .refl s

theorem tells_queuePacket (h : HostNo) (tid : Byte) (last : Bool) (p : List Byte) (s : State) :
    Tells s (queuePacket h tid last p s) := (tells_updTunnel _ _ _ s).trans (tells_noteReason _ _ _)

theorem tells_admitHeld (h : HostNo) (tid : Byte) (n : Nat) (s : State) : Tells s (admitHeld h tid n s) := by
  induction n generalizing s with
  | zero => exact .refl s
  | succ n ih =>
    unfold admitHeld
    split
    · exact .refl s
    · split
      · exact .refl s
      · exact .ite (((tells_updTunnel _ _ _ s).trans (tells_queuePacket _ _ _ _ _)).trans (ih _)) (.refl s)

theorem tells_sendZero (h : HostNo) (b : List Byte) (s : State) : Tells s (sendZero h b s) := by
  unfold sendZero
  split
  · exact .refl s
  · exact (tells_updTunnel _ _ _ s).trans (tells_admitHeld _ _ _ _)

theorem tells_updateInt (s : State) : Tells s (updateInt s) := by
  unfold updateInt
  exact .ite (tells_ev _ s) (.ite (.ite (.refl s) (tells_ev _ s)) (.ite (tells_ev _ s) (.refl s)))

theorem tells_sendInterrupt (m : MbNo) (s : State) : Tells s (sendInterrupt m s) := by
  unfold sendInterrupt
  split
  · exact ((tells_noteReason _ _ _).trans (tells_sendZero _ _ _)).trans (tells_updMb _ _ _)
  · exact .refl s

theorem tells_noteAdvance (m : MbNo) (s : State) : Tells s (noteAdvance m s) := by
  unfold noteAdvance
  exact .ite (.refl s) (.ite (tells_updMb _ _ s) (.ite (tells_sendInterrupt m s) (.refl s)))

theorem tells_ringEvent (m : MbNo) (ev : Fin 64) (p : Bool) (t : Dword) (a : Word) (s : State) :
    Tells s (ringEvent m ev p t a s) := by
  unfold ringEvent
  exact .ite (((tells_window _ s).trans (tells_updMb _ _ _)).trans (tells_noteAdvance _ _)) (tells_updMb _ _ s)

theorem tells_deliver (ev : Fin 64) (f p : Bool) (t : Dword) (a : Word) (s : State) (m : MbNo) :
    Tells s (deliver ev f p t a s m) := by
  unfold deliver
  refine Tells.trans ?_ (tells_updateInt _)
  exact .ite ((tells_evPend _ s).trans (tells_ringEvent _ _ _ _ _ _)) (tells_evPend _ s)

theorem tells_relayEvent (sc : Scope) (ev : Fin 64) (a : Word) (s : State) : Tells s (relayEvent sc ev a s) := by
  unfold relayEvent
  exact .ite (.ite (tells_emit _ s) (.ite (tells_emit _ s) (.refl s))) (.refl s)

theorem tells_raise (sc : Scope) (ev : Fin 64) (a : Nat) (s : State) : Tells s (raise sc ev a s) :=
  (Tells.foldl (fun s m => tells_deliver _ _ _ _ _ s m) _ s).trans (tells_relayEvent _ _ _ _)

theorem tells_postSlot (m : MbNo) (r : Response) (s : State) : Tells s (postSlot m r s) :=
  (((tells_window _ s).trans (tells_updMb _ _ _)).trans (tells_noteAdvance _ _)).trans (tells_deliver _ _ _ _ _ _ _)

theorem tells_postResponse (m : MbNo) (r : Response) (s : State) : Tells s (postResponse m r s) := by
  unfold postResponse
  exact .ite (tells_postSlot m r s) (tells_updMb _ _ s)

theorem tells_noteStatus (st : Half) (s : State) : Tells s (noteStatus st s) := by
  unfold noteStatus
  exact .ite (tells_updPair _ s) (.refl s)

theorem tells_respondTo (src : CmdSrc) (seq tag : Half) (fl : BitVec 8) (op st : Half) (i : Bool) (p : List Byte) (s : State) :
    Tells s (respondTo src seq tag fl op st i p s) := by
  unfold respondTo
  refine (tells_noteStatus st s).trans ?_
  cases src with
  | mailbox m =>
    exact .ite (tells_postResponse _ _ _)
      ((tells_updMb _ _ _).trans (.ite (tells_updPair _ _) (tells_postResponse _ _ _)))
  | forwarded r id => exact (tells_held _ _).trans (tells_emit _ _)
  | mirror r => exact .refl _

theorem tells_respond (op : Half) (c : Cmd) (st : Half) (p : List Byte) (s : State) : Tells s (respond op c st p s) :=
  tells_respondTo _ _ _ _ _ _ _ _ s
theorem tells_ok (op : Half) (c : Cmd) (p : List Byte) (s : State) : Tells s (ok op c p s) := tells_respond _ _ _ _ s
theorem tells_fail (op : Half) (c : Cmd) (st : Half) (s : State) : Tells s (fail op c st s) := tells_respond _ _ _ _ s

theorem tells_holdPending (op : Half) (c : Cmd) (k : PendKind) (s : State) : Tells s (holdPending op c k s) := by
  unfold holdPending
  exact (tells_respondTo _ _ _ _ _ _ _ _ s).trans (tells_pend _ _)

theorem tells_finish (k : PendKind) (st : Half) (p : List Byte) (s : State) : Tells s (finish k st p s) :=
  (tells_pend _ s).trans (Tells.foldl (fun s _ => tells_respondTo _ _ _ _ _ _ _ _ s) _ _)

theorem tells_faultEvent (cls : Fin 24) (i : Half) (s : State) : Tells s (faultEvent cls i s) := by
  unfold faultEvent
  exact .ite ((tells_updFlt _ s).trans (tells_raise _ _ _ _)) (.refl s)

theorem tells_logFault (cls : Fin 24) (loc : Nat) (i : FaultInfo) (s : State) : Tells s (logFault cls loc i s) := by
  unfold logFault
  refine Tells.trans (tells_updFlt (fun f => { f with counts := upd f.counts cls satInc }) s) (.ite ?_ ?_)
  · split
    · exact tells_updFlt _ _
    · exact .refl _
  · exact (tells_updFlt _ _).trans (tells_faultEvent _ _ _)

theorem tells_setReaction (cls : Fin 24) (loc : Nat) (r : Byte) (s : State) : Tells s (setReaction cls loc r s) := by
  unfold setReaction
  split
  · exact tells_updFlt _ s
  · exact .refl s

/-! ### One lemma for each field -/

variable (s : State)

@[simp] theorem raise_variant (sc : Scope) (ev : Fin 64) (a : Nat) : (raise sc ev a s).variant = s.variant := (tells_raise _ _ _ s).variant
@[simp] theorem raise_ident (sc : Scope) (ev : Fin 64) (a : Nat) : (raise sc ev a s).ident = s.ident := (tells_raise _ _ _ s).ident
@[simp] theorem raise_fw (sc : Scope) (ev : Fin 64) (a : Nat) : (raise sc ev a s).fw = s.fw := (tells_raise _ _ _ s).fw
@[simp] theorem raise_persist (sc : Scope) (ev : Fin 64) (a : Nat) : (raise sc ev a s).persist = s.persist := (tells_raise _ _ _ s).persist
@[simp] theorem raise_worlds (sc : Scope) (ev : Fin 64) (a : Nat) : (raise sc ev a s).worlds = s.worlds := (tells_raise _ _ _ s).worlds
@[simp] theorem raise_perf (sc : Scope) (ev : Fin 64) (a : Nat) : (raise sc ev a s).perf = s.perf := (tells_raise _ _ _ s).perf
@[simp] theorem raise_clock (sc : Scope) (ev : Fin 64) (a : Nat) : (raise sc ev a s).clock = s.clock := (tells_raise _ _ _ s).clock
@[simp] theorem raise_ready (sc : Scope) (ev : Fin 64) (a : Nat) : (raise sc ev a s).ready = s.ready := (tells_raise _ _ _ s).ready
@[simp] theorem raise_activating (sc : Scope) (ev : Fin 64) (a : Nat) : (raise sc ev a s).activating = s.activating := (tells_raise _ _ _ s).activating
@[simp] theorem raise_init (sc : Scope) (ev : Fin 64) (a : Nat) : (raise sc ev a s).init = s.init := (tells_raise _ _ _ s).init
@[simp] theorem raise_scratch (sc : Scope) (ev : Fin 64) (a : Nat) : (raise sc ev a s).scratch = s.scratch := (tells_raise _ _ _ s).scratch
@[simp] theorem raise_nextMb (sc : Scope) (ev : Fin 64) (a : Nat) : (raise sc ev a s).nextMb = s.nextMb := (tells_raise _ _ _ s).nextMb
@[simp] theorem raise_spi (sc : Scope) (ev : Fin 64) (a : Nat) : (raise sc ev a s).spi = s.spi := (tells_raise _ _ _ s).spi
@[simp] theorem raise_tel (sc : Scope) (ev : Fin 64) (a : Nat) : (raise sc ev a s).tel = s.tel := (tells_raise _ _ _ s).tel
@[simp] theorem raise_scheds (sc : Scope) (ev : Fin 64) (a : Nat) : (raise sc ev a s).scheds = s.scheds := (tells_raise _ _ _ s).scheds
@[simp] theorem raise_commits (sc : Scope) (ev : Fin 64) (a : Nat) : (raise sc ev a s).commits = s.commits := (tells_raise _ _ _ s).commits
@[simp] theorem raise_sampling (sc : Scope) (ev : Fin 64) (a : Nat) : (raise sc ev a s).sampling = s.sampling := (tells_raise _ _ _ s).sampling
@[simp] theorem raise_disp (sc : Scope) (ev : Fin 64) (a : Nat) : (raise sc ev a s).disp = s.disp := (tells_raise _ _ _ s).disp
@[simp] theorem raise_pcie (sc : Scope) (ev : Fin 64) (a : Nat) : (raise sc ev a s).pcie = s.pcie := (tells_raise _ _ _ s).pcie
@[simp] theorem raise_usb (sc : Scope) (ev : Fin 64) (a : Nat) : (raise sc ev a s).usb = s.usb := (tells_raise _ _ _ s).usb
@[simp] theorem raise_net (sc : Scope) (ev : Fin 64) (a : Nat) : (raise sc ev a s).net = s.net := (tells_raise _ _ _ s).net
@[simp] theorem raise_can (sc : Scope) (ev : Fin 64) (a : Nat) : (raise sc ev a s).can = s.can := (tells_raise _ _ _ s).can
@[simp] theorem raise_power (sc : Scope) (ev : Fin 64) (a : Nat) : (raise sc ev a s).power = s.power := (tells_raise _ _ _ s).power
@[simp] theorem raise_pm (sc : Scope) (ev : Fin 64) (a : Nat) : (raise sc ev a s).pm = s.pm := (tells_raise _ _ _ s).pm
@[simp] theorem raise_freeCtr (sc : Scope) (ev : Fin 64) (a : Nat) : (raise sc ev a s).freeCtr = s.freeCtr := (tells_raise _ _ _ s).freeCtr
@[simp] theorem raise_pending (sc : Scope) (ev : Fin 64) (a : Nat) : (raise sc ev a s).pending = s.pending := (tells_raise _ _ _ s).pending
@[simp] theorem raise_linkState (sc : Scope) (ev : Fin 64) (a : Nat) (l : LinkNo) : (raise sc ev a s).links[l].state = s.links[l].state := (tells_raise _ _ _ s).linkState l
@[simp] theorem respond_variant (op : Half) (c : Cmd) (st : Half) (p : List Byte) : (respond op c st p s).variant = s.variant := (tells_respond _ _ _ _ s).variant
@[simp] theorem respond_ident (op : Half) (c : Cmd) (st : Half) (p : List Byte) : (respond op c st p s).ident = s.ident := (tells_respond _ _ _ _ s).ident
@[simp] theorem respond_fw (op : Half) (c : Cmd) (st : Half) (p : List Byte) : (respond op c st p s).fw = s.fw := (tells_respond _ _ _ _ s).fw
@[simp] theorem respond_persist (op : Half) (c : Cmd) (st : Half) (p : List Byte) : (respond op c st p s).persist = s.persist := (tells_respond _ _ _ _ s).persist
@[simp] theorem respond_worlds (op : Half) (c : Cmd) (st : Half) (p : List Byte) : (respond op c st p s).worlds = s.worlds := (tells_respond _ _ _ _ s).worlds
@[simp] theorem respond_perf (op : Half) (c : Cmd) (st : Half) (p : List Byte) : (respond op c st p s).perf = s.perf := (tells_respond _ _ _ _ s).perf
@[simp] theorem respond_clock (op : Half) (c : Cmd) (st : Half) (p : List Byte) : (respond op c st p s).clock = s.clock := (tells_respond _ _ _ _ s).clock
@[simp] theorem respond_ready (op : Half) (c : Cmd) (st : Half) (p : List Byte) : (respond op c st p s).ready = s.ready := (tells_respond _ _ _ _ s).ready
@[simp] theorem respond_activating (op : Half) (c : Cmd) (st : Half) (p : List Byte) : (respond op c st p s).activating = s.activating := (tells_respond _ _ _ _ s).activating
@[simp] theorem respond_init (op : Half) (c : Cmd) (st : Half) (p : List Byte) : (respond op c st p s).init = s.init := (tells_respond _ _ _ _ s).init
@[simp] theorem respond_scratch (op : Half) (c : Cmd) (st : Half) (p : List Byte) : (respond op c st p s).scratch = s.scratch := (tells_respond _ _ _ _ s).scratch
@[simp] theorem respond_nextMb (op : Half) (c : Cmd) (st : Half) (p : List Byte) : (respond op c st p s).nextMb = s.nextMb := (tells_respond _ _ _ _ s).nextMb
@[simp] theorem respond_spi (op : Half) (c : Cmd) (st : Half) (p : List Byte) : (respond op c st p s).spi = s.spi := (tells_respond _ _ _ _ s).spi
@[simp] theorem respond_tel (op : Half) (c : Cmd) (st : Half) (p : List Byte) : (respond op c st p s).tel = s.tel := (tells_respond _ _ _ _ s).tel
@[simp] theorem respond_scheds (op : Half) (c : Cmd) (st : Half) (p : List Byte) : (respond op c st p s).scheds = s.scheds := (tells_respond _ _ _ _ s).scheds
@[simp] theorem respond_commits (op : Half) (c : Cmd) (st : Half) (p : List Byte) : (respond op c st p s).commits = s.commits := (tells_respond _ _ _ _ s).commits
@[simp] theorem respond_sampling (op : Half) (c : Cmd) (st : Half) (p : List Byte) : (respond op c st p s).sampling = s.sampling := (tells_respond _ _ _ _ s).sampling
@[simp] theorem respond_disp (op : Half) (c : Cmd) (st : Half) (p : List Byte) : (respond op c st p s).disp = s.disp := (tells_respond _ _ _ _ s).disp
@[simp] theorem respond_pcie (op : Half) (c : Cmd) (st : Half) (p : List Byte) : (respond op c st p s).pcie = s.pcie := (tells_respond _ _ _ _ s).pcie
@[simp] theorem respond_usb (op : Half) (c : Cmd) (st : Half) (p : List Byte) : (respond op c st p s).usb = s.usb := (tells_respond _ _ _ _ s).usb
@[simp] theorem respond_net (op : Half) (c : Cmd) (st : Half) (p : List Byte) : (respond op c st p s).net = s.net := (tells_respond _ _ _ _ s).net
@[simp] theorem respond_can (op : Half) (c : Cmd) (st : Half) (p : List Byte) : (respond op c st p s).can = s.can := (tells_respond _ _ _ _ s).can
@[simp] theorem respond_power (op : Half) (c : Cmd) (st : Half) (p : List Byte) : (respond op c st p s).power = s.power := (tells_respond _ _ _ _ s).power
@[simp] theorem respond_pm (op : Half) (c : Cmd) (st : Half) (p : List Byte) : (respond op c st p s).pm = s.pm := (tells_respond _ _ _ _ s).pm
@[simp] theorem respond_freeCtr (op : Half) (c : Cmd) (st : Half) (p : List Byte) : (respond op c st p s).freeCtr = s.freeCtr := (tells_respond _ _ _ _ s).freeCtr
@[simp] theorem respond_pending (op : Half) (c : Cmd) (st : Half) (p : List Byte) : (respond op c st p s).pending = s.pending := (tells_respond _ _ _ _ s).pending
@[simp] theorem respond_linkState (op : Half) (c : Cmd) (st : Half) (p : List Byte) (l : LinkNo) : (respond op c st p s).links[l].state = s.links[l].state := (tells_respond _ _ _ _ s).linkState l
@[simp] theorem ok_variant (op : Half) (c : Cmd) (p : List Byte) : (ok op c p s).variant = s.variant := (tells_ok _ _ _ s).variant
@[simp] theorem ok_ident (op : Half) (c : Cmd) (p : List Byte) : (ok op c p s).ident = s.ident := (tells_ok _ _ _ s).ident
@[simp] theorem ok_fw (op : Half) (c : Cmd) (p : List Byte) : (ok op c p s).fw = s.fw := (tells_ok _ _ _ s).fw
@[simp] theorem ok_persist (op : Half) (c : Cmd) (p : List Byte) : (ok op c p s).persist = s.persist := (tells_ok _ _ _ s).persist
@[simp] theorem ok_worlds (op : Half) (c : Cmd) (p : List Byte) : (ok op c p s).worlds = s.worlds := (tells_ok _ _ _ s).worlds
@[simp] theorem ok_perf (op : Half) (c : Cmd) (p : List Byte) : (ok op c p s).perf = s.perf := (tells_ok _ _ _ s).perf
@[simp] theorem ok_clock (op : Half) (c : Cmd) (p : List Byte) : (ok op c p s).clock = s.clock := (tells_ok _ _ _ s).clock
@[simp] theorem ok_ready (op : Half) (c : Cmd) (p : List Byte) : (ok op c p s).ready = s.ready := (tells_ok _ _ _ s).ready
@[simp] theorem ok_activating (op : Half) (c : Cmd) (p : List Byte) : (ok op c p s).activating = s.activating := (tells_ok _ _ _ s).activating
@[simp] theorem ok_init (op : Half) (c : Cmd) (p : List Byte) : (ok op c p s).init = s.init := (tells_ok _ _ _ s).init
@[simp] theorem ok_scratch (op : Half) (c : Cmd) (p : List Byte) : (ok op c p s).scratch = s.scratch := (tells_ok _ _ _ s).scratch
@[simp] theorem ok_nextMb (op : Half) (c : Cmd) (p : List Byte) : (ok op c p s).nextMb = s.nextMb := (tells_ok _ _ _ s).nextMb
@[simp] theorem ok_spi (op : Half) (c : Cmd) (p : List Byte) : (ok op c p s).spi = s.spi := (tells_ok _ _ _ s).spi
@[simp] theorem ok_tel (op : Half) (c : Cmd) (p : List Byte) : (ok op c p s).tel = s.tel := (tells_ok _ _ _ s).tel
@[simp] theorem ok_scheds (op : Half) (c : Cmd) (p : List Byte) : (ok op c p s).scheds = s.scheds := (tells_ok _ _ _ s).scheds
@[simp] theorem ok_commits (op : Half) (c : Cmd) (p : List Byte) : (ok op c p s).commits = s.commits := (tells_ok _ _ _ s).commits
@[simp] theorem ok_sampling (op : Half) (c : Cmd) (p : List Byte) : (ok op c p s).sampling = s.sampling := (tells_ok _ _ _ s).sampling
@[simp] theorem ok_disp (op : Half) (c : Cmd) (p : List Byte) : (ok op c p s).disp = s.disp := (tells_ok _ _ _ s).disp
@[simp] theorem ok_pcie (op : Half) (c : Cmd) (p : List Byte) : (ok op c p s).pcie = s.pcie := (tells_ok _ _ _ s).pcie
@[simp] theorem ok_usb (op : Half) (c : Cmd) (p : List Byte) : (ok op c p s).usb = s.usb := (tells_ok _ _ _ s).usb
@[simp] theorem ok_net (op : Half) (c : Cmd) (p : List Byte) : (ok op c p s).net = s.net := (tells_ok _ _ _ s).net
@[simp] theorem ok_can (op : Half) (c : Cmd) (p : List Byte) : (ok op c p s).can = s.can := (tells_ok _ _ _ s).can
@[simp] theorem ok_power (op : Half) (c : Cmd) (p : List Byte) : (ok op c p s).power = s.power := (tells_ok _ _ _ s).power
@[simp] theorem ok_pm (op : Half) (c : Cmd) (p : List Byte) : (ok op c p s).pm = s.pm := (tells_ok _ _ _ s).pm
@[simp] theorem ok_freeCtr (op : Half) (c : Cmd) (p : List Byte) : (ok op c p s).freeCtr = s.freeCtr := (tells_ok _ _ _ s).freeCtr
@[simp] theorem ok_pending (op : Half) (c : Cmd) (p : List Byte) : (ok op c p s).pending = s.pending := (tells_ok _ _ _ s).pending
@[simp] theorem ok_linkState (op : Half) (c : Cmd) (p : List Byte) (l : LinkNo) : (ok op c p s).links[l].state = s.links[l].state := (tells_ok _ _ _ s).linkState l
@[simp] theorem fail_variant (op : Half) (c : Cmd) (st : Half) : (fail op c st s).variant = s.variant := (tells_fail _ _ _ s).variant
@[simp] theorem fail_ident (op : Half) (c : Cmd) (st : Half) : (fail op c st s).ident = s.ident := (tells_fail _ _ _ s).ident
@[simp] theorem fail_fw (op : Half) (c : Cmd) (st : Half) : (fail op c st s).fw = s.fw := (tells_fail _ _ _ s).fw
@[simp] theorem fail_persist (op : Half) (c : Cmd) (st : Half) : (fail op c st s).persist = s.persist := (tells_fail _ _ _ s).persist
@[simp] theorem fail_worlds (op : Half) (c : Cmd) (st : Half) : (fail op c st s).worlds = s.worlds := (tells_fail _ _ _ s).worlds
@[simp] theorem fail_perf (op : Half) (c : Cmd) (st : Half) : (fail op c st s).perf = s.perf := (tells_fail _ _ _ s).perf
@[simp] theorem fail_clock (op : Half) (c : Cmd) (st : Half) : (fail op c st s).clock = s.clock := (tells_fail _ _ _ s).clock
@[simp] theorem fail_ready (op : Half) (c : Cmd) (st : Half) : (fail op c st s).ready = s.ready := (tells_fail _ _ _ s).ready
@[simp] theorem fail_activating (op : Half) (c : Cmd) (st : Half) : (fail op c st s).activating = s.activating := (tells_fail _ _ _ s).activating
@[simp] theorem fail_init (op : Half) (c : Cmd) (st : Half) : (fail op c st s).init = s.init := (tells_fail _ _ _ s).init
@[simp] theorem fail_scratch (op : Half) (c : Cmd) (st : Half) : (fail op c st s).scratch = s.scratch := (tells_fail _ _ _ s).scratch
@[simp] theorem fail_nextMb (op : Half) (c : Cmd) (st : Half) : (fail op c st s).nextMb = s.nextMb := (tells_fail _ _ _ s).nextMb
@[simp] theorem fail_spi (op : Half) (c : Cmd) (st : Half) : (fail op c st s).spi = s.spi := (tells_fail _ _ _ s).spi
@[simp] theorem fail_tel (op : Half) (c : Cmd) (st : Half) : (fail op c st s).tel = s.tel := (tells_fail _ _ _ s).tel
@[simp] theorem fail_scheds (op : Half) (c : Cmd) (st : Half) : (fail op c st s).scheds = s.scheds := (tells_fail _ _ _ s).scheds
@[simp] theorem fail_commits (op : Half) (c : Cmd) (st : Half) : (fail op c st s).commits = s.commits := (tells_fail _ _ _ s).commits
@[simp] theorem fail_sampling (op : Half) (c : Cmd) (st : Half) : (fail op c st s).sampling = s.sampling := (tells_fail _ _ _ s).sampling
@[simp] theorem fail_disp (op : Half) (c : Cmd) (st : Half) : (fail op c st s).disp = s.disp := (tells_fail _ _ _ s).disp
@[simp] theorem fail_pcie (op : Half) (c : Cmd) (st : Half) : (fail op c st s).pcie = s.pcie := (tells_fail _ _ _ s).pcie
@[simp] theorem fail_usb (op : Half) (c : Cmd) (st : Half) : (fail op c st s).usb = s.usb := (tells_fail _ _ _ s).usb
@[simp] theorem fail_net (op : Half) (c : Cmd) (st : Half) : (fail op c st s).net = s.net := (tells_fail _ _ _ s).net
@[simp] theorem fail_can (op : Half) (c : Cmd) (st : Half) : (fail op c st s).can = s.can := (tells_fail _ _ _ s).can
@[simp] theorem fail_power (op : Half) (c : Cmd) (st : Half) : (fail op c st s).power = s.power := (tells_fail _ _ _ s).power
@[simp] theorem fail_pm (op : Half) (c : Cmd) (st : Half) : (fail op c st s).pm = s.pm := (tells_fail _ _ _ s).pm
@[simp] theorem fail_freeCtr (op : Half) (c : Cmd) (st : Half) : (fail op c st s).freeCtr = s.freeCtr := (tells_fail _ _ _ s).freeCtr
@[simp] theorem fail_pending (op : Half) (c : Cmd) (st : Half) : (fail op c st s).pending = s.pending := (tells_fail _ _ _ s).pending
@[simp] theorem fail_linkState (op : Half) (c : Cmd) (st : Half) (l : LinkNo) : (fail op c st s).links[l].state = s.links[l].state := (tells_fail _ _ _ s).linkState l
@[simp] theorem holdPending_variant (op : Half) (c : Cmd) (k : PendKind) : (holdPending op c k s).variant = s.variant := (tells_holdPending _ _ _ s).variant
@[simp] theorem holdPending_ident (op : Half) (c : Cmd) (k : PendKind) : (holdPending op c k s).ident = s.ident := (tells_holdPending _ _ _ s).ident
@[simp] theorem holdPending_fw (op : Half) (c : Cmd) (k : PendKind) : (holdPending op c k s).fw = s.fw := (tells_holdPending _ _ _ s).fw
@[simp] theorem holdPending_persist (op : Half) (c : Cmd) (k : PendKind) : (holdPending op c k s).persist = s.persist := (tells_holdPending _ _ _ s).persist
@[simp] theorem holdPending_worlds (op : Half) (c : Cmd) (k : PendKind) : (holdPending op c k s).worlds = s.worlds := (tells_holdPending _ _ _ s).worlds
@[simp] theorem holdPending_perf (op : Half) (c : Cmd) (k : PendKind) : (holdPending op c k s).perf = s.perf := (tells_holdPending _ _ _ s).perf
@[simp] theorem holdPending_clock (op : Half) (c : Cmd) (k : PendKind) : (holdPending op c k s).clock = s.clock := (tells_holdPending _ _ _ s).clock
@[simp] theorem holdPending_ready (op : Half) (c : Cmd) (k : PendKind) : (holdPending op c k s).ready = s.ready := (tells_holdPending _ _ _ s).ready
@[simp] theorem holdPending_activating (op : Half) (c : Cmd) (k : PendKind) : (holdPending op c k s).activating = s.activating := (tells_holdPending _ _ _ s).activating
@[simp] theorem holdPending_init (op : Half) (c : Cmd) (k : PendKind) : (holdPending op c k s).init = s.init := (tells_holdPending _ _ _ s).init
@[simp] theorem holdPending_scratch (op : Half) (c : Cmd) (k : PendKind) : (holdPending op c k s).scratch = s.scratch := (tells_holdPending _ _ _ s).scratch
@[simp] theorem holdPending_nextMb (op : Half) (c : Cmd) (k : PendKind) : (holdPending op c k s).nextMb = s.nextMb := (tells_holdPending _ _ _ s).nextMb
@[simp] theorem holdPending_spi (op : Half) (c : Cmd) (k : PendKind) : (holdPending op c k s).spi = s.spi := (tells_holdPending _ _ _ s).spi
@[simp] theorem holdPending_tel (op : Half) (c : Cmd) (k : PendKind) : (holdPending op c k s).tel = s.tel := (tells_holdPending _ _ _ s).tel
@[simp] theorem holdPending_scheds (op : Half) (c : Cmd) (k : PendKind) : (holdPending op c k s).scheds = s.scheds := (tells_holdPending _ _ _ s).scheds
@[simp] theorem holdPending_commits (op : Half) (c : Cmd) (k : PendKind) : (holdPending op c k s).commits = s.commits := (tells_holdPending _ _ _ s).commits
@[simp] theorem holdPending_sampling (op : Half) (c : Cmd) (k : PendKind) : (holdPending op c k s).sampling = s.sampling := (tells_holdPending _ _ _ s).sampling
@[simp] theorem holdPending_disp (op : Half) (c : Cmd) (k : PendKind) : (holdPending op c k s).disp = s.disp := (tells_holdPending _ _ _ s).disp
@[simp] theorem holdPending_pcie (op : Half) (c : Cmd) (k : PendKind) : (holdPending op c k s).pcie = s.pcie := (tells_holdPending _ _ _ s).pcie
@[simp] theorem holdPending_usb (op : Half) (c : Cmd) (k : PendKind) : (holdPending op c k s).usb = s.usb := (tells_holdPending _ _ _ s).usb
@[simp] theorem holdPending_net (op : Half) (c : Cmd) (k : PendKind) : (holdPending op c k s).net = s.net := (tells_holdPending _ _ _ s).net
@[simp] theorem holdPending_can (op : Half) (c : Cmd) (k : PendKind) : (holdPending op c k s).can = s.can := (tells_holdPending _ _ _ s).can
@[simp] theorem holdPending_power (op : Half) (c : Cmd) (k : PendKind) : (holdPending op c k s).power = s.power := (tells_holdPending _ _ _ s).power
@[simp] theorem holdPending_pm (op : Half) (c : Cmd) (k : PendKind) : (holdPending op c k s).pm = s.pm := (tells_holdPending _ _ _ s).pm
@[simp] theorem holdPending_freeCtr (op : Half) (c : Cmd) (k : PendKind) : (holdPending op c k s).freeCtr = s.freeCtr := (tells_holdPending _ _ _ s).freeCtr
@[simp] theorem holdPending_pending (op : Half) (c : Cmd) (k : PendKind) : (holdPending op c k s).pending = s.pending := (tells_holdPending _ _ _ s).pending
@[simp] theorem holdPending_linkState (op : Half) (c : Cmd) (k : PendKind) (l : LinkNo) : (holdPending op c k s).links[l].state = s.links[l].state := (tells_holdPending _ _ _ s).linkState l
@[simp] theorem finish_variant (k : PendKind) (st : Half) (p : List Byte) : (finish k st p s).variant = s.variant := (tells_finish _ _ _ s).variant
@[simp] theorem finish_ident (k : PendKind) (st : Half) (p : List Byte) : (finish k st p s).ident = s.ident := (tells_finish _ _ _ s).ident
@[simp] theorem finish_fw (k : PendKind) (st : Half) (p : List Byte) : (finish k st p s).fw = s.fw := (tells_finish _ _ _ s).fw
@[simp] theorem finish_persist (k : PendKind) (st : Half) (p : List Byte) : (finish k st p s).persist = s.persist := (tells_finish _ _ _ s).persist
@[simp] theorem finish_worlds (k : PendKind) (st : Half) (p : List Byte) : (finish k st p s).worlds = s.worlds := (tells_finish _ _ _ s).worlds
@[simp] theorem finish_perf (k : PendKind) (st : Half) (p : List Byte) : (finish k st p s).perf = s.perf := (tells_finish _ _ _ s).perf
@[simp] theorem finish_clock (k : PendKind) (st : Half) (p : List Byte) : (finish k st p s).clock = s.clock := (tells_finish _ _ _ s).clock
@[simp] theorem finish_ready (k : PendKind) (st : Half) (p : List Byte) : (finish k st p s).ready = s.ready := (tells_finish _ _ _ s).ready
@[simp] theorem finish_activating (k : PendKind) (st : Half) (p : List Byte) : (finish k st p s).activating = s.activating := (tells_finish _ _ _ s).activating
@[simp] theorem finish_init (k : PendKind) (st : Half) (p : List Byte) : (finish k st p s).init = s.init := (tells_finish _ _ _ s).init
@[simp] theorem finish_scratch (k : PendKind) (st : Half) (p : List Byte) : (finish k st p s).scratch = s.scratch := (tells_finish _ _ _ s).scratch
@[simp] theorem finish_nextMb (k : PendKind) (st : Half) (p : List Byte) : (finish k st p s).nextMb = s.nextMb := (tells_finish _ _ _ s).nextMb
@[simp] theorem finish_spi (k : PendKind) (st : Half) (p : List Byte) : (finish k st p s).spi = s.spi := (tells_finish _ _ _ s).spi
@[simp] theorem finish_tel (k : PendKind) (st : Half) (p : List Byte) : (finish k st p s).tel = s.tel := (tells_finish _ _ _ s).tel
@[simp] theorem finish_scheds (k : PendKind) (st : Half) (p : List Byte) : (finish k st p s).scheds = s.scheds := (tells_finish _ _ _ s).scheds
@[simp] theorem finish_commits (k : PendKind) (st : Half) (p : List Byte) : (finish k st p s).commits = s.commits := (tells_finish _ _ _ s).commits
@[simp] theorem finish_sampling (k : PendKind) (st : Half) (p : List Byte) : (finish k st p s).sampling = s.sampling := (tells_finish _ _ _ s).sampling
@[simp] theorem finish_disp (k : PendKind) (st : Half) (p : List Byte) : (finish k st p s).disp = s.disp := (tells_finish _ _ _ s).disp
@[simp] theorem finish_pcie (k : PendKind) (st : Half) (p : List Byte) : (finish k st p s).pcie = s.pcie := (tells_finish _ _ _ s).pcie
@[simp] theorem finish_usb (k : PendKind) (st : Half) (p : List Byte) : (finish k st p s).usb = s.usb := (tells_finish _ _ _ s).usb
@[simp] theorem finish_net (k : PendKind) (st : Half) (p : List Byte) : (finish k st p s).net = s.net := (tells_finish _ _ _ s).net
@[simp] theorem finish_can (k : PendKind) (st : Half) (p : List Byte) : (finish k st p s).can = s.can := (tells_finish _ _ _ s).can
@[simp] theorem finish_power (k : PendKind) (st : Half) (p : List Byte) : (finish k st p s).power = s.power := (tells_finish _ _ _ s).power
@[simp] theorem finish_pm (k : PendKind) (st : Half) (p : List Byte) : (finish k st p s).pm = s.pm := (tells_finish _ _ _ s).pm
@[simp] theorem finish_freeCtr (k : PendKind) (st : Half) (p : List Byte) : (finish k st p s).freeCtr = s.freeCtr := (tells_finish _ _ _ s).freeCtr
@[simp] theorem finish_pending (k : PendKind) (st : Half) (p : List Byte) : (finish k st p s).pending = s.pending := (tells_finish _ _ _ s).pending
@[simp] theorem finish_linkState (k : PendKind) (st : Half) (p : List Byte) (l : LinkNo) : (finish k st p s).links[l].state = s.links[l].state := (tells_finish _ _ _ s).linkState l
@[simp] theorem logFault_variant (cls : Fin 24) (loc : Nat) (i : FaultInfo) : (logFault cls loc i s).variant = s.variant := (tells_logFault _ _ _ s).variant
@[simp] theorem logFault_ident (cls : Fin 24) (loc : Nat) (i : FaultInfo) : (logFault cls loc i s).ident = s.ident := (tells_logFault _ _ _ s).ident
@[simp] theorem logFault_fw (cls : Fin 24) (loc : Nat) (i : FaultInfo) : (logFault cls loc i s).fw = s.fw := (tells_logFault _ _ _ s).fw
@[simp] theorem logFault_persist (cls : Fin 24) (loc : Nat) (i : FaultInfo) : (logFault cls loc i s).persist = s.persist := (tells_logFault _ _ _ s).persist
@[simp] theorem logFault_worlds (cls : Fin 24) (loc : Nat) (i : FaultInfo) : (logFault cls loc i s).worlds = s.worlds := (tells_logFault _ _ _ s).worlds
@[simp] theorem logFault_perf (cls : Fin 24) (loc : Nat) (i : FaultInfo) : (logFault cls loc i s).perf = s.perf := (tells_logFault _ _ _ s).perf
@[simp] theorem logFault_clock (cls : Fin 24) (loc : Nat) (i : FaultInfo) : (logFault cls loc i s).clock = s.clock := (tells_logFault _ _ _ s).clock
@[simp] theorem logFault_ready (cls : Fin 24) (loc : Nat) (i : FaultInfo) : (logFault cls loc i s).ready = s.ready := (tells_logFault _ _ _ s).ready
@[simp] theorem logFault_activating (cls : Fin 24) (loc : Nat) (i : FaultInfo) : (logFault cls loc i s).activating = s.activating := (tells_logFault _ _ _ s).activating
@[simp] theorem logFault_init (cls : Fin 24) (loc : Nat) (i : FaultInfo) : (logFault cls loc i s).init = s.init := (tells_logFault _ _ _ s).init
@[simp] theorem logFault_scratch (cls : Fin 24) (loc : Nat) (i : FaultInfo) : (logFault cls loc i s).scratch = s.scratch := (tells_logFault _ _ _ s).scratch
@[simp] theorem logFault_nextMb (cls : Fin 24) (loc : Nat) (i : FaultInfo) : (logFault cls loc i s).nextMb = s.nextMb := (tells_logFault _ _ _ s).nextMb
@[simp] theorem logFault_spi (cls : Fin 24) (loc : Nat) (i : FaultInfo) : (logFault cls loc i s).spi = s.spi := (tells_logFault _ _ _ s).spi
@[simp] theorem logFault_tel (cls : Fin 24) (loc : Nat) (i : FaultInfo) : (logFault cls loc i s).tel = s.tel := (tells_logFault _ _ _ s).tel
@[simp] theorem logFault_scheds (cls : Fin 24) (loc : Nat) (i : FaultInfo) : (logFault cls loc i s).scheds = s.scheds := (tells_logFault _ _ _ s).scheds
@[simp] theorem logFault_commits (cls : Fin 24) (loc : Nat) (i : FaultInfo) : (logFault cls loc i s).commits = s.commits := (tells_logFault _ _ _ s).commits
@[simp] theorem logFault_sampling (cls : Fin 24) (loc : Nat) (i : FaultInfo) : (logFault cls loc i s).sampling = s.sampling := (tells_logFault _ _ _ s).sampling
@[simp] theorem logFault_disp (cls : Fin 24) (loc : Nat) (i : FaultInfo) : (logFault cls loc i s).disp = s.disp := (tells_logFault _ _ _ s).disp
@[simp] theorem logFault_pcie (cls : Fin 24) (loc : Nat) (i : FaultInfo) : (logFault cls loc i s).pcie = s.pcie := (tells_logFault _ _ _ s).pcie
@[simp] theorem logFault_usb (cls : Fin 24) (loc : Nat) (i : FaultInfo) : (logFault cls loc i s).usb = s.usb := (tells_logFault _ _ _ s).usb
@[simp] theorem logFault_net (cls : Fin 24) (loc : Nat) (i : FaultInfo) : (logFault cls loc i s).net = s.net := (tells_logFault _ _ _ s).net
@[simp] theorem logFault_can (cls : Fin 24) (loc : Nat) (i : FaultInfo) : (logFault cls loc i s).can = s.can := (tells_logFault _ _ _ s).can
@[simp] theorem logFault_power (cls : Fin 24) (loc : Nat) (i : FaultInfo) : (logFault cls loc i s).power = s.power := (tells_logFault _ _ _ s).power
@[simp] theorem logFault_pm (cls : Fin 24) (loc : Nat) (i : FaultInfo) : (logFault cls loc i s).pm = s.pm := (tells_logFault _ _ _ s).pm
@[simp] theorem logFault_freeCtr (cls : Fin 24) (loc : Nat) (i : FaultInfo) : (logFault cls loc i s).freeCtr = s.freeCtr := (tells_logFault _ _ _ s).freeCtr
@[simp] theorem logFault_pending (cls : Fin 24) (loc : Nat) (i : FaultInfo) : (logFault cls loc i s).pending = s.pending := (tells_logFault _ _ _ s).pending
@[simp] theorem logFault_linkState (cls : Fin 24) (loc : Nat) (i : FaultInfo) (l : LinkNo) : (logFault cls loc i s).links[l].state = s.links[l].state := (tells_logFault _ _ _ s).linkState l
@[simp] theorem setReaction_variant (cls : Fin 24) (loc : Nat) (r : Byte) : (setReaction cls loc r s).variant = s.variant := (tells_setReaction _ _ _ s).variant
@[simp] theorem setReaction_ident (cls : Fin 24) (loc : Nat) (r : Byte) : (setReaction cls loc r s).ident = s.ident := (tells_setReaction _ _ _ s).ident
@[simp] theorem setReaction_fw (cls : Fin 24) (loc : Nat) (r : Byte) : (setReaction cls loc r s).fw = s.fw := (tells_setReaction _ _ _ s).fw
@[simp] theorem setReaction_persist (cls : Fin 24) (loc : Nat) (r : Byte) : (setReaction cls loc r s).persist = s.persist := (tells_setReaction _ _ _ s).persist
@[simp] theorem setReaction_worlds (cls : Fin 24) (loc : Nat) (r : Byte) : (setReaction cls loc r s).worlds = s.worlds := (tells_setReaction _ _ _ s).worlds
@[simp] theorem setReaction_perf (cls : Fin 24) (loc : Nat) (r : Byte) : (setReaction cls loc r s).perf = s.perf := (tells_setReaction _ _ _ s).perf
@[simp] theorem setReaction_clock (cls : Fin 24) (loc : Nat) (r : Byte) : (setReaction cls loc r s).clock = s.clock := (tells_setReaction _ _ _ s).clock
@[simp] theorem setReaction_ready (cls : Fin 24) (loc : Nat) (r : Byte) : (setReaction cls loc r s).ready = s.ready := (tells_setReaction _ _ _ s).ready
@[simp] theorem setReaction_activating (cls : Fin 24) (loc : Nat) (r : Byte) : (setReaction cls loc r s).activating = s.activating := (tells_setReaction _ _ _ s).activating
@[simp] theorem setReaction_init (cls : Fin 24) (loc : Nat) (r : Byte) : (setReaction cls loc r s).init = s.init := (tells_setReaction _ _ _ s).init
@[simp] theorem setReaction_scratch (cls : Fin 24) (loc : Nat) (r : Byte) : (setReaction cls loc r s).scratch = s.scratch := (tells_setReaction _ _ _ s).scratch
@[simp] theorem setReaction_nextMb (cls : Fin 24) (loc : Nat) (r : Byte) : (setReaction cls loc r s).nextMb = s.nextMb := (tells_setReaction _ _ _ s).nextMb
@[simp] theorem setReaction_spi (cls : Fin 24) (loc : Nat) (r : Byte) : (setReaction cls loc r s).spi = s.spi := (tells_setReaction _ _ _ s).spi
@[simp] theorem setReaction_tel (cls : Fin 24) (loc : Nat) (r : Byte) : (setReaction cls loc r s).tel = s.tel := (tells_setReaction _ _ _ s).tel
@[simp] theorem setReaction_scheds (cls : Fin 24) (loc : Nat) (r : Byte) : (setReaction cls loc r s).scheds = s.scheds := (tells_setReaction _ _ _ s).scheds
@[simp] theorem setReaction_commits (cls : Fin 24) (loc : Nat) (r : Byte) : (setReaction cls loc r s).commits = s.commits := (tells_setReaction _ _ _ s).commits
@[simp] theorem setReaction_sampling (cls : Fin 24) (loc : Nat) (r : Byte) : (setReaction cls loc r s).sampling = s.sampling := (tells_setReaction _ _ _ s).sampling
@[simp] theorem setReaction_disp (cls : Fin 24) (loc : Nat) (r : Byte) : (setReaction cls loc r s).disp = s.disp := (tells_setReaction _ _ _ s).disp
@[simp] theorem setReaction_pcie (cls : Fin 24) (loc : Nat) (r : Byte) : (setReaction cls loc r s).pcie = s.pcie := (tells_setReaction _ _ _ s).pcie
@[simp] theorem setReaction_usb (cls : Fin 24) (loc : Nat) (r : Byte) : (setReaction cls loc r s).usb = s.usb := (tells_setReaction _ _ _ s).usb
@[simp] theorem setReaction_net (cls : Fin 24) (loc : Nat) (r : Byte) : (setReaction cls loc r s).net = s.net := (tells_setReaction _ _ _ s).net
@[simp] theorem setReaction_can (cls : Fin 24) (loc : Nat) (r : Byte) : (setReaction cls loc r s).can = s.can := (tells_setReaction _ _ _ s).can
@[simp] theorem setReaction_power (cls : Fin 24) (loc : Nat) (r : Byte) : (setReaction cls loc r s).power = s.power := (tells_setReaction _ _ _ s).power
@[simp] theorem setReaction_pm (cls : Fin 24) (loc : Nat) (r : Byte) : (setReaction cls loc r s).pm = s.pm := (tells_setReaction _ _ _ s).pm
@[simp] theorem setReaction_freeCtr (cls : Fin 24) (loc : Nat) (r : Byte) : (setReaction cls loc r s).freeCtr = s.freeCtr := (tells_setReaction _ _ _ s).freeCtr
@[simp] theorem setReaction_pending (cls : Fin 24) (loc : Nat) (r : Byte) : (setReaction cls loc r s).pending = s.pending := (tells_setReaction _ _ _ s).pending
@[simp] theorem setReaction_linkState (cls : Fin 24) (loc : Nat) (r : Byte) (l : LinkNo) : (setReaction cls loc r s).links[l].state = s.links[l].state := (tells_setReaction _ _ _ s).linkState l

/-! ### Fault log, waiting commands and pair -/

/-- The fields an event leaves beside those of `Tells`. -/
structure Notes (s t : State) : Prop where
  pend : t.pend = s.pend
  flt : t.flt = s.flt
  pair : t.pair = s.pair

theorem Notes.refl (s : State) : Notes s s := ⟨rfl, rfl, rfl⟩
theorem Notes.trans {s t u : State} (h : Notes s t) (k : Notes t u) : Notes s u :=
  ⟨k.pend.trans h.pend, k.flt.trans h.flt, k.pair.trans h.pair⟩
theorem Notes.ite {p : Prop} [Decidable p] {s a b : State} (h : Notes s a) (k : Notes s b) : Notes s (if p then a else b) := by
  split
  · exact h
  · exact k
theorem Notes.foldl {α : Type} {f : State → α → State} (h : ∀ s x, Notes s (f s x)) (l : List α) (s : State) :
    Notes s (l.foldl f s) := by
  induction l generalizing s with
  | nil => exact .refl s
  | cons x r ih => exact (h s x).trans (ih (f s x))

theorem notes_noteReason (h : HostNo) (code : Byte) (s : State) : Notes s (noteReason h code s) := by
  unfold noteReason
  split <;> exact ⟨rfl, rfl, rfl⟩
theorem notes_queuePacket (h : HostNo) (tid : Byte) (last : Bool) (p : List Byte) (s : State) :
    Notes s (queuePacket h tid last p s) :=
  Notes.trans (t := updTunnel h tid (fun t => { t with queue := t.queue ++ [⟨last, p, s.clock.hubTime⟩] }) s) ⟨rfl, rfl, rfl⟩
    (notes_noteReason _ _ _)
theorem notes_updTunnel (h : HostNo) (tid : Byte) (f : Tunnel → Tunnel) (s : State) : Notes s (updTunnel h tid f s) :=
  ⟨rfl, rfl, rfl⟩
theorem notes_updMb (m : MbNo) (f : Mailbox → Mailbox) (s : State) : Notes s (updMb m f s) := ⟨rfl, rfl, rfl⟩
theorem notes_admitHeld (h : HostNo) (tid : Byte) (n : Nat) (s : State) : Notes s (admitHeld h tid n s) := by
  induction n generalizing s with
  | zero => exact .refl s
  | succ n ih =>
    unfold admitHeld
    split
    · exact .refl s
    · split
      · exact .refl s
      · exact .ite (((notes_updTunnel _ _ _ s).trans (notes_queuePacket _ _ _ _ _)).trans (ih _)) (.refl s)
theorem notes_sendZero (h : HostNo) (b : List Byte) (s : State) : Notes s (sendZero h b s) := by
  unfold sendZero
  split
  · exact .refl s
  · exact (notes_updTunnel _ _ _ s).trans (notes_admitHeld _ _ _ _)
theorem notes_updateInt (s : State) : Notes s (updateInt s) := by
  unfold updateInt
  exact .ite ⟨rfl, rfl, rfl⟩ (.ite (.ite (.refl s) ⟨rfl, rfl, rfl⟩) (.ite ⟨rfl, rfl, rfl⟩ (.refl s)))
theorem notes_sendInterrupt (m : MbNo) (s : State) : Notes s (sendInterrupt m s) := by
  unfold sendInterrupt
  split
  · exact ((notes_noteReason _ _ _).trans (notes_sendZero _ _ _)).trans (notes_updMb _ _ _)
  · exact .refl s
theorem notes_noteAdvance (m : MbNo) (s : State) : Notes s (noteAdvance m s) := by
  unfold noteAdvance
  exact .ite (.refl s) (.ite (notes_updMb _ _ s) (.ite (notes_sendInterrupt m s) (.refl s)))
theorem notes_window (w : Memory) (s : State) : Notes s { s with window := w } := ⟨rfl, rfl, rfl⟩
theorem notes_evPend (w : Vector Dword 4) (s : State) : Notes s { s with ev := { s.ev with pend := w } } := ⟨rfl, rfl, rfl⟩
theorem notes_ringEvent (m : MbNo) (ev : Fin 64) (p : Bool) (t : Dword) (a : Word) (s : State) :
    Notes s (ringEvent m ev p t a s) := by
  unfold ringEvent
  exact .ite (((notes_window _ s).trans (notes_updMb _ _ _)).trans (notes_noteAdvance _ _)) (notes_updMb _ _ s)
theorem notes_deliver (ev : Fin 64) (f p : Bool) (t : Dword) (a : Word) (s : State) (m : MbNo) :
    Notes s (deliver ev f p t a s m) := by
  unfold deliver
  refine Notes.trans ?_ (notes_updateInt _)
  exact .ite ((notes_evPend _ s).trans (notes_ringEvent _ _ _ _ _ _)) (notes_evPend _ s)
theorem notes_relayEvent (sc : Scope) (ev : Fin 64) (a : Word) (s : State) : Notes s (relayEvent sc ev a s) := by
  unfold relayEvent
  exact .ite (.ite ⟨rfl, rfl, rfl⟩ (.ite ⟨rfl, rfl, rfl⟩ (.refl s))) (.refl s)
theorem notes_raise (sc : Scope) (ev : Fin 64) (a : Nat) (s : State) : Notes s (raise sc ev a s) :=
  (Notes.foldl (fun s m => notes_deliver _ _ _ _ _ s m) _ s).trans (notes_relayEvent _ _ _ _)
theorem notes_postSlot (m : MbNo) (r : Response) (s : State) : Notes s (postSlot m r s) :=
  (((notes_window _ s).trans (notes_updMb _ _ _)).trans (notes_noteAdvance _ _)).trans (notes_deliver _ _ _ _ _ _ _)
theorem notes_postResponse (m : MbNo) (r : Response) (s : State) : Notes s (postResponse m r s) := by
  unfold postResponse
  exact .ite (notes_postSlot m r s) (notes_updMb _ _ s)

@[simp] theorem raise_pend (sc : Scope) (ev : Fin 64) (a : Nat) : (raise sc ev a s).pend = s.pend := (notes_raise _ _ _ s).pend
@[simp] theorem raise_flt (sc : Scope) (ev : Fin 64) (a : Nat) : (raise sc ev a s).flt = s.flt := (notes_raise _ _ _ s).flt
@[simp] theorem raise_pair (sc : Scope) (ev : Fin 64) (a : Nat) : (raise sc ev a s).pair = s.pair := (notes_raise _ _ _ s).pair

/-- Answering a command leaves the waiting commands and the fault log, and of the pair all but the noted status, the commands
held for the partner and the responses held back. -/
structure Answers (s t : State) : Prop where
  pend : t.pend = s.pend
  flt : t.flt = s.flt
  pair : { t.pair with lastStatus := s.pair.lastStatus, held := s.pair.held, deferred := s.pair.deferred } = s.pair

theorem answers_respondTo (src : CmdSrc) (seq tag : Half) (fl : BitVec 8) (op st : Half) (i : Bool) (p : List Byte) (s : State) :
    Answers s (respondTo src seq tag fl op st i p s) := by
  have h1 : Answers s (noteStatus st s) := by
    unfold noteStatus
    split <;> exact ⟨rfl, rfl, rfl⟩
  unfold respondTo
  cases src with
  | mailbox m =>
    have h (r : Response) (x : State) (hx : Answers s x) : Answers s (postResponse m r x) := by
      have k := notes_postResponse m r x
      exact ⟨k.pend.trans hx.pend, k.flt.trans hx.flt, by rw [k.pair]; exact hx.pair⟩
    have h2 : Answers s (updMb m (fun mb => { mb with flag17 := mb.flag17.filter (· != seq) }) (noteStatus st s)) :=
      ⟨h1.pend, h1.flt, h1.pair⟩
    dsimp only
    split
    · exact h _ _ h1
    · split
      · exact ⟨h2.pend, h2.flt, h2.pair⟩
      · exact h _ _ h2
  | forwarded r id => exact ⟨h1.pend, h1.flt, h1.pair⟩
  | mirror r => exact h1

@[simp] theorem respond_pend (op : Half) (c : Cmd) (st : Half) (p : List Byte) : (respond op c st p s).pend = s.pend :=
  (answers_respondTo _ _ _ _ _ _ _ _ s).pend
@[simp] theorem respond_flt (op : Half) (c : Cmd) (st : Half) (p : List Byte) : (respond op c st p s).flt = s.flt :=
  (answers_respondTo _ _ _ _ _ _ _ _ s).flt
@[simp] theorem ok_pend (op : Half) (c : Cmd) (p : List Byte) : (ok op c p s).pend = s.pend := respond_pend _ _ _ _ _
@[simp] theorem ok_flt (op : Half) (c : Cmd) (p : List Byte) : (ok op c p s).flt = s.flt := respond_flt _ _ _ _ _
@[simp] theorem fail_pend (op : Half) (c : Cmd) (st : Half) : (fail op c st s).pend = s.pend := respond_pend _ _ _ _ _
@[simp] theorem fail_flt (op : Half) (c : Cmd) (st : Half) : (fail op c st s).flt = s.flt := respond_flt _ _ _ _ _

/-- Posting final responses leaves the commands that still wait. -/
theorem foldl_finishOne (st : Half) (p : List Byte) (l : List Pending) (x : State) :
    (l.foldl (finishOne st p) x).pend = x.pend ∧ (l.foldl (finishOne st p) x).flt = x.flt := by
  induction l generalizing x with
  | nil => exact ⟨rfl, rfl⟩
  | cons y r ih =>
    have h : Answers x (finishOne st p x y) := answers_respondTo _ _ _ _ _ _ _ _ x
    exact ⟨(ih _).1.trans h.pend, (ih _).2.trans h.flt⟩

@[simp] theorem finish_pend (k : PendKind) (st : Half) (p : List Byte) :
    (finish k st p s).pend = s.pend.filter (fun x => x.kind != k) := (foldl_finishOne _ _ _ _).1
@[simp] theorem finish_flt (k : PendKind) (st : Half) (p : List Byte) : (finish k st p s).flt = s.flt := (foldl_finishOne _ _ _ _).2

/-- Nothing waits any more for what has finished; what waits for another still waits. -/
@[simp] theorem waitsFor_finish (k j : PendKind) (st : Half) (p : List Byte) :
    waitsFor (finish k st p s) j = (waitsFor s j && j != k) := by
  unfold waitsFor
  rw [finish_pend, List.any_filter]
  by_cases h : j = k
  · subst h
    simp
  · have e : (j != k) = true := by simpa using h
    rw [e, Bool.and_true]
    congr 1
    funext x
    by_cases hx : x.kind = j
    · subst hx; simp [h]
    · simp [hx]

@[simp] theorem holdPending_pend (op : Half) (c : Cmd) (k : PendKind) :
    (holdPending op c k s).pend = s.pend ++ [pendOf op c k true] := rfl
@[simp] theorem holdPending_flt (op : Half) (c : Cmd) (k : PendKind) : (holdPending op c k s).flt = s.flt :=
  (answers_respondTo _ _ _ _ _ _ _ _ s).flt

/-- What logging a fault leaves beside the fields of `Tells`. -/
structure Logs (s t : State) : Prop where
  pend : t.pend = s.pend
  pair : t.pair = s.pair

theorem Logs.ite {p : Prop} [Decidable p] {s a b : State} (h : Logs s a) (k : Logs s b) : Logs s (if p then a else b) := by
  split
  · exact h
  · exact k

theorem logs_faultEvent (cls : Fin 24) (i : Half) (s x : State) (h : Logs x s) : Logs x (faultEvent cls i s) := by
  unfold faultEvent
  exact .ite ⟨(raise_pend _ _ _ _).trans h.pend, (raise_pair _ _ _ _).trans h.pair⟩ h

theorem logs_logFault (cls : Fin 24) (loc : Nat) (i : FaultInfo) (s : State) : Logs s (logFault cls loc i s) := by
  unfold logFault
  refine Logs.ite ?_ (logs_faultEvent _ _ _ _ ⟨rfl, rfl⟩)
  split <;> exact ⟨rfl, rfl⟩

@[simp] theorem logFault_pend (cls : Fin 24) (loc : Nat) (i : FaultInfo) : (logFault cls loc i s).pend = s.pend :=
  (logs_logFault _ _ _ s).pend
@[simp] theorem logFault_pair (cls : Fin 24) (loc : Nat) (i : FaultInfo) : (logFault cls loc i s).pair = s.pair :=
  (logs_logFault _ _ _ s).pair

end Sys2Proof.Machine
end

