-- ==== Sys2Proof/Laws/Link.lean ====
section
/-! SUPPORT. What counting, sending and announcing on a link leave alone. -/
namespace Sys2Proof.Machine

/-- Blocks sent on a pair change its scrambler and nothing else. -/
theorem sendBlocks_same (l : LinkNo) (p : PairNo) (bs : List Block) (s : State) :
    (sendBlocks l p bs s).2.perf = s.perf ∧ (sendBlocks l p bs s).2.pend = s.pend := ⟨rfl, rfl⟩

theorem sendSetOn_same (l : LinkNo) (p : PairNo) (code : Byte) (content : List Byte) (s : State) :
    (sendSetOn l p code content s).perf = s.perf ∧ (sendSetOn l p code content s).pend = s.pend := ⟨rfl, rfl⟩

theorem linkCount_same (l : LinkNo) (k : Fin 16) (n : Nat) (s : State) :
    (linkCount l k n s).perf = s.perf ∧ (linkCount l k n s).pend = s.pend := by
  unfold linkCount
  dsimp only
  split
  · exact ⟨rfl, rfl⟩
  · split
    · exact ⟨raise_perf _ _ _ _, raise_pend _ _ _ _⟩
    · exact ⟨rfl, rfl⟩

theorem wakeLane_same (l : LinkNo) (p : PairNo) (s : State) :
    (wakeLane l p s).perf = s.perf ∧ (wakeLane l p s).pend = s.pend := by
  unfold wakeLane
  dsimp only
  split
  · exact ⟨rfl, rfl⟩
  · split <;> exact ⟨rfl, rfl⟩
  · exact ⟨(linkCount_same l 12 1 _).1, (linkCount_same l 12 1 _).2⟩

theorem sendSet_same (l : LinkNo) (code : Byte) (content : List Byte) (s : State) :
    (sendSet l code content s).perf = s.perf ∧ (sendSet l code content s).pend = s.pend := by
  unfold sendSet
  dsimp only
  split
  · exact wakeLane_same l _ _
  · exact wakeLane_same l _ _

theorem announce_same (l : LinkNo) (s : State) : (announce l s).perf = s.perf ∧ (announce l s).pend = s.pend := by
  unfold announce
  dsimp only
  split
  · exact sendSet_same _ _ _ _
  · split <;> exact ⟨rfl, rfl⟩

/-- A profile that begins changes nothing of the performance block but the profile. -/
theorem enterProfile_perf (p : Profile) (s : State) : (enterProfile p s).perf = { s.perf with profile := p } := by
  unfold enterProfile
  simp only [List.foldl]
  rw [(announce_same _ _).1, (announce_same _ _).1]
  rfl

theorem enterProfile_pend (p : Profile) (s : State) : (enterProfile p s).pend = s.pend := by
  unfold enterProfile
  simp only [List.foldl]
  rw [(announce_same _ _).2, (announce_same _ _).2]
  rfl

end Sys2Proof.Machine
end

