-- ==== Sys2Proof/Laws/Operands.lean ====
section
/-! SUPPORT. Lemmas about operands: evaluation order is no part of a value, fields read back what was laid out, and the sparse store reads what was put and keeps its canonical form. -/
namespace Sys2Proof.Machine

@[simp] theorem forced_eq {α : Type} (n : Nat) (f : Nat → α) : forced n f = f n := by
  cases n <;> rfl

@[simp] theorem leBytes_length (n v : Nat) : (leBytes n v).length = n := by
  induction n generalizing v with
  | zero => rfl
  | succ n ih => simp [leBytes, ih]

/-- A number laid out in `n` bytes reads back modulo 256^n (R15). -/
theorem leNat_leBytes (n v : Nat) : leNat (leBytes n v) = v % 256 ^ n := by
  induction n generalizing v with
  | zero => simp [leBytes, leNat, Nat.mod_one]
  | succ n ih =>
    simp only [leBytes, leNat, ih, BitVec.toNat_ofNat]
    rw [show 256 ^ (n + 1) = 256 * 256 ^ n from by rw [Nat.pow_succ, Nat.mul_comm], Nat.mod_mul]

@[simp] theorem zeros_length (n : Nat) : (zeros n).length = n := by simp [zeros]

@[simp] theorem padTo_length (n : Nat) (p : List Byte) : (padTo n p).length = n := by
  simp [padTo, zeros]
  omega

/-! ### The sparse store -/

/-- Reading a number just put. -/
theorem sparseGet_put_same {β : Type} [DecidableEq β] (d : β) (m : Sparse β) (a : Nat) (v : β)
    (h : sparseWf d m = true) : sparseGet d (sparsePut d m a v) a = v := by
  induction m with
  | nil => by_cases hv : v = d <;> simp [sparsePut, sparseGet, hv]
  | cons c r ih =>
    obtain ⟨k, w⟩ := c
    have hr : sparseWf d r = true := by
      simp only [sparseWf, Bool.and_eq_true] at h; exact h.2
    have absent : ∀ (l : Sparse β) (j : Nat), a < j →
        (∀ w', sparseWf d ((j, w') :: l) = true → sparseGet d ((j, w') :: l) a = d) := by
      intro l
      induction l with
      | nil => intro j hj w' _; simp [sparseGet]; omega
      | cons c' r' ih' =>
        intro j hj w' hw
        obtain ⟨k', v'⟩ := c'
        simp only [sparseWf, Bool.and_eq_true, decide_eq_true_eq] at hw
        have := ih' k' (by omega) v' (by simp [sparseWf, hw.2])
        rw [sparseGet, if_neg (by omega)]
        exact this
    unfold sparsePut
    by_cases h1 : a < k
    · rw [if_pos h1]
      by_cases hv : v = d
      · rw [if_pos hv, hv]; exact absent r k h1 w h
      · rw [if_neg hv]; simp [sparseGet]
    · rw [if_neg h1]
      by_cases h2 : a = k
      · rw [if_pos h2]
        by_cases hv : v = d
        · rw [if_pos hv, hv, h2]
          cases r with
          | nil => simp [sparseGet]
          | cons c' r' =>
            obtain ⟨k', v'⟩ := c'
            have hk : k < k' := by
              simp only [sparseWf, Bool.and_eq_true, decide_eq_true_eq] at h; exact h.1.2
            rw [← h2]
            exact absent r' k' (by omega) v' hr
        · rw [if_neg hv]; simp [sparseGet]
      · rw [if_neg h2, sparseGet, if_neg (by omega)]
        exact ih hr

/-- Reading another number than the one put. -/
theorem sparseGet_put_other {β : Type} [DecidableEq β] (d : β) (m : Sparse β) (a b : Nat) (v : β) (h : b ≠ a) :
    sparseGet d (sparsePut d m a v) b = sparseGet d m b := by
  induction m with
  | nil =>
    unfold sparsePut
    by_cases hv : v = d
    · simp [hv]
    · simp [hv, sparseGet]; intro hab; exact absurd hab.symm h
  | cons c r ih =>
    obtain ⟨k, w⟩ := c
    unfold sparsePut
    by_cases h1 : a < k
    · rw [if_pos h1]
      by_cases hv : v = d
      · rw [if_pos hv]
      · rw [if_neg hv, sparseGet, if_neg (Ne.symm h)]
    · rw [if_neg h1]
      by_cases h2 : a = k
      · rw [if_pos h2]
        by_cases hv : v = d
        · rw [if_pos hv, sparseGet, if_neg (by rw [← h2]; exact Ne.symm h)]
        · rw [if_neg hv, sparseGet, sparseGet, if_neg (Ne.symm h), if_neg (by rw [← h2]; exact Ne.symm h)]
      · rw [if_neg h2, sparseGet, sparseGet, ih]

/-- What a put leaves first in a canonical store is no lower than what stood first or the number put. -/
theorem sparsePut_head {β : Type} [DecidableEq β] (d : β) (m : Sparse β) (a : Nat) (v : β) (b : Nat)
    (hm : ∀ c ∈ m.head?, b < c.1) (ha : b < a) (hw : sparseWf d m = true) : ∀ c ∈ (sparsePut d m a v).head?, b < c.1 := by
  cases m with
  | nil =>
    unfold sparsePut
    split <;> simp [ha]
  | cons c r =>
    obtain ⟨k, w⟩ := c
    have hk : b < k := hm (k, w) (by simp)
    unfold sparsePut
    by_cases h1 : a < k
    · rw [if_pos h1]; split <;> simp [hk, ha]
    · rw [if_neg h1]
      by_cases h2 : a = k
      · rw [if_pos h2]
        by_cases hv : v = d
        · rw [if_pos hv]
          cases r with
          | nil => simp
          | cons c' r' =>
            obtain ⟨k', v'⟩ := c'
            simp only [sparseWf, Bool.and_eq_true, decide_eq_true_eq] at hw
            simp; omega
        · rw [if_neg hv]; simp [ha]
      · rw [if_neg h2]; simp [hk]

/-- A store is canonical when its first entry is a value of its own, below the next, and the rest is canonical. -/
theorem sparseWf_cons {β : Type} [DecidableEq β] (d : β) (k : Nat) (v : β) (r : Sparse β) :
    sparseWf d ((k, v) :: r) = true ↔ v ≠ d ∧ (∀ c ∈ r.head?, k < c.1) ∧ sparseWf d r = true := by
  cases r with
  | nil => simp [sparseWf]
  | cons c r' =>
    obtain ⟨k', v'⟩ := c
    simp [sparseWf, and_assoc]

/-- A put keeps the canonical form. -/
theorem sparsePut_wf {β : Type} [DecidableEq β] (d : β) (m : Sparse β) (a : Nat) (v : β) (h : sparseWf d m = true) :
    sparseWf d (sparsePut d m a v) = true := by
  induction m with
  | nil => by_cases hv : v = d <;> simp [sparsePut, sparseWf, hv]
  | cons c r ih =>
    obtain ⟨k, w⟩ := c
    obtain ⟨hw, hk, hr⟩ := (sparseWf_cons d k w r).mp h
    unfold sparsePut
    by_cases h1 : a < k
    · rw [if_pos h1]
      by_cases hv : v = d
      · rw [if_pos hv]; exact h
      · rw [if_neg hv]; exact (sparseWf_cons d a v _).mpr ⟨hv, by simp [h1], h⟩
    · rw [if_neg h1]
      by_cases h2 : a = k
      · rw [if_pos h2]
        by_cases hv : v = d
        · rw [if_pos hv]; exact hr
        · rw [if_neg hv]; exact (sparseWf_cons d a v _).mpr ⟨hv, by rw [h2]; exact hk, hr⟩
      · rw [if_neg h2]
        exact (sparseWf_cons d k w _).mpr ⟨hw, sparsePut_head d r a v k hk (by omega) hr, ih hr⟩

/-- Removing entries keeps the canonical form. -/
theorem sparseFilter_wf {β : Type} [DecidableEq β] (d : β) (p : Nat × β → Bool) (m : Sparse β) (h : sparseWf d m = true) :
    sparseWf d (m.filter p) = true := by
  have low : ∀ (l : Sparse β) (b : Nat), sparseWf d l = true → (∀ c ∈ l.head?, b < c.1) → ∀ c ∈ (l.filter p).head?, b < c.1 := by
    intro l
    induction l with
    | nil => intro b _ _ c hc; simp at hc
    | cons c r ih =>
      obtain ⟨k, v⟩ := c
      intro b hl hb
      obtain ⟨_, hk, hr⟩ := (sparseWf_cons d k v r).mp hl
      have hbk : b < k := hb (k, v) (by simp)
      by_cases hp : p (k, v) = true
      · simp [hp, hbk]
      · rw [List.filter_cons, if_neg (by simp [hp])]
        exact ih b hr (fun c hc => Nat.lt_trans hbk (hk c hc))
  induction m with
  | nil => rfl
  | cons c r ih =>
    obtain ⟨k, v⟩ := c
    obtain ⟨hv, hk, hr⟩ := (sparseWf_cons d k v r).mp h
    by_cases hp : p (k, v) = true
    · rw [List.filter_cons, if_pos hp]
      exact (sparseWf_cons d k v _).mpr ⟨hv, low r k hr hk, ih hr⟩
    · rw [List.filter_cons, if_neg (by simp [hp])]
      exact ih hr

/-- A copy stands in canonical form, whatever it was made from. -/
theorem sparseCopy_wf {β : Type} [DecidableEq β] (d : β) (m : Sparse β) : sparseWf d (sparseCopy d m) = true := by
  induction m with
  | nil => rfl
  | cons e r ih => exact sparsePut_wf d _ e.1 e.2 ih

/-- A copy reads as what it was made from. -/
theorem sparseGet_copy {β : Type} [DecidableEq β] (d : β) (m : Sparse β) (a : Nat) :
    sparseGet d (sparseCopy d m) a = sparseGet d m a := by
  induction m with
  | nil => rfl
  | cons e r ih =>
    obtain ⟨k, v⟩ := e
    show sparseGet d (sparsePut d (sparseCopy d r) k v) a = _
    by_cases h : a = k
    · subst h; rw [sparseGet_put_same d _ _ _ (sparseCopy_wf d r)]; simp [sparseGet]
    · rw [sparseGet_put_other d _ _ _ _ h, ih]; simp [sparseGet, Ne.symm h]

/-- Storing bytes keeps a memory's canonical form. -/
theorem memWrite_wf (m : Memory) (a : Nat) (p : List Byte) (h : memWf m = true) : memWf (memWrite m a p) = true := by
  induction p generalizing m a with
  | nil => exact h
  | cons b r ih => exact ih _ _ (sparsePut_wf 0 m a b h)

/-- Clearing a range keeps a memory's canonical form. -/
theorem memClear_wf (m : Memory) (a n : Nat) (h : memWf m = true) : memWf (memClear m a n) = true :=
  sparseFilter_wf 0 _ m h

/-- A byte outside the bytes stored reads as before. -/
theorem memWrite_frame (m : Memory) (a : Nat) (p : List Byte) (b : Nat) (h : b < a ∨ a + p.length ≤ b) :
    memByte (memWrite m a p) b = memByte m b := by
  induction p generalizing m a with
  | nil => rfl
  | cons c r ih =>
    rw [memWrite, ih]
    · exact sparseGet_put_other 0 m a b c (by simp only [List.length_cons] at h; omega)
    · simp only [List.length_cons] at h; omega

/-- A byte stored reads back. -/
theorem memWrite_same (m : Memory) (a : Nat) (p : List Byte) (i : Nat) (h : memWf m = true) (hi : i < p.length) :
    memByte (memWrite m a p) (a + i) = p[i] := by
  induction p generalizing m a i with
  | nil => simp at hi
  | cons c r ih =>
    cases i with
    | zero =>
      rw [memWrite, Nat.add_zero, memWrite_frame _ _ _ _ (by omega)]
      simpa [memByte] using sparseGet_put_same 0 m a c h
    | succ i =>
      rw [memWrite, show a + (i + 1) = a + 1 + i by omega, ih _ _ _ (sparsePut_wf 0 m a c h) (by simpa using hi)]
      rfl

end Sys2Proof.Machine
end

