-- ==== Sys2Proof/Laws/Shared.lean ====
section
/-! SUPPORT. What the shared operations keep: the canonical form of every memory, the variant and the life-cycle state. One lemma for each operation, for the invariants of every step. -/
namespace Sys2Proof.Machine

/-- From one state to another, every memory stays canonical, and variant and life cycle are as they were. -/
structure Keeps (s t : State) : Prop where
  canon : canonical s = true → canonical t = true
  variant : t.variant = s.variant
  lc : t.ident.lc = s.ident.lc

theorem Keeps.refl (s : State) : Keeps s s := ⟨id, rfl, rfl⟩

theorem Keeps.trans {s t u : State} (h : Keeps s t) (k : Keeps t u) : Keeps s u :=
  ⟨fun x => k.canon (h.canon x), k.variant.trans h.variant, k.lc.trans h.lc⟩

/-- An update that leaves every memory, the variant and the life cycle alone. -/
theorem Keeps.of_same {s t : State} (hw : t.window = s.window) (hm : t.disp.mem = s.disp.mem) (hp : t.persist = s.persist)
    (hc : t.pcie.cfg = s.pcie.cfg) (hv : t.variant = s.variant) (hl : t.ident.lc = s.ident.lc) : Keeps s t :=
  ⟨fun h => by unfold canonical at *; rw [hw, hm, hp, hc]; exact h, hv, hl⟩

/-- One of two states, whichever a condition chooses. -/
theorem Keeps.ite {p : Prop} [Decidable p] {s a b : State} (h : Keeps s a) (k : Keeps s b) : Keeps s (if p then a else b) := by
  split
  · exact h
  · exact k

/-- A list of updates, each of which keeps them. -/
theorem Keeps.foldl {α : Type} {f : State → α → State} (h : ∀ s x, Keeps s (f s x)) (l : List α) (s : State) :
    Keeps s (l.foldl f s) := by
  induction l generalizing s with
  | nil => exact Keeps.refl s
  | cons x r ih => exact (h s x).trans (ih (f s x))

/-- Bytes stored in the window. -/
theorem Keeps.window (s : State) (a : Nat) (b : List Byte) : Keeps s { s with window := memWrite s.window a b } := by
  refine ⟨fun h => ?_, rfl, rfl⟩
  simp only [canonical, Bool.and_eq_true] at h ⊢
  exact ⟨⟨⟨⟨memWrite_wf _ _ _ h.1.1.1.1, h.1.1.1.2⟩, h.1.1.2⟩, h.1.2⟩, h.2⟩

/-- A frame store in canonical form in place of the old one. -/
theorem Keeps.frameStore (s : State) (m : Memory) (hm : memWf s.disp.mem = true → memWf m = true) :
    Keeps s { s with disp := { s.disp with mem := m } } := by
  refine ⟨fun h => ?_, rfl, rfl⟩
  simp only [canonical, Bool.and_eq_true] at h ⊢
  exact ⟨⟨⟨⟨h.1.1.1.1, hm h.1.1.1.2⟩, h.1.1.2⟩, h.1.2⟩, h.2⟩

/-! ### Small updates -/

theorem keeps_emit (e : Emit) (s : State) : Keeps s (emit e s) := .of_same rfl rfl rfl rfl rfl rfl
theorem keeps_emits (es : List Emit) (s : State) : Keeps s (emits es s) := .of_same rfl rfl rfl rfl rfl rfl
theorem keeps_takeFree (w : Nat) (s : State) : Keeps s (takeFree w s).2 := .of_same rfl rfl rfl rfl rfl rfl
theorem keeps_updMb (m : MbNo) (f : Mailbox → Mailbox) (s : State) : Keeps s (updMb m f s) := .of_same rfl rfl rfl rfl rfl rfl
theorem keeps_updLink (l : LinkNo) (f : Link → Link) (s : State) : Keeps s (updLink l f s) := .of_same rfl rfl rfl rfl rfl rfl
theorem keeps_updOut (o : OutNo) (f : Output → Output) (s : State) : Keeps s (updOut o f s) := .of_same rfl rfl rfl rfl rfl rfl
theorem keeps_updFlt (f : Faults → Faults) (s : State) : Keeps s (updFlt f s) := .of_same rfl rfl rfl rfl rfl rfl
theorem keeps_updPerf (f : Perf → Perf) (s : State) : Keeps s (updPerf f s) := .of_same rfl rfl rfl rfl rfl rfl
theorem keeps_updPair (f : Pair → Pair) (s : State) : Keeps s (updPair f s) := .of_same rfl rfl rfl rfl rfl rfl
theorem keeps_updTunnel (h : HostNo) (tid : Byte) (f : Tunnel → Tunnel) (s : State) : Keeps s (updTunnel h tid f s) :=
  .of_same rfl rfl rfl rfl rfl rfl

/-! ### Events -/

theorem keeps_noteReason (h : HostNo) (code : Byte) (s : State) : Keeps s (noteReason h code s) := by
  unfold noteReason
  split
  · exact keeps_updLink _ _ s
  · exact .refl s

theorem keeps_queuePacket (h : HostNo) (tid : Byte) (last : Bool) (p : List Byte) (s : State) :
    Keeps s (queuePacket h tid last p s) := (keeps_updTunnel _ _ _ s).trans (keeps_noteReason _ _ _)

theorem keeps_admitHeld (h : HostNo) (tid : Byte) (n : Nat) (s : State) : Keeps s (admitHeld h tid n s) := by
  induction n generalizing s with
  | zero => exact .refl s
  | succ n ih =>
    unfold admitHeld
    split
    · exact .refl s
    · split
      · exact .refl s
      · exact .ite (((keeps_updTunnel _ _ _ s).trans (keeps_queuePacket _ _ _ _ _)).trans (ih _)) (.refl s)

theorem keeps_sendZero (h : HostNo) (b : List Byte) (s : State) : Keeps s (sendZero h b s) := by
  unfold sendZero
  split
  · exact .refl s
  · exact (keeps_updTunnel _ _ _ s).trans (keeps_admitHeld _ _ _ _)

theorem keeps_updateInt (s : State) : Keeps s (updateInt s) := by
  unfold updateInt
  exact .ite (.of_same rfl rfl rfl rfl rfl rfl) (.ite (.ite (.refl s) (.of_same rfl rfl rfl rfl rfl rfl))
    (.ite (.of_same rfl rfl rfl rfl rfl rfl) (.refl s)))

theorem keeps_sendInterrupt (m : MbNo) (s : State) : Keeps s (sendInterrupt m s) := by
  unfold sendInterrupt
  split
  · exact ((keeps_noteReason _ _ _).trans (keeps_sendZero _ _ _)).trans (keeps_updMb _ _ _)
  · exact .refl s

theorem keeps_noteAdvance (m : MbNo) (s : State) : Keeps s (noteAdvance m s) := by
  unfold noteAdvance
  exact .ite (.refl s) (.ite (keeps_updMb _ _ s) (.ite (keeps_sendInterrupt m s) (.refl s)))

theorem keeps_ringEvent (m : MbNo) (ev : Fin 64) (p : Bool) (t : Dword) (a : Word) (s : State) :
    Keeps s (ringEvent m ev p t a s) := by
  unfold ringEvent
  exact .ite (((Keeps.window s _ _).trans (keeps_updMb _ _ _)).trans (keeps_noteAdvance _ _)) (keeps_updMb _ _ s)

theorem keeps_deliver (ev : Fin 64) (f p : Bool) (t : Dword) (a : Word) (s : State) (m : MbNo) :
    Keeps s (deliver ev f p t a s m) := by
  have h (w : Vector Dword 4) : Keeps s { s with ev := { s.ev with pend := w } } := .of_same rfl rfl rfl rfl rfl rfl
  unfold deliver
  refine Keeps.trans ?_ (keeps_updateInt _)
  exact .ite ((h _).trans (keeps_ringEvent _ _ _ _ _ _)) (h _)

theorem keeps_relayEvent (sc : Scope) (ev : Fin 64) (a : Word) (s : State) : Keeps s (relayEvent sc ev a s) := by
  unfold relayEvent
  exact .ite (.ite (keeps_emit _ s) (.ite (keeps_emit _ s) (.refl s))) (.refl s)

theorem keeps_raise (sc : Scope) (ev : Fin 64) (a : Nat) (s : State) : Keeps s (raise sc ev a s) :=
  (Keeps.foldl (fun s m => keeps_deliver _ _ _ _ _ s m) _ s).trans (keeps_relayEvent _ _ _ _)

/-! ### Responses -/

theorem keeps_postSlot (m : MbNo) (r : Response) (s : State) : Keeps s (postSlot m r s) :=
  (((Keeps.window s _ _).trans (keeps_updMb _ _ _)).trans (keeps_noteAdvance _ _)).trans (keeps_deliver _ _ _ _ _ _ _)

theorem keeps_postResponse (m : MbNo) (r : Response) (s : State) : Keeps s (postResponse m r s) := by
  unfold postResponse
  exact .ite (keeps_postSlot m r s) (keeps_updMb _ _ s)

theorem keeps_postWaiting (m : MbNo) (n : Nat) (s : State) : Keeps s (postWaiting m n s) := by
  induction n generalizing s with
  | zero => exact .refl s
  | succ n ih =>
    unfold postWaiting
    split
    · exact .refl s
    · exact .ite (((keeps_updMb _ _ s).trans (keeps_postSlot _ _ _)).trans (ih _)) (.refl s)

theorem keeps_noteStatus (st : Half) (s : State) : Keeps s (noteStatus st s) := by
  unfold noteStatus
  exact .ite (keeps_updPair _ s) (.refl s)

theorem keeps_respondTo (src : CmdSrc) (seq tag : Half) (fl : BitVec 8) (op st : Half) (i : Bool) (p : List Byte) (s : State) :
    Keeps s (respondTo src seq tag fl op st i p s) := by
  have h (x : State) (l : List Nat) : Keeps x { x with pair := { x.pair with held := l } } := .of_same rfl rfl rfl rfl rfl rfl
  unfold respondTo
  refine (keeps_noteStatus st s).trans ?_
  cases src with
  | mailbox m =>
    exact .ite (keeps_postResponse _ _ _)
      ((keeps_updMb _ _ _).trans (.ite (keeps_updPair _ _) (keeps_postResponse _ _ _)))
  | forwarded r id => exact (h _ _).trans (keeps_emit _ _)
  | mirror r => exact .refl _

theorem keeps_respond (op : Half) (c : Cmd) (st : Half) (p : List Byte) (s : State) : Keeps s (respond op c st p s) :=
  keeps_respondTo _ _ _ _ _ _ _ _ s
theorem keeps_ok (op : Half) (c : Cmd) (p : List Byte) (s : State) : Keeps s (ok op c p s) := keeps_respond _ _ _ _ s
theorem keeps_fail (op : Half) (c : Cmd) (st : Half) (s : State) : Keeps s (fail op c st s) := keeps_respond _ _ _ _ s

theorem keeps_await (op : Half) (c : Cmd) (k : PendKind) (s : State) : Keeps s (await op c k s) :=
  .of_same rfl rfl rfl rfl rfl rfl

theorem keeps_startPending (op : Half) (c : Cmd) (k : PendKind) {f : State → State} (hf : ∀ s, Keeps s (f s)) (s : State) :
    Keeps s (startPending op c k f s) := by
  have h (x : State) (l : List Pending) : Keeps x { x with pend := l } := .of_same rfl rfl rfl rfl rfl rfl
  unfold startPending
  exact .ite ((h s _).trans (hf _)) (.ite (keeps_fail _ _ _ s)
    (((keeps_respondTo c.src c.seq c.tag c.flags op stPending true [] s).trans (h _ _)).trans (hf _)))

theorem keeps_finishOne (st : Half) (p : List Byte) (s : State) (x : Pending) : Keeps s (finishOne st p s x) :=
  keeps_respondTo _ _ _ _ _ _ _ _ s

theorem keeps_finish (k : PendKind) (st : Half) (p : List Byte) (s : State) : Keeps s (finish k st p s) := by
  have h (l : List Pending) : Keeps s { s with pend := l } := .of_same rfl rfl rfl rfl rfl rfl
  unfold finish
  exact (h _).trans (Keeps.foldl (fun s x => keeps_finishOne st p s x) _ _)

theorem keeps_feedSig (k : SigKey) (b : List Byte) (s : State) : Keeps s (feedSig k b s) := by
  unfold feedSig
  exact .ite (keeps_updPair _ s) (.refl s)

/-! ### The fault log -/

theorem keeps_faultEvent (cls : Fin 24) (i : Half) (s : State) : Keeps s (faultEvent cls i s) := by
  unfold faultEvent
  exact .ite ((keeps_updFlt _ s).trans (keeps_raise _ _ _ _)) (.refl s)

theorem keeps_logFault (cls : Fin 24) (loc : Nat) (i : FaultInfo) (s : State) : Keeps s (logFault cls loc i s) := by
  unfold logFault
  refine Keeps.trans (keeps_updFlt (fun f => { f with counts := upd f.counts cls satInc }) s) (.ite ?_ ?_)
  · split
    · exact keeps_updFlt _ _
    · exact .refl _
  · exact (keeps_updFlt _ _).trans (keeps_faultEvent _ _ _)

theorem keeps_setReaction (cls : Fin 24) (loc : Nat) (r : Byte) (s : State) : Keeps s (setReaction cls loc r s) := by
  unfold setReaction
  split
  · exact keeps_updFlt _ s
  · exact .refl s

/-! ### The persistent bank -/

theorem keeps_pbWrite (s : State) (w : Nat) (v : Word) : Keeps s (pbWrite s w v) := by
  refine ⟨fun h => ?_, rfl, rfl⟩
  simp only [canonical, Bool.and_eq_true] at h ⊢
  exact ⟨⟨⟨h.1.1.1, sparsePut_wf 0 _ _ _ h.1.1.2⟩, sparsePut_wf 0 _ _ _ h.1.2⟩, h.2⟩

theorem keeps_pbWriteAll (s : State) (w : Nat) (l : List Word) : Keeps s (pbWriteAll s w l) := by
  induction l generalizing s w with
  | nil => exact .refl s
  | cons v r ih => exact (keeps_pbWrite s w v).trans (ih _ _)

theorem keeps_storeSetting (n : Nat) (b : List Byte) (s : State) : Keeps s (storeSetting n b s) := keeps_pbWriteAll s _ _
theorem keeps_storeWord (n : Nat) (v : Word) (s : State) : Keeps s (storeWord n v s) := keeps_pbWrite s _ _

/-! ### Running a command -/

theorem keeps_forwardCmd (op : Half) (c : Cmd) (s : State) : Keeps s (forwardCmd op c s) :=
  ((keeps_updPair _ s).trans (keeps_emit _ _)).trans (keeps_await _ _ _ _)

theorem keeps_releaseDeferred (s : State) : Keeps s (releaseDeferred s) :=
  (keeps_updPair _ s).trans (Keeps.foldl (fun s (d : MbNo × Response) => keeps_postResponse d.1 d.2 s) _ _)

theorem keeps_forwardChange (sp : OpSpec) (c : Cmd) (s : State) : Keeps s (forwardChange sp c s) := by
  unfold forwardChange
  exact (keeps_updPair _ s).trans (Keeps.trans (.ite ((keeps_emit _ _).trans (keeps_updPair _ _)) (.refl _))
    (keeps_releaseDeferred _))

/-- A command keeps them where its own effect does. -/
theorem keeps_runCmd {sp : OpSpec} {body : Cmd → State → State} (hb : ∀ c s, Keeps s (body c s)) (c : Cmd) (s : State) :
    Keeps s (runCmd sp body c s) := by
  unfold runCmd
  refine .ite (keeps_forwardCmd _ _ s) ?_
  split
  · exact .ite ((keeps_raise _ _ _ s).trans (keeps_fail _ _ _ _)) (keeps_fail _ _ _ s)
  · exact .ite (keeps_fail _ _ _ s) (((keeps_updPair _ s).trans (hb c _)).trans (keeps_forwardChange _ _ _))

theorem keeps_onlyWhen {f : Cmd → State → State} (hf : ∀ c s, Keeps s (f c s)) (p : Cmd → Bool) (op : Half) (c : Cmd) (s : State) :
    Keeps s (onlyWhen p op f c s) := by
  unfold onlyWhen
  exact .ite (hf c s) (keeps_fail _ _ _ s)

end Sys2Proof.Machine
end

