-- ==== Sys2Proof/Tests/Slice0.lean ====
section
/-! SUPPORT. The model's own tests: the well-formedness checks refuse ill-formed terms, a few steps have the results the spec gives, and every statement's hypotheses are met by a concrete state. -/
namespace Sys2Proof.Tests

open Sys2Proof Sys2Proof.Machine

-- One test after the other: tests checked side by side would hold a stack each.
set_option Elab.async false

/-- A command of mailbox `m` with a target word and a payload. -/
def cmdOf (m : MbNo) (target : Word) (p : List Byte) : Cmd := ⟨.mailbox m, 7, 0x55, 0, false, target, p⟩
/-- A command of the owner with a target word and a payload. -/
def own (target : Word) (p : List Byte) : Cmd := cmdOf 2 target p
/-- A tunnel with plain settings and full credit, and messages from its host waiting in it. -/
def tunOf (h : HostNo) (tid : Byte) (cls : BitVec 3) (endpoint : Half) (ms : List (List Byte)) : Tunnel :=
  { host := h, tid := tid, cross := none, far := none, cls := cls, guarded := false, pinned := false, channel := 0, endpoint := endpoint
    maxPl := 4096, keepalive := 0, hubBuf := 16384, hostBuf := 16384, closing := false, standby := false, silent := false
    shHost := ⟨1000, 16384, 1000, 16384⟩, shHub := ⟨1000, 16384, 1000, 16384⟩, police := ⟨false, 0, 0⟩, cbHost := 0, ebHost := 0
    cbHub := 0, ebHub := 0, polBits := 0, txSeq := 0, rxSeq := 0, peerCredit := 256, granted := 256, freed := 0, release := 0
    owed := none, queue := [], held := [], msg := [], msgUnits := 0, msgTime := 0, inMsg := false, msgBroken := false
    inbox := ms.map (fun b => ⟨b, 1, 0, false⟩), stalled := false, lastState := 1
    counters := ⟨0, 0, 0, 0, 0, 0, 0, 0, 0⟩, snap := [] }
/-- A state with tunnels in place of its own. -/
def withTunnels (s : State) (ts : List Tunnel) : State := { s with tunnels := ts }

theorem witness_SystemReportsAnswer :
    accepted sysNopSpec (own 0 [1, 2]) State.reset = true ∧ accepted sysInfoSpec (cmdOf 0 0 []) State.reset = true ∧
    accepted sysTimeGetSpec (cmdOf 0 0 []) State.reset = true ∧ accepted sysEventMaskSpec (cmdOf 1 0 []) State.reset = true ∧
    ownMailbox State.reset (cmdOf 1 0 []) = some 1 ∧ accepted sysEventMaskSpec (own 0 (zeros 8)) State.reset = true := by
  decide

theorem witness_ResetsStartAndHold :
    accepted sysResetSpec (own 0 [0]) State.reset = true ∧ byteAt (own 0 [0]).payload 0 = 0 ∧
    accepted sysResetSpec (own 0 [1]) State.reset = true ∧ byteAt (own 0 [1]).payload 0 = 1 ∧
    State.reset.flt.safeStays = false ∧
    accepted sysResetSpec (own 0 [0]) { State.reset with flt := { State.reset.flt with safeStays := true } } = true ∧
    accepted sysResetSpec (own 0 [1]) { State.reset with flt := { State.reset.flt with safeStays := true } } = true ∧
    State.reset.clock.powered = true ∧ State.reset.clock.inReset = false ∧
    (holdReset State.reset).clock.inReset = true ∧ (holdReset State.reset).clock.powered = true ∧
    railMonitored State.reset .vddFab = true := by
  decide

theorem witness_BehaviourPinAndSlotReport :
    accepted sysBehaviourPinSpec (cmdOf 0 0 []) State.reset = true ∧
    accepted sysBehaviourPinSpec (own 0 [4, 1, 0, 0]) State.reset = true ∧
    isHost (cmdRequester State.reset (cmdOf 0 0 [4, 1, 0, 0])) = true ∧ byteAt [4, 1, 0, 0] 1 % 2 = 1 ∧
    State.reset.fw.running.lowest.toNat ≤ 4 ∧ 4 ≤ State.reset.fw.running.highest.toNat ∧ State.reset.pair.state = 0 ∧
    accepted sysBehaviourPinSpec (cmdOf 0 0 [0, 0, 0, 0]) State.reset = true ∧ pinLocked State.reset = false ∧
    accepted stageSpec (own 0 [3, 0, 0, 0]) State.reset = true ∧ State.reset.flt.failed.getLsbD 15 = false := by
  decide

/-- A hub on which an image of two bytes is being staged. -/
def stagingState : State :=
  { State.reset with fw := { State.reset.fw with staging := true, stageLen := 2, stageData := [] } }
/-- The same with a check in progress. -/
def checkingState : State := holdPending 0x0106 (own 0 [2, 0, 0, 0]) .fwCheck stagingState

theorem witness_FirmwareStaging :
    accepted stageSpec (own 0 ([0, 0, 0, 0] ++ leBytes 4 2)) State.reset = true ∧ mayPend State.reset (own 0 ([0, 0, 0, 0] ++ leBytes 4 2)) = true ∧
    waitsFor State.reset .fwActivate = false ∧ State.reset.activating = false ∧
    accepted stageSpec (own 0 ([1, 0, 0, 0] ++ leBytes 4 0 ++ zeros 8 ++ [0xAA, 0xBB])) stagingState = true ∧
    slotBusy stagingState = false ∧ slotBusy checkingState = true ∧ accepted stageSpec (own 0 [2, 0, 0, 0]) checkingState = true ∧
    waitsFor checkingState .fwActivate = false ∧ checkingState.flt.failed.getLsbD 15 = false ∧ checkingState.activating = false ∧
    accepted stageSpec (own 0 [2, 0, 0, 0]) stagingState = true ∧ mayPend stagingState (own 0 [2, 0, 0, 0]) = true ∧
    waitsFor stagingState .fwActivate = false ∧ stagingState.flt.failed.getLsbD 15 = false ∧
    karxoRuns State.reset = true ∧ karxoRuns checkingState = true ∧ waitsFor checkingState .fwCheck = true ∧
    checkingState.flt.isolated.getLsbD 15 = false := by
  decide
/-- What the length of an image decides of it: one of two bytes is never acceptable. -/
theorem witness_FirmwareStaging_fault :
    (imageFault checkingState false checkingState.fw.level.toNat (parseImage checkingState.fw.stageLen checkingState.fw.stageData)).isSome = true := by
  decide

/-- A hub with an image staged in its second slot. -/
def stagedState : State :=
  { State.reset with fw := { State.reset.fw with slots := #v[⟨3, some factoryImage⟩, ⟨2, some factoryImage⟩] } }
/-- The same with the activation taken. -/
def activateTaken : State := holdPending 0x0107 (own 0 []) .fwActivate stagedState
/-- The same with another command waiting. -/
def activateHeldUp : State := holdPending 0x0106 (own 0 [2, 0, 0, 0]) .fwCheck activateTaken
/-- The same with the activation running. -/
def activateRuns : State := { activateTaken with ready := false, activating := true }

theorem witness_FirmwareActivation :
    accepted activateSpec (own 0 []) stagedState = true ∧ stagedState.fw.slots[otherSlot stagedState].state = 2 ∧
    waitsFor stagedState .lcTransition = false ∧ waitsFor stagedState .handover = false ∧ mayPend stagedState (own 0 []) = true ∧
    karxoRuns activateTaken = true ∧ waitsFor activateTaken .fwActivate = true ∧ othersPend activateTaken = false ∧
    (activateHeldUp.pend.any (fun p => p.kind != .fwActivate && p.posted)) = true ∧ karxoRuns activateHeldUp = true ∧
    activateRuns.activating = true ∧ coreOn activateRuns = true ∧
    (activateRuns.fw.slots[otherSlot activateRuns].image).isSome = true := by
  decide

/-- A hub whose start has been confirmed, at PL0 in Noon. -/
def runningState : State := { State.reset with ready := true, perf := { State.reset.perf with change := none } }
/-- A hub on which a change of level has been started. -/
def changing (cause : PlCause) : State := { State.reset with perf := { State.reset.perf with change := some ⟨0, 2, cause⟩ } }
/-- A hub in Dusk at PL2. -/
def duskState : State := { State.reset with perf := { State.reset.perf with profile := .dusk, pl := 2, change := none } }

theorem witness_ProfilesAndLevels :
    accepted sysProfileSetSpec (own 0 []) State.reset = true ∧ accepted sysProfileSetSpec (own 0 [0, 0, 0, 0]) runningState = true ∧
    profileBusy runningState = false ∧ plBusy runningState = false ∧ profilePl .morning = runningState.perf.pl ∧
    accepted sysProfileSetSpec (own 0 [2, 0, 0, 0]) runningState = true ∧ profilePl .dusk ≠ runningState.perf.pl ∧
    hasConv runningState = true ∧ admitNow runningState (profilePl .dusk) = true ∧ mayPend runningState (own 0 [2, 0, 0, 0]) = true ∧
    profileBusy (changing .auto) = false ∧ plBusy (changing .auto) = true ∧
    accepted sysProfileSetSpec (own 0 [2, 0, 0, 0]) (changing .auto) = true ∧ mayPend (changing .auto) (own 0 [2, 0, 0, 0]) = true ∧
    coreOn (changing .restore) = true ∧ (changing (.profile .dusk)).perf.held = [] ∧ dataOn duskState = true ∧
    hasConv duskState = true ∧ karxoRuns duskState = true ∧ admitNow duskState 3 = true := by
  decide +kernel

/-- A running hub on which two transactions of each converter have been abandoned in a row. -/
def pmbusTwice : State := { runningState with perf := { runningState.perf with abandoned := Vector.replicate 3 2 } }
/-- The same with a change of level in progress. -/
def pmbusChanging : State := { changing .auto with perf := { (changing .auto).perf with abandoned := Vector.replicate 3 2 } }

theorem witness_PmbusConverterAbsent :
    State.reset.clock.powered = true ∧ State.reset.perf.abandoned[(0 : Fin 3)] < 2 ∧
    State.reset.perf.abandoned[(2 : Fin 3)] < 2 ∧ pmbusChanging.clock.powered = true ∧ hasConv pmbusChanging = true ∧
    coreOn pmbusChanging = true ∧ pmbusChanging.perf.change.isSome = true ∧ pmbusChanging.perf.abandoned[(0 : Fin 3)] = 2 ∧
    (1 : Up).val < uplinks pmbusTwice ∧ pmbusTwice.power.pd[(1 : Up)].convAbsent = false ∧ pmbusTwice.perf.abandoned[(2 : Fin 3)] = 2 ∧ pmbusTwice.clock.powered = true ∧
    pmbusTwice.perf.abandoned[(0 : Fin 3)] = 2 ∧ pmbusTwice.perf.abandoned[(1 : Fin 3)] = 2 ∧ hasConv pmbusTwice = true ∧
    coreOn pmbusTwice = true ∧ pmbusTwice.perf.change = none ∧ pmbusTwice.power.shell = true := by
  decide

theorem witness_IndexAndEventRegisterWrites :
    bridgeOff State.reset = false ∧ classify State.reset .owner true (0x1000 + 0x40 * 2) = .reaches ∧
    mailboxExists State.reset 2 = true ∧ piOk 0 0 8 8 = true ∧ piOk 0 0 9 8 = false ∧
    classify State.reset .owner true (0x100C + 0x40 * 2) = .reaches ∧ epDrains State.reset 2 = false ∧
    classify State.reset .hostA true 0x1014 = .reaches ∧ epDrains State.reset 0 = false ∧
    classify State.reset .owner true (0x101C + 0x40 * 2) = .reaches ∧
    classify State.reset .hostB true 0x2004 = .reaches ∧ bankOfRequester State.reset .hostB = some 1 ∧
    classify { State.reset with ident := { State.reset.ident with lc := .provisioned } } .owner true 0x2010 = .reaches ∧
    classify State.reset .owner true (0x3000 + 4 * 300) = .reaches ∧ (300 : Fin 1024) ≠ 256 := by
  decide +kernel

theorem witness_RegisterWritesReachOrAreRefused :
    bridgeOff (holdReset State.reset) = true ∧ bridgeOff State.reset = false ∧
    classify State.reset .owner true (0x20004 / 4 * 4) = .quiet ∧ classify State.reset .hostA true (0x40 / 4 * 4) = .refused ∧
    classify State.reset .owner true 0x40 = .reaches ∧ classify State.reset .hostA true (0x10FFC / 4 * 4) = .reaches ∧
    0x10FFC % 0x4000 < 0x1000 ∧ classify State.reset .hostA true (0x11000 / 4 * 4) = .reaches ∧ 0x1000 ≤ 0x11000 % 0x4000 ∧
    classify State.reset .owner true (0x44 / 4 * 4) = .reaches ∧ classify State.reset .owner true (0x5000 / 4 * 4) = .reaches ∧
    classify State.reset .owner true 0x4C0C = .reaches := by
  decide +kernel

/-- A hub with messages in tunnel 0 of host A. -/
def mgmtState (ms : List (List Byte)) : State := withTunnels State.reset [tunOf 0 0 0 0 ms]
/-- The same in Span, and with a completion of tunnel 0 held back. -/
def mgmtSpan (ms : List (List Byte)) : State :=
  withTunnels { State.reset with pair := { State.reset.pair with state := 2 } } [tunOf 0 0 0 0 ms]
def mgmtHeldBack : State := withTunnels State.reset [{ tunOf 0 0 0 0 [] with held := [(true, [0])] }]
/-- A READ_REQ and a WRITE_REQ of SCRATCH, a READ_REQ of the partner, one that is malformed, and a packet of another type. -/
def reqRead : List Byte := mgmtHeader 0 1 9 1 false 0x40
def reqWrite : List Byte := mgmtHeader 0 1 9 2 false 0x10000 ++ [1, 2, 3, 4]
def reqFar : List Byte := mgmtHeader 0 1 9 1 true 0x40
def reqBad : List Byte := mgmtHeader 0 1 9 1 false 0x41
def reqOther : List Byte := mgmtHeader 0 0 9 0x7F false 0

theorem witness_ManagementRequests :
    (takeMessage (hostOnUp (mgmtState [reqRead]) 0) 0 (mgmtState [reqRead])).isSome = true ∧ mgType reqRead = 1 ∧
    zeroHeld (mgmtState [reqRead]) 0 = false ∧
    bridgeOff (mgmtState [reqRead]) = false ∧ mgMalformed (mgmtState []) reqRead = false ∧ mgPartner reqRead = false ∧
    (takeMessage (hostOnUp (mgmtState [reqWrite]) 0) 0 (mgmtState [reqWrite])).isSome = true ∧ mgType reqWrite = 2 ∧
    mgMalformed (mgmtState []) reqWrite = false ∧ mgPartner reqWrite = false ∧
    (takeMessage (hostOnUp (mgmtState [reqOther]) 0) 0 (mgmtState [reqOther])).isSome = true ∧ mgType reqOther = 0x7F ∧
    mgMalformed (mgmtState []) reqBad = true ∧ mgType reqBad = 1 ∧
    (takeMessage (hostOnUp (mgmtState [reqBad]) 0) 0 (mgmtState [reqBad])).isSome = true ∧
    mgMalformed (mgmtSpan []) reqFar = false ∧ mgPartner reqFar = true ∧
    (takeMessage (hostOnUp (mgmtSpan [reqFar]) 0) 0 (mgmtSpan [reqFar])).isSome = true ∧ zeroHeld (mgmtSpan [reqFar]) 0 = false ∧
    zeroHeld mgmtHeldBack 0 = true ∧
    bridgeOff (holdReset (mgmtState [reqRead])) = true ∧ (State.reset.mb[(0 : MbNo)]).intOwed = false := by
  decide +kernel

/-- A hub in fall-back on uplink A with the management function configured, one response and one event entry waiting. -/
def fallbackState : State :=
  { State.reset with
    links := State.reset.links.set 0 { State.reset.links[0] with state := 7 }
    usb := { State.reset.usb with presented := true, mgmtConfig := true }
    mb := State.reset.mb.set 0 { State.reset.mb[0] with rspPi := 1, evtPi := 1 } }

theorem witness_WindowEndpoints :
    mgmtUp fallbackState = some 0 ∧ vendorOffset 0x40 0 4 = some 0x40 ∧ fallbackState.usb.mgmtConfig = true ∧
    bridgeOff fallbackState = false ∧ vendorOffset 2 0 4 = none ∧ epDrains fallbackState 0 = true ∧
    fallbackState.mb[(0 : MbNo)].rspPi ≠ fallbackState.mb[(0 : MbNo)].rspCi ∧
    fallbackState.mb[(0 : MbNo)].evtPi ≠ fallbackState.mb[(0 : MbNo)].evtCi ∧ mgmtUp State.reset = some 0 ∧
    State.reset.mb[(0 : MbNo)].evtPi = State.reset.mb[(0 : MbNo)].evtCi ∧ State.reset.mb[(0 : MbNo)].rspPi = State.reset.mb[(0 : MbNo)].rspCi ∧
    carveBytes fallbackState 1 ≠ 0 ∧ carveBytes fallbackState 2 ≠ 0 ∧ carveBytes fallbackState 3 ≠ 0 ∧
    carveBytes { fallbackState with usb := { fallbackState.usb with carve := zeros 16 } } 1 = 0 ∧
    (fallbackState.mb[(0 : MbNo)].cmdPi - fallbackState.mb[(0 : MbNo)].cmdCi).toNat < 8 ∧ 512 ≤ (zeros 512).length ∧
    8 ≤ ((8 : Half) - 0).toNat ∧ fallbackState.usb.presented = true := by
  decide +kernel

theorem witness_SpiProtocol : bridgeOff State.reset = false ∧ spiOffsetOk 0x3FFFC = true ∧ spiOffsetOk 0x40000 = false ∧
    classify { State.reset with spi := { State.reset.spi with buffer := [(0x40, 7)] } } .owner true 0x40 ≠ .refused ∧
    (0x9F : Byte) ≠ 0x05 ∧ (0x9F : Byte) ≠ 0x02 ∧ (0x9F : Byte) ≠ 0x0B := by
  decide

/-- A running hub whose owner has queued one command. -/
def queuedState : State := { runningState with mb := runningState.mb.set 2 { runningState.mb[2] with cmdPi := 1 } }
/-- A running hub in Span, and one that is Night of a Mirror pair. -/
def spanState : State := { runningState with pair := { runningState.pair with state := 2 } }
def nightState : State := { runningState with pair := { runningState.pair with state := 8 } }

theorem witness_KarxoTakesCommands :
    karxoRuns queuedState = true ∧ queuedState.ready = true ∧ nextServed queuedState = some 2 ∧ nextServed State.reset = none ∧
    dataOn spanState = true ∧ inSpan spanState = true ∧ spanState.pair.held.length < 16 ∧
    16 ≤ { spanState with pair := { spanState.pair with held := List.replicate 16 0 } }.pair.held.length ∧
    dataOn { spanState with pair := { spanState.pair with held := List.replicate 16 0 } } = true ∧
    dataOn nightState = true ∧ isNight nightState = true ∧ karxoRuns nightState = true ∧ nightState.ready = true ∧
    canStart { runningState with ready := false } = true := by
  decide +kernel

theorem witness_LinkReportsAndPolicies :
    accepted linkStatusSpec (own 0 []) State.reset = true ∧ linkOfCode (linkCode (own 0 [])) = some 0 ∧
    accepted linkEqSpec (own 0 []) State.reset = true ∧ accepted linkEqSpec (own 0x01000000 [1]) State.reset = true ∧
    linkCode (own 0x01000000 [1]) = 1 ∧ accepted linkSleepSpec (cmdOf 0 0 []) State.reset = true ∧
    accepted linkSleepSpec (own 0 ([7, 0] ++ leBytes 2 1000 ++ leBytes 2 10 ++ leBytes 2 60000)) State.reset = true ∧
    accepted linkSpareSpec (own 0 []) State.reset = true ∧ accepted linkSpareSpec (own 0 [1, 0, 0, 0]) State.reset = true ∧
    accepted linkCountersSpec (own 0 []) State.reset = true ∧ accepted linkCountersSpec (own 0 [1]) State.reset = true ∧
    accepted linkCountersSpec (own 0 ([2, 15, 0, 0] ++ leBytes 4 9 ++ leBytes 4 3600000)) State.reset = true := by
  decide +kernel

/-- A running hub whose link 0 has a given record. -/
def linkState (f : Link → Link) : State := { runningState with links := runningState.links.set 0 (f runningState.links[0]) }
/-- An Active link to a host that turns lanes, and the same with a turn in progress. -/
def activeLink (k : Link) : Link := { k with state := 6, cc := 1, qualified := true, cap := some ⟨true, 16, 0, 0, 4⟩ }
def turnIn (phase : TurnPhase) (toHub spare : Bool) : State :=
  linkState (fun k => { activeLink k with turn := some ⟨phase, 2, toHub, 1, 1, 9, spare⟩ })

theorem witness_LaneTurns :
    accepted linkAllotSpec (own 0 [0, 0, 0, 0]) (linkState activeLink) = true ∧ plBusy (linkState activeLink) = false ∧
    allotCheck (linkState activeLink) 0 0 = none ∧ pairsToTurn (linkState activeLink).links[linkOfUp 0] 0 = [] ∧
    allotCheck (linkState activeLink) 0 1 = none ∧ pairsToTurn (linkState activeLink).links[linkOfUp 0] 1 ≠ [] ∧
    mayPend (linkState activeLink) (own 0 [1, 0, 0, 0]) = true ∧ accepted linkAllotSpec (own 0 [1, 0, 0, 0]) (changing .auto) = true ∧
    plBusy (changing .auto) = true ∧ dataOn (turnIn .awaitAck true false) = true ∧
    turnBytes (turnIn .awaitAck true false).links[linkOfUp 0] ⟨.awaitAck, 2, true, 1, 1, 9, false⟩ = (some 0x61, 9) ∧
    turnEchoed (turnIn .awaitAck true false).links[linkOfUp 0] ⟨.awaitAck, 2, true, 1, 1, 9, false⟩ 0x61 9 = true ∧
    turnBytes { (turnIn .turning true true).links[linkOfUp 0] with crossed := true } ⟨.turning, 2, true, 1, 1, 0xFF, true⟩ = (none, 0xFF) ∧
    (turnIn .turning true false).links[linkOfUp 0].turn = some ⟨.turning, 2, true, 1, 1, 9, false⟩ := by
  decide +kernel

/-- A contract on both uplinks, and a link ready for Enter Mode. -/
def contracted (s : State) : State :=
  { s with power := { s.power with pd := s.power.pd.map (fun x => { x with contract := some ⟨1, 5000, 3000, false⟩ }) } }
def modeReady : State := { contracted (linkState (fun k => { k with cc := 1, qualified := true })) with ready := true }

theorem witness_XansaModeEntry :
    modeReady.power.shell = true ∧ modeReady.links[linkOfUp 0].cc ≠ 0 ∧ dataOn modeReady = true ∧ modeReady.pm.phase = .run ∧
    modeReady.ready = true ∧ ({ modeReady with ready := false } : State).links[linkOfUp 0].cc ≠ 0 ∧
    dataOn { modeReady with flt := { modeReady.flt with safe := some .refclk } } = false ∧
    modeReady.power.pd[(0 : Up)].contract.isSome = true ∧ offersXansa modeReady.links[linkOfUp 0] = true ∧
    modeReady.pm.setting[(0 : Island)] ≠ 1 ∧ modeReady.links[linkOfUp 0].state = 0 ∧
    (linkState activeLink).links[linkOfUp 0].state ≠ 0 ∧ (linkState activeLink).links[linkOfUp 0].cc ≠ 0 ∧
    runningState.power.pd[(0 : Up)].contract = none ∧ runningState.links[linkOfUp 0].state = 0 ∧
    (linkState (fun k => { k with exitWait := true })).links[linkOfUp 0].exitWait = true := by
  decide +kernel

/-- A link in a bring-up state. -/
def bringUpIn (st : Fin 10) : State := linkState (fun k => { k with state := st, phase := st, cc := 1, qualified := true })
/-- A CAP that an uplink accepts. -/
def goodCap : BitVec 64 := 0x000004387010104B

theorem witness_BringUpAndRetrain :
    dataOn (bringUpIn 1) = true ∧ bringingUp (bringUpIn 1).links[(0 : LinkNo)] = true ∧ stateMet 0 (bringUpIn 1).links[(0 : LinkNo)] 3 = true ∧
    stateMet 0 (bringUpIn 1).links[(0 : LinkNo)] 0 = false ∧ (bringUpIn 1).links[(0 : LinkNo)].reversed = false ∧
    (linkState (fun k => { k with retryWait := true })).links[(0 : LinkNo)].retryWait = true ∧
    bringingUp (bringUpIn 5).links[(0 : LinkNo)] = true ∧ blockByte goodCap 0 = 0x4B ∧ blockByte goodCap 1 = 0x10 ∧
    blockByte 0x104B 0 = 0x4B ∧ blockByte 0x104B 1 = 0x10 ∧ capAccepted (bringUpIn 5) 0 0x104B = false ∧
    accepted linkRetrainSpec (own 0 [0, 0, 0, 0]) (linkState activeLink) = true ∧ retrainBusy (linkState activeLink) 0 true = false ∧
    mayPend (linkState activeLink) (own 0 [0, 0, 0, 0]) = true ∧ accepted linkRetrainSpec (own 0 [1, 0, 0, 0]) (linkState activeLink) = true ∧
    retrainBusy (linkState activeLink) 0 false = false ∧ accepted linkRetrainSpec (own 0 [2, 0, 0, 0]) (linkState activeLink) = true ∧
    (linkState activeLink).links[linkOfUp 0].lost = 0 ∧
    accepted linkRetrainSpec (own 0 [2, 0, 0, 0]) (linkState (fun k => { activeLink k with lost := 4 })) = true ∧
    (linkState (fun k => { activeLink k with lost := 4 })).links[linkOfUp 0].lost ≠ 0 ∧
    (linkState (fun k => { activeLink k with state := 8 })).links[(0 : LinkNo)].state = 8 ∧ upOfLink 0 = some 0 := by
  decide +kernel
theorem witness_capAccepted : capAccepted (bringUpIn 5) 0 goodCap = true := by decide +kernel

theorem witness_ScramblerAndItsInverse : (63 : Nat) < 64 ∧ (58 : Nat) ≤ 58 ∧ (scramble 0 1).1 ≠ 1 ∧ (scramble 0 1).1.getLsbD 39 = true ∧ (scramble 0 1).1.getLsbD 58 = true := by decide

/-- A link with one frame in its retry buffer. -/
def retryLink : State := linkState (fun k => { activeLink k with retry := [⟨⟨5, false, 63, 1, [7]⟩, 0⟩] })
theorem witness_LinkFrames :
    dataOn (linkState activeLink) = true ∧ (1 : PairNo) ∈ receiveLanes 0 (linkState activeLink).links[(0 : LinkNo)] ∧
    (0 : PairNo) ∈ sendLanes 0 (linkState activeLink).links[(0 : LinkNo)] ∧ (linkState activeLink).links[(0 : LinkNo)].txSleep[(0 : PairNo)] = none ∧
    frameGood ⟨0x78, zeros 496, 0x87⟩ = false ∧ (zeros 496).length = 496 ∧ knownBlock 0x55 = false ∧ knownBlock 0x2D = true ∧ retryLink.links[(0 : LinkNo)].retry ≠ [] ∧ retryLink.links[(0 : LinkNo)].state = 6 ∧
    blockByte 0x0000FFFA0000052D 0 = 0x2D ∧
    (0x0000FFFA0000052D : BitVec 64).extractLsb' 32 16 = ~~~ ((0x0000FFFA0000052D : BitVec 64).extractLsb' 8 16) ∧
    (0x2D : BitVec 64).extractLsb' 32 16 ≠ ~~~ ((0x2D : BitVec 64).extractLsb' 8 16) ∧
    ({ retryLink with links := retryLink.links.set 0 { retryLink.links[0] with replayQ := [5] } }).links[(0 : LinkNo)].replayQ = [5] := by
  decide +kernel

/-- Active links with pair 3 lost, and lost and being retried. -/
def lostLane : State := linkState (fun k => { activeLink k with lost := 8 })
def retriedLane (r : BitVec 4) : State := linkState (fun k => { activeLink k with lost := 12, restoring := r })

theorem witness_LaneLossAndRestoration :
    dataOn lostLane = true ∧ lostLane.links[(0 : LinkNo)].state = 6 ∧ lostLane.links[(0 : LinkNo)].restoring.getLsbD 0 = false ∧
    (retriedLane 8).links[(0 : LinkNo)].restoring.getLsbD 3 = true ∧ lostLane.links[(0 : LinkNo)].lost.getLsbD 3 = true ∧
    lostLane.links[(0 : LinkNo)].noRestore.getLsbD 3 = false ∧ carries lostLane.links[(0 : LinkNo)] = true ∧
    (adaptFrom 0 3 (restoreLane 0 3 (retriedLane 12))).links[(0 : LinkNo)].restoring ≠ 0 ∧
    (adaptFrom 0 3 (restoreLane 0 3 (retriedLane 8))).links[(0 : LinkNo)].restoring = 0 ∧
    receiverInUse 0 (linkState activeLink).links[(0 : LinkNo)] 1 = true := by
  decide +kernel

/-- An Active link that permits every sleep state, and one in Deep. -/
def sleepyLink : State := linkState (fun k => { activeLink k with policy := ⟨7, 4, 50, 10⟩ })
def deepLink (waking : Bool) : State :=
  linkState (fun k => { activeLink k with
    state := 9, txSleep := Vector.replicate 4 (some .deep), rxSleep := Vector.replicate 4 (some .deep), waking := waking })

theorem witness_LaneSleepAndWake :
    dataOn sleepyLink = true ∧ maySleep sleepyLink 0 2 .doze = true ∧ sleepyLink.links[(0 : LinkNo)].txSleep[(2 : PairNo)] = none ∧
    sleepyLink.links[(0 : LinkNo)].state = 6 ∧ eiosTarget 2 = some .doze ∧ (1 : PairNo) ∈ receiveLanes 0 sleepyLink.links[(0 : LinkNo)] ∧
    sleepAllowed (sleepPermitted sleepyLink 0) .doze = true ∧ (0 : PairNo) ∈ sendLanes 0 sleepyLink.links[(0 : LinkNo)] ∧
    sleepyLink.links[(0 : LinkNo)].rxSleep[(1 : PairNo)] ≠ some .deep ∧ (deepLink false).links[linkOfUp 0].state = 9 ∧
    (deepLink false).links[linkOfUp 0].rxSleep[receivePrimary (linkOfUp 0) (deepLink false).links[linkOfUp 0]] = some .deep ∧ sleepAllowed (sleepPermitted (linkState activeLink) 0) .deep = false ∧
    (deepLink true).links[linkOfUp 0].waking = true ∧ dataOn (deepLink true) = true := by
  decide +kernel

/-- An Active link to host 0 at the Nominal level, with a TUN_OPEN of a storage tunnel, and with that tunnel in it. -/
def openCmd : Cmd := own 0x500 ([3, 0, 0, 0, 0, 0, 0, 4] ++ zeros 4 ++ leBytes 4 16384 ++ leBytes 4 16384 ++ zeros 32)
def openLink : State := linkState activeLink
def stTun : Tunnel := tunOf 0 5 3 0 []
def closingState : State := withTunnels openLink [{ stTun with closing := true }]

theorem witness_TunnelsOpenAndClose :
    accepted tunOpenSpec openCmd openLink = true ∧ upOfHost openLink (tgHost openCmd) = some 0 ∧ openFieldsOk openLink openCmd = true ∧
    opensFar openLink openCmd = false ∧ (openedTunnel openLink openCmd).cross = none ∧
    openingTunnel openLink { openedTunnel openLink openCmd with standby := isNight openLink } = false ∧
    farTunnel openLink (own 0x500 []) = none ∧ farTunnel (withTunnels openLink [stTun]) (own 0x500 []) = none ∧
    closingState.usb.requests.any (fun r => r.host == 0 && r.tid == 5) = false ∧ (tunOf 0 5 2 0 []).cross = none ∧
    plBusy openLink = false ∧ carries openLink.links[linkOfUp 0] = true ∧ findTunnel openLink (tgHost openCmd) (tgTid openCmd) = none ∧
    engineTested openLink (enginePorts openLink (openedTunnel openLink openCmd)) = false ∧
    poolUsed openLink 0 + (openedTunnel openLink openCmd).hubBuf ≤ 1572864 ∧
    engineOut openLink (enginePorts openLink (openedTunnel openLink openCmd)) = false ∧
    admitTunnel openLink (openLink.tunnels ++ [{ openedTunnel openLink openCmd with standby := isNight openLink }])
      { openedTunnel openLink openCmd with standby := isNight openLink } openLink.perf.pl = true ∧
    shaperAgrees (tunM (openedTunnel openLink openCmd)) (openedTunnel openLink openCmd).shHost = true ∧
    shaperAgrees (tunM (openedTunnel openLink openCmd)) (openedTunnel openLink openCmd).shHub = true ∧
    endpointCheck openLink { openedTunnel openLink openCmd with standby := isNight openLink } = none ∧
    accepted tunCloseSpec (own 0x500 []) openLink = true ∧ tgTid (own 0x500 []) ≠ 0 ∧
    accepted tunCloseSpec (own 0x500 []) (withTunnels openLink [stTun]) = true ∧
    findTunnel (withTunnels openLink [stTun]) 0 5 = some stTun ∧
    mayPend (withTunnels openLink [stTun]) (own 0x500 []) = true ∧ dataOn closingState = true ∧
    findTunnel closingState 0 5 = some { stTun with closing := true } ∧ stTun.held = [] ∧ bridgeHolds closingState 0 5 = false ∧
    bridgeHolds { closingState with pcie := { closingState.pcie with overflow := [{ port := 0, toHost := false, rid := 0, tag := 0, host := 0, tid := 5, locked := false, tlp := [] }] } } 0 5 = true ∧ stTun.cls ≠ 5 ∧ (tunOf 0 5 2 0 []).cls ≠ 3 := by
  decide +kernel

/-- A command of the owner on TID 5 of host 0, which carries an SPI endpoint. -/
def polTun : Tunnel := tunOf 0 5 4 0 []
def shapeCmd : Cmd := own 0x500 ([1, 0, 0, 0] ++ zeros 32)
def policeCmd : Cmd := own 0x500 ([1, 0, 0, 0] ++ leBytes 4 100 ++ leBytes 4 0x10000)
def classCmd : Cmd := own 0 ([3, 4, 0, 0] ++ leBytes 4 100 ++ leBytes 4 0x10000)
def polSet : Policer := ⟨true, 100, 0x10000⟩

theorem witness_ShapingAndReports :
    accepted tunShapeSpec shapeCmd (withTunnels openLink [stTun]) = true ∧ upOfHost openLink 0 = some 0 ∧ tgTid shapeCmd = 5 ∧ stTun.cls ≠ 1 ∧
    shaperInRange (shaperAt shapeCmd.payload 4) = true ∧ plBusy (withTunnels openLink [stTun]) = false ∧
    admitShape (withTunnels openLink [stTun]) 0 stTun { stTun with shHost := shaperAt shapeCmd.payload 4 } openLink.perf.pl = true ∧
    groupBusy openLink (.shape 0 5 (some (shaperAt shapeCmd.payload 4)) none) = false ∧
    accepted tunPoliceSpec policeCmd (withTunnels openLink [polTun]) = true ∧ creditClass polTun.cls = false ∧
    rateOk polSet.rate = true ∧ burstOk polSet.burst = true ∧
    findTunnel (withTunnels openLink [polTun]) 0 5 = some polTun ∧
    admitPolice (withTunnels openLink [polTun]) 0 polTun { polTun with police := polSet } openLink.perf.pl = true ∧
    groupBusy openLink (.police 0 5 polSet) = false ∧ accepted classSetSpec classCmd openLink = true ∧
    groupBusy openLink (.cls 0 false 3 4 100 0x10000) = false ∧ accepted classSetSpec (own 0 [3]) openLink = true ∧
    dataOn openLink = true ∧ tunM polTun ≤ polSet.burst.toNat ∧ (1 : Word) ≠ 0 ∧ (1 : Word).toNat < tunM polTun ∧
    accepted tunQuerySpec (own 0x500 []) (withTunnels openLink [polTun]) = true ∧
    accepted tunQuerySpec (own 0x500 [1]) (withTunnels openLink [polTun]) = true ∧ findTunnel openLink 0 6 = none := by
  decide +kernel

/-- An Active link with tunnels and a received packet, and a sampling session. -/
def rxState (p : RxPacket) : State :=
  { withTunnels openLink [stTun] with links := openLink.links.set 0 { openLink.links[0] with rxPackets := [p] } }
def waitingTun : Tunnel := { stTun with keepalive := 10, release := 3, peerCredit := 0, queue := [⟨true, [1], 0⟩] }
def sampleState (running : Bool) (b0 : Fin 3) : State :=
  { openLink with sampling := { openLink.sampling with running := running, mailbox := 2, buf0 := b0, cur := false } }
def sampleCmd : Cmd := own 0 ([0, 0, 1, 0, 1, 0, 0, 0] ++ leBytes 4 5)

theorem witness_PacketsTimersAndSampling :
    dataOn (rxState ⟨0, [], true, true, true⟩) = true ∧ (rxState ⟨0, [], true, true, true⟩).links[linkOfUp 0].rxPackets = [⟨0, [], true, true, true⟩] ∧
    tpTid (0 : Dword).toNat = 0 ∧ dataOn (rxState ⟨0x305, [], true, true, false⟩) = true ∧ tpTid (0x305 : Dword).toNat ≠ 0 ∧
    (rxState ⟨0x305, [], true, true, false⟩).links[linkOfUp 0].rxPackets = [⟨0x305, [], true, true, false⟩] ∧ findTunnel (withTunnels openLink [stTun]) (hostOnUp openLink 0) (tpTid (0x305 : Dword).toNat) = some stTun ∧
    accepts (withTunnels openLink [stTun]) stTun = true ∧ stTun.cls = tpClass (0x305 : Dword).toNat ∧ openLink.links[linkOfUp 0].state = 6 ∧
    findTunnel (withTunnels openLink [waitingTun]) (hostOnUp openLink 0) 5 = some waitingTun ∧ 0 < waitingTun.release ∧ waitingTun.keepalive ≠ 0 ∧
    peerOk waitingTun ⟨true, [1], 0⟩ = false ∧ waitingTun.stalled = false ∧ accepted schedSampleSpec sampleCmd openLink = true ∧
    smStart sampleCmd = true ∧ smSelectors sampleCmd = [5] ∧ fieldAt sampleCmd.payload 2 2 = 1 ∧ openLink.variant = .qt9840 ∧
    (upOfHost openLink (selHost 5)).isSome = true ∧ openLink.sampling.running = false ∧
    accepted schedSampleSpec (own 0 [1]) (sampleState true 1) = true ∧ bufState (sampleState true 1).sampling false = 1 ∧
    accepted schedSampleSpec (own 0 [2, 0]) (sampleState false 2) = true ∧ bufState (sampleState false 2).sampling ((0 : Byte) == 1) = 2 := by
  decide +kernel

/-- The display's outputs as `f` makes output 0. -/
def outState0 (f : Output → Output) : State :=
  { runningState with disp := { runningState.disp with outs := runningState.disp.outs.set 0 (f runningState.disp.outs[0]) } }
def changingOut (p : ModePhase) : State := outState0 (fun x => { x with change := some ⟨4, false, p⟩ })
def sendingOut : State := outState0 (fun x => { x with
  mode := 4, checks := x.checks.set 1 { x.checks[1] with force := ⟨0x80000000, 0, 0x00040004, 0, 0⟩ } })
def heldOut : State := outState0 (fun x => { x with mode := 4, hold := true, holdTimer := true, policy := ⟨1, false, false, 5⟩ })

theorem witness_OutputTiming :
    accepted dispModeSetSpec (own 0 (zeros 4)) runningState = true ∧ modeArgsOk (own 0 (zeros 4)) = true ∧
    othersLayer runningState 0 .owner = false ∧ runningState.disp.outs[(0 : OutNo)].change = none ∧ modeRefused runningState 0 0 = false ∧
    runningState.disp.outs[(0 : OutNo)].mode = 0 ∧ accepted dispModeSetSpec (own 0 [4, 8, 0, 0]) runningState = true ∧
    modeArgsOk (own 0 [4, 8, 0, 0]) = true ∧ modeRefused runningState 0 4 = false ∧ plBusy runningState = false ∧
    admitMode runningState 0 4 false runningState.perf.pl = true ∧ mayPend runningState (own 0 [4, 8, 0, 0]) = true ∧
    (changingOut .awaitPll).disp.outs[(0 : OutNo)].change = some ⟨4, false, .awaitPll⟩ ∧ dataOn (changingOut .awaitPll) = true ∧
    timing sendingOut.disp.outs[(0 : OutNo)] = true ∧ consumed sendingOut 0 = false ∧ dataOn sendingOut = true ∧
    outPresent runningState 0 = true ∧ (outState0 (fun x => { x with link := 1 })).disp.outs[(0 : OutNo)].link = 1 ∧
    isNight (outState0 (fun x => { x with link := 1 })) = false ∧ isNight nightState = true ∧ dataOn nightState = true ∧
    ckW sendingOut.disp.outs[(0 : OutNo)].checks[(1 : Fin 8)].force ≠ 0 ∧ ckH sendingOut.disp.outs[(0 : OutNo)].checks[(1 : Fin 8)].force ≠ 0 ∧
    ckEnable sendingOut.disp.outs[(0 : OutNo)].checks[(1 : Fin 8)].force = true ∧ sendingOut.flt.isolated.getLsbD (composePort 0) = false ∧
    heldOut.disp.outs[(0 : OutNo)].hold = true ∧ heldOut.disp.outs[(0 : OutNo)].holdTimer = true ∧
    outOff heldOut.disp.outs[(0 : OutNo)] = false ∧ sendingOut.flt.isolated.getLsbD 13 = false ∧
    comparedRegion sendingOut sendingOut.disp.outs[(0 : OutNo)].checks[(1 : Fin 8)].force = true := by
  decide +kernel

/-- Host 0 runs the display at release level 3, with a region of its own that may be orphaned or leased. -/
def regOf (orphan : Bool) : Region :=
  { handle := 9, width := 64, height := 64, format := 0, offset := 1, units := 1, owner := 0, orphan := orphan, leaving := false }
def regState (orphan shown : Bool) : State :=
  { openLink with
    fw := { openLink.fw with level := 3 }
    disp := { openLink.disp with
      regions := [regOf orphan], quotas := Vector.replicate 4 64
      outs := openLink.disp.outs.set 0 { openLink.disp.outs[0] with
        layers := openLink.disp.outs[0].layers.set 0
          ⟨⟨0, 0, 0, 0⟩, if shown then ⟨9, 0, 0x00400040, 0⟩ else ⟨0, 0, 0, 0⟩, if shown then 0 else 7, shown && orphan⟩ } } }
def byHost (target : Word) (p : List Byte) : Cmd := cmdOf 0 target p

theorem witness_RegionsLayersAndChecks :
    accepted dispRegionAllocSpec (byHost 0 (zeros 8)) (regState false false) = true ∧
    accepted dispRegionAllocSpec (byHost 0 [0, 0, 0, 0, 8, 0, 8, 0]) (regState false false) = true ∧ unitsFor 8 8 = 1 ∧
    findSpace (regState false false) 1 = some 2 ∧ cmdHost (regState false false) (byHost 0 []) = 0 ∧ quotaUsed (regState false false) 0 + 2 ≤ 64 ∧
    accepted dispRegionAllocSpec (byHost 0 [1, 0, 0, 0, 9, 0, 0, 0]) (regState true true) = true ∧
    linkBack (regState true false) 0 = true ∧ linkBack { regState true false with links := Vector.replicate 3 { activeLink (regState true false).links[0] with state := 7 } } 0 = false ∧
    findRegion (regState true true) 9 = some (regOf true) ∧ adoptable (regState true false) 9 = true ∧
    accepted dispRegionAllocSpec (byHost 0 [1, 0, 0, 0, 9, 0, 0, 0]) (regState true false) = true ∧
    accepted dispRegionAllocSpec (own 0 [2, 3, 0, 0, 9, 0, 0, 0]) (regState false false) = true ∧
    accepted dispRegionReleaseSpec (byHost 0 [9, 0, 0, 0]) (regState false false) = true ∧ findRegion (regState false false) 9 = some (regOf false) ∧
    leased (regState false false) 9 = false ∧ accepted dispRegionReleaseSpec (byHost 0 [9, 0, 0, 0]) (regState false true) = true ∧
    leased (regState false true) 9 = true ∧ (regState false true).fw.level.toNat = 3 ∧
    accepted dispLayerBindSpec (byHost 0 (zeros 20)) (regState false false) = true ∧ bindArgsOk (regState false false) (byHost 0 (zeros 20)) = true ∧
    accepted dispLayerBindSpec (byHost 0 (0 :: 1 :: zeros 18)) (regState false false) = true ∧
    accepted dispLayerBindSpec (own 0 (0 :: 2 :: zeros 18)) (regState false false) = true ∧
    pendingFull (regState false false) (byHost 0 (zeros 20)) = false ∧
    mayPend (requestCommit 0 1 none true (regState false false)) (byHost 0 []) = true ∧
    accepted dispCrcRegionSpec (own 0 (zeros 24)) (regState false false) = true ∧ crcArgsOk (regState false false) (own 0 (zeros 24)) = true ∧
    accepted dispCrcRegionSpec (own 0 (0 :: 1 :: zeros 22)) (regState false false) = true ∧
    accepted dispCrcRegionSpec (own 0 (0 :: 2 :: zeros 22)) (regState false false) = true ∧
    accepted dispCrcRegionSpec (own 0 (0 :: 3 :: zeros 22)) (regState false false) = true ∧ hostOfCode 0 = some 0 := by
  decide +kernel

/-- A sink on output 0, and a class 1 tunnel of host 0 with a message in it. -/
def sinkState : State := outState0 (fun x => { x with sink := true, edid := zeros 128 })
def msgState (b : List Byte) : State := withTunnels openLink [tunOf 0 3 1 0 [b]]
def afterMsg (b : List Byte) : Option (Message × State) := takeMessage 0 3 (msgState b)
/-- A whole hold-screen tile of codec 1 (one colour). -/
def holdTileBytes : List Byte := [1, 1] ++ zeros 6 ++ [4, 0, 0, 0] ++ zeros 4 ++ zeros 4

/-- The DRAM map gives the hold image's entry to no purpose. -/
def noHoldImage : State := { runningState with worlds := { runningState.worlds with
  region := runningState.worlds.region.set 4 { runningState.worlds.region[(4 : Fin 128)] with purpose := 0 } } }

theorem witness_HoldStatusAndMessages :
    accepted dispHoldPolicySpec (own 0 (zeros 8)) runningState = true ∧ accepted dispOutputStatusSpec (own 0 []) runningState = true ∧
    accepted dispOutputStatusSpec (own 0 [1, 0]) sinkState = true ∧ sinkState.disp.outs[(0 : OutNo)].edid.length = 128 ∧
    statusIsEdid (own 0 [1, 0]) = true ∧ accepted dispOutputStatusSpec (own 0 [2]) runningState = true ∧ statusIsClear (own 0 [2]) = true ∧
    accepted dispHoldScreenSpec (own 0 (zeros 8 ++ [32, 0, 0, 0, 1])) runningState = true ∧
    accepted dispHoldScreenSpec (own 0 (zeros 8 ++ [20, 0, 0, 0] ++ holdTileBytes)) runningState = true ∧
    (holdTile holdTileBytes runningState.disp.mem).isSome = true ∧ holdAdmits noHoldImage = false ∧
    accepted dispHoldScreenSpec (own 1 (1 :: zeros 15)) runningState = true ∧ targetLow 2 (own 1 (1 :: zeros 15)) = true ∧
    accepted dispHoldScreenSpec (own 3 [2, 0, 0, 0]) runningState = true ∧ accepted dispHoldScreenSpec (own 3 [3, 0, 0, 0]) runningState = true ∧
    targetLow 4 (own 3 [2, 0, 0, 0]) = true ∧ dataOn (msgState [1]) = true ∧
    (tileHead (msgState [1]) 0 3).map (fun m => (m.bytes, isFlip m)) = some ([1], false) ∧ (afterMsg [1]).map (fun p => p.1.bytes) = some [1] ∧
    (tileHead (msgState [9]) 0 3).map (fun m => (m.bytes, isFlip m)) = some ([9], false) ∧
    (tileHead (msgState [2]) 0 3).map (fun m => (m.bytes, isFlip m)) = some ([2], true) := by
  decide +kernel

/-- Port 0 of the bridge with a power controller, assigned to a host. -/
def portState (h : Option HostNo) (st : Fin 9) (ph : PortPhase) : State :=
  { withTunnels openLink [stTun] with
    pcie := { openLink.pcie with ports := openLink.pcie.ports.set 0 { openLink.pcie.ports[0] with
      assigned := h, flags := 0x1E, state := st, phase := ph, present := true, powerGood := true, pwren := true } } }

theorem witness_PcieCommands :
    accepted pciePortCfgSpec (own 0 []) runningState = true ∧ noPort runningState (own 0 []) = false ∧
    accepted pciePortCfgSpec (own 0 [0, 0, 4, 0, 0, 0, 0, 0]) (portState (some 0) 0 .idle) = true ∧ portArgsOk (own 0 [0, 0, 4, 0, 0, 0, 0, 0]) = true ∧
    waitsFor (portState (some 0) 0 .idle) (.pciePort 0) = false ∧ cfgUplink (own 0 [0, 0, 4, 0, 0, 0, 0, 0]) = some 0 ∧
    (([0, 1, 2, 3] : List HostNo).all (fun h => !((portState (some 0) 0 .idle).pcie.ports[(0 : PciePort)].assigned == some h) ||
      admitStorage (updPort 0 (fun x => { x with assigned := some 0, maxRate := 4 }) (portState (some 0) 0 .idle)) (portState (some 0) 0 .idle).tunnels h) = true) ∧
    accepted pciePortCfgSpec (own 0 [0, 0, 4, 0, 0, 0, 0, 0]) (portState none 0 .idle) = true ∧ mayPend (portState none 0 .idle) (own 0 [0]) = true ∧
    ([0, 1, 2, 3] : List HostNo).all (fun h => !((portState none 0 .idle).pcie.ports[(0 : PciePort)].assigned == some h || some (0 : HostNo) == some h) ||
      admitStorage (updPort 0 (fun x => { x with assigned := some 0, maxRate := 4 }) (portState none 0 .idle)) (portState none 0 .idle).tunnels h) = true ∧
    (portState none 0 .idle).pcie.ports[(0 : PciePort)].assigned = none ∧ (portState (some 0) 0 .idle).pcie.ports[(0 : PciePort)].assigned = some 0 ∧
    accepted pciePortCfgSpec (own 0 [1, 0, 0, 0, 1, 0, 0, 0]) runningState = true ∧
    accepted pciePortCfgSpec (own 0 [0, 0xFF, 4, 0, 0, 0, 0, 0]) (portState (some 0) 0 .idle) = true ∧
    cfgUplink (own 0 [0, 0xFF, 4, 0, 0, 0, 0, 0]) = none ∧ portArgsOk (own 0 [0, 0xFF, 4, 0, 0, 0, 0, 0]) = true ∧
    ([0, 1, 2, 3] : List HostNo).all (fun h => !((portState (some 0) 0 .idle).pcie.ports[(0 : PciePort)].assigned == some h) ||
      admitStorage (updPort 0 (fun x => { x with assigned := none, maxRate := 4 }) (portState (some 0) 0 .idle)) (portState (some 0) 0 .idle).tunnels h) = true ∧ accepted pcieWindowSetSpec (own 0 []) runningState = true ∧
    pciePresent runningState (windowPort 0) = true ∧ accepted pcieWindowSetSpec (own 0 [1, 2, 0, 0]) runningState = true ∧
    windowArgsOk [1, 2, 0, 0] = true ∧ permO (cmdRequester runningState (own 0 [1, 2, 0, 0])) = true ∧
    accepted pcieErrlogReadSpec (own 0 [0, 0, 0, 4]) runningState = true ∧ accepted pcieErrlogReadSpec (own 0 [2, 1, 31, 15]) runningState = true ∧
    (∀ k ∈ ([0, 1, 2, 3, 4] : List Byte), accepted pcieHotplugSpec (own 0 [k, 0, 0, 0]) (portState (some 0) 3 .idle) = true) ∧
    (portState (some 0) 3 .idle).pcie.ports[(0 : PciePort)].flags.getLsbD 2 = true ∧ waitsFor (portState (some 0) 3 .idle) (.pciePort 0) = false ∧
    accepted pcieLockStatusSpec (own 0 []) runningState = true ∧ lockReports (own 0 []) = true ∧
    accepted pcieLockStatusSpec (own 0 [1]) runningState = true ∧ lockForces (own 0 [1]) = true := by
  decide +kernel

/-- A storage tunnel of host 0 with a configuration read in it, and states of the bridge's port 0. -/
def cfgReadTlp : List Byte := [0x04, 0, 0, 1, 0, 0, 7, 0x0F, 0, 0, 0, 0]
def tlpState : State := withTunnels openLink [tunOf 0 5 3 0 [cfgReadTlp]]
def brokenTlp : State := withTunnels openLink [{ tunOf 0 5 3 0 [] with inbox := [⟨[1], 1, 0, true⟩] }]
def npOf : NpRequest := ⟨0, false, 1, 2, 0, 5, false, [0]⟩
def trackedState : State := { openLink with pcie := { openLink.pcie with
  tracked := [npOf], lock := { openLink.pcie.lock with waiting := [npOf] } } }
def nvmeState : State := { portState (some 0) 1 .shutdown with pcie := { (portState (some 0) 1 .shutdown).pcie with
  ports := (portState (some 0) 1 .shutdown).pcie.ports.set 0 { (portState (some 0) 1 .shutdown).pcie.ports[0] with karxo := true } } }

theorem witness_PcieTraffic :
    dataOn tlpState = true ∧ (findTunnel tlpState 0 5).map (fun v => (v.cls, v.cross)) = some (3, none) ∧
    (takeMessage 0 5 tlpState).map (fun p => p.1.broken) = some false ∧ (takeMessage 0 5 brokenTlp).map (fun p => p.1.broken) = some true ∧
    tlpWellFormed cfgReadTlp = true ∧ tlpHasData cfgReadTlp = false ∧ tlpKind cfgReadTlp = .cfgRead0 ∧ tlpDev cfgReadTlp = 0 ∧ tlpFn cfgReadTlp = 0 ∧
    dataOn trackedState = true ∧
    trackedState.pcie.tracked.find? (fun q => q.port == 0 && q.toHost == false && q.rid == 1 && q.tag == 2) = some npOf ∧
    trackedState.pcie.lock.waiting = [npOf] ∧ dataOn (portState (some 0) 1 .reset) = true ∧ pciePresent (portState (some 0) 1 .reset) 0 = true ∧
    (portState (some 0) 1 .reset).pcie.ports[(0 : PciePort)].flags.getLsbD 1 = true ∧
    (portState (some 0) 1 .reset).pcie.ports[(0 : PciePort)].flags.getLsbD 2 = true ∧
    (portState (some 0) 1 .reset).pcie.ports[(0 : PciePort)].pwren = true ∧ mayTrain (portState (some 0) 1 .reset) 0 = true ∧
    mayTrain (updPort 0 (fun x => { x with powerGood := true }) (portState (some 0) 1 .reset)) 0 = true ∧
    (portState (some 0) 2 .idle).pcie.ports[(0 : PciePort)].state = 2 ∧ (portState (some 0) 3 .idle).pcie.ports[(0 : PciePort)].state = 3 ∧
    nvmeState.pcie.ports[(0 : PciePort)].karxo = true ∧ nvmeState.pcie.ports[(0 : PciePort)].phase = .shutdown ∧
    portWanted (updPort 0 (fun x => { x with karxo := false, phase := .idle, namespaces := 0 }) nvmeState) 0 = true ∧
    (portState (some 0) 2 .idle).pcie.ports[(0 : PciePort)].karxo = false ∧
    portWanted (updPort 0 (fun x => { x with karxo := false, phase := .idle, namespaces := 0 }) { nvmeState with tunnels := [] }) 0 = false := by
  decide +kernel

theorem witness_UsbCommands :
    accepted usbPortCfgSpec (own 0 []) openLink = true ∧ accepted usbPortCfgSpec (own 0 (zeros 8)) openLink = true ∧
    (upOfHost openLink 0).isSome = true ∧
    ownerFor (storeUsb (updUsb (fun v => { v with named := 0, policy := 0 }) (fresh openLink))) = openLink.usb.owner ∧
    accepted usbPortCfgSpec (own 0 (1 :: zeros 7)) openLink = true ∧ (upOfHost openLink 1).isSome = true ∧
    ownerFor (storeUsb (updUsb (fun v => { v with named := 1, policy := 0 }) (fresh openLink))) ≠ openLink.usb.owner ∧
    mayPend openLink (own 0 (1 :: zeros 7)) = true ∧
    accepted usbPortCfgSpec (own 1 (zeros 8)) openLink = true ∧
    admitUsb (updUsbPort 1 (fun x => { x with flags := 0 }) openLink) openLink.tunnels openLink.usb.owner = true ∧
    accepted usbPortCfgSpec (own 1 (1 :: zeros 7)) openLink = true ∧ usbTargetOk openLink (own 1 []) = true ∧
    upEnabled openLink.usb.ports[(1 : Fin 8)] = true ∧ accepted usbEpCarveSpec (own 1 []) openLink = true ∧
    accepted usbEpCarveSpec (own 1 (1 :: zeros 15)) openLink = true ∧ carveOk (1 :: zeros 15) = true ∧
    accepted usbPortStatusSpec (own 1 []) openLink = true ∧ accepted usbPortStatusSpec (own 1 [1]) openLink = true ∧
    accepted usbChargeCfgSpec (own 1 []) openLink = true ∧ accepted usbChargeCfgSpec (own 1 [2, 0, 0, 0]) openLink = true := by
  decide +kernel

/-- The hub of host 0 presented over XansaLink or in fall-back, with a port's 2.0 half and a request as given. -/
def usbState (fallback : Bool) (half : UsbHalf) (f : UsbPort → UsbPort) (rs : List UsbRequest) : State :=
  let b := if fallback then fallbackState else openLink
  { withTunnels b [tunOf 0 4 5 0 [[9]]] with
    usb := { b.usb with
      presented := true, owner := 0, carve := List.replicate 16 1
      halves2 := b.usb.halves2.set 1 half, ports := b.usb.ports.set 1 (f b.usb.ports[1]), requests := rs } }
def plainUsb : State := usbState false ⟨0x0103, 0, 0⟩ id []
def wakeUsb : State := usbState false ⟨0x0107, 0, 0⟩ id []
def fallUsb : State := usbState true ⟨0x0103, 0, 0⟩ id []
def usbReq (ph : UsbPhase) (tgt : Option Nat) : UsbRequest :=
  { host := 0, tid := 4, hdr := [1, 0, 7, 0, 1, 1, 0x81, 2] ++ zeros 4 ++ [8, 0, 0, 0], data := [], phase := ph, target := tgt, load := 0 }
def reqUsb (ph : UsbPhase) (tgt : Option Nat) : State := usbState false ⟨0x0103, 0, 0⟩ (fun p => { p with swap := some 1, typeC := true }) [usbReq ph tgt]
def nvmeUsb : State :=
  { fallUsb with pcie := { fallUsb.pcie with
    ports := fallUsb.pcie.ports.set 0 { fallUsb.pcie.ports[0] with assigned := some 0, karxo := true, state := 3, phase := .idle } } }
def noCarve : State := updUsb (fun u => { u with carve := zeros 16 }) fallUsb
def noLoopIn : State := updUsb (fun u => { u with carve := u.carve.set 13 0 }) fallUsb
def timeUsb : State := withTunnels openLink [tunOf 0 4 2 0 []]
/-- An isochronous request whose microframe is 5. -/
def isoReq : UsbRequest := { usbReq .scheduled (some 5) with hdr := [1, 0, 7, 0, 1, 1, 0x81, 1] ++ zeros 4 ++ [8, 0, 0, 0] ++ zeros 8 }
def isoUsb : State := usbState false ⟨0x0103, 0, 0⟩ id [isoReq]

theorem witness_UsbTraffic :
    dataOn plainUsb = true ∧ (findTunnel plainUsb 0 4).map (fun v => (isUsbTunnel v, v.cross, v.inbox.length)) = some (true, none, 1) ∧
    (takeMessage 0 4 plainUsb).map (fun p => (p.1.bytes, p.1.broken, p.2.flt.isolated.getLsbD 8)) = some ([9], false, false) ∧
    findRequest (reqUsb .onBus none) 0 (7 : Half).toNat = some (usbReq .onBus none) ∧ umType (usbReq .onBus none).hdr = 2 ∧
    umIn (usbReq .onBus none).hdr = true ∧ dataOn openLink = true ∧ openLink.usb.presented = false ∧
    plainUsb.usb.presented = true ∧ ownerOnXansa plainUsb = true ∧ ownerOnXansa fallUsb = false ∧ isNight plainUsb = false ∧
    (usbTunnel timeUsb 2).isSome = true ∧ isInternal (reqUsb .resuming (some 5)) (usbReq .resuming (some 5)) = false ∧
    isHead (reqUsb .scheduled (some 5)) (usbReq .scheduled (some 5)) = true ∧ ttRoom (reqUsb .scheduled (some 5)) (usbReq .scheduled (some 5)) = true ∧
    umType isoReq.hdr = 1 ∧ isInternal isoUsb isoReq = false ∧ isoUsb.usb.requests = [isoReq] ∧ isoReq.target = some 5 := by
  decide +kernel

theorem witness_UsbTraffic_ports :
    usbPortOf plainUsb false 1 = true ∧
    stPowered false (usbHalf plainUsb false 1) = true ∧ upEnabled plainUsb.usb.ports[(1 : Fin 8)] = true ∧ plainUsb.flt.isolated.getLsbD 8 = false ∧
    stEnabled (usbHalf wakeUsb false 1) = true ∧ halfAsleep wakeUsb false 1 = true ∧ wakeUsb.usb.ports[(1 : Fin 8)].wake = false ∧
    dataOn fallUsb = true ∧ ownerFallback fallUsb = true ∧ fallUsb.usb.presented = true ∧ plainUsb.usb.requests = [] ∧
    (reqUsb .resuming (some 5)).usb.requests = [usbReq .resuming (some 5)] ∧ umPort (usbReq .resuming (some 5)).hdr = 1 ∧
    halfAsleep (reqUsb .resuming (some 5)) false 1 = false ∧ umSs (usbReq .resuming (some 5)).hdr = false ∧ usbExternal plainUsb 1 = true ∧ (reqUsb .resuming none).usb.ports[(1 : Fin 8)].swap = some 1 ∧
    usbPortOf (reqUsb .resuming none) true 1 = true ∧ (reqUsb .resuming none).usb.ports[(1 : Fin 8)].attached = false ∧
    (usbState false ⟨0, 0, 0⟩ (fun p => { p with attached := true }) []).usb.ports[(1 : Fin 8)].attached = true ∧
    carveBytes fallUsb (storageEp fallUsb 0).1 ≠ 0 ∧ (storageReplyEps fallUsb 0).all (fun i => carveBytes fallUsb i != 0) = true ∧
    karxoHolds nvmeUsb 0 = true ∧ carveBytes noCarve (storageEp noCarve 0).1 = 0 ∧ carveBytes fallUsb 12 ≠ 0 ∧
    requestFunction fallUsb false (leBytes 8 (0x20 : BitVec 64).toNat) = 0 ∧ suClass (leBytes 8 (0x20 : BitVec 64).toNat) = 1 := by
  decide +kernel

/-- In fall-back, with EP7 IN carved to 1 KiB: a packet of 8 bytes finds room in the empty buffer,
whatever leaves it, and none while EP7 IN is carved to 0. -/
theorem witness_loopback_held : bufferBytes (drainSome { fallUsb with freeCtr := fallUsb.freeCtr + 1 }) 13 + 8 ≤
    carveBytes (drainSome { fallUsb with freeCtr := fallUsb.freeCtr + 1 }) 13 := by
  have h : ∀ n s, s.usb.waiting[(13 : Fin 16)] = [] → drainLoop n s = s := by
    intro n s hs; cases n with
    | zero => rfl
    | succ n => unfold drainLoop; rw [hs]
  show bufferBytes (drainLoop (takeFree 7 { fallUsb with freeCtr := fallUsb.freeCtr + 1 }).1.toNat (takeFree 7 { fallUsb with freeCtr := fallUsb.freeCtr + 1 }).2) 13 + 8 ≤ carveBytes (drainLoop (takeFree 7 { fallUsb with freeCtr := fallUsb.freeCtr + 1 }).1.toNat (takeFree 7 { fallUsb with freeCtr := fallUsb.freeCtr + 1 }).2) 13
  rw [h _ _ (by decide +kernel)]
  decide +kernel
theorem witness_loopback_full : carveBytes (drainSome { noLoopIn with freeCtr := noLoopIn.freeCtr + 1 }) 13 < bufferBytes (drainSome { noLoopIn with freeCtr := noLoopIn.freeCtr + 1 }) 13 + 8 ∧ carveBytes noLoopIn 12 ≠ 0 := by
  have h : ∀ n s, s.usb.waiting[(13 : Fin 16)] = [] → drainLoop n s = s := by
    intro n s hs; cases n with
    | zero => rfl
    | succ n => unfold drainLoop; rw [hs]
  show carveBytes (drainLoop (takeFree 7 { noLoopIn with freeCtr := noLoopIn.freeCtr + 1 }).1.toNat (takeFree 7 { noLoopIn with freeCtr := noLoopIn.freeCtr + 1 }).2) 13 < bufferBytes (drainLoop (takeFree 7 { noLoopIn with freeCtr := noLoopIn.freeCtr + 1 }).1.toNat (takeFree 7 { noLoopIn with freeCtr := noLoopIn.freeCtr + 1 }).2) 13 + 8 ∧ _
  rw [h _ _ (by decide +kernel)]
  decide +kernel

/-- A configuration of a physical port with its interface, and a switch with a static address and a shrink in progress. -/
def netCfg : List Byte := [BitVec.ofNat 8 (ncIface openLink.net.ports[(0 : SwPort)]), 0, 0, 0] ++ leBytes 2 1518 ++ [0, 0, 0, 255] ++ leBytes 2 1 ++ zeros 20
def staticNet : State := { openLink with net := { openLink.net with addrs := [⟨addrOf [2, 0, 0, 0, 0, 1], 5, 0, true, false, 0⟩] } }
def shrinkNet : State := { openLink with
  net := { openLink.net with shrink := some 0 }, perf := { openLink.perf with overflowMiB := 64 } }
def vlanCmd (op : Byte) (rest : List Byte) : Cmd := own 0 ([op, 0, 5, 0] ++ rest)

theorem witness_NetCommands :
    accepted netPortCfgSpec (own 0 []) openLink = true ∧ swTargetOk (own 0 []) = true ∧ accepted netPortCfgSpec (own 0 netCfg) openLink = true ∧
    netCfgOk 0 netCfg = true ∧ openLink.variant ≠ .qt9824 ∧
    headroomOf (portsWith openLink 0 netCfg)[(0 : SwPort)] + headroomOf (portsWith openLink 0 netCfg)[(1 : SwPort)] ≤ 2048 ∧
    byteAt netCfg 0 = ncIface openLink.net.ports[(0 : SwPort)] ∧
    accepted netVlanSetSpec (vlanCmd 0 [3, 0, 0, 0, 1, 0, 0, 0]) openLink = true ∧ vlanSets (vlanCmd 0 [3, 0, 0, 0, 1, 0, 0, 0]) = true ∧
    accepted netVlanSetSpec (vlanCmd 1 [2, 0, 0, 0, 0, 1, 0, 0]) openLink = true ∧ vlanAdds (vlanCmd 1 [2, 0, 0, 0, 0, 1, 0, 0]) = true ∧
    swByteOk 0 = true ∧ findAddr openLink (addrOf [2, 0, 0, 0, 0, 1, 0, 0]) 5 = none ∧
    (addrRoom openLink (addrOf [2, 0, 0, 0, 0, 1, 0, 0]) 5).isSome = true ∧
    accepted netVlanSetSpec (vlanCmd 2 [2, 0, 0, 0, 0, 1, 0, 0]) staticNet = true ∧ vlanRemoves (vlanCmd 2 [2, 0, 0, 0, 0, 1, 0, 0]) = true ∧
    staticNet.net.addrs.any (fun e => sameAddr (vlanAddr (vlanCmd 2 [2, 0, 0, 0, 0, 1, 0, 0])) 5 e && e.fixed) = true ∧
    accepted netVlanSetSpec (vlanCmd 3 []) openLink = true ∧ vlanFlushes (vlanCmd 3 []) = true ∧
    accepted netVlanSetSpec (own 0 [4, 0, 0, 0, 10, 0, 0, 0]) openLink = true ∧ vlanAges (own 0 [4, 0, 0, 0, 10, 0, 0, 0]) = true ∧
    accepted netVlanSetSpec (vlanCmd 5 []) openLink = true ∧ vlanReads (vlanCmd 5 []) = true ∧ vidOk 5 = true ∧
    accepted netMarkCfgSpec (own 0 [7]) openLink = true ∧ accepted netMarkCfgSpec (own 0 (7 :: zeros 11)) openLink = true ∧
    (ethOf 0).isSome = true ∧ accepted overflowSpec (own 0 []) openLink = true ∧ physicalTarget (own 0 []) = true ∧
    accepted overflowSpec (own 0 (zeros 8)) openLink = true ∧ accepted overflowSpec (own 0 (1 :: zeros 7)) openLink = true ∧
    openLink.net.shrink = none ∧ mayPend openLink (own 0 []) = true ∧ dataOn shrinkNet = true ∧ shrinkNet.net.shrink = some 0 ∧
    overflowUsed shrinkNet = 0 ∧ 0 < shrinkNet.perf.overflowMiB ∧ accepted netReseqCfgSpec (own 0 []) openLink = true ∧
    accepted netReseqCfgSpec (own 0 ([1, 0] ++ leBytes 2 16 ++ leBytes 4 1)) openLink = true ∧ accepted netCountersSpec (own 0 []) openLink = true ∧
    accepted netCountersSpec (own 0 [1]) openLink = true ∧ accepted netCountersSpec (own 0 ([2, 23, 0, 0] ++ leBytes 4 7 ++ leBytes 4 1)) openLink = true := by
  decide +kernel

/-- Ethernet port 0 enabled and up or down, with a frame out of its turn in queue 0 of its switch port, and a network tunnel. -/
def ethState (up : Bool) (xoff : Byte) : State :=
  { withTunnels openLink [tunOf 0 6 4 0 [[7]]] with
    net := { openLink.net with
      eth := openLink.net.eth.set 0 { openLink.net.eth[0] with up := up, reseq := true }
      ports := openLink.net.ports.set 0 { openLink.net.ports[0] with
        cfg := 3 :: openLink.net.ports[0].cfg.drop 1, xoff := xoff
        queues := openLink.net.ports[0].queues.set 0 { openLink.net.ports[0].queues[0] with nextRel := 4, entries := [⟨5, 0, .onDie⟩] } } } }

theorem witness_NetTraffic :
    dataOn (ethState true 0) = true ∧ (ethState true 0).net.eth[(0 : EthPort)].up = true ∧
    (findTunnel (ethState true 0) 0 6).map (fun v => (isNetTunnel v, v.cross)) = some (true, none) ∧
    (takeMessage 0 6 (ethState true 0)).map (fun p => engineOut p.2 [9, 10]) = some false ∧ dataOn (ethState false 0) = true ∧
    linkAllowed (ethState false 0) 0 = true ∧ (ethState false 0).net.eth[(0 : EthPort)].up = false ∧
    (ethState true 0).net.ports[swOfEth 0].xoff = 0 ∧ (ethState true 0x80).net.ports[swOfEth 0].xoff = 0x80 ∧
    (ethState true 0).net.eth[(0 : EthPort)].reseq = true ∧
    (ethState true 0).net.ports[swOfEth 0].queues[(0 : Fin 8)].entries.any (fun e => e.seq == (ethState true 0).net.ports[swOfEth 0].queues[(0 : Fin 8)].nextRel) = false ∧
    (ethState true 0).net.ports[swOfEth 0].queues[(0 : Fin 8)].entries.any (fun e => e.place == .onDie &&
      decide ((e.seq - (ethState true 0).net.ports[swOfEth 0].queues[(0 : Fin 8)].nextRel).toNat < 32768)) = true := by
  decide +kernel

/-- The bridge with a stored map, and one whose staging map has a fault. -/
def storedMap : State := { openLink with can := { openLink.can with mapIsStored := true } }
def badMap : State := { openLink with can := { openLink.can with staging := ⟨[(0, List.replicate 16 0xFF)], []⟩ } }
def canSetting : List Byte := [1, 0, 0, 0, 63, 0, 16, 16, 1, 1, 15, 4, 4, 0, 0, 0]
def op16 (a b : Byte) : Cmd := own 0 (a :: b :: zeros 14)

theorem witness_CanCommands :
    accepted canPortCfgSpec (own 0 []) openLink = true ∧ accepted canPortCfgSpec (own 0 canSetting) openLink = true ∧
    canSettingOk canSetting = true ∧
    (∀ k ∈ ([0, 1, 2, 3, 4] : List Byte), accepted canMapSpec (op16 k 0) openLink = true) ∧ accepted canMapSpec (op16 3 1) openLink = true ∧
    bare 1 (op16 0 0) = true ∧ loadOk (op16 1 0) 256 = true ∧ bare 2 (op16 3 1) = true ∧ mapFault openLink openLink.can.staging = none ∧
    (mapFault badMap badMap.can.staging).isSome = true ∧ accepted canMapSpec (op16 3 0) badMap = true ∧
    accepted canSignalReadSpec (own 0 [0, 0, 1, 0]) openLink = true ∧ readCount (own 0 [0, 0, 1, 0]) = 1 ∧
    accepted canSignalWriteSpec (own 0 (leBytes 4 openLink.can.generation.toNat ++ zeros 4)) openLink = true ∧
    accepted canSignalWriteSpec (own 0 (leBytes 4 openLink.can.generation.toNat ++ [1, 0, 0, 0] ++ zeros 16)) openLink = true ∧
    (entriesOf 1 (zeros 16)).all (fun e => zeroAt e 2 6 && writeOk openLink none e) = false ∧
    hostOfRequester (cmdRequester openLink (own 0 [])) = none ∧
    (∀ k ∈ ([0, 1, 2, 3] : List Byte), accepted canRouteSpec (op16 k 0) storedMap = true) ∧
    routesDistinct (putEntries storedMap.can.routes (loadFirst (op16 1 0)) (loadEntries (op16 1 0))) = true := by
  decide +kernel

/-- CAN port 0 in a mode and bus state with a frame in its buffer; frame 0 sends signal 0 periodically and its gap may run. -/
def canState (mode : Byte) (bus : BusState) (gap broken : Bool) : State :=
  let b := withTunnels openLink [{ tunOf 0 7 6 0 [] with inbox := [⟨[1], 1, 0, broken⟩] }]
  { b with can := { b.can with
    ports := b.can.ports.set 0 { b.can.ports[0] with setting := mode :: 2 :: b.can.ports[0].setting.drop 2, bus := bus, buffer := some (0, [1]) }
    map := ⟨[], [(0, zeros 8 ++ [1, 0] ++ zeros 6)]⟩
    tx := if gap then [(0, ⟨true, true⟩)] else [] } }

/-- A signal delivered at the time now, and one whose time limit of 1 ms has not passed. -/
def slowSig : State :=
  let b := canState 1 .errorActive false false
  { b with can := { b.can with signals := [(0, ⟨0, 1, false, false, Vector.replicate 4 ⟨true, false, some 0, 0⟩⟩)] } }
def lateSig : State :=
  let b := canState 1 .errorActive false false
  { b with can := { b.can with map := ⟨[], [(0, zeros 8 ++ [1, 0, 1, 0] ++ zeros 4)]⟩ } }

theorem witness_CanTraffic :
    dataOn (canState 1 .errorActive false false) = true ∧ canOnBus (canState 1 .errorActive false false) = true ∧
    cpMode (canState 1 .errorActive false false).can.ports[(0 : CanPort)] = 1 ∧ canPresent (canState 1 .errorActive false false) 0 = true ∧
    (canState 1 .errorActive false false).can.ports[(0 : CanPort)].bus ≠ .busOff ∧ dataOn (canState 2 .busOff true false) = true ∧
    (canState 2 .busOff true false).can.ports[(0 : CanPort)].bus = .busOff ∧ cpFlag (canState 2 .busOff true false).can.ports[(0 : CanPort)] 1 = true ∧
    cpMode (canState 2 .busOff true false).can.ports[(0 : CanPort)] = 2 ∧ (txState (canState 2 .busOff true false) 0).gap = true ∧
    (signalsOf (canState 1 .errorActive false false).can.map 0).any (fun x => sePeriod x.2 != 0) = true ∧
    feGap (frameAt (canState 1 .errorActive false false).can.map 0) = 0 ∧ canStb (canState 1 .errorActive false false) 0 = false ∧
    intervalOver (canState 1 .errorActive false false) 0 (sigState (canState 1 .errorActive false false) 0).hosts[(0 : HostNo)] = true ∧
    intervalOver slowSig 0 (sigState slowSig 0).hosts[(0 : HostNo)] = false ∧
    (lateSig.clock.hubTime - lastSeen lateSig 0).toNat < 1000000 * seTimeout (signalAt lateSig.can.map 0) ∧
    (takeMessage 0 7 (canState 1 .errorActive false false)).map (fun p => (p.1.bytes, p.1.broken, p.2.flt.isolated.getLsbD 11)) = some ([1], false, false) ∧
    (takeMessage 0 7 (canState 1 .errorActive false true)).map (fun p => (p.1.broken, p.2.flt.isolated.getLsbD 11)) = some (true, false) ∧
    (findTunnel (canState 1 .errorActive false false) 0 7).map (fun v => (v.cls, v.cross)) = some (6, none) := by
  decide +kernel

/-- A chip in a pair state, with an Active bond link, a join under way where given, and output 0 in a mode. -/
def pairState (st : Fin 12) (join : Option JoinReq) : State :=
  { sendingOut with
    links := sendingOut.links.set 2 { sendingOut.links[2] with state := 6 }
    pair := { sendingOut.pair with
      state := st, join := join, bndPres := true, autoRejoin := true, ilkDrive := st == 5 || st == 7, ilkLow := st == 5 || st == 7 } }
def joinOf (mode : BitVec 8) (day : Bool) : PartnerJoin := ⟨mode, day, 0xB0, BitVec.ofNat 8 openLink.fw.level.toNat, 1, false, true, 1⟩

/-- The same, ILK_N low. -/
def pairWith0 (st : Fin 12) : State := updPair (fun p => { p with ilkLow := true }) (pairState st none)

theorem witness_PairingCommands :
    accepted pairJoinSpec (own 0 (1 :: zeros 7)) (pairState 0 none) = true ∧ joinFieldsOk (own 0 (1 :: zeros 7)) = true ∧
    (pairState 0 none).pm.setting[(2 : Fin 12)] ≠ 1 ∧ waitsFor (pairState 0 none) .pairJoin = false ∧ bondActive (pairState 0 none) = true ∧
    mayPend (pairState 0 none) (own 0 (1 :: zeros 7)) = true ∧ dataOn (pairState 1 (some ⟨1, false⟩)) = true ∧
    joinChecks (updPair (fun p => { p with partnerPl := 1 }) (pairState 1 (some ⟨1, false⟩))) 1 false (joinOf 1 false) = none ∧
    joinChecks (updPair (fun p => { p with partnerPl := 1 }) (pairState 1 (some ⟨1, false⟩))) 1 false (joinOf 2 false) = some stPairRole ∧
    joinAllowed (pairState 0 none) (own 0 (1 :: zeros 7)) = true ∧ joinAllowed (pairState 9 none) (own 0 [2, 1, 0, 0, 0, 0, 0, 0]) = true ∧
    joinChecks (setPairState 1 (pairState 0 none)) 2 false { joinOf 2 false with mode := 2, wantsDay := true } = some stBusy ∧
    joinChecks (pairState 9 none) 2 true { joinOf 2 false with mode := 2, wantsDay := false } = none ∧ (pairState 9 none).pair.autoRejoin = true ∧
    dataOn (pairState 5 none) = true ∧ accepted pairLeaveSpec (own 0 []) (pairState 0 none) = true ∧
    accepted pairLeaveSpec (own 0 []) (pairState 7 none) = true ∧ waitsFor (pairState 7 none) .handover = false ∧
    partnerGone (pairState 7 none) = false ∧ mayPend (pairState 7 none) (own 0 []) = true ∧
    accepted pairLeaveSpec (own 0 []) (pairState 1 none) = true ∧ waitsFor (pairState 7 none) .pairJoin = false ∧
    bondActive { pairState 7 none with links := sendingOut.links } = false ∧ sendingOut.links[(2 : LinkNo)].state ≠ 8 ∧
    (pairState 8 none).pair.state = 8 ∧ (pairWith0 8).pair.ilkLow = true ∧ openLink.pm.setting[(2 : Fin 12)] ≠ 1 ∧
    accepted pairStatusSpec (own 0 []) (pairState 7 none) = true ∧ accepted pairStatusSpec (own 0 [1]) (pairState 7 none) = true ∧
    accepted pairHandoverSpec (own 0 [0]) (pairState 7 none) = true ∧ accepted pairHandoverSpec (own 0 [1]) (pairState 7 none) = true ∧
    (pairState 7 none).disp.outs.toList.any (fun x => x.mode != 0) = true ∧ accepted pairCompareSpec (own 0 []) openLink = true ∧
    accepted pairCompareSpec (own 0 [15, 15, 15, 0, 63, 0, 9, 0]) openLink = true ∧ openLink.variant = .qt9840 ∧ openLink.pm.phase = .run ∧
    openLink.links[(2 : LinkNo)].state = 0 := by
  decide +kernel

/-- A pair whose fields are as `f` makes them, and one whose forwarded command waits. -/
def pairWith (st : Fin 12) (f : Pair → Pair) : State := updPair f (pairState st none)
def sigKey0 : SigKey := ⟨1, 0, 0⟩
def relayState : State :=
  let b := pairWith 2 (fun p => { p with forwarded := [⟨4, .mailbox 2, 7, 0x55, 0x0100, 0⟩] })
  { b with pend := [pendOf 0x0100 (own 0x80000000 []) (.partner 4) true] }

/-- A class 6 tunnel open on Night. -/
def nightTunnel : Option Tunnel :=
  (findTunnel (withTunnels (pairState 8 none) [tunOf 0 9 6 0 []]) (hostOnUp (pairState 8 none) 0) 9).filter (fun x => x.tid != 0 && x.cls == 6)

theorem witness_PairTraffic :
    inSpan (pairState 2 none) = true ∧ paired (pairState 2 none) = true ∧ bridgeOff (pairState 2 none) = false ∧ dataOn (pairState 2 none) = true ∧
    (relayState.pair.forwarded.find? (fun f => f.id == 4)).isSome = true ∧ waitsFor relayState (.partner 4) = true ∧
    dataOn (pairState 8 none) = true ∧ isNight (pairState 8 none) = true ∧ isDay (pairState 7 none) = true ∧
    (pairWith 8 (fun p => { p with claimWait := true, confirming := true, ilkLow := false })).pair.claimWait = true ∧
    (pairState 7 none).pair.ilkDrive = true ∧ isDay (pairWith 7 (fun p => { p with ilkDrive := false })) = true ∧
    (pairWith 7 (fun p => { p with ilkDrive := false })).pair.ilkLow = true ∧ (pairState 7 none).activating = false ∧
    (pairWith 7 (fun p => { p with records := [⟨sigKey0, 3, true, 5, true, 0⟩] })).pair.records = [⟨sigKey0, 3, true, 5, true, 0⟩] ∧
    bondActive (pairWith 7 (fun p => { p with compareCfg := List.replicate 8 0xFF })) = true ∧
    isNight (pairState 8 none) = true ∧ (pairWith 8 (fun p => { p with ilkLow := true })).pair.ilkLow = true ∧ (pairState 7 none).pair.state ≠ 8 ∧
    (pairWith 7 (fun p => { p with streams := [⟨⟨3, 0, 0⟩, 4, zeros 9⟩] })).pair.streams = [⟨⟨3, 0, 0⟩, 4, zeros 9⟩] ∧ zeros 9 ≠ [] ∧
    (pairState 7 none).pair.forwarded.find? (fun f => f.id == 4) = none ∧
    (pairWith 7 (fun p => { p with selfTest := some sigKey0 })).pair.selfTest ≠ none ∧
    waitsFor { pairState 7 none with pend := [pendOf 0x0904 (own 0 [0]) .handover true] } .handover = true ∧
    (pairWith 7 (fun p => { p with takeover := true })).pair.takeover = true ∧
    nightTunnel.isSome = true ∧
    (pairWith 7 (fun p => { p with silent := 1 })).pair.silent.getLsbD 0 = true := by
  decide +kernel

/-- The shell with hot swap latched after its last fault. -/
def latchedHsw : State := updPower (fun p => { p with latched := true, count := 5, hsw := 6 }) runningState

theorem witness_PowerCommands :
    accepted pwrFeedCfgSpec (own 0 []) runningState = true ∧
    accepted pwrFeedCfgSpec (own 0 runningState.power.feedCfg) runningState = true ∧
    runningState.power.feedCfg.length = 16 ∧ feedCfgOk runningState.power.feedCfg = true ∧
    accepted pwrFeedCfgSpec (own 0 (zeros 16)) runningState = true ∧ feedCfgOk (zeros 16) = false ∧
    accepted pwrHotswapCfgSpec (own 0 []) runningState = true ∧
    accepted pwrHotswapCfgSpec (own 0 runningState.power.hswCfg) runningState = true ∧ runningState.power.hswCfg.length = 16 ∧
    hswCfgOk runningState.power.hswCfg = true ∧ hswCfgOk (zeros 16) = false ∧
    accepted pwrEfuseCfgSpec (own 5 []) runningState = true ∧
    accepted pwrEfuseCfgSpec (own 5 [0xAC, 0x0D, 0xE8, 3, 100, 0, 0, 0]) runningState = true ∧
    efuseCfgOk [0xAC, 0x0D, 0xE8, 3, 100, 0, 0, 0] = true ∧ efuseCfgOk [0, 0, 10, 0, 1, 0, 0, 0] = true ∧
    accepted pwrEfuseCfgSpec (own 6 []) runningState = true ∧
    accepted pwrStatusSpec (own 0 []) runningState = true ∧ accepted pwrStatusSpec (own 0 [1]) runningState = true ∧
    accepted pwrPdPolicySpec (own 1 []) runningState = true ∧ accepted pwrPdPolicySpec (own 1 [1, 0, 240, 0, 224, 1, 0x77, 0]) runningState = true ∧
    pdPolicyOk [1, 0, 240, 0, 224, 1, 0x77, 0] = true ∧ accepted pwrFaultClearSpec (own 0 [1, 0]) latchedHsw = true ∧
    latchedHsw.power.latched = true ∧ accepted pwrFaultClearSpec (own 0 [1, 0]) runningState = true ∧
    runningState.power.latched = false ∧ runningState.power.retryMs = 0 ∧
    accepted pwrFaultClearSpec (own 0 [127, 3]) runningState = true ∧ efuseCfgOk (List.replicate 8 255) = false ∧
    accepted pwrEfuseCfgSpec (own 5 (List.replicate 8 255)) runningState = true ∧ pdPolicyOk (zeros 8) = false ∧
    accepted pwrPdPolicySpec (own 1 (zeros 8)) runningState = true ∧ accepted pwrFaultClearSpec (own 0 [0, 4]) runningState = true := by
  decide +kernel

/-- The shell with its fields as `f` makes them. -/
def shellWith (f : Power → Power) : State := updPower (fun p => f { p with shell := true, seated := true }) runningState
/-- Feed A in use and in its window, the gate driven and PG_OUT high. -/
def powered : State := shellWith (fun p => { p with
  feedA := ⟨true, true, 12000, false⟩, feedB := ⟨true, true, 12000, false⟩, inUse := some .a, inserted := true, gate := true, pg := true, hsw := 3
  efuses := p.efuses.map (fun e => { e with on := true }) })

theorem witness_PowerShell :
    powered.power.shell = true ∧ (updPower (fun p => { p with shell := false }) powered).power.shell = false ∧ (feedOf (shellWith id).power .b).inWindow = false ∧
    (shellWith (fun p => { p with feedA := ⟨true, false, 12000, false⟩, inUse := none })).power.inUse = none ∧
    pwPreferred (shellWith id).power = .a ∧ powered.power.feedA.inWindow = true ∧ powered.power.feedB.inWindow = true ∧
    powered.power.inUse = some .a ∧ powered.power.toFeed = none ∧
    pwRevertive (shellWith (fun p => { p with feedCfg := p.feedCfg.set 1 1, inUse := some .b, feedA := ⟨true, true, 12000, false⟩ })).power = true ∧
    (shellWith (fun p => { p with feedCfg := p.feedCfg.set 1 1, inUse := some .b, feedA := ⟨true, true, 12000, false⟩ })).power.toFeed = none ∧
    (shellWith (fun p => { p with toFeed := some .b })).power.toFeed = some .b ∧
    (shellWith (fun p => { p with toFeed := some .b, inUse := some .a })).power.inUse ≠ some .b ∧
    (shellWith (fun p => { p with toFeed := some .b, inUse := some .b })).power.inUse = some .b ∧ powered.power.seated = true ∧
    (shellWith (fun p => { p with gate := true, ramping := true, hsw := 2 })).power.pg = false ∧ powered.power.pg = true ∧
    powered.power.gate = true ∧ powered.power.inserting = false ∧ (senseFeed powered.power 0 powered.power.feedA).inWindow = false ∧
    (senseFeed (shellWith id).power (feedUv (shellWith id).power) (feedOf (shellWith id).power .b)).inWindow = true ∧ (shellWith (fun p => { p with retryMs := 500 })).power.retryMs ≠ 0 ∧
    (updPower (fun p => { p with seated := false }) powered).power.seated = false ∧ powered.power.efuses[(5 : Fin 6)].on = true ∧
    (shellWith (fun p => { p with inUse := some .a })).power.gate = false ∧ (shellWith id).power.latched = false ∧ (shellWith id).power.retryMs = 0 := by
  decide +kernel

/-- PG_OUT high, uplink A attached with a 5 A cable, and its PD source as `f` makes it. -/
def pdState (f : PdSource → PdSource) : State :=
  let k : Cable := ⟨5000, true, 3, true⟩
  updPd 0 (fun x => f { x with cable := some k, vbus := true }) (updLink 0 (fun l => { l with cc := 1, qualified := true }) powered)
def pdOffered : State := sendCaps 0 (pdState id)
def contract9 : Contract := ⟨2, 9000, 3000, false⟩

theorem witness_PdSources :
    runningState.power.pg = false ∧ powered.power.pg = true ∧ mayVbus powered 1 = true ∧
    powered.power.shell = true ∧ (0 : Up).val < uplinks powered ∧ powered.power.pd[(0 : Up)].vbus = false ∧
    mayVbus (updPower (fun p => { p with pg := false }) powered) 0 = false ∧ pdOffered.links[linkOfUp 0].cc ≠ 0 ∧
    mayVbus (pdState id) 0 = true ∧ (pdState id).power.pd[(0 : Up)].offer = [] ∧ pdOffered.power.pd[(0 : Up)].offer ≠ [] ∧
    requestFits pdOffered.power 0 ⟨2, 9000, 3000, false⟩ = some contract9 ∧ requestFits pdOffered.power 0 ⟨9, 9000, 3000, false⟩ = none ∧
    (pdState (fun x => { x with accepted := some contract9, contract := some contract9 })).power.pd[(0 : Up)].accepted = some contract9 ∧
    (pdState (fun x => { x with contract := some { contract9 with pps := true } })).power.pd[(0 : Up)].contract ≠ none ∧
    (pdState (fun x => { x with newCaps := true })).power.pd[(0 : Up)].newCaps = true ∧ pdOffered.power.pd[(0 : Up)].convAbsent = false := by
  decide +kernel

/-- A running hub whose power management is as `f` makes it, with WAKE pin 0 enabled. -/
def pmWith (f : Pm → Pm) : State :=
  updPm (fun p => f { p with wakeCfg := [1, 0, 0, 0, 0, 0, 0, 0] }) { runningState with perf := { runningState.perf with profile := .dusk } }

/-- CAN port 0 in standby with its wake enabled. -/
def canWaker : State :=
  { pmWith id with can := { (pmWith id).can with
    ports := (pmWith id).can.ports.set 0 { (pmWith id).can.ports[0] with setting := [3, 8] ++ zeros 14 } } }

theorem witness_PowerStates :
    accepted pmIslandSetSpec (own 0 []) (pmWith id) = true ∧ accepted pmIslandSetSpec (own 0 [7, 1, 0, 0]) (pmWith id) = true ∧
    s2Allowed (pmWith id) (Fin.castLE (by omega) (6 : Fin 10)) = true ∧ s2Allowed openLink (Fin.castLE (by omega) (0 : Fin 10)) = false ∧
    (pmWith id).pm.setting[(6 : Fin 12)] ≠ 1 ∧ accepted pmIslandSetSpec (own 0 [1, 1, 0, 0]) openLink = true ∧
    accepted pmWakeCfgSpec (own 0 []) (pmWith id) = true ∧ accepted pmWakeCfgSpec (own 0 [255, 15, 0, 0, 0, 0, 0, 0]) (pmWith id) = true ∧
    accepted pmStatusSpec (own 0 []) (pmWith id) = true ∧ accepted pmStatusSpec (own 0 [1]) (pmWith (fun p => { p with brownOut := true })) = true ∧
    (pmWith id).pm.brownOut = false ∧ accepted pmStopSpec (own 0 [1, 0, 0, 0]) (pmWith id) = true ∧ (pmWith id).pair.state = 0 ∧
    stopBusy (pmWith id) = false ∧ byteAt (pmWith id).pm.wakeCfg 0 ≠ 0 ∧ hasConv (pmWith id) = true ∧ pinWaiting (pmWith id) = false ∧
    dataOn (pmWith id) = true ∧ s1Allowed (pmWith id) 7 = true ∧ s1Automatic (pmWith id) 7 = true ∧ (pmWith id).pm.island[(7 : Fin 12)] = 0 ∧
    aonOn (pmWith (fun p => { p with phase := .stop, twilight := true })) = true ∧ (pmWith id).flt.safe = none ∧
    (pmWith id).pm.sources = 0 ∧ (pmWith (fun p => { p with sources := 1 })).pm.sources ≠ 0 ∧ (pmWith id).pm.pinActive.getLsbD 0 = false ∧
    canOfPin (pmWith id) 0 = [] ∧  sourceEnabled (pmWith (fun p => { p with phase := .stop })) 1 = true ∧
    sourceEnabled (pmWith id) 2 = false ∧ cpFlag (pmWith id).can.ports[(0 : CanPort)] 4 = false ∧ (pmWith id).ready = true ∧
    (pmWith id).pm.phase = .run := by
  decide +kernel
theorem witness_PowerStates_can :
    canPresent canWaker 0 = true ∧ cpMode canWaker.can.ports[(0 : CanPort)] = 3 ∧ cpFlag canWaker.can.ports[(0 : CanPort)] 3 = true ∧
    cpFlag canWaker.can.ports[(0 : CanPort)] 7 = false ∧ canWaker.pm.phase = .run := by
  decide +kernel

/-- A hub in life cycle Provisioned, where FLT_INJECT and the disabling of classes are allowed. -/
def factoryState : State := { runningState with ident := { runningState.ident with lc := .provisioned } }
/-- FLT_INJECT's 16 bytes: class, operation, location and extra. -/
def injectBytes (cls op : Byte) (loc extra : Nat) : List Byte := [cls, op, 0, 0] ++ leBytes 4 loc ++ leBytes 8 extra

theorem witness_IntegrityCommands :
    accepted fltStatusSpec (own 0 []) factoryState = true ∧ accepted fltStatusSpec (own 0 [1]) factoryState = true ∧
    accepted fltStatusSpec (own 0 ([2, 0, 0, 0] ++ leBytes 4 0x0D86)) factoryState = true ∧ 0x0D86 &&& 0x0D86 = 0x0D86 ∧ 8 &&& 0x0D86 ≠ 8 ∧
    accepted fltStatusSpec (own 0 ([2, 0, 0, 0] ++ leBytes 4 8)) factoryState = true ∧
    accepted fltLogReadSpec (own 0 [0, 0, 0, 0]) factoryState = true ∧ accepted fltLogReadSpec (own 0 [0, 0, 16, 0]) factoryState = true ∧
    accepted fltInjectSpec (own 0 (injectBytes 1 0 19 0)) factoryState = true ∧ locationExists factoryState 1 19 0 = true ∧
    byteAt (injectBytes 1 1 19 0) 1 = 1 ∧ accepted fltInjectSpec (own 0 (injectBytes 1 1 19 0)) factoryState = true ∧
    accepted fltInjectSpec (own 0 (injectBytes 0x15 0 1 0)) factoryState = true ∧ isDay factoryState = false ∧ isNight factoryState = false ∧
    accepted fltLogReadSpec (own 0 [9, 0, 15, 0]) factoryState = true ∧ locationExists factoryState 1 20 0 = false ∧ zeroAt (injectBytes 1 0 19 0) 2 2 = true ∧
    accepted fltInjectSpec (own 0 (injectBytes 0 2 0 0)) factoryState = true ∧
    accepted crcChannelSpec (own 15 ([0, 8, 7, 0] ++ leBytes 8 255 ++ leBytes 8 255 ++ zeros 4)) factoryState = true ∧
    fieldAt ([0, 8, 7, 0] ++ leBytes 8 255 ++ leBytes 8 255 ++ zeros 4 : List Byte) 12 8 < 2 ^ 8 ∧
    channelTunnels factoryState (tgChannel (own 15 [])) = 0 ∧ channelRegions factoryState (tgChannel (own 15 [])) = 0 ∧
    accepted crcChannelSpec (own 15 ([1, 0, 0, 7] ++ zeros 20)) factoryState = true ∧ hostOfCode 0 ≠ none ∧
    accepted crcChannelSpec (own 15 (2 :: zeros 23)) factoryState = true ∧ accepted scrubCfgSpec (own 0 []) factoryState = true ∧
    accepted scrubCfgSpec (own 0 (leBytes 2 10 ++ leBytes 2 240)) factoryState = true ∧
    accepted repairStatusSpec (own 0 []) factoryState = true := by
  decide +kernel

/-- A running hub whose fault state is as `f` makes it. -/
def fltWith (f : Faults → Faults) : State := updFlt f runningState
def eccOf (double : Bool) : EccError := ⟨false, 1, 2, 3, 0, double, 5, .table⟩

theorem witness_FaultHandling :
    coreOn runningState = true ∧ (fltWith (fun f => { f with isolated := 1 })).flt.isolated.getLsbD 0 = true ∧
    runningState.flt.isolated.getLsbD 16 = false ∧ runningState.flt.disabled.getLsbD 1 = false ∧ runningState.flt.disabled.getLsbD 2 = false ∧
    (fltWith (fun f => { f with isolated := 0x80000, testing := 0x80000 })).flt.testing.getLsbD (19 : FabPort).val = true ∧
    injectedPort runningState 19 = false ∧ runningState.flt.restarting = false ∧ runningState.activating = false ∧
    ({ runningState with activating := true } : State).activating = true ∧ runningState.flt.lastRestart = none ∧
    coreOn (fltWith (fun f => { f with restarting := true })) = true ∧ runningState.pend = [] ∧
    (eccOf false).double = false ∧ (eccOf true).double = true ∧ injectedHere runningState (eccOf true) = false ∧ scrubs runningState = true ∧
    runningState.flt.injections = [] ∧ runningState.flt.safe = none ∧ (fltWith (fun f => { f with safeStays := true })).flt.safeStays = true ∧
    safePort 12 = false ∧ safePort 14 = true ∧ (pendOf 0x0203 (own 0 []) (.restart true) true).kind = .restart true ∧ dataOn runningState = true ∧ runningState.pm.phase = .run ∧
    (fltWith (fun f => { f with isolated := 0x2000 })).flt.isolated.getLsbD 13 = true ∧ runningState.clock.refclk = true ∧
    coreOn (fltWith (fun f => { f with safe := some .other })) = true ∧ runningState.flt.safeStays = false := by
  decide +kernel

/-- Host A's region of the World Table entry given for tunnel buffers, and a display tunnel of host A. -/
def worldState : State := withTunnels factoryState [tunOf 0 1 1 0x10 []]
def attestIsolated : State := updFlt (fun f => { f with isolated := 0x8000, failed := 0x8000 }) factoryState

theorem witness_WorldCommands :
    accepted secBlockWorldSpec (own 0 []) worldState = true ∧
    accepted secBlockWorldSpec (own 0 ([5, 1, 0, 0] ++ leBytes 4 0x80000000)) worldState = true ∧
    (∀ h : HostNo, liveIn worldState (Fin.castLE (by omega) (5 : Fin 16)) h = false) ∧
    accepted secBlockWorldSpec (own 0 ([4, 1, 0, 0] ++ leBytes 4 0)) worldState = true ∧
    takesRight worldState.worlds.block[(4 : Fin 16).val] 0 0 = true ∧ liveIn worldState (Fin.castLE (by omega) (4 : Fin 16)) 0 = true ∧
    accepted secRegionWorldSpec (own 0 []) worldState = true ∧ accepted secRegionWorldSpec (own 0 [127, 1, 0, 0, 0x80]) worldState = true ∧
    regionByteOk worldState (127 : Fin 128).val 0 (0x80 : Byte).toNat = true ∧ sparesUsed worldState (127 : Fin 128).val = [] ∧
    accepted secRegionWorldSpec (own 0 [0, 1, 0, 0, 0]) worldState = true ∧ regionByteOk worldState (0 : Fin 128).val 0 (0 : Byte).toNat = false ∧
    accepted lcStatusSpec (cmdOf 0 0 []) worldState = true ∧ cmdRequester worldState (cmdOf 0 0 []) ≠ .owner ∧
    accepted lcStatusSpec (own 0 []) worldState = true ∧ cmdRequester worldState (own 0 []) = .owner ∧
    accepted nvWearReadSpec (own 0 (leBytes 2 964 ++ [60, 0])) worldState = true ∧
    accepted nvWearReadSpec (own 0 (leBytes 2 1000 ++ [60, 0])) worldState = true ∧
    accepted secAttestSpec (own 0 ([0, 0, 0, 0] ++ zeros 32)) worldState = true ∧ worldState.flt.isolated.getLsbD 15 = false ∧
    worldState.flt.failed.getLsbD 15 = false ∧ accepted secAttestSpec (own 0 ([1, 0, 0, 0] ++ leBytes 4 480)) worldState = true ∧
    accepted secAttestSpec (own 0 ([0, 0, 0, 0] ++ zeros 32)) attestIsolated = true ∧ attestIsolated.flt.isolated.getLsbD 15 = true ∧
    attestIsolated.flt.failed.getLsbD 15 = true := by
  decide +kernel
/-- An owner's request for DEPLOYED in state PROVISIONED, with a nonce issued, and its payload with that nonce and a signature. -/
def lcState : State := { worldState with
  ident := { worldState.ident with lc := .provisioned, ownerKey := some (zeros 96) }, fw := { worldState.fw with nonce := some 7 } }
def lcPayload (sig : List Byte) : List Byte := [2, 1, 0, 0] ++ nonceBytes 7 ++ zeros 96 ++ sig

theorem witness_WorldCommands_transition :
    accepted lcTransitionSpec (own 0 (lcPayload (zeros 96))) lcState = true ∧ lcState.flt.isolated.getLsbD 15 = false ∧
    lcState.flt.failed.getLsbD 15 = false ∧ lcState.pair.state = 0 ∧ fwBusy lcState = false ∧ waitsFor lcState .lcTransition = false ∧
    lcAllowed lcState.ident.lc .deployed 1 = true ∧ mayPend lcState (own 0 []) = true ∧ lcOfCode 2 = some .deployed ∧
    byteAt (lcPayload (zeros 96)) 0 = 2 ∧ byteAt (lcPayload (zeros 96)) 1 = 1 ∧
    lcOfCode 4 = some .scrapped ∧ lcAllowed .blank .scrapped 1 = false ∧
    accepted lcTransitionSpec (own 0 (4 :: 1 :: zeros 226)) worldState = true ∧
    accepted lcTransitionSpec (own 0 (4 :: 1 :: zeros 226)) (updPair (fun p => { p with state := 7 }) worldState) = true := by
  decide +kernel
/-- The signature check passes on those operands wherever the owner's signature verifies. -/
theorem witness_WorldCommands_signed (h : Config.ecdsaVerify (zeros 96) ((lcPayload (zeros 96)).take 132 ++ serialBytes) (zeros 96) = true) :
    lcSigned lcState .deployed (lcPayload (zeros 96)) = true := by
  have h1 : ((lcPayload (zeros 96)).drop 4).take 32 = nonceBytes 7 := by rfl
  have h2 : lcState.fw.nonce = some 7 := by rfl
  have h3 : signerKey lcState (byteAt (lcPayload (zeros 96)) 1) = some (zeros 96) := by rfl
  have h4 : ((lcPayload (zeros 96)).drop 132).take 96 = zeros 96 := by rfl
  simp only [lcSigned, h1, h2, h3, h4, h, beq_self_eq_true]
  decide +kernel

/-- Telemetry that has taken samples. -/
def telState : State := updTel (fun t => { t with sampled := true }) runningState

theorem witness_TelemetryAndHeat :
    accepted telSampleCfgSpec (own 0 []) telState = true ∧
    accepted telSampleCfgSpec (own 0 (leBytes 2 65535 ++ [0, 0] ++ leBytes 4 60000)) telState = true ∧
    accepted telSampleCfgSpec (own 0 (leBytes 2 0 ++ [0, 0] ++ leBytes 4 60001)) telState = true ∧
    accepted telReadSpec (own 0 []) telState = true ∧ accepted telReadSpec (own 0 [1]) telState = true ∧ telState.tel.sampled = true ∧
    accepted telThermalSpec (own 0 []) telState = true ∧ accepted telThermalSpec (own 0 [125, 125, 0, 0]) telState = true ∧
    accepted telThermalSpec (own 0 [126, 125, 0, 0]) telState = true ∧ coreOn telState = true ∧ bridgeOff telState = false ∧ telState.tel.overWarn = false ∧
    telState.tel.overHigh = false ∧ telState.tel.overCrit = false ∧ runningState.tel.sampled = false ∧
    (highest #v[200, 0xFFF8, 199, 0]).toInt < 8 * (telState.tel.warnC.toNat : Int) ∧
    (highest #v[200, 0xFFF8, 199, 0]).toInt < 8 * (telState.tel.highC.toNat : Int) ∧ 1040 ≤ (highest #v[0, 1040, 0, 0]).toInt ∧
    telState.tel.warnC.toNat ≤ 125 ∧ telState.tel.highC.toNat ≤ 125 := by
  decide +kernel

theorem witness_StepRunsTheFrontCommand :
    State.reset.pending = [] ∧ State.reset.clock.refclk = true ∧ State.reset.clock.powered = true ∧ State.reset.clock.inReset = false ∧
    ({ State.reset with clock := { State.reset.clock with refclk := false } } : State).clock.refclk = false ∧
    ({ State.reset with clock := { State.reset.clock with inReset := true } } : State).clock.inReset = true := by
  decide +kernel

theorem witness_ChecksRefuseAlike :
    checkCmd sysNopSpec runningState (own 0 (zeros 497)) = some stBadLength ∧ blockDenied sysNopSpec runningState (own 0 (zeros 497)) = false ∧
    checkCmd fltLogReadSpec { runningState with worlds := { runningState.worlds with block := runningState.worlds.block.set 13 0 } }
      (cmdOf 0 0 [0, 0, 0, 0]) = some stWorldDenied ∧
    blockDenied fltLogReadSpec { runningState with worlds := { runningState.worlds with block := runningState.worlds.block.set 13 0 } }
      (cmdOf 0 0 [0, 0, 0, 0]) = true ∧
    forPartner (pairState 2 none) (own 0x80000000 []) = true ∧ forPartner runningState (own 0x80000000 []) = false ∧
    forPartner runningState (own 0 (zeros 497)) = false ∧
    checkCmd sysNopSpec runningState (own 0x80000000 []) = none ∧ sysNopSpec.lens 497 = false := by
  decide +kernel

theorem witness_SysNopCopiesItsPayload : accepted sysNopSpec (own 0 (zeros 496)) runningState = true := by decide +kernel

/-- A response with a payload of 496 bytes. -/
def longResponse : Response := ⟨1, 0, 0, 2, 0x0100, List.replicate 496 7, true⟩
theorem witness_ResponsesTakeTheirSlots :
    runningState.mb[(3 : MbNo)].waiting = [] ∧ 0 < freeSlots runningState.mb[(3 : MbNo)] ∧ longResponse.payload.length ≤ 496 ∧
    memWf runningState.window = true ∧ freeSlots (updMb 3 (fun b => { b with rspPi := 8 }) runningState).mb[(3 : MbNo)] = 0 := by
  decide +kernel

theorem witness_EventsReachTheirRings :
    runningState.mb[(3 : MbNo)].mask.getLsbD (63 : Fin 64).val = true ∧ (runningState.mb[(3 : MbNo)].evtPi - runningState.mb[(3 : MbNo)].evtCi).toNat < 64 ∧
    memWf runningState.window = true ∧ (0 : Fin 64) ≠ 63 ∧ runningState.mb[(0 : MbNo)].mask.getLsbD (18 : Fin 64).val = false ∧
    (updMb 3 (fun b => { b with evtPi := 63 }) runningState).mb[(3 : MbNo)].evtPi.toNat < 64 := by
  decide +kernel

theorem witness_FullEventRingLosesTheEvent :
    64 ≤ ((updMb 2 (fun b => { b with evtPi := 64 }) runningState).mb[(2 : MbNo)].evtPi
      - (updMb 2 (fun b => { b with evtPi := 64 }) runningState).mb[(2 : MbNo)].evtCi).toNat ∧
    runningState.mb[(2 : MbNo)].mask.getLsbD (63 : Fin 64).val = true ∧
    (updMb 2 (fun b => { b with lostMark := true }) runningState).mb[(2 : MbNo)].lostMark = true ∧ memWf runningState.window = true := by
  decide +kernel

/-- Four commands of the owner that hold PENDING. -/
def fourPending : State := { runningState with pend := List.replicate 4 (pendOf 0x0200 (own 0 []) .usbOwner true) }
theorem witness_WaitingCommandsAreAnswered :
    waitsFor runningState .usbOwner = false ∧ heldBefore fourPending (own 0 []) = false ∧ pendingFull fourPending (own 0 []) = true ∧
    (own 0 []).src = .mailbox 2 ∧ holding { fourPending with pend := fourPending.pend.take 3 } 2 < 4 ∧
    heldBefore { fourPending with pend := fourPending.pend.take 3 } (own 0 []) = false ∧
    ({ fourPending with pend := fourPending.pend.take 1 } : State).pend = [pendOf 0x0200 (own 0 []) .usbOwner true] ∧
    (pendOf 0x0200 (own 0 []) .usbOwner true).kind = .usbOwner := by
  decide +kernel

theorem witness_PersistentWordsAndSettings :
    (zeros 128).length = 4 * ((settingPlace 4).2 - 1) ∧ sparseWf 0 runningState.persist.words = true ∧ sparseWf 0 runningState.persist.wear = true ∧ (1023 : Nat) ≠ 0 ∧
    pbWord runningState ((settingPlace 22).1 + (settingPlace 22).2 - 1) = 0 ∧
    loadSetting (storeSetting 22 [1, 2, 3, 0x80] runningState) 22 = .bytes [1, 2, 3, 0x80] := by
  decide +kernel

/-- A hub whose log holds one entry, of class 0x0B, written now. -/
def loggedState : State := logFault 0x0B 5 { reaction := 0 } runningState
theorem witness_FaultLogEntries :
    coalesces loggedState 0x0B (BitVec.ofNat 32 5) = true ∧ coalesces runningState 0x0B (BitVec.ofNat 32 5) = false ∧
    coalesces loggedState 0x0B (BitVec.ofNat 32 6) = false ∧ recentEvent loggedState 0x0B = true ∧ classRaises 3 = false ∧
    classRaises 0x0B = true ∧ runningState.flt.disabled.getLsbD 0x0B = false ∧ recentEvent runningState 0x0B = false := by
  decide +kernel

theorem witness_StepKeepsCanonical : canonical State.reset = true ∧ step State.reset = .next (idle State.reset) := ⟨by decide +kernel, rfl⟩

theorem witness_ScrappedIsFinal :
    ({ State.reset with ident := { State.reset.ident with lc := .scrapped } } : State).ident.lc = .scrapped ∧
    step State.reset = .next (idle State.reset) := ⟨by decide, rfl⟩

/-! ### Well-formedness: one ill-formed term for each check, and a well-formed one beside it -/

theorem test_wf_command : (Instr.sysNop (own 0 (zeros 65536))).wf = false ∧ (Instr.sysNop (own 0 (zeros 496))).wf = true := by
  decide +kernel
theorem test_wf_operation : (Instr.sysResetWarm (own 0 [1, 0, 0, 0])).wf = false ∧ (Instr.sysResetWarm (own 0 [0, 0, 0, 0])).wf = true := by
  decide +kernel
theorem test_wf_length0 : (Instr.linkEqReport (own 0 [1])).wf = false ∧ (Instr.linkEqReport (own 0 [])).wf = true := by decide +kernel
theorem test_wf_vendor_write : (Instr.ep0VendorWrite 0 0 8 [1]).wf = false ∧ (Instr.ep0VendorWrite 0 0 1 [1]).wf = true := by decide +kernel
theorem test_wf_hpd : (Instr.dpHpdChange 0 (.plug 0 0 [1])).wf = false ∧ (Instr.dpHpdChange 0 (.plug 0 0 (zeros 128))).wf = true := by
  decide +kernel
theorem test_wf_tlp : (Instr.pcieTlpFromDevice 0 (zeros 13)).wf = false ∧ (Instr.pcieTlpFromDevice 0 (zeros 8)).wf = false ∧
    (Instr.pcieTlpFromDevice 0 (zeros 16)).wf = true := by decide +kernel
theorem test_wf_usb : (Instr.usbTransferDone 0 1 0 0 0 [1]).wf = false ∧ (Instr.usbStorageCommand 0 0 (zeros 17) []).wf = false ∧
    (Instr.usbStorageCommand 0 0 (zeros 16) []).wf = true := by decide +kernel
theorem test_wf_ethernet : (Instr.ethFrameReceive 0 (zeros 13) true).wf = false ∧ (Instr.ethFrameReceive 0 (zeros 14) true).wf = true := by
  decide +kernel
theorem test_wf_can : (Instr.canFrameReceive 0 ⟨2048, false, false, false, false, []⟩).wf = false ∧
    (Instr.canFrameReceive 0 ⟨2047, false, false, false, false, zeros 9⟩).wf = false ∧
    (Instr.canFrameReceive 0 ⟨2047, false, true, true, true, zeros 8⟩).wf = false ∧
    (Instr.canFrameReceive 0 ⟨2048, true, true, true, false, zeros 64⟩).wf = true := by decide +kernel
theorem test_wf_pair : (Instr.forwardedCommand .owner 0 0 0 0 0 (zeros 497)).wf = false ∧
    (Instr.mirrorStateForward (.command 0 0x0100 (own 0 (zeros 65536)) 0)).wf = false ∧
    (Instr.replicatedTraffic (.eth 0 (zeros 13) true)).wf = false := by decide +kernel
theorem test_wf_cable : (Instr.pdAttach 0 false ⟨3000, false, 0, true⟩).wf = false ∧ (Instr.pdAttach 0 false ⟨5000, true, 3, true⟩).wf = true := by
  decide +kernel
theorem test_wf_ecc : (Instr.memoryEccError ⟨true, 1, 0, 0, 64, false, 0, .table⟩).wf = false ∧
    (Instr.memoryEccError ⟨false, 1, 0, 0, 64, false, 0, .table⟩).wf = false ∧ (Instr.memoryEccError (eccOf true)).wf = true := by
  decide +kernel
theorem test_wf_reset_pin : (Instr.resetPin 0).wf = false ∧ (Instr.resetPin 1000).wf = true := by decide +kernel

/-! ### Worked figures of the spec -/

/-- R486: the CRC of R116 over the ASCII bytes "123456789" is 0xCBF4_3926, and over 0 bytes 0. -/
theorem test_crc_check : crc32 [0x31, 0x32, 0x33, 0x34, 0x35, 0x36, 0x37, 0x38, 0x39] = 0xCBF43926 ∧ crc32 [] = 0 := by decide +kernel

/-- R436's worked offer: a budget of 150 W, limits of 100 W, 5 A cables, EPR off. -/
def offerState : Power :=
  let x (p : PdSource) : PdSource := { p with policy := [0x1F, 0, 100, 0, 150, 0, 0x41, 0], cable := some ⟨5000, true, 3, false⟩ }
  { powered.power with pd := powered.power.pd.map x }
theorem test_offer_a : (sprItems offerState 0).map (fun i => (i.mv, i.ma)) =
    [(5000, 3000), (9000, 5000), (15000, 5000), (20000, 5000), (21000, 4750)] := by decide +kernel
theorem test_offer_b : (sprItems { offerState with pd := upd offerState.pd 0 (fun x => { x with contract := some ⟨4, 20000, 5000, false⟩ }) } 1).map
    (fun i => (i.mv, i.ma)) = [(5000, 3000), (9000, 5000), (15000, 3300), (20000, 2500), (21000, 2350)] := by decide +kernel

/-- The worked DRAM map of PB_DRAM_MAP: 0x8008_1030 on a QT9840. -/
theorem test_dram_map : (loadMap (pbWrite State.reset 256 0x80081030)).perf.frameMiB = 3072 ∧
    (loadMap (pbWrite State.reset 256 0x80081030)).perf.overflowMiB = 1024 ∧
    (loadMap (pbWrite State.reset 256 0x80081030)).perf.stagingMiB = 512 := by decide +kernel

/-- The worked admission in Midnight (chapter 05): modes 18, 17, 18, 17 pass at PL1, and 18, 18, 18, 17 fail at port 4. -/
theorem test_admission : admitD1 #v[18, 17, 18, 17] 1 = true ∧ admitD2 #v[18, 17, 18, 17] 1 = true ∧ admitD2 #v[18, 18, 18, 17] 1 = false := by
  decide +kernel

/-! ### Single steps -/

/-- A step runs the command at the front and leaves the rest of the queue. -/
theorem test_step_takes_front :
    (match step (State.reset.withPending [.refclkReturn, .karxoReady]) with | .next t => t.pending == [.karxoReady] | _ => false) = true := by
  decide +kernel

/-- R44: the reset leaves hub time 0, and one reference cycle of the idle block is 25 ns (R16). -/
theorem test_tick : (match step State.reset with | .next t => t.clock.hubTime == 25 | _ => false) = true := by decide +kernel

/-- R476: loss of REFCLK puts the hub in the safe state, with INT_N asserted. -/
theorem test_refclk_loss :
    (match exec .refclkLoss runningState with | .next t => t.flt.safe == some .refclk && t.ev.active | _ => false) = true := by
  decide +kernel

end Sys2Proof.Tests
end

section
/-! SUPPORT. One relation between a state and a later one that every command keeps: every memory stays canonical, the
variant is the same, and a scrapped part is scrapped. `Stays s₀ s` is stated from a fixed earlier state `s₀`, so the
lemma of each function of the model says how it extends such a chain, and the proof of a function follows its body. The
proofs are elaborated one after another: with a thread for each, the many short ones run out of threads. -/
namespace Sys2Proof.Machine

set_option Elab.async false

/-- What an update that touches no memory leaves: the memories, the variant and the life-cycle state. -/
def kept (s : State) : Memory × Memory × Persist × Vector (Vector (Sparse Word) 3) 4 × Variant × Lc :=
  (s.window, s.disp.mem, s.persist, s.pcie.cfg, s.variant, s.ident.lc)

/-- From one state to another, every memory stays canonical, the variant is the same, a scrapped part is scrapped. -/
structure Stays (s t : State) : Prop where
  canon : canonical s = true → canonical t = true
  variant : t.variant = s.variant
  scrapped : s.ident.lc = .scrapped → t.ident.lc = .scrapped

/-- An answer that is a next state to which everything of `Stays` is carried on. -/
def Continues (s : State) (a : Answer) : Prop := ∃ t, a = .next t ∧ Stays s t

theorem Keeps.stays {s t : State} (h : Keeps s t) : Stays s t := ⟨h.canon, h.variant, fun k => h.lc.trans k⟩

/-- The configuration registers of every virtual switch are in canonical form. -/
def cfgWf (c : Vector (Vector (Sparse Word) 3) 4) : Bool :=
  c.toList.all (fun v => v.toList.all (fun m => sparseWf 0 m))

theorem cfgWf_iff (c : Vector (Vector (Sparse Word) 3) 4) :
    cfgWf c = true ↔ ∀ v ∈ c, ∀ m ∈ v, sparseWf 0 m = true := by
  simp only [cfgWf, List.all_eq_true, Vector.mem_toList_iff]

theorem canonical_iff (s : State) : canonical s = true ↔ memWf s.window = true ∧ memWf s.disp.mem = true ∧
    sparseWf 0 s.persist.words = true ∧ sparseWf 0 s.persist.wear = true ∧ cfgWf s.pcie.cfg = true := by
  simp [canonical, cfgWf, and_assoc]

/-- An element of a vector with one element changed is that one's new value or an element of the vector. -/
theorem mem_upd {α : Type} {n : Nat} {v : Vector α n} {i : Fin n} {f : α → α} {x : α} (h : x ∈ upd v i f) :
    x = f v[i] ∨ x ∈ v := by
  unfold upd at h
  rcases Vector.mem_or_eq_of_mem_set h with h | h
  · exact .inr h
  · exact .inl h

/-- One function's registers changed, to canonical ones. -/
theorem cfgWf_upd {c : Vector (Vector (Sparse Word) 3) 4} (h : HostNo) (f : SwitchFn) {g : Sparse Word → Sparse Word}
    (hg : ∀ m, sparseWf 0 m = true → sparseWf 0 (g m) = true) (hc : cfgWf c = true) :
    cfgWf (upd c h (fun v => upd v f g)) = true := by
  rw [cfgWf_iff] at hc ⊢
  intro v hv m hm
  rcases mem_upd hv with rfl | hv
  · rcases mem_upd hm with rfl | hm
    · exact hg _ (hc _ (Vector.getElem_mem _) _ (Vector.getElem_mem _))
    · exact hc _ (Vector.getElem_mem _) _ hm
  · exact hc v hv m hm

namespace Stays

variable {s t u : State}

theorem refl (s : State) : Stays s s := (Keeps.refl s).stays

theorem trans (h : Stays s t) (k : Stays t u) : Stays s u :=
  ⟨fun x => k.canon (h.canon x), k.variant.trans h.variant, fun x => k.scrapped (h.scrapped x)⟩

theorem keeps (h : Stays s t) (k : Keeps t u) : Stays s u := h.trans k.stays

/-- An update that touches nothing of `kept`. -/
theorem same (h : Stays s t) (k : kept u = kept t := by rfl) : Stays s u := by
  unfold kept at k
  simp only [Prod.mk.injEq] at k
  obtain ⟨hw, hm, hp, hc, hv, hl⟩ := k
  exact h.keeps (.of_same hw hm hp hc hv hl)

/-- An update of memories that keeps each of them canonical. -/
theorem memories (h : Stays s t) (hw : memWf t.window = true → memWf u.window = true := by exact id)
    (hm : memWf t.disp.mem = true → memWf u.disp.mem = true := by exact id) (hp : u.persist = t.persist := by rfl)
    (hc : cfgWf t.pcie.cfg = true → cfgWf u.pcie.cfg = true := by exact id) (hv : u.variant = t.variant := by rfl)
    (hl : u.ident.lc = t.ident.lc := by rfl) : Stays s u := by
  refine h.keeps ⟨fun k => ?_, hv, hl⟩
  rw [canonical_iff] at k ⊢
  obtain ⟨kw, km, kp, kr, kc⟩ := k
  rw [hp]
  exact ⟨hw kw, hm km, kp, kr, hc kc⟩

theorem ite {p : Prop} [Decidable p] {a b : State} (h : Stays s a) (k : Stays s b) :
    Stays s (if p then a else b) := by
  split
  · exact h
  · exact k

theorem iteApply {p : Prop} [Decidable p] {f g : Cmd → State → State} {c : Cmd} (h : Stays s (f c t))
    (k : Stays s (g c t)) :
    Stays s ((if p then f else g) c t) := by
  split
  · exact h
  · exact k

theorem iteFst {p : Prop} [Decidable p] {α : Type} {a b : State × α} (h : Stays s a.1) (k : Stays s b.1) :
    Stays s (if p then a else b).1 := by
  split
  · exact h
  · exact k

theorem iteSnd {p : Prop} [Decidable p] {α : Type} {a b : α × State} (h : Stays s a.2) (k : Stays s b.2) :
    Stays s (if p then a else b).2 := by
  split
  · exact h
  · exact k

theorem foldl {α : Type} {f : State → α → State} {l : List α} (h : Stays s t)
    (hf : ∀ x u, Stays s u → Stays s (f u x)) : Stays s (l.foldl f t) := by
  induction l generalizing t with
  | nil => exact h
  | cons x r ih => exact ih (hf x _ h)

end Stays

/-- Everything of `Stays` is carried on to the state that an operation answers, where it answers one. -/
def Each (s : State) (o : Option State) : Prop := ∀ u ∈ o, Stays s u

namespace Each

variable {s t : State} {a b : Option State}

theorem some (h : Stays s t) : Each s (some t) := fun _ hu => Option.mem_some.1 hu ▸ h

theorem none : Each s none := fun _ hu => absurd hu (Option.not_mem_none _)

theorem ite {p : Prop} [Decidable p] (h : Each s a) (k : Each s b) : Each s (if p then a else b) := by
  split
  · exact h
  · exact k

end Each

namespace Continues

variable {s t : State} {a b : Answer}

theorem next (h : Stays s t) : Continues s (.next t) := ⟨t, rfl, h⟩

theorem ite {p : Prop} [Decidable p] (h : Continues s a) (k : Continues s b) : Continues s (if p then a else b) := by
  split
  · exact h
  · exact k

end Continues

namespace Stays

variable {s₀ s : State}

/-! The updates of the state, by the laws of `Keeps` and by `same`. -/

theorem emit {e : Emit} (hs : Stays s₀ s) : Stays s₀ (emit e s) := hs.keeps (keeps_emit _ _)

theorem emits {es : List Emit} (hs : Stays s₀ s) : Stays s₀ (emits es s) := hs.keeps (keeps_emits _ _)

theorem takeFree {w : Nat} (hs : Stays s₀ s) : Stays s₀ (takeFree w s).2 := hs.keeps (keeps_takeFree _ _)

theorem updMb {m : MbNo} {f : Mailbox → Mailbox} (hs : Stays s₀ s) : Stays s₀ (updMb m f s) :=
  hs.keeps (keeps_updMb _ _ _)

theorem updLink {l : LinkNo} {f : Link → Link} (hs : Stays s₀ s) : Stays s₀ (updLink l f s) :=
  hs.keeps (keeps_updLink _ _ _)

theorem updOut {o : OutNo} {f : Output → Output} (hs : Stays s₀ s) : Stays s₀ (updOut o f s) :=
  hs.keeps (keeps_updOut _ _ _)

theorem updFlt {f : Faults → Faults} (hs : Stays s₀ s) : Stays s₀ (updFlt f s) := hs.keeps (keeps_updFlt _ _)

theorem updPerf {f : Perf → Perf} (hs : Stays s₀ s) : Stays s₀ (updPerf f s) := hs.keeps (keeps_updPerf _ _)

theorem updPair {f : Pair → Pair} (hs : Stays s₀ s) : Stays s₀ (updPair f s) := hs.keeps (keeps_updPair _ _)

theorem updTunnel {h : HostNo} {tid : Byte} {f : Tunnel → Tunnel} (hs : Stays s₀ s) :
    Stays s₀ (updTunnel h tid f s) := hs.keeps (keeps_updTunnel _ _ _ _)

theorem noteReason {h : HostNo} {code : Byte} (hs : Stays s₀ s) : Stays s₀ (noteReason h code s) :=
  hs.keeps (keeps_noteReason _ _ _)

theorem admitHeld {h : HostNo} {tid : Byte} {a : Nat} (hs : Stays s₀ s) : Stays s₀ (admitHeld h tid a s) :=
  hs.keeps (keeps_admitHeld _ _ _ _)

theorem sendZero {h : HostNo} {b : List Byte} (hs : Stays s₀ s) : Stays s₀ (sendZero h b s) :=
  hs.keeps (keeps_sendZero _ _ _)

theorem updateInt (hs : Stays s₀ s) : Stays s₀ (updateInt s) := hs.keeps (keeps_updateInt _)

theorem sendInterrupt {m : MbNo} (hs : Stays s₀ s) : Stays s₀ (sendInterrupt m s) :=
  hs.keeps (keeps_sendInterrupt _ _)

theorem deliver {ev : Fin 64} {force partner : Bool} {time : Dword} {arg : Word} {m : MbNo} (hs : Stays s₀ s) :
    Stays s₀ (deliver ev force partner time arg s m) := hs.keeps (keeps_deliver _ _ _ _ _ _ _)

theorem raise {sc : Scope} {ev : Fin 64} {arg : Nat} (hs : Stays s₀ s) : Stays s₀ (raise sc ev arg s) :=
  hs.keeps (keeps_raise _ _ _ _)

theorem postWaiting {m : MbNo} {a : Nat} (hs : Stays s₀ s) : Stays s₀ (postWaiting m a s) :=
  hs.keeps (keeps_postWaiting _ _ _)

theorem respondTo {src : CmdSrc} {seq tag : Half} {flags : BitVec 8} {opcode status : Half} {interim : Bool}
    {payload : List Byte} (hs : Stays s₀ s) :
    Stays s₀ (respondTo src seq tag flags opcode status interim payload s) :=
  hs.keeps (keeps_respondTo _ _ _ _ _ _ _ _ _)

theorem respond {op : Half} {c : Cmd} {status : Half} {payload : List Byte} (hs : Stays s₀ s) :
    Stays s₀ (respond op c status payload s) := hs.keeps (keeps_respond _ _ _ _ _)

theorem ok {op : Half} {c : Cmd} {payload : List Byte} (hs : Stays s₀ s) : Stays s₀ (ok op c payload s) :=
  hs.keeps (keeps_ok _ _ _ _)

theorem fail {op : Half} {c : Cmd} {status : Half} (hs : Stays s₀ s) : Stays s₀ (fail op c status s) :=
  hs.keeps (keeps_fail _ _ _ _)

theorem finishOne {status : Half} {payload : List Byte} {p : Pending} (hs : Stays s₀ s) :
    Stays s₀ (finishOne status payload s p) := hs.keeps (keeps_finishOne _ _ _ _)

theorem finish {k : PendKind} {status : Half} {payload : List Byte} (hs : Stays s₀ s) :
    Stays s₀ (finish k status payload s) := hs.keeps (keeps_finish _ _ _ _)

theorem feedSig {k : SigKey} {b : List Byte} (hs : Stays s₀ s) : Stays s₀ (feedSig k b s) :=
  hs.keeps (keeps_feedSig _ _ _)

theorem logFault {cls : Fin 24} {loc : Nat} {i : FaultInfo} (hs : Stays s₀ s) : Stays s₀ (logFault cls loc i s) :=
  hs.keeps (keeps_logFault _ _ _ _)

theorem setReaction {cls : Fin 24} {loc : Nat} {r : Byte} (hs : Stays s₀ s) : Stays s₀ (setReaction cls loc r s) :=
  hs.keeps (keeps_setReaction _ _ _ _)

theorem pbWrite {w : Nat} {v : Word} (hs : Stays s₀ s) : Stays s₀ (pbWrite s w v) := hs.keeps (keeps_pbWrite _ _ _)

theorem storeSetting {n : Nat} {body : List Byte} (hs : Stays s₀ s) : Stays s₀ (storeSetting n body s) :=
  hs.keeps (keeps_storeSetting _ _ _)

theorem storeWord {n : Nat} {v : Word} (hs : Stays s₀ s) : Stays s₀ (storeWord n v s) :=
  hs.keeps (keeps_storeWord _ _ _)

theorem forwardCmd {op : Half} {c : Cmd} (hs : Stays s₀ s) : Stays s₀ (forwardCmd op c s) :=
  hs.keeps (keeps_forwardCmd _ _ _)

theorem releaseDeferred (hs : Stays s₀ s) : Stays s₀ (releaseDeferred s) := hs.keeps (keeps_releaseDeferred _)

theorem forwardChange {sp : OpSpec} {c : Cmd} (hs : Stays s₀ s) : Stays s₀ (forwardChange sp c s) :=
  hs.keeps (keeps_forwardChange _ _ _)

theorem setFreeCtr {x} (hs : Stays s₀ s) : Stays s₀ { s with freeCtr := x } := hs.same

theorem setSpi {x} (hs : Stays s₀ s) : Stays s₀ { s with spi := x } := hs.same

theorem setTunnels {x} (hs : Stays s₀ s) : Stays s₀ { s with tunnels := x } := hs.same

theorem setPend {x} (hs : Stays s₀ s) : Stays s₀ { s with pend := x } := hs.same

theorem setScheds {x} (hs : Stays s₀ s) : Stays s₀ { s with scheds := x } := hs.same

theorem setNet {x} (hs : Stays s₀ s) : Stays s₀ { s with net := x } := hs.same

theorem setFw {x} (hs : Stays s₀ s) : Stays s₀ { s with fw := x } := hs.same

theorem setEv {x} (hs : Stays s₀ s) : Stays s₀ { s with ev := x } := hs.same

theorem setClock {x} (hs : Stays s₀ s) : Stays s₀ { s with clock := x } := hs.same

theorem setWorlds {x} (hs : Stays s₀ s) : Stays s₀ { s with worlds := x } := hs.same

theorem setTunnelsScheds {x y} (hs : Stays s₀ s) : Stays s₀ { s with tunnels := x, scheds := y } := hs.same

theorem setFwCommits {x y} (hs : Stays s₀ s) : Stays s₀ { s with fw := x, commits := y } := hs.same

theorem setReadyActivating {x y} (hs : Stays s₀ s) : Stays s₀ { s with ready := x, activating := y } := hs.same

theorem setClockReadyEv {x y z} (hs : Stays s₀ s) : Stays s₀ { s with clock := x, ready := y, ev := z } := hs.same

theorem setClockFltLinksUsbPower {x y z v w} (hs : Stays s₀ s) :
    Stays s₀ { s with clock := x, flt := y, links := z, usb := v, power := w } := hs.same

theorem setPerfWorlds {x y} (hs : Stays s₀ s) : Stays s₀ { s with perf := x, worlds := y } := hs.same

theorem setIdentReadyActivating {i : Identity} {x y} (hs : Stays s₀ s) (hi : i.lc = s.ident.lc := by rfl) :
    Stays s₀ { s with ident := i, ready := x, activating := y } := hs.same (by simp only [kept, hi])

theorem setDisp {x : Display} (hs : Stays s₀ s) (hx : x.mem = s.disp.mem := by rfl) : Stays s₀ { s with disp := x } :=
  hs.same (by simp only [kept, hx])

theorem setPcie {x : Pcie} (hs : Stays s₀ s) (hx : x.cfg = s.pcie.cfg := by rfl) : Stays s₀ { s with pcie := x } :=
  hs.same (by simp only [kept, hx])

section

/-! `Stays` through the functions of `Sys2Proof/Machine/Ops.lean`. -/

theorem nightApplied {id : Nat} (hs : Stays s₀ s) : Stays s₀ (nightApplied id s) := hs.same.releaseDeferred

theorem startPending {op : Half} {c : Cmd} {k : PendKind} {effect : State → State} (hs : Stays s₀ s)
    (hf : ∀ u, Stays s₀ u → Stays s₀ (effect u)) :
    Stays s₀ (startPending op c k effect s) := .ite (hf _ hs.same) (.ite hs.fail (hf _ hs.respondTo.setPend))

end

section

/-! `Stays` through the functions of `Sys2Proof/Machine/Command.lean`. -/

variable {c : Cmd}

theorem runCore {f : State → State} (hs : Stays s₀ s) (hf : ∀ u, Stays s₀ u → Stays s₀ (f u)) :
    Continues s₀ (runCore f s) := .next (.ite (hf _ hs) hs)

theorem runShell {f : State → State} (hs : Stays s₀ s) (hf : ∀ u, Stays s₀ u → Stays s₀ (f u)) :
    Continues s₀ (runShell f s) := .next (.ite (hf _ hs) hs)

theorem runCmd {sp : OpSpec} {body : Cmd → State → State} (hs : Stays s₀ s)
    (hf : ∀ x u, Stays s₀ u → Stays s₀ (body x u)) :
    Stays s₀ (runCmd sp body c s) := by
  unfold Machine.runCmd
  refine .ite hs.forwardCmd ?_
  split
  · exact .ite hs.raise.fail hs.fail
  · exact .ite hs.fail (.forwardChange (hf _ _ hs.same))

theorem onlyWhen {p : Cmd → Bool} {op : Half} {f : Cmd → State → State} (hs : Stays s₀ s)
    (hf : ∀ x u, Stays s₀ u → Stays s₀ (f x u)) :
    Stays s₀ (onlyWhen p op f c s) := .ite (hf _ _ hs) hs.fail

end

section

/-! `Stays` through the functions of `Sys2Proof/Machine/LinkOps.lean`. -/

variable {l : LinkNo} {p : PairNo} {bs : List Block} {n : Nat} {code : Byte} {content : List Byte} {mstream : Bool}

theorem sendBlocks (hs : Stays s₀ s) : Stays s₀ (sendBlocks l p bs s).2 := hs.same

theorem sendDetect (hs : Stays s₀ s) : Stays s₀ (sendDetect l s) := hs.same

theorem sendPrbs (hs : Stays s₀ s) : Stays s₀ (sendPrbs l s) := hs.same

theorem linkCount {k : Fin 16} (hs : Stays s₀ s) : Stays s₀ (linkCount l k n s) := by
  unfold Machine.linkCount
  dsimp only
  split
  · exact hs.same
  · exact .ite hs.same.raise hs.same

theorem sendSetOn (hs : Stays s₀ s) : Stays s₀ (sendSetOn l p code content s) := hs.sendBlocks.emit

theorem wakeLane (hs : Stays s₀ s) : Stays s₀ (wakeLane l p s) := by
  unfold Machine.wakeLane
  dsimp only
  split
  · exact hs
  · exact .ite hs hs.same
  · exact hs.same.linkCount.sendSetOn

theorem sendSet (hs : Stays s₀ s) : Stays s₀ (sendSet l code content s) := .ite hs.same.wakeLane hs.wakeLane.sendSetOn

theorem sendOwed (hs : Stays s₀ s) : Stays s₀ (sendOwed l s) := hs.same.foldl (fun _ _ k => k.sendSet)

theorem linkStateEvent {old new : Fin 10} (hs : Stays s₀ s) : Stays s₀ (linkStateEvent l old new s) := by
  unfold Machine.linkStateEvent
  split
  · exact hs.raise
  · exact .ite hs.raise (.ite hs.raise hs)

theorem setLinkState {st : Fin 10} (hs : Stays s₀ s) : Stays s₀ (setLinkState l st s) :=
  .ite hs hs.same.linkStateEvent

theorem wakeReasonEvent (hs : Stays s₀ s) : Stays s₀ (wakeReasonEvent l s) := by
  unfold Machine.wakeReasonEvent
  split
  · exact hs.same.raise
  · exact hs

theorem activeFromDeep (hs : Stays s₀ s) : Stays s₀ (activeFromDeep l s) :=
  .ite hs.setLinkState.wakeReasonEvent (.ite hs.same.wakeReasonEvent hs.same.wakeReasonEvent.linkStateEvent)

theorem sendPolicy (hs : Stays s₀ s) : Stays s₀ (sendPolicy l s) := hs.sendSet

theorem announce (hs : Stays s₀ s) : Stays s₀ (announce l s) := .ite hs.sendPolicy (.ite hs.same hs)

theorem startBringUp (hs : Stays s₀ s) : Stays s₀ (startBringUp l s) := hs.same.setLinkState.sendDetect

theorem startBond (hs : Stays s₀ s) : Stays s₀ (startBond s) := .ite hs.startBringUp hs

theorem nextAttempt (hs : Stays s₀ s) : Stays s₀ (nextAttempt l s) := hs.same.setLinkState.sendDetect

theorem movedTaps {n : Nat} {l : List (Nat × Byte)} (hs : Stays s₀ s) : Stays s₀ (movedTaps n l s).2 := by
  induction l generalizing s with
  | nil => exact hs
  | cons x r ih => exact ih (hs.takeFree (w := 8))

theorem adaptTo (hs : Stays s₀ s) : Stays s₀ (adaptTo l s p) := by
  unfold Machine.adaptTo
  refine .ite ?_ hs
  have k := hs.takeFree (w := 8)
  have k' := k.takeFree (w := 8)
  have k'' := k'.movedTaps (n := updatesIn s.links[l].eqSince[p] s.links[l].eqTill[p] s.clock.hubTime 515625 655360000)
    (l := (List.finRange 12).map (fun i => (i.val, s.links[l].eqHub[p].taps[i])))
  exact k''.same

theorem adaptAll (hs : Stays s₀ s) : Stays s₀ (adaptAll l s) := hs.foldl (fun _ _ k => k.adaptTo)

theorem adaptFrom (hs : Stays s₀ s) : Stays s₀ (adaptFrom l p s) := hs.same

theorem noteQueued (hs : Stays s₀ s) : Stays s₀ (noteQueued l s) := by
  unfold Machine.noteQueued
  split
  · exact .ite hs.noteReason (.ite hs.noteReason hs)
  · exact hs

theorem startRetrain {own : Bool} (hs : Stays s₀ s) : Stays s₀ (startRetrain l own s) := by
  unfold Machine.startRetrain
  refine .ite (.sendPrbs (.linkCount (.setLinkState (.updLink ?_)))) hs
  split
  · exact .finish (.linkCount (.ite hs.noteQueued.adaptAll.sendSet hs.noteQueued.adaptAll))
  · exact .linkCount (.ite hs.noteQueued.adaptAll.sendSet hs.noteQueued.adaptAll)

theorem laneEvent {restored : Bool} (hs : Stays s₀ s) : Stays s₀ (laneEvent l p restored s) := by
  unfold Machine.laneEvent
  split
  · exact hs.raise
  · exact hs

theorem sendLaneDown {lost restored spare : BitVec 4} (hs : Stays s₀ s) :
    Stays s₀ (sendLaneDown l lost restored spare s) := hs.sendSet

theorem markLost (hs : Stays s₀ s) : Stays s₀ (markLost l p s) := hs.adaptTo.updLink.linkCount

theorem takeBlocks (hs : Stays s₀ s) : Stays s₀ (takeBlocks l p bs s).2 := .ite hs.same hs.same.linkCount

theorem sendNak {reason : Byte} {q : BitVec 12} (hs : Stays s₀ s) : Stays s₀ (sendNak l reason s q) :=
  hs.wakeLane.sendBlocks.emit

theorem sendNaks (hs : Stays s₀ s) : Stays s₀ (sendNaks l s) :=
  .ite hs (.ite hs.wakeLane (.linkCount (.updLink (hs.foldl (fun _ _ k => k.sendNak)))))

theorem receiveGood {f : RawFrame} (hs : Stays s₀ s) : Stays s₀ (receiveGood l p f s) :=
  .ite hs.same.sendNaks (.ite hs.same.linkCount.sendNaks (.ite hs.same.sendNaks hs.same.sendNaks))

theorem putFrame {idle : Bool} {seq : BitVec 12} {first fill : Nat} {payload : List Byte} (hs : Stays s₀ s) :
    Stays s₀ (putFrame l p idle mstream seq first fill payload s) :=
  .ite hs.same.sendBlocks.emit.linkCount hs.same.sendBlocks.emit

theorem putData (hs : Stays s₀ s) : Stays s₀ (putData l p mstream s) := hs.putFrame.updLink

end

section

/-! `Stays` through the functions of `Sys2Proof/Machine/TunnelOps.lean`. -/

variable {h : HostNo} {tid : Byte} {t : Tunnel} {u : Up} {b : List Byte} {p : RxPacket} {slot : Bool} {c : Commit}

theorem tunEvent {st : Fin 8} (hs : Stays s₀ s) : Stays s₀ (tunEvent h tid st s) := hs.raise

theorem noteTunnel (hs : Stays s₀ s) : Stays s₀ (noteTunnel h tid s) := by
  unfold Machine.noteTunnel
  split
  · exact hs
  · exact .ite hs hs.same.tunEvent

theorem noteTunnels (hs : Stays s₀ s) : Stays s₀ (noteTunnels h s) := hs.foldl (fun _ _ k => k.noteTunnel)

theorem openTid0 (hs : Stays s₀ s) : Stays s₀ (openTid0 h s) := .ite hs hs.same

theorem tellClosed (hs : Stays s₀ s) : Stays s₀ (tellClosed s t) := .ite hs.same hs

theorem dropTunnel (hs : Stays s₀ s) : Stays s₀ (dropTunnel h tid s) := hs.same

theorem closeTid0 (hs : Stays s₀ s) : Stays s₀ (closeTid0 u s) := hs.same

theorem drawCeiling {cls : BitVec 3} {bits : Nat} (hs : Stays s₀ s) : Stays s₀ (drawCeiling h cls bits s) := by
  unfold Machine.drawCeiling
  split
  · exact hs.same
  · exact hs

theorem releaseTunnel (hs : Stays s₀ s) : Stays s₀ (releaseTunnel h tid s) := by
  unfold Machine.releaseTunnel
  split
  · exact hs
  · exact hs.same.drawCeiling

theorem freeUnits {n : Nat} (hs : Stays s₀ s) : Stays s₀ (freeUnits h tid n s) := hs.same.releaseTunnel

theorem drawMessage (hs : Stays s₀ s) : Stays s₀ (drawMessage h tid s) := by
  unfold Machine.drawMessage
  split
  · exact hs
  · refine .ite hs ?_
    split <;> exact hs.same.freeUnits

theorem queueMessage {ends : Bool} (hs : Stays s₀ s) : Stays s₀ (queueMessage ends h tid b s) := by
  unfold Machine.queueMessage
  split
  · exact hs
  · exact .ite hs hs.same.admitHeld

theorem sendMessage (hs : Stays s₀ s) : Stays s₀ (sendMessage h tid b s) := hs.queueMessage

theorem receiveOn (hs : Stays s₀ s) : Stays s₀ (receiveOn h t p s) :=
  .ite hs.same.freeUnits (.ite hs.same.freeUnits.logFault (.ite hs.same (.ite hs.same hs.same.drawMessage)))

theorem receivePacket (hs : Stays s₀ s) : Stays s₀ (receivePacket u p s) := by
  unfold Machine.receivePacket
  refine .ite hs.same (.ite ?_ ?_)
  · refine .ite hs.same ?_
    split
    · exact .ite hs.same.freeUnits hs.same
    · exact hs.same
  · split
    · exact hs.same
    · exact .ite hs.same hs.receiveOn.noteTunnel

theorem crossArrives (hs : Stays s₀ s) : Stays s₀ (crossArrives p s) := by
  unfold Machine.crossArrives
  refine .ite hs ?_
  split
  · exact hs
  · exact .ite hs.same.drawMessage hs.same.admitHeld

theorem takeBond (hs : Stays s₀ s) : Stays s₀ (takeBond s) :=
  .ite (hs.same.foldl (fun _ _ k => k.crossArrives)) hs.same

theorem sendPacket {p : TxPacket} {pop mgmt : Bool} (hs : Stays s₀ s) : Stays s₀ (sendPacket u t p pop mgmt s) :=
  hs.same.admitHeld

theorem gatherFar (hs : Stays s₀ s) : Stays s₀ (gatherFar s t) := by
  unfold Machine.gatherFar
  split
  · exact hs
  · exact hs.same.admitHeld

theorem gatherBond (hs : Stays s₀ s) : Stays s₀ (gatherBond s) := hs.same.foldl (fun _ _ k => k.gatherFar)

theorem putBond {p : TxPacket} (hs : Stays s₀ s) : Stays s₀ (putBond slot t p s) := hs.same

theorem fillBond {n : Nat} (hs : Stays s₀ s) : Stays s₀ (fillBond slot n s) := by
  induction n generalizing s with
  | zero => exact hs
  | succ n ih =>
    unfold Machine.fillBond
    refine .ite hs ?_
    split
    · exact hs
    · exact ih hs.same.putBond

theorem bondCredit (hs : Stays s₀ s) : Stays s₀ (bondCredit slot s) := hs.foldl (fun _ _ k => k.same)

theorem serveBond (hs : Stays s₀ s) : Stays s₀ (serveBond slot s) := hs.gatherBond.fillBond.bondCredit

theorem selectNext (hs : Stays s₀ s) : Stays s₀ (selectNext u s) := by
  unfold Machine.selectNext
  dsimp only
  split
  · exact hs.sendPacket
  · split
    · exact hs.sendPacket
    · split
      · exact hs.same.sendPacket
      · refine .ite hs ?_
        split
        · exact hs
        · split
          · exact hs.same
          · exact hs.same.sendPacket

theorem shaperReject {field : Nat} (hs : Stays s₀ s) : Stays s₀ (shaperReject h field s) := hs.raise

theorem commitReply {status : Half} {payload : List Byte} (hs : Stays s₀ s) :
    Stays s₀ (commitReply c status payload s) := hs.respondTo

theorem applyCommit (hs : Stays s₀ s) : Stays s₀ (applyCommit c s) := by
  unfold Machine.applyCommit
  split
  · split
    · exact hs.commitReply
    · exact .ite hs.commitReply (.ite
        (.commitReply (.ite (.shaperReject (.ite hs.shaperReject hs)) (.ite hs.shaperReject hs)))
        hs.same.commitReply.noteTunnel)
  · split
    · exact hs.commitReply
    · exact .ite hs.commitReply (.ite hs.shaperReject.commitReply hs.same.commitReply.noteTunnel)
  · exact .ite hs.shaperReject.commitReply hs.same.commitReply

theorem runCommits {l done : List Commit} (hs : Stays s₀ s) : Stays s₀ (runCommits l done s) := by
  induction l generalizing s done with
  | nil => exact hs
  | cons c r ih => exact .ite (ih hs.same) (ih hs.applyCommit)

theorem closeIfFull (hs : Stays s₀ s) : Stays s₀ (closeIfFull s) := .ite hs.same.raise hs

theorem sampleRefill (hs : Stays s₀ s) : Stays s₀ (sampleRefill s) := by
  unfold Machine.sampleRefill
  refine .ite hs (.ite hs.same (.ite (.closeIfFull ?_) hs.same))
  exact (hs.keeps (.window s _ _)).same

theorem refill (hs : Stays s₀ s) : Stays s₀ (refill s) :=
  .sampleRefill (.setTunnels (.foldl
    (.setTunnelsScheds (hs.same.runCommits.foldl (fun _ _ k => .ite k.same.noteTunnels k)))
    (fun _ _ k => k.releaseTunnel)))

end

section

/-! `Stays` through the functions of `Sys2Proof/Machine/DisplayOps.lean`. -/

variable {h : HostNo} {o : OutNo} {g : Fin 6} {m : Memory} {b : List Byte}

theorem freeRegion {h : Half} (hs : Stays s₀ s) : Stays s₀ (freeRegion h s) := by
  unfold Machine.freeRegion
  split
  · exact hs
  · exact hs.same.raise

theorem endLease {r : Region} (hs : Stays s₀ s) : Stays s₀ (endLease s r) := .ite hs.raise.freeRegion hs

theorem endLeases (hs : Stays s₀ s) : Stays s₀ (endLeases s) := hs.foldl (fun _ _ k => k.endLease)

theorem holdOutputs {cause : Fin 4} {map : BitVec 4} (hs : Stays s₀ s) : Stays s₀ (holdOutputs cause map s) :=
  .ite hs hs.same.raise

theorem leaveHold (hs : Stays s₀ s) : Stays s₀ (leaveHold o s) := .ite hs.same.raise hs

theorem finishGroup {st : Half} (hs : Stays s₀ s) : Stays s₀ (finishGroup o g st s) := .ite hs hs.finish

theorem applyGroup (hs : Stays s₀ s) : Stays s₀ (applyGroup o s g) := by
  unfold Machine.applyGroup
  split
  · exact hs
  · exact .ite hs (.ite (.finishGroup (.ite hs.same hs.same)) hs.same.raise.finishGroup)

theorem installMirror {m : Fin 6 × List Word × Word} (hs : Stays s₀ s) : Stays s₀ (installMirror o s m) :=
  hs.same.finishGroup

theorem applyMirror (hs : Stays s₀ s) : Stays s₀ (applyMirror o s) := hs.same.foldl (fun _ _ k => k.installMirror)

theorem applyMirrorSet {ws : List Word} {frame : Word} (hs : Stays s₀ s) : Stays s₀ (applyMirrorSet o g ws frame s) :=
  hs.same.applyMirror

theorem safePoint (hs : Stays s₀ s) : Stays s₀ (safePoint o s) :=
  .endLeases (.updOut (hs.foldl (fun _ _ k => k.applyGroup)))

theorem requestCommit {claim : Option (Fin 8)} {release : Bool} (hs : Stays s₀ s) :
    Stays s₀ (requestCommit o g claim release s) := .updOut (.ite hs.same.finishGroup hs)

theorem settleOff (hs : Stays s₀ s) : Stays s₀ (settleOff o s) := .ite hs.safePoint.leaveHold hs

theorem clearPoison {f : Nat → Bool} (hs : Stays s₀ s) : Stays s₀ (clearPoison f s) := .ite hs hs.same

/-- Pixels written in a canonical memory leave it canonical. -/
theorem writePixels_wf {m : Memory} {base stride x y w : Nat} {ps : List (List Byte)} (hm : memWf m = true) :
    memWf (writePixels m base stride x y w ps) = true := by
  unfold Machine.writePixels
  generalize ps.zipIdx = l
  induction l generalizing m with
  | nil => exact hm
  | cons p r ih => exact ih (memWrite_wf _ _ _ hm)

/-- A tile lands on a canonical frame store. -/
theorem landTile (hs : Stays s₀ s) (hm : memWf s.disp.mem = true → memWf m = true) : Stays s₀ (landTile m s) :=
  (hs.keeps (.frameStore s m hm)).same

theorem countTileBad (hs : Stays s₀ s) : Stays s₀ (countTileBad h s) := hs.same

theorem runTile (hs : Stays s₀ s) : Stays s₀ (runTile h b s) := by
  unfold Machine.runTile
  refine .ite hs.countTileBad ?_
  split
  · exact hs.countTileBad
  · refine .ite hs.same.raise (.ite hs.same (.ite hs.countTileBad (.ite ?_ ?_)))
    · split
      · exact hs.countTileBad
      · exact hs.same
      · exact (hs.landTile writePixels_wf).clearPoison
    · split
      · exact hs.countTileBad
      · exact (hs.landTile writePixels_wf).clearPoison

theorem flipLayer {kr : Fin 4 × LayerRegs} (hs : Stays s₀ s) : Stays s₀ (flipLayer h o s kr) :=
  .ite hs.same.requestCommit hs.raise

theorem runFlip (hs : Stays s₀ s) : Stays s₀ (runFlip h b s) :=
  .ite hs.same (.ite hs (.settleOff (.foldl (.ite hs hs.same) (fun _ _ k => k.flipLayer))))

theorem clearPoison_disp {f : Nat → Bool} : (Machine.clearPoison f s).disp = s.disp := by
  unfold Machine.clearPoison
  split <;> rfl

theorem landHold {r : Requester} (hs : Stays s₀ s) (hm : memWf s.disp.mem = true → memWf m = true) :
    Stays s₀ (landHold r b m s) :=
  .ite (hs.clearPoison.landTile (by rwa [clearPoison_disp])) hs.raise

theorem noteHoldReads (hs : Stays s₀ s) : Stays s₀ (noteHoldReads o s) := .ite hs.raise hs

theorem displayLose (hs : Stays s₀ s) : Stays s₀ (displayLose h s).1 := by
  have put {u : State} {rs : List Region} {os : Vector Output 4} (k : Stays s₀ u) :
      Stays s₀ { u with disp := { u.disp with regions := rs, outs := os } } := k.same
  unfold Machine.displayLose
  exact put (hs.foldl (fun _ _ k => k.foldl (fun _ _ k' => .ite k'.updOut.finishGroup k')))

theorem showLink (hs : Stays s₀ s) : Stays s₀ (showLink s o) := hs.same

theorem sendTiming (hs : Stays s₀ s) : Stays s₀ (sendTiming s o) := .ite hs.same hs

theorem lockTiming {t : OutTiming} (hs : Stays s₀ s) : Stays s₀ (lockTiming o t s) :=
  .ite hs hs.same.applyMirror.showLink

end

section

/-! `Stays` through the functions of `Sys2Proof/Machine/PcieOps.lean`. -/

variable {p : PciePort} {f : SwitchFn} {h : HostNo} {tlp t : List Byte} {off bits code cpl down : Nat} {st : Fin 9}
variable {tid status log writeStatus cplLog : Byte} {r : NpRequest} {toHost : Bool} {why : DpcCause}

theorem updPort {f : PciePortState → PciePortState} (hs : Stays s₀ s) : Stays s₀ (updPort p f s) := hs.same

theorem sendToHost (hs : Stays s₀ s) : Stays s₀ (sendToHost h tlp s) := by
  unfold Machine.sendToHost
  split
  · dsimp only
    split
    · exact hs.sendMessage.updTunnel.admitHeld
    · exact hs.sendMessage.updTunnel
  · exact hs

theorem cfgSet {v : Word} (hs : Stays s₀ s) : Stays s₀ (cfgSet h f off v s) :=
  hs.memories (hc := cfgWf_upd h f (fun _ k => sparsePut_wf _ _ _ _ k))

theorem cfgOr (hs : Stays s₀ s) : Stays s₀ (cfgOr h f off bits s) := hs.cfgSet

theorem cfgClear (hs : Stays s₀ s) : Stays s₀ (cfgClear h f off bits s) := hs.cfgSet

theorem aerRecord {bit : Nat} (hs : Stays s₀ s) : Stays s₀ (aerRecord h f bit tlp s) :=
  .ite (hs.cfgOr.foldl (fun _ _ k => k.cfgSet)) hs.cfgOr

theorem errMessage (hs : Stays s₀ s) : Stays s₀ (errMessage h code s) := hs.sendToHost

theorem sendMsi (hs : Stays s₀ s) : Stays s₀ (sendMsi h p s) := .ite hs.sendToHost hs

theorem mirrorSlot (hs : Stays s₀ s) : Stays s₀ (mirrorSlot p s) :=
  hs.foldl (fun _ _ k => .cfgSet (.cfgSet (.ite k.cfgSet.cfgSet.cfgSet.cfgClear k.cfgSet.cfgSet.cfgSet)))

theorem slotEvent (hs : Stays s₀ s) : Stays s₀ (slotEvent p code s) := hs.raise

theorem slotChange (hs : Stays s₀ s) : Stays s₀ (slotChange p bits code s) := by
  unfold Machine.slotChange
  split
  · exact hs.slotEvent
  · exact .slotEvent (.ite hs.cfgOr.sendMsi hs.cfgOr)

theorem mirrorPort (hs : Stays s₀ s) : Stays s₀ (mirrorPort p s) := by
  unfold Machine.mirrorPort
  dsimp only
  split
  · exact hs
  · exact .ite (.cfgOr (.cfgClear (.ite hs.cfgOr hs.cfgClear))) (.cfgClear (.ite hs.cfgOr hs.cfgClear))

theorem setPortState (hs : Stays s₀ s) : Stays s₀ (setPortState p st s) := .ite hs hs.same.mirrorPort.raise

theorem internalError (hs : Stays s₀ s) : Stays s₀ (internalError h t s) :=
  .ite hs.aerRecord (.ite (.ite hs.aerRecord.errMessage hs.aerRecord) (.ite hs.aerRecord.errMessage hs.aerRecord))

theorem lostWrite (hs : Stays s₀ s) : Stays s₀ (lostWrite h tid p t status s) := by
  unfold Machine.lostWrite
  dsimp only
  split
  · split
    · exact .ite hs.same hs.same.internalError.raise
    · exact hs
  · exact hs.same.internalError.raise

theorem logCompletion (hs : Stays s₀ s) : Stays s₀ (logCompletion h tid p t status s) := hs.same.raise

theorem prefetchDiscard {e : PrefetchEntry} (hs : Stays s₀ s) : Stays s₀ (prefetchDiscard p e status s) :=
  .ite hs.same.setPcie hs.same.setPcie.raise

theorem takeEntries {f : PrefetchEntry → Bool} (hs : Stays s₀ s) : Stays s₀ (takeEntries p f status s) :=
  hs.same.foldl (fun _ _ k => .ite k.prefetchDiscard k)

theorem sendTlp (hs : Stays s₀ s) : Stays s₀ (sendTlp p s t) := .ite hs.feedSig hs.feedSig.emit

theorem returnCpl {rid : Half} {cpl : List Byte} (hs : Stays s₀ s) : Stays s₀ (returnCpl h rid cpl s) := by
  unfold Machine.returnCpl
  split
  · exact .ite hs.sendTlp hs
  · exact hs.sendToHost

theorem answerNp {status : Nat} (hs : Stays s₀ s) : Stays s₀ (answerNp r status s) := .ite hs.sendTlp hs.returnCpl

theorem endList {rs : List NpRequest} {status : Nat} (hs : Stays s₀ s) : Stays s₀ (endList rs status log s) :=
  hs.foldl (fun _ _ k => k.answerNp.logCompletion)

theorem endRequests {status : Nat} (hs : Stays s₀ s) : Stays s₀ (endRequests p toHost status log s) := hs.same.endList

theorem drainPort (hs : Stays s₀ s) : Stays s₀ (drainPort p s) := .ite (hs.same.foldl (fun _ _ k => k.sendTlp)) hs

theorem losePosted (hs : Stays s₀ s) : Stays s₀ (losePosted p status s) := hs.same.foldl (fun _ _ k => k.lostWrite)

theorem toDevice (hs : Stays s₀ s) : Stays s₀ (toDevice h tid p t s) :=
  .ite (.ite hs.sendTlp.updPort hs.sendTlp) (.ite (.ite hs.lostWrite hs) (.ite hs.same.drainPort
    (.ite hs.lostWrite hs)))

theorem forwardNp (hs : Stays s₀ s) : Stays s₀ (forwardNp r s) :=
  .ite (.ite hs.same.sendToHost hs.same.toDevice) (.ite hs.same hs.answerNp.logCompletion)

theorem forwardHeld (hs : Stays s₀ s) : Stays s₀ (forwardHeld p toHost s) := by
  unfold Machine.forwardHeld
  split
  · exact hs
  · exact .ite hs.same.forwardNp hs

theorem dropPrefetch {f : PrefetchEntry → Bool} (hs : Stays s₀ s) : Stays s₀ (dropPrefetch p f status s) :=
  hs.takeEntries.foldl (fun _ _ k => k.forwardNp)

theorem grantLock (hs : Stays s₀ s) : Stays s₀ (grantLock s) := by
  unfold Machine.grantLock
  split
  · exact hs.same.forwardNp
  · exact hs

theorem releaseLock {unlock : Bool} (hs : Stays s₀ s) : Stays s₀ (releaseLock unlock s) := by
  unfold Machine.releaseLock
  split
  · exact hs
  · exact .grantLock (.foldl (.ite hs.same hs.same.raise) (fun _ _ k => .ite k.toDevice k.forwardNp))

theorem releaseLockOn (hs : Stays s₀ s) : Stays s₀ (releaseLockOn p s) := by
  unfold Machine.releaseLockOn
  split
  · exact .ite hs.releaseLock hs
  · exact hs

theorem releaseLockOf (hs : Stays s₀ s) : Stays s₀ (releaseLockOf h s) := by
  unfold Machine.releaseLockOf
  split
  · exact .ite hs.releaseLock hs
  · exact hs

theorem endWaiting (hs : Stays s₀ s) : Stays s₀ (endWaiting p writeStatus down s) :=
  .endList (hs.same.foldl (fun _ _ k => k.lostWrite))

theorem stopTraffic (hs : Stays s₀ s) : Stays s₀ (stopTraffic p writeStatus down cplLog cpl s) :=
  hs.losePosted.endWaiting.endRequests.endRequests.takeEntries.endList.releaseLockOn

theorem quiescePort (hs : Stays s₀ s) : Stays s₀ (quiescePort p writeStatus cplLog cpl s) := hs.stopTraffic

theorem noteSlot (hs : Stays s₀ s) : Stays s₀ (noteSlot p bits code s) := .ite hs.slotEvent hs.slotChange

theorem dropLink (hs : Stays s₀ s) : Stays s₀ (dropLink p st s) := .ite hs.setPortState.noteSlot hs.setPortState

theorem disablePort (hs : Stays s₀ s) : Stays s₀ (disablePort p s) := hs.same.dropLink

theorem parkPort (hs : Stays s₀ s) : Stays s₀ (parkPort p s) := hs.same.setPortState

theorem holdContained (hs : Stays s₀ s) : Stays s₀ (holdContained p s) := hs.same.setPortState

theorem resetPort (hs : Stays s₀ s) : Stays s₀ (resetPort p s) :=
  .ite hs.parkPort (.ite hs.holdContained hs.same.setPortState)

theorem settlePort (hs : Stays s₀ s) : Stays s₀ (settlePort s p) :=
  .ite (.ite hs.resetPort hs) (.ite hs hs.quiescePort.disablePort)

theorem trainPort (hs : Stays s₀ s) : Stays s₀ (trainPort p s) :=
  .ite hs.parkPort (.ite hs.holdContained hs.same.setPortState)

theorem powerOffSlot (hs : Stays s₀ s) : Stays s₀ (powerOffSlot p s) := hs.quiescePort.updPort.disablePort.slotChange

theorem powerOnSlot (hs : Stays s₀ s) : Stays s₀ (powerOnSlot p s) := hs.same.settlePort.slotChange

theorem dpcRecord (hs : Stays s₀ s) : Stays s₀ (dpcRecord h p why s) :=
  .ite hs.cfgClear.cfgOr.sendMsi hs.cfgClear.cfgOr

theorem containPort (hs : Stays s₀ s) : Stays s₀ (containPort p why s) := by
  unfold Machine.containPort
  refine .raise (.dropLink (.stopTraffic ?_))
  split
  · exact hs.dpcRecord
  · exact hs

theorem losePort (hs : Stays s₀ s) : Stays s₀ (losePort h s p) := .ite hs.quiescePort.disablePort hs

theorem abandonStorage {t : Tunnel} (hs : Stays s₀ s) : Stays s₀ (abandonStorage t s) := by
  unfold Machine.abandonStorage
  refine .foldl (hs.foldl (fun _ _ k => .ite k.lostWrite k)) (fun _ _ k => (.ite ?_ k))
  split
  · exact k.lostWrite
  · exact k

theorem pcieLose {t : Option Tunnel} (hs : Stays s₀ s) : Stays s₀ (pcieLose h t s) := by
  unfold Machine.pcieLose
  refine .releaseLockOf ?_
  split
  · exact .abandonStorage (hs.foldl (fun _ _ k => k.losePort))
  · exact hs.foldl (fun _ _ k => k.losePort)

theorem settlePorts (hs : Stays s₀ s) : Stays s₀ (settlePorts s) := hs.foldl (fun _ _ k => k.settlePort)

end

section

/-! `Stays` through the functions of `Sys2Proof/Machine/UsbOps.lean`. -/

variable {n : Fin 8} {ss discarded on : Bool} {h : HostNo} {tid : Byte} {status actual function : Nat}
variable {data setup b : List Byte} {r : UsbRequest} {bits : Half} {t : Tunnel}

theorem egress {e : Emit} (hs : Stays s₀ s) : Stays s₀ (egress e s) := .ite hs hs.same

theorem updUsb {f : Usb → Usb} (hs : Stays s₀ s) : Stays s₀ (updUsb f s) := hs.same

theorem updUsbPort {f : UsbPort → UsbPort} (hs : Stays s₀ s) : Stays s₀ (updUsbPort n f s) := hs.same

theorem updHalf {f : UsbHalf → UsbHalf} (hs : Stays s₀ s) : Stays s₀ (updHalf ss n f s) := hs.same

theorem setUsbPower {k : Fin 5} (hs : Stays s₀ s) : Stays s₀ (setUsbPower ss n k s) := hs.same

theorem settleEfuses (hs : Stays s₀ s) : Stays s₀ (settleEfuses s) := hs.same

theorem clearOverCurrent (hs : Stays s₀ s) : Stays s₀ (clearOverCurrent n s) := hs.same

theorem rearmEfuse {ch : Fin 6} (hs : Stays s₀ s) : Stays s₀ (rearmEfuse ch s) :=
  .ite hs (.ite hs.same.clearOverCurrent hs.same)

theorem settleRole (hs : Stays s₀ s) : Stays s₀ (settleRole s n) := .ite hs.same (.ite hs (.ite hs.same hs.same))

theorem settlePorts7 (hs : Stays s₀ s) : Stays s₀ (settlePorts7 s) :=
  .settleEfuses (hs.foldl (fun _ _ k => k.settleRole))

theorem sendCompletion {hdr : List Byte} (hs : Stays s₀ s) :
    Stays s₀ (sendCompletion h tid hdr status actual data s) :=
  .queueMessage (.ite hs (.ite hs.same (.ite hs.same hs)))

theorem endUsb {f : UsbRequest → Bool} (hs : Stays s₀ s) : Stays s₀ (endUsb f status s) :=
  hs.same.foldl (fun _ _ k => k.sendCompletion)

theorem setRequest {q : UsbRequest} (hs : Stays s₀ s) : Stays s₀ (setRequest r q s) := hs.same

theorem putOnBus (hs : Stays s₀ s) : Stays s₀ (putOnBus r s) := hs.egress

theorem issueUsb (hs : Stays s₀ s) : Stays s₀ (issueUsb r s) := .putOnBus (.setRequest (.ite hs.feedSig hs))

theorem startReady (hs : Stays s₀ s) : Stays s₀ (startReady s) := hs.foldl (fun _ _ k => .ite k.issueUsb k)

theorem reportChange (hs : Stays s₀ s) : Stays s₀ (reportChange ss n s) := by
  unfold Machine.reportChange
  refine .ite hs (.raise ?_)
  split
  · exact hs.same.sendMessage
  · exact hs.same

theorem setChange (hs : Stays s₀ s) : Stays s₀ (setChange ss n bits s) := hs.same.reportChange

theorem powerOffHalf (hs : Stays s₀ s) : Stays s₀ (powerOffHalf ss n s) := hs.same.endUsb

theorem settleVbus (hs : Stays s₀ s) : Stays s₀ (settleVbus n s) := hs.same

theorem resetUsbPorts {complete : Bool} (hs : Stays s₀ s) : Stays s₀ (resetUsbPorts complete s) :=
  .settlePorts7 (hs.foldl (fun _ _ k => .ite k (.updUsbPort (.ite k.powerOffHalf.powerOffHalf k.same))))

theorem resetMgmt (hs : Stays s₀ s) : Stays s₀ (resetMgmt discarded s) := by
  unfold Machine.resetMgmt
  refine .raise ?_
  split <;> exact hs.same

theorem presentUsb (hs : Stays s₀ s) : Stays s₀ (presentUsb s) :=
  .ite hs.same.settlePorts7.finish hs.same.settlePorts7

theorem moveUsb {new : HostNo} (hs : Stays s₀ s) : Stays s₀ (moveUsb new s) := by
  unfold Machine.moveUsb
  exact hs.same.resetMgmt.resetUsbPorts.updUsb.presentUsb

theorem usbLose (hs : Stays s₀ s) : Stays s₀ (usbLose h s) := by
  unfold Machine.usbLose
  refine .ite hs (.ite hs.same ?_)
  dsimp only
  split
  · exact hs.same
  · exact hs.same.moveUsb

theorem usbReturns (hs : Stays s₀ s) : Stays s₀ (usbReturns s) := .ite hs.moveUsb hs

theorem setStatus (hs : Stays s₀ s) : Stays s₀ (setStatus ss n bits on s) := hs.same

theorem plugInternal (hs : Stays s₀ s) : Stays s₀ (plugInternal ss n s) := .ite hs hs.same.setChange

theorem typeFlags (hs : Stays s₀ s) : Stays s₀ (typeFlags s) := hs.foldl (fun _ _ k => k.same)

theorem resetInternal (hs : Stays s₀ s) : Stays s₀ (resetInternal discarded ss n s) :=
  .ite hs.resetMgmt.typeFlags hs.resetMgmt.typeFlags.setUsbPower.setStatus.setChange

theorem getPortStatus (hs : Stays s₀ s) : Stays s₀ (getPortStatus ss n s).1 := hs.same

theorem testL1 {besl : Nat} (hs : Stays s₀ s) : Stays s₀ (testL1 n besl s).1 := .iteFst hs (.iteFst hs.same hs.same)

theorem ttRequest (hs : Stays s₀ s) : Stays s₀ (ttRequest n setup s).1 := by
  unfold Machine.ttRequest
  dsimp only
  split
  · exact hs
  · exact hs.same
  · exact hs.same
  · exact hs.same
  · exact hs

theorem setPortFeature {sel : Nat} (hs : Stays s₀ s) : Each s₀ (setPortFeature ss n feature sel s) := by
  unfold Machine.setPortFeature
  dsimp only
  split
  · exact .some (.ite (.resetInternal (.endUsb (.ite hs hs.setStatus))) (.endUsb (.ite hs hs.setStatus)))
  · exact .some (.ite hs.setStatus.plugInternal (.ite hs.setStatus.rearmEfuse.settleVbus hs))
  · exact .ite .none (.some hs.setUsbPower)
  · exact .ite .none (.ite (.ite (.some hs.setUsbPower) .none) (.ite (.some hs.setUsbPower)
      (.ite (.some (.ite hs.setUsbPower.egress hs.setUsbPower)) (.some hs))))
  · exact .ite (.some hs.updUsbPort) .none
  · exact .ite (.some hs.updUsbPort) .none
  · exact .ite (.some hs) .none
  · exact .ite .none (.ite (.some hs.endUsb.resetInternal) (.some hs.setStatus.endUsb))
  · exact .none

theorem clearPortFeature (hs : Stays s₀ s) : Each s₀ (clearPortFeature ss n feature s) := by
  unfold Machine.clearPortFeature
  split
  · exact .some hs.updHalf
  · split
    · exact .ite .none (.some hs.setStatus.endUsb)
    · exact .ite .none (.some (.ite hs.setUsbPower hs.setUsbPower.egress))
    · exact .some (.ite hs.powerOffHalf hs.powerOffHalf.settleVbus)
    · exact .none

theorem hubRequest (hs : Stays s₀ s) : Stays s₀ (hubRequest ss setup s).1 := by
  have done (o : Option State) (h : Each s₀ o) :
      Stays s₀ (match o with | some t => (t, some ([] : List Byte)) | none => (s, none)).1 := by
    cases o with
    | none => exact hs
    | some u => exact h u rfl
  unfold Machine.hubRequest
  dsimp only
  split
  · exact hs
  · exact hs
  · exact hs
  · exact hs
  · exact .iteFst hs.same hs
  · exact .iteFst hs.getPortStatus hs
  · exact .iteFst hs hs.testL1
  · exact .iteFst (done _ hs.setPortFeature) hs
  · exact .iteFst (done _ hs.clearPortFeature) hs
  · exact .iteFst hs.ttRequest hs

theorem upstreamEnable {feature : Nat} (hs : Stays s₀ s) : Stays s₀ (upstreamEnable ss function feature on s) :=
  .ite hs (.ite hs.same (.ite hs.same hs))

theorem standardRequest (hs : Stays s₀ s) : Stays s₀ (standardRequest ss function setup s).1 := by
  unfold Machine.standardRequest
  split
  · exact hs.same.settlePorts7
  · exact .ite hs.same hs
  · exact hs.upstreamEnable
  · exact hs.upstreamEnable
  · exact hs
  · exact hs
  · exact .iteFst hs (.iteFst hs.same (.iteFst hs.same hs))
  · exact hs
  · exact hs
  · exact hs
  · exact hs
  · exact hs
  · exact hs
  · exact hs

theorem runRequest (hs : Stays s₀ s) : Stays s₀ (runRequest t b s) :=
  .ite hs.sendCompletion (.ite hs.sendCompletion (.ite hs.sendCompletion (.ite hs.sendCompletion
    (.ite (.ite hs.feedSig hs) (.ite hs.sendCompletion (.ite hs.sendCompletion (.ite hs.same.egress hs.same.startReady)))))))

theorem endRequest (hs : Stays s₀ s) : Stays s₀ (endRequest r status actual data s) := hs.same.sendCompletion

theorem finishUsb (hs : Stays s₀ s) : Stays s₀ (finishUsb r status actual data s) := hs.endRequest.startReady

theorem cancelRequest (hs : Stays s₀ s) : Stays s₀ (cancelRequest r s) :=
  .ite (.ite hs.endRequest hs.endRequest) (.ite hs.endRequest (.ite hs.same.endRequest hs.same.endRequest))

theorem runCancel (hs : Stays s₀ s) : Stays s₀ (runCancel h b s) := by
  unfold Machine.runCancel
  split
  · exact hs
  · exact hs.cancelRequest.startReady

theorem cancelTunnel (hs : Stays s₀ s) : Stays s₀ (cancelTunnel h tid s) :=
  .startReady (hs.foldl (fun _ _ k => k.cancelRequest))

theorem runHubRequest (hs : Stays s₀ s) : Stays s₀ (runHubRequest t b s) := by
  unfold Machine.runHubRequest
  refine .ite hs.sendMessage ?_
  dsimp only
  split <;> exact hs.hubRequest.sendMessage

theorem runMalformed (hs : Stays s₀ s) : Stays s₀ (runMalformed t b s) := .ite hs.sendMessage hs.same

theorem endpointError {ep : Fin 16} (hs : Stays s₀ s) : Stays s₀ (endpointError ep s) := .ite hs hs.same.raise

end

section

/-! `Stays` through the functions of `Sys2Proof/Machine/NetOps.lean`. -/

variable {p : SwPort} {f : NetFrame} {q : Fin 8} {b : List Byte} {good : Bool} {e : EthPort} {u len : Nat}

theorem updSw {f : NetPort → NetPort} (hs : Stays s₀ s) : Stays s₀ (updSw p f s) := hs.same

theorem updQueue {f : NetQueue → NetQueue} (hs : Stays s₀ s) : Stays s₀ (updQueue p q f s) := hs.same

theorem netCount {k : Fin 24} {n : Nat} (hs : Stays s₀ s) : Stays s₀ (netCount p k n s) := .ite hs.same.raise hs.same

theorem sweepFrames (hs : Stays s₀ s) : Stays s₀ (sweepFrames s) := hs.same

theorem sendEth {p : EthPort} (hs : Stays s₀ s) : Stays s₀ (sendEth p b good s) := hs.netCount.netCount.egress

theorem sendPause {quanta : Nat} (hs : Stays s₀ s) : Stays s₀ (sendPause e u quanta s) := .ite hs.sendEth.netCount hs

theorem checkUnit (hs : Stays s₀ s) : Stays s₀ (checkUnit e s u) := .ite hs.same.sendPause (.ite hs.same.sendPause hs)

theorem checkUnits (hs : Stays s₀ s) : Stays s₀ (checkUnits s) :=
  hs.foldl (fun _ _ k => k.foldl (fun _ _ k' => k'.checkUnit))

/-- The state after the next message of a tunnel is taken. -/
theorem takeMessage {m : Message} (hs : Stays s₀ s) (he : takeMessage h tid s = some (m, t)) : Stays s₀ t := by
  unfold Machine.takeMessage at he
  split at he
  · cases he
  · split at he
    · cases he
    · cases he
      exact hs.updTunnel.freeUnits.drawMessage

theorem releaseSeq {n : Nat} (hs : Stays s₀ s) : Stays s₀ (releaseSeq p q n s) := by
  induction n generalizing s with
  | zero => exact hs
  | succ n ih => exact .ite (ih hs.updQueue) hs

theorem reseqEvent {p : EthPort} (hs : Stays s₀ s) : Stays s₀ (reseqEvent p s) := .ite hs hs.same.raise

theorem giveUp {p : EthPort} (hs : Stays s₀ s) : Stays s₀ (giveUp p q s) := hs.same.netCount.reseqEvent.releaseSeq

theorem settleSeq {p : EthPort} {n : Nat} (hs : Stays s₀ s) : Stays s₀ (settleSeq p q n s) := by
  induction n generalizing s with
  | zero => exact hs
  | succ n ih => exact .ite (.ite (ih hs.giveUp) hs) (.ite (ih hs.updQueue.releaseSeq) hs)

theorem issueReads {p : EthPort} {n : Nat} (hs : Stays s₀ s) : Stays s₀ (issueReads p q n s) := by
  induction n generalizing s with
  | zero => exact hs
  | succ n ih =>
    unfold Machine.issueReads
    dsimp only
    split
    · exact hs
    · split
      · exact hs
      · exact .ite (ih hs.updQueue) hs

theorem settleQueue {p : EthPort} (hs : Stays s₀ s) : Stays s₀ (settleQueue p q s) :=
  hs.releaseSeq.settleSeq.issueReads

theorem settleNet (hs : Stays s₀ s) : Stays s₀ (settleNet s) :=
  .checkUnits (hs.same.foldl (fun _ _ k => k.foldl (fun _ _ k' => k'.issueReads)))

theorem placeDram (hs : Stays s₀ s) : Stays s₀ (placeDram e q f s) :=
  .ite hs.netCount (.ite hs.same.netCount.raise hs.same.netCount)

theorem placeFrame {id : Nat} (hs : Stays s₀ s) : Stays s₀ (placeFrame id s p) := by
  unfold Machine.placeFrame
  split
  · exact hs
  · refine .ite hs.netCount (.ite ?_ ?_)
    · split
      · exact hs.placeDram.settleQueue
      · exact hs
    · refine .ite ?_ ?_
      · split
        · exact hs.same.settleQueue
        · exact hs.same.releaseSeq
      · split
        · refine .ite ?_ ?_
          · split
            · exact hs.same.settleQueue
            · exact hs.same.releaseSeq
          · refine .ite ?_ hs.netCount
            split
            · exact hs.same.settleQueue
            · exact hs.same.releaseSeq
        · split
          · exact .ite hs.placeDram.settleQueue hs.netCount
          · exact hs.netCount

theorem learnAddr {a : BitVec 48} {vid : BitVec 12} (hs : Stays s₀ s) : Stays s₀ (learnAddr p a vid s) := by
  unfold Machine.learnAddr
  dsimp only
  split
  · exact .ite hs (.ite hs.netCount hs.same)
  · split
    · exact hs.same
    · exact hs.netCount

theorem stormPass {k : Fin 3} (hs : Stays s₀ s) : Stays s₀ (stormPass p k len s).2 :=
  .iteSnd hs (.iteSnd hs.netCount hs.same)

theorem storeFrame {ps : List SwPort} (hs : Stays s₀ s) : Stays s₀ (storeFrame f ps s) :=
  .checkUnits (.sweepFrames (hs.same.foldl (fun _ _ k => k.placeFrame)))

theorem forwardPorts (hs : Stays s₀ s) : Stays s₀ (forwardPorts f s).2 := by
  unfold Machine.forwardPorts
  dsimp only
  split
  · exact .iteSnd hs (.iteSnd hs.netCount hs)
  · exact hs.stormPass

theorem ingressPorts (hs : Stays s₀ s) : Stays s₀ (ingressPorts f s).2 := by
  unfold Machine.ingressPorts
  refine .iteSnd hs.netCount (.iteSnd ?_ (.iteSnd hs.netCount (.iteSnd hs.forwardPorts hs.learnAddr.forwardPorts)))
  split
  · exact hs.netCount
  · exact hs

theorem ingressFrame (hs : Stays s₀ s) : Stays s₀ (ingressFrame p b len s) :=
  .ite hs.ingressPorts hs.ingressPorts.storeFrame

theorem macControl {data : List Byte} (hs : Stays s₀ s) : Stays s₀ (macControl e data s) :=
  .ite (.ite hs.netCount.updSw hs.netCount) (.ite
    (.ite (hs.netCount.foldl (fun _ _ k => .ite k.same k)) hs.netCount)
    hs.netCount)

theorem sendQueued {o : EthPort} (hs : Stays s₀ s) : Stays s₀ (sendQueued o q b good s) := hs.feedSig.sendEth

theorem endCutThrough (hs : Stays s₀ s) : Stays s₀ (endCutThrough p b s) :=
  .ite hs (hs.foldl (fun _ _ k => k.sendQueued))

theorem receiveEth (hs : Stays s₀ s) : Stays s₀ (receiveEth e b good s) :=
  .ite hs.netCount.netCount.netCount (.ite hs.netCount.netCount.netCount (.ite
    hs.netCount.netCount.netCount.endCutThrough
    (.ite hs.netCount.netCount.macControl hs.netCount.netCount.ingressFrame)))

theorem receiveVirtual {broken unguarded : Bool} (hs : Stays s₀ s) :
    Stays s₀ (receiveVirtual p b broken unguarded s) :=
  .ite (.ite hs.netCount.endCutThrough hs.netCount) (.ite hs (.ite hs.netCount.netCount.netCount
    (.ite hs.netCount.netCount.netCount (.ite hs.netCount.netCount.netCount hs.netCount.netCount.ingressFrame))))

theorem markFrame (hs : Stays s₀ s) : Stays s₀ (markFrame p q f s).1 := by
  unfold Machine.markFrame
  refine .iteFst ?_ hs
  split
  · exact hs
  · dsimp only
    split
    · exact hs.updQueue.netCount
    · exact hs.updQueue.netCount.raise

theorem sendHead {e : NetEntry} (hs : Stays s₀ s) : Stays s₀ (sendHead p q e f s) := by
  have k := (hs.markFrame (p := p) (q := q) (f := f)).updQueue (p := p) (q := q)
    (f := fun x => { x with entries := x.entries.filter (fun y => y.frame != e.frame) })
  unfold Machine.sendHead
  refine .settleNet ?_
  split
  · exact k.sendQueued
  · split
    · exact k.netCount.netCount.sendMessage
    · exact k

theorem selectEgress (hs : Stays s₀ s) : Stays s₀ (selectEgress p s) := by
  unfold Machine.selectEgress
  refine .ite hs ?_
  split
  split
  · exact hs
  · split
    · exact hs
    · dsimp only
      split
      · exact hs
      · exact hs.same.sendHead

theorem flushPort (hs : Stays s₀ s) : Stays s₀ (flushPort p s) := .settleNet (.updSw (.ite hs.netCount hs))

theorem downVirtual (hs : Stays s₀ s) : Stays s₀ (downVirtual p s) := hs.same.flushPort

theorem netLose {h : HostNo} (hs : Stays s₀ s) : Stays s₀ (netLose h s) := hs.foldl (fun _ _ k => k.downVirtual)

theorem ethDown (hs : Stays s₀ s) : Stays s₀ (ethDown e s) := .ite hs.same.flushPort.raise hs

end

section

/-! `Stays` through the functions of `Sys2Proof/Machine/CanOps.lean`. -/

variable {f : Fin 256} {p : CanPort} {tec rec : Byte} {h : HostNo} {is : List Nat} {b : List Byte}

theorem updCan {f : Can → Can} (hs : Stays s₀ s) : Stays s₀ (updCan f s) := hs.same

theorem updCanPort {f : CanPortState → CanPortState} (hs : Stays s₀ s) : Stays s₀ (updCanPort p f s) := hs.same

theorem canCount {k : Fin 7} {n : Nat} (hs : Stays s₀ s) : Stays s₀ (canCount p k n s) := hs.same

theorem setTx {f : Nat} {g : CanTx → CanTx} (hs : Stays s₀ s) : Stays s₀ (setTx f g s) := hs.same

theorem offerFrame (hs : Stays s₀ s) : Stays s₀ (offerFrame p s) := by
  unfold Machine.offerFrame
  refine .ite hs ?_
  split
  · exact hs.same
  · exact hs

theorem queueFrame (hs : Stays s₀ s) : Stays s₀ (queueFrame f s) :=
  .ite hs (.ite hs.same (.ite hs.same (.ite hs.same hs.same.offerFrame)))

theorem writeValues {ws : List (Nat × Dword)} (hs : Stays s₀ s) : Stays s₀ (writeValues ws s) :=
  .foldl (hs.foldl (fun _ _ k => k.same)) (fun _ _ k => k.queueFrame)

theorem dropQueue (hs : Stays s₀ s) : Stays s₀ (dropQueue p s) := hs.same

theorem setBus {st : BusState} (hs : Stays s₀ s) : Stays s₀ (setBus p st tec rec s) :=
  .ite hs.updCanPort (.raise (.ite hs.updCanPort.dropQueue.canCount.canCount hs.updCanPort))

theorem countErrors (hs : Stays s₀ s) : Stays s₀ (countErrors p tec rec s) := hs.setBus

theorem sentWell (hs : Stays s₀ s) : Stays s₀ (sentWell p s) := hs.countErrors

theorem receivedWell (hs : Stays s₀ s) : Stays s₀ (receivedWell p s) := .ite hs.countErrors hs.same.countErrors

theorem putCan {data : List Byte} (hs : Stays s₀ s) : Stays s₀ (putCan p f data s) :=
  .sentWell (.ite hs.egress.canCount hs.egress.canCount.setTx)

theorem withdraw (hs : Stays s₀ s) : Stays s₀ (withdraw p s) := by
  unfold Machine.withdraw
  split
  · exact hs
  · exact .ite hs.same.putCan hs.same

theorem pauseCan (hs : Stays s₀ s) : Stays s₀ (pauseCan p s) := by
  unfold Machine.pauseCan
  split
  · exact hs
  · exact .ite hs.same.putCan hs.same

theorem wakeCanPort (hs : Stays s₀ s) : Stays s₀ (wakeCanPort p s) := hs.same.offerFrame

theorem deliverSigs (hs : Stays s₀ s) : Stays s₀ (deliverSigs h is s) := by
  unfold Machine.deliverSigs
  dsimp only
  split
  · exact hs
  · exact .ite hs (hs.sendMessage.foldl (fun _ _ k => k.same))

theorem deliverAll (hs : Stays s₀ s) : Stays s₀ (deliverAll is s) :=
  hs.foldl (fun _ _ k => k.foldl (fun _ _ k' => k'.deliverSigs))

theorem runRoutes (hs : Stays s₀ s) : Stays s₀ (runRoutes is s) := hs.writeValues

theorem receiveCan {f : CanFrame} (hs : Stays s₀ s) : Stays s₀ (receiveCan p f s) := by
  unfold Machine.receiveCan
  refine .ite hs (.ite hs.same.receivedWell ?_)
  split
  · exact hs.same.receivedWell.canCount
  · exact .ite hs.same.receivedWell.canCount (.runRoutes (.deliverAll (hs.same.receivedWell.foldl
      (fun _ _ k => k.same))))

theorem staleSig {i : Nat} (hs : Stays s₀ s) : Stays s₀ (staleSig i s) := .ite hs hs.same.raise.deliverAll.writeValues

theorem applyEntries {h : Option HostNo} {es : List (List Byte)} (hs : Stays s₀ s) : Stays s₀ (applyEntries h es s) :=
  .writeValues (.ite (hs.foldl (fun _ _ k => k.same)) hs)

theorem runWrite (hs : Stays s₀ s) : Stays s₀ (runWrite h b s) := .ite hs.same hs.same.applyEntries

theorem canLose (hs : Stays s₀ s) : Stays s₀ (canLose h s) := by
  unfold Machine.canLose
  refine .writeValues (.offerFrame (.offerFrame (.foldl (hs.foldl (fun _ _ k => k.same)) (fun _ _ k => ?_))))
  dsimp only
  split
  · exact .ite k.same.withdraw k.same
  · exact k.same

theorem commitMap {m : CanMap} (hs : Stays s₀ s) : Stays s₀ (commitMap m s) :=
  hs.withdraw.withdraw.updCan.dropQueue.dropQueue

theorem commitStored (hs : Stays s₀ s) : Stays s₀ (commitStored s) := by
  unfold Machine.commitStored
  split
  · exact hs
  · exact hs.commitMap.updCan

theorem applyCanPort (hs : Stays s₀ s) : Stays s₀ (applyCanPort p b s) := hs.withdraw.dropQueue.updCanPort.setBus

end

section

/-! `Stays` through the functions of `Sys2Proof/Machine/PairOps.lean`. -/

variable {st : Fin 12} {code : Nat} {k : SigKey} {r : SigRecord}

theorem stopAwaiting (hs : Stays s₀ s) : Stays s₀ (stopAwaiting s) := .ite hs hs.same.releaseDeferred

theorem setPairState (hs : Stays s₀ s) : Stays s₀ (setPairState st s) := .ite hs hs.same.stopAwaiting.raise

theorem pairFault {reaction : Byte} (hs : Stays s₀ s) : Stays s₀ (pairFault code reaction s) := hs.logFault

theorem cfgWf_swapVec {c : Vector (Vector (Sparse Word) 3) 4} (hc : cfgWf c = true) : cfgWf (swapVec c) = true := by
  rw [cfgWf_iff] at hc ⊢
  intro v hv
  simp only [swapVec, Vector.mem_mk, List.mem_toArray, List.mem_cons, List.not_mem_nil, or_false] at hv
  rcases hv with rfl | rfl | rfl | rfl
  all_goals exact hc _ (Vector.getElem_mem _)

theorem renumberHosts (hs : Stays s₀ s) : Stays s₀ (renumberHosts s) := hs.memories (hc := cfgWf_swapVec)

theorem movePair (hs : Stays s₀ s) : Stays s₀ (movePair st s) := .ite hs.setPairState hs.setPairState.renumberHosts

theorem enterSpan (hs : Stays s₀ s) : Stays s₀ (enterSpan s) := hs.movePair.setDisp.updPair.finish

theorem leaveQuotas (hs : Stays s₀ s) : Stays s₀ (leaveQuotas s) := hs.same

theorem seeIlk (hs : Stays s₀ s) : Stays s₀ (seeIlk s) := .ite hs hs.same

theorem releaseIlk (hs : Stays s₀ s) : Stays s₀ (releaseIlk s) := hs.same.foldl (fun _ _ k => k.same)

theorem standbyTunnels (hs : Stays s₀ s) : Stays s₀ (standbyTunnels s) := hs.same.foldl (fun _ _ k => k.noteTunnel)

theorem disablePortsOf (hs : Stays s₀ s) : Stays s₀ (disablePortsOf s) :=
  .resetUsbPorts (.foldl (hs.foldl (fun _ _ k => .ite k k.same.parkPort)) (fun _ _ k => k.ethDown))

theorem yieldDay {planned : Bool} (hs : Stays s₀ s) : Stays s₀ (yieldDay planned s) :=
  .ite hs hs.releaseIlk.setPairState.updPair.standbyTunnels.disablePortsOf.raise.finish

theorem faultRelease (hs : Stays s₀ s) : Stays s₀ (faultRelease code s) := .ite hs.yieldDay.pairFault hs

theorem sendCopy (hs : Stays s₀ s) : Stays s₀ (sendCopy s) := hs.same

theorem installCopy {c : MirrorCopy} (hs : Stays s₀ s) : Stays s₀ (installCopy c s) := by
  refine hs.memories (hm := fun _ => sparseCopy_wf _ _) (hc := fun _ => ?_)
  rw [cfgWf_iff]
  intro v hv m hm
  obtain ⟨v, -, rfl⟩ := Vector.mem_map.1 hv
  obtain ⟨m, -, rfl⟩ := Vector.mem_map.1 hm
  exact sparseCopy_wf _ _

theorem becomeDay (hs : Stays s₀ s) : Stays s₀ (becomeDay s) :=
  .ite
    (.sendCopy (hs.same.setPairState.foldl (fun _ _ k => k.same)))
    (hs.same.setPairState.foldl (fun _ _ k => k.same))

theorem mismatch (hs : Stays s₀ s) : Stays s₀ (mismatch k s) := .ite hs.same.raise hs.same.raise.updPair

theorem dropCompared (hs : Stays s₀ s) : Stays s₀ (dropCompared r s) := .ite hs.same hs

theorem joinRecord (hs : Stays s₀ s) : Stays s₀ (joinRecord r s) := by
  unfold Machine.joinRecord
  refine .ite hs ?_
  dsimp only
  split
  · exact hs.same
  · exact .ite hs.same.dropCompared hs.same.dropCompared.mismatch

theorem sendRecord {seq : Word} {v len : Nat} (hs : Stays s₀ s) : Stays s₀ (sendRecord k seq v len s) :=
  hs.same.joinRecord

theorem sigBoundary (hs : Stays s₀ s) : Stays s₀ (sigBoundary k s) := by
  unfold Machine.sigBoundary
  refine .ite hs (.ite ?_ ?_)
  · dsimp only
    split
    · exact hs.sendRecord
    · exact hs
  · split
    · exact hs
    · exact .ite hs hs.same.sendRecord

theorem nightFails (hs : Stays s₀ s) : Stays s₀ (nightFails s) := .ite hs.setPairState (.ite hs.setPairState hs)

theorem verdict {own partner : Bool} (hs : Stays s₀ s) : Stays s₀ (verdict own partner s) :=
  .ite (.ite hs.same.yieldDay hs.same) (.ite hs.same.nightFails (.ite (.ite hs.same.nightFails hs.same)
    hs.same.pairFault.nightFails))

theorem injectPair (hs : Stays s₀ s) : Stays s₀ (injectPair code s) :=
  .ite hs.logFault.nightFails (.ite hs.logFault.verdict (.ite hs.logFault.yieldDay (.ite hs.logFault.updPair
    hs.logFault)))

theorem persistPair {codes : List Nat} (hs : Stays s₀ s) : Stays s₀ (persistPair codes s) :=
  hs.foldl (fun _ _ k => .ite k.injectPair k)

theorem replicate {t : Replica} {bytes : Nat} (hs : Stays s₀ s) : Stays s₀ (replicate t bytes s) := .ite hs.same hs

theorem storePairing (hs : Stays s₀ s) : Stays s₀ (storePairing s) := hs.storeSetting

end

section

/-! `Stays` through the functions of `Sys2Proof/Machine/PowerOps.lean`. -/

variable {f : Feed} {u : Up} {cause : Byte} {n : Fin 8}

theorem updPower {f : Power → Power} (hs : Stays s₀ s) : Stays s₀ (updPower f s) := hs.same

theorem updPd {f : PdSource → PdSource} (hs : Stays s₀ s) : Stays s₀ (updPd u f s) := hs.same

theorem powerFault {cls : Fin 24} {source : Nat} {value : Half} (hs : Stays s₀ s) :
    Stays s₀ (powerFault cls source cause value s) := .ite hs.logFault.updPower hs.logFault

theorem sendCaps (hs : Stays s₀ s) : Stays s₀ (sendCaps u s) := hs.emit.updPd

theorem refreshOffer (hs : Stays s₀ s) : Stays s₀ (refreshOffer u s) := .ite hs.same hs

theorem policyOffer (hs : Stays s₀ s) : Stays s₀ (policyOffer u s) := by
  unfold Machine.policyOffer
  split
  · exact .ite hs.refreshOffer hs.same
  · exact hs.refreshOffer

theorem dropContract (hs : Stays s₀ s) : Stays s₀ (dropContract u s) :=
  .ite (.refreshOffer (.ite hs.same.raise hs.same)) (.ite hs.same.raise hs.same)

theorem cutVbus (hs : Stays s₀ s) : Stays s₀ (cutVbus u s) := hs.same.dropContract

theorem startFive (hs : Stays s₀ s) : Stays s₀ (startFive u s) := .ite hs.same hs

theorem pgFall (hs : Stays s₀ s) : Stays s₀ (pgFall s) := .ite hs hs.same.cutVbus.cutVbus.settleEfuses

theorem storeRetry (hs : Stays s₀ s) : Stays s₀ (storeRetry s) := hs.storeWord

theorem gateOff {st : Fin 7} (hs : Stays s₀ s) : Stays s₀ (gateOff st s) := hs.same.pgFall

theorem settleHsw (hs : Stays s₀ s) : Stays s₀ (settleHsw s) := .ite hs (.ite hs.same hs.same)

theorem hswFault {cause : Nat} {vds : Half} (hs : Stays s₀ s) : Stays s₀ (hswFault cause vds s) :=
  hs.gateOff.updPower.storeRetry.powerFault.raise

theorem useFeed {f : Option Feed} (hs : Stays s₀ s) : Stays s₀ (useFeed f s) := .ite hs hs.same.raise.settleHsw

theorem feedLost (hs : Stays s₀ s) : Stays s₀ (feedLost f s) := by
  unfold Machine.feedLost
  refine .ite (.ite hs.powerFault.updPower hs.powerFault.useFeed) (.ite ?_ hs)
  dsimp only
  split
  · exact .ite hs.same hs.same.useFeed
  · exact hs.same

theorem feedLeave {mv : Nat} (hs : Stays s₀ s) : Stays s₀ (feedLeave f mv s) := hs.same.feedLost

theorem rewindow (hs : Stays s₀ s) : Stays s₀ (rewindow s f) := .ite hs.same.feedLost hs.same

theorem feedPick (hs : Stays s₀ s) : Stays s₀ (feedPick s) := .ite hs (.ite hs.useFeed (.ite hs.useFeed hs))

theorem portOverCurrent (hs : Stays s₀ s) : Stays s₀ (portOverCurrent n s) :=
  .ite
    hs.same.powerOffHalf.setStatus.setChange.powerOffHalf.setStatus.setChange
    hs.same.powerOffHalf.setStatus.setChange

theorem portOff (hs : Stays s₀ s) : Stays s₀ (portOff n s) :=
  .ite hs.same.powerOffHalf.powerOffHalf hs.same.powerOffHalf

theorem efuseTrip {ch : Fin 6} {ma : Half} (hs : Stays s₀ s) : Stays s₀ (efuseTrip ch cause ma s) :=
  .ite hs (.ite hs.same.raise.powerFault.portOverCurrent hs.same.raise.powerFault)

end

section

/-! `Stays` through the functions of `Sys2Proof/Machine/LossOps.lean`. -/

variable {h : HostNo} {p : PciePort} {l : LinkNo} {st : Fin 10} {u : Up} {op : Half} {c : Cmd}

theorem closeHostTunnels (hs : Stays s₀ s) : Stays s₀ (closeHostTunnels h s) :=
  hs.same.foldl (fun _ _ k => k.tellClosed.finish)

theorem loseDisplay (hs : Stays s₀ s) : Stays s₀ (loseDisplay h s) :=
  .holdOutputs (hs.closeHostTunnels.displayLose.tunEvent.foldl (fun _ _ k => k.raise))

theorem loseHost (hs : Stays s₀ s) : Stays s₀ (loseHost h s) := hs.loseDisplay.netLose.pcieLose.usbLose.canLose

theorem leaveUplink (hs : Stays s₀ s) : Stays s₀ (leaveUplink p s) := by
  unfold Machine.leaveUplink
  split
  · exact hs
  · exact .ite
      hs.quiescePort.updPort.cfgClear.cfgClear.slotChange.slotEvent
      hs.quiescePort.updPort.cfgClear.cfgClear.slotChange

theorem takePort (hs : Stays s₀ s) : Stays s₀ (takePort p s) := hs.leaveUplink.updPort.resetPort

theorem fallBackPort (hs : Stays s₀ s) : Stays s₀ (fallBackPort h s p) :=
  .ite hs (.ite hs.takePort hs.quiescePort.disablePort)

theorem settleKarxo (hs : Stays s₀ s) : Stays s₀ (settleKarxo p s) := by
  unfold Machine.settleKarxo
  dsimp only
  split
  · exact hs
  · exact .ite hs (.ite (.ite hs hs.takePort) (.ite hs.quiescePort.disablePort.updPort hs))

theorem fallBackHost (hs : Stays s₀ s) : Stays s₀ (fallBackHost h s) := by
  unfold Machine.fallBackHost
  refine .releaseLockOf ?_
  split
  · exact .abandonStorage (hs.loseDisplay.netLose.canLose.updUsb.foldl (fun _ _ k => k.fallBackPort))
  · exact hs.loseDisplay.netLose.canLose.updUsb.foldl (fun _ _ k => k.fallBackPort)

theorem endLinkCommands {status : Half} (hs : Stays s₀ s) : Stays s₀ (endLinkCommands l status s) := by
  unfold Machine.endLinkCommands
  dsimp only
  split
  · exact hs.finish.finish.finish
  · exact hs.finish.finish

theorem endLink (hs : Stays s₀ s) : Stays s₀ (endLink l st s) := by
  unfold Machine.endLink
  refine .setLinkState ?_
  split
  · exact hs.endLinkCommands.updLink.closeTid0
  · exact hs.endLinkCommands.updLink

theorem fallBack (hs : Stays s₀ s) : Stays s₀ (fallBack u s) :=
  .ite hs (.usbReturns (.ite
    (.presentUsb (.ite hs.endLink.updLink.fallBackHost (hs.endLink.updLink.foldl (fun _ _ k => k.fallBackPort))))
    (.ite hs.endLink.updLink.fallBackHost (hs.endLink.updLink.foldl (fun _ _ k => k.fallBackPort)))))

theorem loseAttached (hs : Stays s₀ s) : Stays s₀ (loseAttached u s) :=
  hs.endLinkCommands.loseHost.closeTid0.startBringUp

theorem dropUplink (hs : Stays s₀ s) : Stays s₀ (dropUplink u st s) :=
  .ite (hs.endLink.finish.updLink.loseHost.foldl (fun _ _ k => .ite k.same k)) hs.endLink.finish.updLink

theorem hardResetLink (hs : Stays s₀ s) : Stays s₀ (hardResetLink u s) :=
  .ite hs.dropUplink (.ite hs.same (.ite hs.finish.loseAttached hs.dropUplink.updLink))

theorem hardReset {issued : Bool} (hs : Stays s₀ s) : Stays s₀ (hardReset u issued s) :=
  .startFive (.hardResetLink (.cutVbus (.ite hs.same hs)))

theorem fallBackOrOwe (hs : Stays s₀ s) : Stays s₀ (fallBackOrOwe u s) := .ite hs.fallBack hs.same

theorem settleUplink (hs : Stays s₀ s) : Stays s₀ (settleUplink s u) :=
  .ite hs.same (.ite hs.same.startBringUp (.ite hs.same.fallBack hs.same))

theorem settleUplinks (hs : Stays s₀ s) : Stays s₀ (settleUplinks s) := hs.foldl (fun _ _ k => k.settleUplink)

theorem converterFault (hs : Stays s₀ s) : Stays s₀ (converterFault u s) := hs.same.powerFault.raise.hardReset

theorem startChange {goal : Fin 4} {cause : PlCause} (hs : Stays s₀ s) : Stays s₀ (startChange goal cause s) :=
  hs.same

theorem enterProfile {p : Profile} (hs : Stays s₀ s) : Stays s₀ (enterProfile p s) :=
  hs.same.foldl (fun _ _ k => k.announce)

theorem holdRequest (hs : Stays s₀ s) : Stays s₀ (holdRequest op c s) := hs.startPending (fun _ k => k.same)

theorem refuseOrRaise {passesAtTwo : Bool} (hs : Stays s₀ s) : Stays s₀ (refuseOrRaise op c passesAtTwo s) :=
  .ite (.ite hs.fail (.ite hs.holdRequest (hs.startPending (fun _ k => k.same)))) hs.fail

end

section

/-! `Stays` through the functions of `Sys2Proof/Machine/WindowOps.lean`. -/

variable {m : MbNo} {v : Word} {rel off : Nat} {r : Requester} {hi : Bool} {o : OutNo}

theorem writeCmdPi {v : Half} (hs : Stays s₀ s) : Stays s₀ (writeCmdPi m v s) := .ite hs (.ite hs.same hs.same)

theorem writeRspCi {v : Half} (hs : Stays s₀ s) : Stays s₀ (writeRspCi m v s) :=
  .ite hs (.ite hs.same.postWaiting hs.same)

theorem writeEvtCi {v : Half} (hs : Stays s₀ s) : Stays s₀ (writeEvtCi m v s) := .ite hs (.ite hs.same hs.same)

theorem writeMailbox (hs : Stays s₀ s) : Stays s₀ (writeMailbox m rel v s) :=
  .ite hs.writeCmdPi (.ite hs.writeRspCi (.ite hs.writeEvtCi (.ite hs.same (.ite hs.same hs))))

theorem clearPend (hs : Stays s₀ s) : Stays s₀ (clearPend r hi v s) := by
  unfold Machine.clearPend
  split
  · exact hs.same.updateInt
  · exact hs

theorem writeIntEn (hs : Stays s₀ s) : Stays s₀ (writeIntEn hi v s) := hs.same.updateInt

theorem writeEvents (hs : Stays s₀ s) : Stays s₀ (writeEvents r off v s) :=
  .ite hs.clearPend (.ite hs.clearPend (.ite hs.writeIntEn (.ite hs.writeIntEn (.ite hs.same hs))))

theorem writePersistent {w : Nat} (hs : Stays s₀ s) : Stays s₀ (writePersistent w v s) := hs.pbWrite

theorem commitBit {g : Fin 6} (hs : Stays s₀ s) : Stays s₀ (commitBit r o v s g) :=
  .ite hs (.ite hs.requestCommit hs.raise)

theorem writeCommit (hs : Stays s₀ s) : Stays s₀ (writeCommit r o v s) :=
  .settleOff (hs.foldl (fun _ _ k => k.commitBit))

theorem writeDisplay (hs : Stays s₀ s) : Stays s₀ (writeDisplay r o rel v s) :=
  .ite hs.same (.ite hs.writeCommit (.ite hs.same (.ite hs.same (.ite
    (.ite hs.same (.ite hs.same (.ite hs.same (.ite hs.same hs))))
    (.ite (.ite hs.same (.ite hs.same (.ite hs.same (.ite hs.same (.ite hs.same hs))))) (.ite hs.same hs))))))

theorem writeReg (hs : Stays s₀ s) : Stays s₀ (writeReg r off v s) :=
  .ite (.ite hs.same hs) (.ite hs.writeMailbox (.ite hs (.ite hs.writeEvents (.ite hs.writePersistent
    (.ite hs.writeDisplay (.ite hs (.ite (hs.keeps (.window _ _ _)) hs)))))))

theorem refuseAccess {write : Bool} (hs : Stays s₀ s) : Stays s₀ (refuseAccess r write off s) := hs.raise

theorem windowRead (hs : Stays s₀ s) : Stays s₀ (windowRead r off s).2 := by
  unfold Machine.windowRead
  split
  · exact hs
  · exact hs.refuseAccess
  · exact hs

theorem windowWrite (hs : Stays s₀ s) : Stays s₀ (windowWrite r off v s) := by
  unfold Machine.windowWrite
  split
  · exact hs
  · exact hs.refuseAccess
  · exact hs.writeReg

theorem spiCarry {w : Word} (hs : Stays s₀ s) : Stays s₀ (spiCarry off w s) := .ite hs.same.windowWrite hs

theorem spiDrain {n : Nat} (hs : Stays s₀ s) : Stays s₀ (spiDrain n s) := by
  induction n generalizing s with
  | zero => exact hs
  | succ n ih =>
    unfold Machine.spiDrain
    split
    · exact hs
    · exact ih hs.setSpi.spiCarry

theorem between (hs : Stays s₀ s) : Stays s₀ (between s) := .ite hs hs.same.spiDrain

theorem windowReads {r : Requester} {off n : Nat} (hs : Stays s₀ s) : Stays s₀ (windowReads r off n s).2 := by
  induction n generalizing s off with
  | zero => exact hs
  | succ n ih => exact ih hs.windowRead.between

theorem windowWrites {r : Requester} {off : Nat} {l : List Word} (hs : Stays s₀ s) :
    Stays s₀ (windowWrites r off l s) := by
  induction l generalizing s off with
  | nil => exact hs
  | cons w l ih => exact ih hs.windowWrite.between

theorem accessWrite (hs : Stays s₀ s) : Stays s₀ (accessWrite r off v s) := .ite hs hs.windowWrite

end

section

/-! `Stays` through the functions of `Sys2Proof/Machine/MgmtOps.lean`. -/

variable {wValue wIndex wLength : Half} {u : Up} {data cdb : List Byte} {p : PciePort} {lun : Byte} {i : Nat}
variable {r : UsbRequest} {boundary : Bool}

theorem noteVia {m : MbNo} {before : Half} (hs : Stays s₀ s) : Stays s₀ (noteVia m before s) := hs.same

theorem vendorRead (hs : Stays s₀ s) : Stays s₀ (vendorRead wValue wIndex wLength s).1 := by
  unfold Machine.vendorRead
  split
  · exact .iteFst hs.windowReads hs
  · exact hs

theorem vendorWrite (hs : Stays s₀ s) : Stays s₀ (vendorWrite u wValue wIndex wLength data s).1 := by
  unfold Machine.vendorWrite
  split
  · exact .iteFst hs.windowWrites.noteVia hs
  · exact hs

theorem mgmtControl {ss : Bool} {setup : List Byte} (hs : Stays s₀ s) : Stays s₀ (mgmtControl ss u setup data s).1 :=
    by
  unfold Machine.mgmtControl
  dsimp only
  split
  · exact hs.vendorRead
  · exact hs.vendorWrite
  · exact .iteFst hs hs
  · exact hs.standardRequest

theorem takeImages {n : Nat} {d : List Byte} (hs : Stays s₀ s) : Stays s₀ (takeImages u n d s).1 := by
  induction n generalizing s d with
  | zero => exact hs
  | succ n ih => exact .iteFst hs (.iteFst hs (.iteFst hs.updMb (ih (hs.keeps (.window _ _ _)).updMb)))

theorem namespaceCommand (hs : Stays s₀ s) : Stays s₀ (namespaceCommand p lun cdb data s).1 := by
  unfold Machine.namespaceCommand
  split
  · exact .iteFst hs.egress.same hs.egress
  · split
    · exact hs.same
    · exact hs

theorem scsiAnswer (hs : Stays s₀ s) : Stays s₀ (scsiAnswer p lun cdb data s).1 :=
  .iteFst hs (.iteFst hs (.iteFst hs (.iteFst hs hs.namespaceCommand)))

theorem storageReply (hs : Stays s₀ s) : Stays s₀ (storageReply p lun cdb data s).1 := by
  unfold Machine.storageReply
  dsimp only
  exact .updUsb hs.scsiAnswer

theorem updWaiting {i : Fin 16} {f : List (List Byte) → List (List Byte)} (hs : Stays s₀ s) :
    Stays s₀ (updWaiting i f s) := hs.same

theorem loopPackets {l : List (List Byte)} (hs : Stays s₀ s) : Stays s₀ (loopPackets l s).1 := by
  induction l generalizing s with
  | nil => exact hs
  | cons d l ih => exact .iteFst hs (ih hs.updWaiting)

theorem loopIsoIn (hs : Stays s₀ s) : Stays s₀ (loopIsoIn i data s) := .ite hs (.ite hs.endpointError hs.same)

theorem dropIsoDue (hs : Stays s₀ s) : Stays s₀ (dropIsoDue i s) := hs.same

theorem serveIn {i : Fin 16} {mps : Nat} (hs : Stays s₀ s) : Stays s₀ (serveIn i mps r s).1 := .iteFst hs hs.same

theorem serveBot (hs : Stays s₀ s) : Stays s₀ (serveBot p r s).1 := by
  unfold Machine.serveBot
  dsimp only
  refine .iteFst hs.same (.iteFst hs ?_)
  dsimp only
  exact hs.storageReply.updWaiting.updUsb

theorem serveUas (hs : Stays s₀ s) : Stays s₀ (serveUas p r s).1 :=
  .iteFst hs (.updWaiting (.ite hs.storageReply hs.storageReply.updWaiting))

theorem serveStorage {uasEp : Bool} (hs : Stays s₀ s) : Stays s₀ (serveStorage p uasEp r s).1 :=
  .iteFst hs.serveIn (.iteFst hs (.iteFst (.iteFst hs hs.serveUas) (.iteFst hs.serveBot hs)))

theorem serveLoop (hs : Stays s₀ s) : Stays s₀ (serveLoop r s).1 := .iteFst hs.serveIn (.iteFst hs hs.loopPackets)

theorem serveIso (hs : Stays s₀ s) : Stays s₀ (serveIso i r s).1 := by
  unfold Machine.serveIso
  refine .iteFst ?_ hs.loopIsoIn
  split
  · exact hs
  · exact hs.endpointError

theorem mgmtAnswer (hs : Stays s₀ s) : Stays s₀ (mgmtAnswer i r s).1 := by
  unfold Machine.mgmtAnswer
  refine .iteFst hs (.iteFst ?_ ?_)
  · dsimp only
    split <;> exact hs.mgmtControl
  · refine .iteFst hs (.iteFst hs.endpointError ?_)
    split
    · exact .iteFst hs hs.takeImages
    · exact hs
    · exact hs
    · exact hs.serveStorage
    · exact hs.serveStorage
    · exact hs.serveStorage
    · exact hs.serveStorage
    · exact hs.serveLoop
    · exact hs.serveIso
    · exact hs

theorem serveOne (hs : Stays s₀ s) : Stays s₀ (serveOne boundary s r) := by
  unfold Machine.serveOne
  refine .ite hs ?_
  dsimp only
  split
  · exact hs.mgmtAnswer.finishUsb
  · exact hs.mgmtAnswer.setRequest

theorem serveInternal (hs : Stays s₀ s) : Stays s₀ (serveInternal boundary s) := hs.foldl (fun _ _ k => k.serveOne)

end

section

/-! `Stays` through the functions of `Sys2Proof/Machine/LinkFlow.lean`. -/

variable {l : LinkNo} {p : PairNo} {u : Up} {t : Turn}

theorem onUplink {op : Half} {f : Up → Cmd → State → State} {c : Cmd} (hs : Stays s₀ s)
    (hf : ∀ x y u, Stays s₀ u → Stays s₀ (f x y u)) :
    Stays s₀ (onUplink op f c s) := .ite (hf _ _ _ hs) (.ite (hf _ _ _ hs) hs.fail)

theorem wakeEvent (hs : Stays s₀ s) : Stays s₀ (wakeEvent s) := by
  unfold Machine.wakeEvent
  split
  · exact hs
  · exact hs.same.raise.foldl (fun _ _ k => k.raise)

theorem reportActive (hs : Stays s₀ s) : Stays s₀ (reportActive l s) := by
  unfold Machine.reportActive
  split
  · exact .ite (.ite hs.same.setLinkState hs.same.setLinkState.wakeEvent) (.ite hs.same hs.same.wakeEvent)
  · exact hs.activeFromDeep

theorem sendTs {code : Byte} (hs : Stays s₀ s) : Stays s₀ (sendTs l code s) := hs.foldl (fun _ _ k => k.same)

theorem enterPhase {ph : Fin 10} {reversed : Bool} (hs : Stays s₀ s) : Stays s₀ (enterPhase l ph reversed s) :=
  .ite
    (.emit (.sendSetOn (.ite hs.same hs.same.setLinkState)))
    (.ite (.sendPrbs (.ite hs.same hs.same.setLinkState)) (.ite (.sendTs (.ite hs.same hs.same.setLinkState))
      (.ite (.sendSet (.ite hs.same hs.same.setLinkState)) (.ite hs.same hs.same.setLinkState))))

theorem loseLane (hs : Stays s₀ s) : Stays s₀ (loseLane l p s) := hs.markLost.laneEvent

theorem rejoinLane (hs : Stays s₀ s) : Stays s₀ (rejoinLane l p s) := hs.same.linkCount.laneEvent

theorem restoreLane (hs : Stays s₀ s) : Stays s₀ (restoreLane l p s) := hs.rejoinLane.sendLaneDown

theorem settleLanes (hs : Stays s₀ s) : Stays s₀ (settleLanes l s) := by
  unfold Machine.settleLanes
  split
  · exact hs.same.noteTunnels
  · exact hs

theorem reduceLanes (hs : Stays s₀ s) : Stays s₀ (reduceLanes l s) := by
  unfold Machine.reduceLanes
  split
  · exact hs.same.noteTunnels
  · exact hs

theorem settleTrained {took : List PairNo} (hs : Stays s₀ s) : Stays s₀ (settleTrained l took s) :=
  .updLink (hs.foldl (fun _ _ k => .ite (.ite k k.loseLane) (.ite k.restoreLane k)))

theorem openBond {kept : Bool} (hs : Stays s₀ s) : Stays s₀ (openBond kept s) := .ite hs hs.same

theorem reachActive (hs : Stays s₀ s) : Stays s₀ (reachActive l s) := by
  unfold Machine.reachActive
  refine .ite ?_ ?_
  · refine .sendOwed (.settleTrained (.ite (hs.same.foldl (fun _ _ k => k.same)) (.reportActive ?_)))
    split
    · exact .openTid0 (hs.same.foldl (fun _ _ k => k.same))
    · exact .openBond (hs.same.foldl (fun _ _ k => k.same))
  · refine .usbReturns (.reduceLanes (.ite ?_ ?_))
    · refine .finish (.finish (.finish (.ite ?_ ?_)))
      · refine .sendOwed (.settleTrained (.ite (hs.same.foldl (fun _ _ k => k.same)) (.reportActive ?_)))
        split
        · exact .openTid0 (hs.same.foldl (fun _ _ k => k.same))
        · exact .openBond (hs.same.foldl (fun _ _ k => k.same))
      · refine .sendPolicy (.sendOwed (.settleTrained (.ite (hs.same.foldl (fun _ _ k => k.same)) ?_)))
        refine .reportActive ?_
        split
        · exact .openTid0 (hs.same.foldl (fun _ _ k => k.same))
        · exact .openBond (hs.same.foldl (fun _ _ k => k.same))
    · refine .finish (.finish (.ite ?_ ?_))
      · refine .sendOwed (.settleTrained (.ite (hs.same.foldl (fun _ _ k => k.same)) (.reportActive ?_)))
        split
        · exact .openTid0 (hs.same.foldl (fun _ _ k => k.same))
        · exact .openBond (hs.same.foldl (fun _ _ k => k.same))
      · refine .sendPolicy (.sendOwed (.settleTrained (.ite (hs.same.foldl (fun _ _ k => k.same)) ?_)))
        refine .reportActive ?_
        split
        · exact .openTid0 (hs.same.foldl (fun _ _ k => k.same))
        · exact .openBond (hs.same.foldl (fun _ _ k => k.same))

theorem failAttempt (hs : Stays s₀ s) : Stays s₀ (failAttempt l s) := by
  unfold Machine.failAttempt
  refine .ite hs.setLinkState.updLink.enterPhase (.ite hs.startRetrain ?_)
  dsimp only
  split
  · exact .ite hs.same.finish.fallBack.updLink hs.same.setLinkState.updLink
  · exact hs.same.setLinkState.updLink

theorem setDirections {two three : Bool} (hs : Stays s₀ s) : Stays s₀ (setDirections l two three s) := by
  unfold Machine.setDirections
  split <;> exact hs.same

theorem beginTurn {final : Fin 3} (hs : Stays s₀ s) : Stays s₀ (beginTurn u final s) := by
  unfold Machine.beginTurn
  dsimp only
  split
  · exact hs.foldl (fun _ _ k => k.wakeLane)
  · exact .ite (.updLink (hs.foldl (fun _ _ k => k.wakeLane))) (.sendSet (.updLink (.adaptTo
      (hs.foldl (fun _ _ k => k.wakeLane)))))

theorem nextPhase {ok : BitVec 4} (hs : Stays s₀ s) : Stays s₀ (nextPhase l ok s) := by
  unfold Machine.nextPhase
  refine .ite (.enterPhase (.sendSetOn (.updLink (.ite hs.same hs)))) (.ite hs.same.enterPhase ?_)
  refine .ite
    (.ite
      (.enterPhase (hs.same.foldl (fun _ _ k => .ite k.same k)))
      (.enterPhase (hs.same.foldl (fun _ _ k => .ite k.same k))))
    ?_
  refine .ite hs.same.enterPhase (.ite hs.same (.ite (.enterPhase (.ite hs.same.sendTs hs.same)) ?_))
  refine .ite (.ite hs.same.sendTs hs.same) ?_
  dsimp only
  split
  · exact .beginTurn (.updLink (.reachActive (.ite hs.same.sendTs hs.same)))
  · exact .reachActive (.ite hs.same.sendTs hs.same)

theorem allotEvent (hs : Stays s₀ s) : Stays s₀ (allotEvent u s) := hs.linkCount.raise

theorem admitLanes (hs : Stays s₀ s) : Stays s₀ (admitLanes u s) := hs.same.settleLanes

theorem completeTurn (hs : Stays s₀ s) : Stays s₀ (completeTurn u t s) :=
  .ite
    (.ite
      hs.same.setDirections.adaptFrom.allotEvent.settleLanes
      hs.same.setDirections.adaptFrom.allotEvent.settleLanes.startRetrain)
    (.ite
      hs.same.setDirections.adaptFrom.allotEvent.admitLanes.finish
      hs.same.setDirections.adaptFrom.admitLanes.beginTurn)

theorem refuseTurn (hs : Stays s₀ s) : Stays s₀ (refuseTurn u s) := by
  unfold Machine.refuseTurn
  refine .finish (.updLink ?_)
  split
  · exact hs.same
  · exact hs

theorem loseTurning (hs : Stays s₀ s) : Stays s₀ (loseTurning u t s) :=
  .ite hs.same.loseLane.sendLaneDown.startRetrain hs.same.loseLane.sendLaneDown.finish

theorem startSpare {toHub : Bool} (hs : Stays s₀ s) : Stays s₀ (startSpare u p toHub s) := hs.adaptTo.finish.updLink

theorem leadSpare {lostPair : PairNo} (hs : Stays s₀ s) : Stays s₀ (leadSpare u lostPair p s) :=
  hs.sendLaneDown.wakeLane.sendSetOn.startSpare

theorem afterLoss (hs : Stays s₀ s) : Stays s₀ (afterLoss l p s) := by
  unfold Machine.afterLoss
  dsimp only
  split
  · exact .ite (.startRetrain (.ite hs.sendLaneDown hs)) (.ite hs.sendLaneDown hs)
  · refine .ite ?_ (.ite
      (.ite (.ite hs.sendLaneDown hs) (.startRetrain (.ite hs.sendLaneDown hs)))
      (.ite (.reduceLanes (.ite hs.sendLaneDown hs)) (.startRetrain (.reduceLanes (.ite hs.sendLaneDown hs)))))
    split
    · exact .ite hs.leadSpare (.startRetrain (.ite hs.sendLaneDown hs))
    · exact .startRetrain (.ite hs.sendLaneDown hs)

theorem laneFails (hs : Stays s₀ s) : Stays s₀ (laneFails l p s) := by
  unfold Machine.laneFails
  dsimp only
  split
  · exact .ite hs.loseTurning (.ite hs hs.loseLane.afterLoss)
  · exact .ite hs hs.loseLane.afterLoss

theorem retryFails (hs : Stays s₀ s) : Stays s₀ (retryFails l p s) := .ite hs.same.finish hs.same

theorem settleDeep (hs : Stays s₀ s) : Stays s₀ (settleDeep l s) := .ite hs.setLinkState hs

theorem leaveDeep (hs : Stays s₀ s) : Stays s₀ (leaveDeep l s) := by
  unfold Machine.leaveDeep
  exact hs.noteQueued.linkCount.updLink.enterPhase

end

section

/-! `Stays` through the functions of `Sys2Proof/Machine/Link.lean`. -/

variable {c a : Cmd} {u : Up} {l : LinkNo} {p : PairNo} {svid : Half} {ok lost restored spare : BitVec 4} {b : Dword}
variable {refuse : Bool} {b2 b3 : Byte}

theorem linkStatusBody (hs : Stays s₀ s) : Stays s₀ (linkStatusBody c s) := by
  unfold Machine.linkStatusBody
  split
  · exact hs.ok
  · exact hs.fail

theorem execLinkStatus (hs : Stays s₀ s) : Continues s₀ (execLinkStatus c s) :=
  .next (hs.runCmd (fun _ _ k => k.linkStatusBody))

theorem linkAllotBody (hs : Stays s₀ s) : Stays s₀ (linkAllotBody a s) := by
  unfold Machine.linkAllotBody
  refine hs.onUplink (fun _ _ _ k => ?_)
  refine .ite k.ok ?_
  split
  · refine .ite k.holdRequest ?_
    split
    · exact k.fail
    · exact .ite k.ok (k.startPending (fun _ k' => k'.beginTurn))
  · exact k.fail

theorem execLinkAllot (hs : Stays s₀ s) : Continues s₀ (execLinkAllot c s) :=
  .next (hs.runCmd (fun _ _ k => k.linkAllotBody))

theorem retrainOp (hs : Stays s₀ s) : Stays s₀ (retrainOp u c s) :=
  .ite hs.fail (hs.startPending (fun _ k => k.same.startRetrain))

theorem retrainFullOp (hs : Stays s₀ s) : Stays s₀ (retrainFullOp u c s) :=
  .ite hs.fail (.ite hs.same.ok (hs.startPending (fun _ k => k.same.startBringUp)))

theorem tryLane (hs : Stays s₀ s) : Stays s₀ (tryLane l p s) := .ite hs.same hs.same

theorem tryLanes (hs : Stays s₀ s) : Stays s₀ (tryLanes l s) := hs.foldl (fun _ _ k => k.tryLane)

theorem retrainLanesOp (hs : Stays s₀ s) : Stays s₀ (retrainLanesOp u c s) :=
  .ite hs.fail (.ite hs.same.ok (hs.startPending (fun _ k => k.same.tryLanes)))

theorem linkRetrainBody (hs : Stays s₀ s) : Stays s₀ (linkRetrainBody c s) :=
  .ite (hs.onUplink (fun _ _ _ k => k.retrainOp)) (.ite (hs.onUplink (fun _ _ _ k => k.retrainFullOp))
    (hs.onlyWhen (fun _ _ k => k.onUplink (fun _ _ _ k' => k'.retrainLanesOp))))

theorem execLinkRetrainRetrain (hs : Stays s₀ s) : Continues s₀ (execLinkRetrainRetrain c s) :=
  .next (hs.runCmd (fun _ _ k => k.onlyWhen (fun _ _ k' => k'.onUplink (fun _ _ _ k'' => k''.retrainOp))))

theorem execLinkRetrainFull (hs : Stays s₀ s) : Continues s₀ (execLinkRetrainFull c s) :=
  .next (hs.runCmd (fun _ _ k => k.onlyWhen (fun _ _ k' => k'.onUplink (fun _ _ _ k'' => k''.retrainFullOp))))

theorem execLinkRetrainLanes (hs : Stays s₀ s) : Continues s₀ (execLinkRetrainLanes c s) :=
  .next (hs.runCmd (fun _ _ k => k.onlyWhen (fun _ _ k' => k'.onUplink (fun _ _ _ k'' => k''.retrainLanesOp))))

theorem eqReportOp (hs : Stays s₀ s) : Stays s₀ (eqReportOp c s) := by
  unfold Machine.eqReportOp
  split
  · exact hs.adaptAll.ok
  · exact hs.fail

theorem eqStoredOp (hs : Stays s₀ s) : Stays s₀ (eqStoredOp c s) := by
  unfold Machine.eqStoredOp
  split
  · exact hs.ok
  · exact hs.fail

theorem linkEqBody (hs : Stays s₀ s) : Stays s₀ (linkEqBody c s) :=
  .ite hs.eqReportOp (hs.onlyWhen (fun _ _ k => k.eqStoredOp))

theorem execLinkEqReport (hs : Stays s₀ s) : Continues s₀ (execLinkEqReport c s) :=
  .next (hs.runCmd (fun _ _ k => k.onlyWhen (fun _ _ k' => k'.eqReportOp)))

theorem execLinkEqReportStored (hs : Stays s₀ s) : Continues s₀ (execLinkEqReportStored c s) :=
  .next (hs.runCmd (fun _ _ k => k.onlyWhen (fun _ _ k' => k'.eqStoredOp)))

theorem linkSleepBody (hs : Stays s₀ s) : Stays s₀ (linkSleepBody a s) :=
  hs.onUplink (fun _ _ _ k => .ite k.ok (.ite k.same.announce.ok k.fail))

theorem execLinkSleepPolicy (hs : Stays s₀ s) : Continues s₀ (execLinkSleepPolicy c s) :=
  .next (hs.runCmd (fun _ _ k => k.linkSleepBody))

theorem linkSpareBody (hs : Stays s₀ s) : Stays s₀ (linkSpareBody a s) :=
  hs.onUplink (fun _ _ _ k => .ite k.ok (.ite k.same.announce.ok k.fail))

theorem execLinkLaneSpare (hs : Stays s₀ s) : Continues s₀ (execLinkLaneSpare c s) :=
  .next (hs.runCmd (fun _ _ k => k.linkSpareBody))

theorem countersOp {clear : Bool} (hs : Stays s₀ s) : Stays s₀ (countersOp clear a s) :=
  hs.onUplink (fun _ _ _ k => k.same.ok)

theorem countersSetOp (hs : Stays s₀ s) : Stays s₀ (countersSetOp a s) :=
  hs.onUplink (fun _ _ _ k => .ite k.same.ok k.fail)

theorem linkCountersBody (hs : Stays s₀ s) : Stays s₀ (linkCountersBody c s) :=
  .ite hs.countersOp (.ite hs.countersOp (hs.onlyWhen (fun _ _ k => k.countersSetOp)))

theorem execLinkCountersRead (hs : Stays s₀ s) : Continues s₀ (execLinkCountersRead c s) :=
  .next (hs.runCmd (fun _ _ k => k.onlyWhen (fun _ _ k' => k'.countersOp)))

theorem execLinkCountersClear (hs : Stays s₀ s) : Continues s₀ (execLinkCountersClear c s) :=
  .next (hs.runCmd (fun _ _ k => k.onlyWhen (fun _ _ k' => k'.countersOp)))

theorem execLinkCountersThreshold (hs : Stays s₀ s) : Continues s₀ (execLinkCountersThreshold c s) :=
  .next (hs.runCmd (fun _ _ k => k.onlyWhen (fun _ _ k' => k'.countersSetOp)))

theorem answerVdm {answer : Fin 3} {command : Byte} {objects : List Word} (hs : Stays s₀ s) :
    Stays s₀ (answerVdm u answer command objects s) := .ite hs hs.same

theorem execVdmDiscoverIdentity (hs : Stays s₀ s) : Continues s₀ (execVdmDiscoverIdentity u s) :=
  hs.runShell (fun _ k => k.answerVdm)

theorem execVdmDiscoverSvids (hs : Stays s₀ s) : Continues s₀ (execVdmDiscoverSvids u s) :=
  hs.runShell (fun _ k => k.answerVdm)

theorem execVdmDiscoverModes (hs : Stays s₀ s) : Continues s₀ (execVdmDiscoverModes u svid s) :=
  hs.runShell (fun _ k => .ite k.answerVdm k.answerVdm)

theorem enterXansa (hs : Stays s₀ s) : Stays s₀ (enterXansa u svid s) :=
  .ite hs.answerVdm (.ite
    hs.same.endLinkCommands.finish.emit.startBringUp.presentUsb
    hs.same.endLinkCommands.finish.emit.startBringUp)

theorem execEnterMode (hs : Stays s₀ s) : Continues s₀ (execEnterMode u svid s) :=
  hs.runShell (fun _ k => .ite k.enterXansa k.answerVdm)

theorem execExitMode (hs : Stays s₀ s) : Continues s₀ (execExitMode u s) :=
  hs.runShell (fun _ k => .ite k.answerVdm k.answerVdm.fallBackOrOwe.finish.updLink)

theorem execNoContractTimeout (hs : Stays s₀ s) : Continues s₀ (execNoContractTimeout u s) :=
  hs.runCore (fun _ k => .ite k.fallBack k)

theorem execNoEnterModeTimeout (hs : Stays s₀ s) : Continues s₀ (execNoEnterModeTimeout u s) :=
  hs.runCore (fun _ k => .ite k.fallBack k)

theorem execExitModeWaitTimeout (hs : Stays s₀ s) : Continues s₀ (execExitModeWaitTimeout u s) :=
  hs.runCore (fun _ k => .ite k.hardReset k)

theorem execBringupStateExit (hs : Stays s₀ s) : Continues s₀ (execBringupStateExit l ok s) :=
  hs.runCore (fun _ k => .ite k (.ite k.nextPhase k))

theorem execBringupStateTimeout (hs : Stays s₀ s) : Continues s₀ (execBringupStateTimeout l ok s) :=
  hs.runCore (fun _ k => .ite k (.ite k.nextPhase (.ite k.failAttempt k.nextPhase)))

theorem execBringupRetryWait (hs : Stays s₀ s) : Continues s₀ (execBringupRetryWait l s) :=
  hs.runCore (fun _ k => .ite k.nextAttempt k)

theorem execCapReceived (hs : Stays s₀ s) : Continues s₀ (execCapReceived l b s) :=
  hs.runCore (fun _ k => .ite k (.ite k.linkCount (.ite k (.ite k.same k.failAttempt))))

theorem execRetrainReceived (hs : Stays s₀ s) : Continues s₀ (execRetrainReceived l s) :=
  hs.runCore (fun _ k => k.startRetrain)

theorem execRetrainTimeout (hs : Stays s₀ s) : Continues s₀ (execRetrainTimeout l s) := by
  unfold Machine.execRetrainTimeout
  refine hs.runCore (fun _ k => ?_)
  refine .ite k ?_
  split
  · exact k.loseAttached
  · exact k.startBringUp

theorem badFrame (hs : Stays s₀ s) : Stays s₀ (badFrame l p s) :=
  .ite hs.same.linkCount.updLink.laneFails hs.same.linkCount

theorem resumeLane (hs : Stays s₀ s) : Stays s₀ (resumeLane l p s) := .ite hs hs.same

theorem goodFrame {f : RawFrame} (hs : Stays s₀ s) : Stays s₀ (goodFrame l p f s) :=
  .ite
    (.ite (.takeBond (.receiveGood (.resumeLane (.ite hs.same hs)))) (.receiveGood (.resumeLane (.ite hs.same hs))))
    (.wakeLane (.ite
      (.takeBond (.receiveGood (.resumeLane (.ite hs.same hs))))
      (.receiveGood (.resumeLane (.ite hs.same hs)))))

theorem receiveFrame {kept : List Block} (hs : Stays s₀ s) : Stays s₀ (receiveFrame l p kept s) := by
  unfold Machine.receiveFrame
  split
  · exact .ite hs.goodFrame hs.badFrame
  · exact .ite hs.badFrame hs

theorem execLinkFrameReceive {bs : List Block} (hs : Stays s₀ s) : Continues s₀ (execLinkFrameReceive l p bs s) :=
  hs.runCore (fun _ k => .ite (.ite k.takeBlocks.receiveFrame k.takeBlocks) k)

theorem execNakReceived (hs : Stays s₀ s) : Continues s₀ (execNakReceived l b s) :=
  hs.runCore (fun _ k => .ite k (.ite k.linkCount (.ite k k.linkCount.updLink)))

theorem execReplayTimeout (hs : Stays s₀ s) : Continues s₀ (execReplayTimeout l s) :=
  hs.runCore (fun _ k => .ite k.same.linkCount k)

theorem sendReplay {q : BitVec 12} (hs : Stays s₀ s) : Stays s₀ (sendReplay l p q s) := by
  unfold Machine.sendReplay
  split
  · exact hs
  · exact .ite hs.same.putFrame.linkCount.startRetrain hs.same.putFrame.linkCount

theorem fillSlot {n : Nat} (hs : Stays s₀ s) : Stays s₀ (fillSlot u n s) := by
  induction n generalizing s with
  | zero => exact hs
  | succ n ih =>
    unfold Machine.fillSlot
    refine .ite hs ?_
    split
    · exact ih hs.sendPacket
    · exact hs

theorem sendFrame (hs : Stays s₀ s) : Stays s₀ (sendFrame l p s) := by
  unfold Machine.sendFrame
  split
  · exact hs.sendReplay
  · refine .ite ?_ ?_
    · refine .putData ?_
      split
      · exact .ite hs.fillSlot hs
      · exact hs.serveBond
    · refine .ite ?_ ?_
      · refine .putData ?_
        split
        · exact .ite hs.fillSlot hs
        · exact hs.serveBond
      · refine .putFrame ?_
        split
        · exact .ite hs.fillSlot hs
        · exact hs.serveBond

theorem execLinkFrameSend (hs : Stays s₀ s) : Continues s₀ (execLinkFrameSend l p s) :=
  hs.runCore (fun _ k => .ite k.sendFrame (.ite k.same k))

theorem turnAnswered {t : Turn} (hs : Stays s₀ s) : Stays s₀ (turnAnswered u refuse t s) :=
  .ite hs.refuseTurn (.updLink (.ite hs.same hs))

theorem execAllotAckReceived (hs : Stays s₀ s) : Continues s₀ (execAllotAckReceived u b2 b3 refuse s) := by
  unfold Machine.execAllotAckReceived
  refine hs.runCore (fun _ k => ?_)
  dsimp only
  split
  · exact .ite k.turnAnswered k
  · exact k

theorem execAllotAckTimeout (hs : Stays s₀ s) : Continues s₀ (execAllotAckTimeout u s) := by
  unfold Machine.execAllotAckTimeout
  refine hs.runCore (fun _ k => ?_)
  split
  · exact .ite k.refuseTurn k
  · exact k

theorem execTurnBlockLock (hs : Stays s₀ s) : Continues s₀ (execTurnBlockLock u s) := by
  unfold Machine.execTurnBlockLock
  refine hs.runCore (fun _ k => ?_)
  dsimp only
  split
  · refine .ite (.sendSet (.updLink ?_)) k
    split
    · exact k
    · exact k.takeFree
  · exact k

theorem execTurnBlockLockTimeout (hs : Stays s₀ s) : Continues s₀ (execTurnBlockLockTimeout u s) := by
  unfold Machine.execTurnBlockLockTimeout
  refine hs.runCore (fun _ k => ?_)
  split
  · exact .ite k.loseTurning k
  · exact k

theorem execTurnFirstFrame (hs : Stays s₀ s) : Continues s₀ (execTurnFirstFrame u s) := by
  unfold Machine.execTurnFirstFrame
  refine hs.runCore (fun _ k => ?_)
  split
  · exact .ite k.completeTurn k
  · exact k

theorem execAllotDoneReceived (hs : Stays s₀ s) : Continues s₀ (execAllotDoneReceived u b2 b3 s) := by
  unfold Machine.execAllotDoneReceived
  refine hs.runCore (fun _ k => ?_)
  dsimp only
  split
  · exact .ite k.completeTurn k
  · exact k

theorem execSpareTurnTimeout (hs : Stays s₀ s) : Continues s₀ (execSpareTurnTimeout u s) := by
  unfold Machine.execSpareTurnTimeout
  refine hs.runCore (fun _ k => ?_)
  split
  · exact .ite k.loseTurning k
  · exact k

theorem execLaneLost {blockLock : Bool} (hs : Stays s₀ s) : Continues s₀ (execLaneLost l p blockLock s) :=
  hs.runCore (fun _ k => .ite k (.ite (.retryFails (.ite k.linkCount k)) (.laneFails (.ite k.linkCount k))))

theorem laneDown (hs : Stays s₀ s) : Stays s₀ (laneDown l lost restored spare s p) := by
  unfold Machine.laneDown
  dsimp only
  split
  · exact .ite
      (.startSpare (.ite
        (.ite
          (.finish (.sendSetOn (.rejoinLane (.ite hs.laneFails hs))))
          (.sendSetOn (.rejoinLane (.ite hs.laneFails hs))))
        (.ite hs.laneFails hs)))
      (.ite
        (.ite
          (.finish (.sendSetOn (.rejoinLane (.ite hs.laneFails hs))))
          (.sendSetOn (.rejoinLane (.ite hs.laneFails hs))))
        (.ite hs.laneFails hs))
  · exact .ite
      (.ite
        (.finish (.sendSetOn (.rejoinLane (.ite hs.laneFails hs))))
        (.sendSetOn (.rejoinLane (.ite hs.laneFails hs))))
      (.ite hs.laneFails hs)

theorem execLaneDownReceived (hs : Stays s₀ s) : Continues s₀ (execLaneDownReceived l lost restored spare s) :=
  hs.runCore (fun _ k => .ite (k.foldl (fun _ _ k' => k'.laneDown)) k)

theorem execLaneRestoreAttempt (hs : Stays s₀ s) : Continues s₀ (execLaneRestoreAttempt l p s) :=
  hs.runCore (fun _ k => .ite (.tryLane (.ite k.retryFails k)) (.ite k.retryFails k))

theorem execLaneRestored (hs : Stays s₀ s) : Continues s₀ (execLaneRestored l p s) :=
  hs.runCore (fun _ k => .ite (.ite k.restoreLane.adaptFrom.finish k.restoreLane.adaptFrom) k)

theorem execLaneIdleTimeout {target : Sleep} (hs : Stays s₀ s) : Continues s₀ (execLaneIdleTimeout l p target s) :=
  hs.runCore (fun _ k => .ite k.wakeLane.putFrame.sendSetOn.updLink.linkCount.settleDeep k)

theorem execEiosReceived {target : Byte} (hs : Stays s₀ s) : Continues s₀ (execEiosReceived l p target s) := by
  unfold Machine.execEiosReceived
  refine hs.runCore (fun _ k => ?_)
  refine .ite k ?_
  split
  · exact .ite (.settleDeep (.ite k.adaptTo.updLink k.adaptTo.updLink.announce.linkCount)) k
  · split
    · exact .ite k.same k
    · exact k

theorem execLaneWake (hs : Stays s₀ s) : Continues s₀ (execLaneWake l p s) :=
  hs.runCore (fun _ k => .ite k.wakeLane k)

theorem execResumeReceived (hs : Stays s₀ s) : Continues s₀ (execResumeReceived l p s) :=
  hs.runCore (fun _ k => .ite k.resumeLane k)

theorem repeatBursts {n : Nat} (hs : Stays s₀ s) : Stays s₀ (repeatBursts l n s) := hs.same

theorem burstsSince {k : Link} (hs : Stays s₀ s) : Stays s₀ (burstsSince k s).2 := .iteSnd hs hs.same

theorem execWakeBurstReceived (hs : Stays s₀ s) : Continues s₀ (execWakeBurstReceived u s) :=
  hs.runCore (fun _ k =>
    .ite (.ite k.linkCount.burstsSince.repeatBursts.leaveDeep k.linkCount.repeatBursts.leaveDeep) k)

theorem execWakePatternTimeout (hs : Stays s₀ s) : Continues s₀ (execWakePatternTimeout u s) :=
  hs.runCore (fun _ k => .ite k.same.startRetrain k)

theorem execTapSaturationTimeout {tap : Fin 12} (hs : Stays s₀ s) :
    Continues s₀ (execTapSaturationTimeout l p tap s) := hs.runCore (fun _ k => .ite k.same.linkCount k)

theorem execLinkCounterWindow {k : Fin 16} (hs : Stays s₀ s) : Continues s₀ (execLinkCounterWindow u k s) :=
  hs.runCore (fun _ k => k.same)

end

section

/-! `Stays` through the functions of `Sys2Proof/Machine/Tunnel.lean`. -/

variable {op : Half} {c a : Cmd} {t : Tunnel} {u : Up} {h : HostNo} {tid : Byte}

theorem onHost {f : Up → Cmd → State → State} (hs : Stays s₀ s) (hf : ∀ x y u, Stays s₀ u → Stays s₀ (f x y u)) :
    Stays s₀ (onHost op f c s) := by
  unfold Machine.onHost
  split
  · exact hf _ _ _ hs
  · exact hs.fail

theorem engineOpens (hs : Stays s₀ s) : Stays s₀ (engineOpens t s) :=
  .ite hs (.ite hs.resetUsbPorts.presentUsb (.ite
    (.settlePorts (hs.foldl (fun _ _ k => .ite k.same k)))
    (.ite hs.deliverAll hs)))

theorem openAcross (hs : Stays s₀ s) : Stays s₀ (openAcross c t s) := by
  unfold Machine.openAcross
  split
  · exact hs.fail
  · exact hs.same

theorem openTunnel (hs : Stays s₀ s) : Stays s₀ (openTunnel u c s) := by
  unfold Machine.openTunnel
  refine .ite hs.fail (.ite hs.fail (.ite hs.refuseOrRaise ?_))
  refine .ite (.fail (.ite (.ite hs hs.shaperReject) (.shaperReject (.ite hs hs.shaperReject)))) ?_
  refine .ite hs.openAcross ?_
  split
  · exact hs.fail
  · exact hs.same.ok.noteTunnel.engineOpens

theorem openFar (hs : Stays s₀ s) : Stays s₀ (openFar c s) := by
  unfold Machine.openFar
  refine .ite hs.fail (.ite hs.fail (.ite hs.fail (.ite hs.refuseOrRaise ?_)))
  split
  · exact hs.fail
  · exact hs.same.ok.engineOpens

theorem openOwn (hs : Stays s₀ s) : Stays s₀ (openOwn a s) :=
  hs.onHost (fun _ _ _ k => .ite k.fail (.ite k.holdRequest k.openTunnel))

theorem tunOpenBody (hs : Stays s₀ s) : Stays s₀ (tunOpenBody c s) := .ite hs.openFar hs.openOwn

theorem execTunOpen (hs : Stays s₀ s) : Continues s₀ (execTunOpen c s) :=
  .next (hs.runCmd (fun _ _ k => k.tunOpenBody))

theorem leaveEngine (hs : Stays s₀ s) : Stays s₀ (leaveEngine t s) :=
  .ite hs.tellClosed.dropTunnel.settlePorts (.ite hs.tellClosed.dropTunnel.presentUsb (.ite
    hs.tellClosed.dropTunnel.downVirtual
    hs.tellClosed.dropTunnel))

theorem closeTunnel (hs : Stays s₀ s) : Stays s₀ (closeTunnel t s) := hs.leaveEngine.finish.tunEvent

theorem closeOwn (hs : Stays s₀ s) : Stays s₀ (closeOwn a s) := by
  unfold Machine.closeOwn
  refine hs.onHost (fun _ _ _ k => ?_)
  refine .ite k.fail ?_
  split
  · exact k.ok
  · exact .ite k.fail (k.startPending (fun _ k' =>
      .ite
        (.downVirtual (.noteTunnel (.updTunnel (.ite k'.cancelTunnel k'))))
        (.noteTunnel (.updTunnel (.ite k'.cancelTunnel k')))))

theorem tunCloseBody (hs : Stays s₀ s) : Stays s₀ (tunCloseBody c s) := by
  unfold Machine.tunCloseBody
  split
  · exact hs.leaveEngine.ok
  · exact hs.closeOwn

theorem execTunClose (hs : Stays s₀ s) : Continues s₀ (execTunClose c s) :=
  .next (hs.runCmd (fun _ _ k => k.tunCloseBody))

theorem execTunCloseDrained (hs : Stays s₀ s) : Continues s₀ (execTunCloseDrained h tid s) := by
  unfold Machine.execTunCloseDrained
  refine hs.runCore (fun _ k => ?_)
  split
  · exact .ite k.closeTunnel k
  · exact k

theorem execTunCloseTimeout (hs : Stays s₀ s) : Continues s₀ (execTunCloseTimeout h tid s) := by
  unfold Machine.execTunCloseTimeout
  refine hs.runCore (fun _ k => ?_)
  split
  · exact .ite (.closeTunnel (.ite k.abandonStorage k)) k
  · exact k

theorem addCommit {k : CommitSet} (hs : Stays s₀ s) : Stays s₀ (addCommit op c k s) := .ite hs.fail hs.same

theorem tunShapeBody (hs : Stays s₀ s) : Stays s₀ (tunShapeBody a s) := by
  unfold Machine.tunShapeBody
  refine hs.onHost (fun _ _ _ k => ?_)
  refine .ite k.fail ?_
  split
  · exact k.fail
  · exact .ite k.fail (.ite k.ok (.ite k.fail (.ite k.holdRequest (.ite k.refuseOrRaise k.addCommit))))

theorem execTunShape (hs : Stays s₀ s) : Continues s₀ (execTunShape c s) :=
  .next (hs.runCmd (fun _ _ k => k.tunShapeBody))

theorem tunPoliceBody (hs : Stays s₀ s) : Stays s₀ (tunPoliceBody a s) := by
  unfold Machine.tunPoliceBody
  refine hs.onHost (fun _ _ _ k => ?_)
  refine .ite k.fail ?_
  split
  · exact k.fail
  · exact .ite k.fail (.ite k.fail (.ite k.refuseOrRaise k.addCommit))

theorem execTunPolice (hs : Stays s₀ s) : Continues s₀ (execTunPolice c s) :=
  .next (hs.runCmd (fun _ _ k => k.tunPoliceBody))

theorem clearQuery (hs : Stays s₀ s) : Stays s₀ (clearQuery u h tid s) := .ite hs.same.setScheds hs.same

theorem tunQueryOp (hs : Stays s₀ s) : Stays s₀ (tunQueryOp a s) := hs.onHost (fun _ _ _ k => k.ok)

theorem tunQueryClearOp (hs : Stays s₀ s) : Stays s₀ (tunQueryClearOp a s) :=
  hs.onHost (fun _ _ _ k => k.clearQuery.ok)

theorem tunQueryBody (hs : Stays s₀ s) : Stays s₀ (tunQueryBody c s) :=
  .ite hs.tunQueryOp (hs.onlyWhen (fun _ _ k => k.tunQueryClearOp))

theorem execTunQuery (hs : Stays s₀ s) : Continues s₀ (execTunQuery c s) :=
  .next (hs.runCmd (fun _ _ k => k.onlyWhen (fun _ _ k' => k'.tunQueryOp)))

theorem execTunQueryClear (hs : Stays s₀ s) : Continues s₀ (execTunQueryClear c s) :=
  .next (hs.runCmd (fun _ _ k => k.onlyWhen (fun _ _ k' => k'.tunQueryClearOp)))

theorem classSetBody (hs : Stays s₀ s) : Stays s₀ (classSetBody a s) :=
  hs.onHost (fun _ _ _ k => .ite k.fail (.ite k.ok (.ite k.fail k.addCommit)))

theorem execClassSet (hs : Stays s₀ s) : Continues s₀ (execClassSet c s) :=
  .next (hs.runCmd (fun _ _ k => k.classSetBody))

theorem schedStartOp (hs : Stays s₀ s) : Stays s₀ (schedStartOp c s) :=
  .ite hs.fail (.ite hs.fail (.ite hs.fail hs.same.ok))

theorem schedStopOp (hs : Stays s₀ s) : Stays s₀ (schedStopOp c s) := .ite hs.ok hs.same.ok

theorem schedReleaseOp (hs : Stays s₀ s) : Stays s₀ (schedReleaseOp c s) := .ite hs.fail hs.same.ok

theorem schedSampleBody (hs : Stays s₀ s) : Stays s₀ (schedSampleBody c s) :=
  .ite hs.schedStartOp (.ite hs.schedStopOp (hs.onlyWhen (fun _ _ k => k.schedReleaseOp)))

theorem execSchedSampleStart (hs : Stays s₀ s) : Continues s₀ (execSchedSampleStart c s) :=
  .next (hs.runCmd (fun _ _ k => k.onlyWhen (fun _ _ k' => k'.schedStartOp)))

theorem execSchedSampleStop (hs : Stays s₀ s) : Continues s₀ (execSchedSampleStop c s) :=
  .next (hs.runCmd (fun _ _ k => k.onlyWhen (fun _ _ k' => k'.schedStopOp)))

theorem execSchedSampleRelease (hs : Stays s₀ s) : Continues s₀ (execSchedSampleRelease c s) :=
  .next (hs.runCmd (fun _ _ k => k.onlyWhen (fun _ _ k' => k'.schedReleaseOp)))

theorem carryAcross (hs : Stays s₀ s) : Stays s₀ (carryAcross h tid s) := by
  unfold Machine.carryAcross
  split
  · split
    · split
      next hm => exact (hs.takeMessage hm).emit
      next => exact hs
    · exact hs
  · exact hs

theorem creditArrives (hs : Stays s₀ s) : Stays s₀ (creditArrives h tid s) := by
  unfold Machine.creditArrives
  split
  · exact .ite hs.deliverAll hs
  · exact hs

theorem execTunnelPacketReceive (hs : Stays s₀ s) : Continues s₀ (execTunnelPacketReceive u s) := by
  unfold Machine.execTunnelPacketReceive
  refine hs.runCore (fun _ k => ?_)
  split
  · exact k
  · exact .ite k.same.receivePacket.carryAcross.creditArrives k.same.receivePacket.carryAcross.creditArrives.replicate

theorem execSchedSelect (hs : Stays s₀ s) : Continues s₀ (execSchedSelect u s) :=
  hs.runCore (fun _ k => .ite k.selectNext k)

theorem execSchedRefill (hs : Stays s₀ s) : Continues s₀ (execSchedRefill s) := hs.runCore (fun _ k => k.same.refill)

theorem onTunnel {f : Tunnel → State → State} (hs : Stays s₀ s) (hf : ∀ x u, Stays s₀ u → Stays s₀ (f x u)) :
    Stays s₀ (onTunnel u tid f s) := by
  unfold Machine.onTunnel
  split
  · exact .ite (hf _ _ hs) hs
  · exact hs

theorem owe (hs : Stays s₀ s) : Stays s₀ (owe t s) := hs.same

theorem execCreditReturnTimeout (hs : Stays s₀ s) : Continues s₀ (execCreditReturnTimeout u tid s) :=
  hs.runCore (fun _ k => k.onTunnel (fun _ _ k' => .ite k'.owe k'))

theorem execKeepaliveSendTimeout (hs : Stays s₀ s) : Continues s₀ (execKeepaliveSendTimeout u tid s) :=
  hs.runCore (fun _ k => k.onTunnel (fun _ _ k' => .ite k' k'.owe))

theorem execTunnelSilentTimeout (hs : Stays s₀ s) : Continues s₀ (execTunnelSilentTimeout u tid s) :=
  hs.runCore (fun _ k => k.onTunnel (fun _ _ k' => .ite k' k'.updTunnel.noteTunnel))

theorem execCreditStallTimeout (hs : Stays s₀ s) : Continues s₀ (execCreditStallTimeout u tid s) := by
  unfold Machine.execCreditStallTimeout
  refine hs.runCore (fun _ k => ?_)
  split
  · exact k
  · split
    · exact k
    · exact .ite k k.same.raise

end

section

/-! `Stays` through the functions of `Sys2Proof/Machine/Display.lean`. -/

variable {o : OutNo} {c : Cmd} {r : Option (Fin 8)} {path : Bool}

theorem stopVideo (hs : Stays s₀ s) : Stays s₀ (stopVideo o s) := by
  unfold Machine.stopVideo
  split
  · exact .ite hs.same.finish.settleOff hs.same
  · exact hs

theorem dispModeSetBody (hs : Stays s₀ s) : Stays s₀ (dispModeSetBody c s) :=
  .ite hs.fail (.ite hs.fail (.ite hs.fail (.ite hs.fail (.ite hs.ok (.ite hs.holdRequest (.ite hs.refuseOrRaise
    (hs.startPending (fun _ k => .ite k.same.stopVideo k.same))))))))

theorem execDispModeSet (hs : Stays s₀ s) : Continues s₀ (execDispModeSet c s) :=
  .next (hs.runCmd (fun _ _ k => k.dispModeSetBody))

theorem execDispPllLocked (hs : Stays s₀ s) : Continues s₀ (execDispPllLocked o s) := by
  unfold Machine.execDispPllLocked
  refine hs.runCore (fun _ k => ?_)
  split
  · exact .ite k.same k
  · exact k

theorem allocateOp (hs : Stays s₀ s) : Stays s₀ (allocateOp c s) := by
  unfold Machine.allocateOp
  refine .ite hs.fail (.ite hs.ok ?_)
  split
  · exact hs.fail
  · exact .ite hs.fail
      (.raise (.ok (.clearPoison (hs.memories (hm := memClear_wf _ _ _)))))

theorem adoptOp (hs : Stays s₀ s) : Stays s₀ (adoptOp c s) := by
  unfold Machine.adoptOp
  refine .ite hs.fail ?_
  split
  · exact hs.fail
  · exact .ite hs.fail (.ite hs.fail (.ok (hs.same.setDisp.foldl (fun _ _ k => k.settleOff))))

theorem quotaOp (hs : Stays s₀ s) : Stays s₀ (quotaOp c s) := .ite hs.fail hs.same.ok

theorem dispRegionAllocBody (hs : Stays s₀ s) : Stays s₀ (dispRegionAllocBody c s) :=
  .ite hs.allocateOp (.ite hs.adoptOp (hs.onlyWhen (fun _ _ k => k.quotaOp)))

theorem execDispRegionAllocAllocate (hs : Stays s₀ s) : Continues s₀ (execDispRegionAllocAllocate c s) :=
  .next (hs.runCmd (fun _ _ k => k.onlyWhen (fun _ _ k' => k'.allocateOp)))

theorem execDispRegionAllocAdopt (hs : Stays s₀ s) : Continues s₀ (execDispRegionAllocAdopt c s) :=
  .next (hs.runCmd (fun _ _ k => k.onlyWhen (fun _ _ k' => k'.adoptOp)))

theorem execDispRegionAllocQuota (hs : Stays s₀ s) : Continues s₀ (execDispRegionAllocQuota c s) :=
  .next (hs.runCmd (fun _ _ k => k.onlyWhen (fun _ _ k' => k'.quotaOp)))

theorem dispRegionReleaseBody (hs : Stays s₀ s) : Stays s₀ (dispRegionReleaseBody c s) := by
  unfold Machine.dispRegionReleaseBody
  refine .ite hs.fail ?_
  split
  · exact hs.fail
  · exact .ite hs.fail (.ite hs.fail (.ite hs.ok.freeRegion (.ite hs.fail hs.same.respond)))

theorem execDispRegionRelease (hs : Stays s₀ s) : Continues s₀ (execDispRegionRelease c s) :=
  .next (hs.runCmd (fun _ _ k => k.dispRegionReleaseBody))

theorem commitFor {op : Half} {g : Fin 6} {claim : Option (Fin 8)} {release : Bool} (hs : Stays s₀ s) :
    Stays s₀ (commitFor op c o g claim release s) :=
  .ite hs.fail (hs.requestCommit.startPending (fun _ k => k.settleOff))

theorem layerClaimOp (hs : Stays s₀ s) : Stays s₀ (layerClaimOp c s) := .ite hs.fail (.ite hs.fail hs.same.commitFor)

theorem layerShadowOp (hs : Stays s₀ s) : Stays s₀ (layerShadowOp c s) := .ite hs.fail hs.same.ok

theorem layerReleaseOp (hs : Stays s₀ s) : Stays s₀ (layerReleaseOp c s) := .ite hs.fail hs.commitFor

theorem dispLayerBindBody (hs : Stays s₀ s) : Stays s₀ (dispLayerBindBody c s) :=
  .ite hs.layerClaimOp (.ite hs.layerShadowOp (hs.onlyWhen (fun _ _ k => k.layerReleaseOp)))

theorem execDispLayerBindClaim (hs : Stays s₀ s) : Continues s₀ (execDispLayerBindClaim c s) :=
  .next (hs.runCmd (fun _ _ k => k.onlyWhen (fun _ _ k' => k'.layerClaimOp)))

theorem execDispLayerBindShadow (hs : Stays s₀ s) : Continues s₀ (execDispLayerBindShadow c s) :=
  .next (hs.runCmd (fun _ _ k => k.onlyWhen (fun _ _ k' => k'.layerShadowOp)))

theorem execDispLayerBindRelease (hs : Stays s₀ s) : Continues s₀ (execDispLayerBindRelease c s) :=
  .next (hs.runCmd (fun _ _ k => k.onlyWhen (fun _ _ k' => k'.layerReleaseOp)))

theorem crcWriteOp (hs : Stays s₀ s) : Stays s₀ (crcWriteOp c s) := .ite hs.same.ok hs.fail

theorem crcCommitOp (hs : Stays s₀ s) : Stays s₀ (crcCommitOp c s) := .ite hs.fail (.ite hs.fail hs.same.commitFor)

theorem crcGrantOp {on : Bool} (hs : Stays s₀ s) : Stays s₀ (crcGrantOp on c s) := by
  unfold Machine.crcGrantOp
  split
  · exact .ite hs.same.ok hs.fail
  · exact hs.fail

theorem dispCrcRegionBody (hs : Stays s₀ s) : Stays s₀ (dispCrcRegionBody c s) :=
  .ite hs.crcWriteOp (.ite hs.crcCommitOp (.ite hs.crcGrantOp (hs.onlyWhen (fun _ _ k => k.crcGrantOp))))

theorem execDispCrcRegionWrite (hs : Stays s₀ s) : Continues s₀ (execDispCrcRegionWrite c s) :=
  .next (hs.runCmd (fun _ _ k => k.onlyWhen (fun _ _ k' => k'.crcWriteOp)))

theorem execDispCrcRegionCommit (hs : Stays s₀ s) : Continues s₀ (execDispCrcRegionCommit c s) :=
  .next (hs.runCmd (fun _ _ k => k.onlyWhen (fun _ _ k' => k'.crcCommitOp)))

theorem execDispCrcRegionGrant (hs : Stays s₀ s) : Continues s₀ (execDispCrcRegionGrant c s) :=
  .next (hs.runCmd (fun _ _ k => k.onlyWhen (fun _ _ k' => k'.crcGrantOp)))

theorem execDispCrcRegionRevoke (hs : Stays s₀ s) : Continues s₀ (execDispCrcRegionRevoke c s) :=
  .next (hs.runCmd (fun _ _ k => k.onlyWhen (fun _ _ k' => k'.crcGrantOp)))

theorem dispHoldPolicyBody (hs : Stays s₀ s) : Stays s₀ (dispHoldPolicyBody c s) := .ite hs.fail hs.same.ok

theorem execDispHoldPolicy (hs : Stays s₀ s) : Continues s₀ (execDispHoldPolicy c s) :=
  .next (hs.runCmd (fun _ _ k => k.dispHoldPolicyBody))

theorem outStatusReadOp (hs : Stays s₀ s) : Stays s₀ (outStatusReadOp c s) := hs.ok

theorem outStatusEdidOp (hs : Stays s₀ s) : Stays s₀ (outStatusEdidOp c s) := .ite hs.ok hs.fail

theorem outStatusClearOp (hs : Stays s₀ s) : Stays s₀ (outStatusClearOp c s) := hs.ok.updOut.setDisp

theorem dispOutputStatusBody (hs : Stays s₀ s) : Stays s₀ (dispOutputStatusBody c s) :=
  .ite hs.outStatusReadOp (.ite hs.outStatusEdidOp (hs.onlyWhen (fun _ _ k => k.outStatusClearOp)))

theorem execDispOutputStatusRead (hs : Stays s₀ s) : Continues s₀ (execDispOutputStatusRead c s) :=
  .next (hs.runCmd (fun _ _ k => k.onlyWhen (fun _ _ k' => k'.outStatusReadOp)))

theorem execDispOutputStatusEdid (hs : Stays s₀ s) : Continues s₀ (execDispOutputStatusEdid c s) :=
  .next (hs.runCmd (fun _ _ k => k.onlyWhen (fun _ _ k' => k'.outStatusEdidOp)))

theorem execDispOutputStatusClear (hs : Stays s₀ s) : Continues s₀ (execDispOutputStatusClear c s) :=
  .next (hs.runCmd (fun _ _ k => k.onlyWhen (fun _ _ k' => k'.outStatusClearOp)))

/-- A hold image's tile written in a canonical memory leaves it canonical. -/
theorem holdTile_wf {b : List Byte} {m m' : Memory} (he : holdTile b m = some m') (hm : memWf m = true) :
    memWf m' = true := by
  unfold Machine.holdTile at he
  split at he
  · cases he
  · obtain ⟨ps, -, rfl⟩ := Option.map_eq_some_iff.1 he
    exact writePixels_wf hm

theorem holdLoadOp (hs : Stays s₀ s) : Stays s₀ (holdLoadOp c s) := by
  have k : Stays s₀ (setAssembly none s) := hs.same
  unfold Machine.holdLoadOp
  refine .ite hs.fail (.ite k.fail (.ite hs.fail (.ite hs.same.ok ?_)))
  split
  next he => exact (k.landHold (holdTile_wf he)).ok
  next => exact k.fail

theorem holdPlaceOp (hs : Stays s₀ s) : Stays s₀ (holdPlaceOp c s) := .ite hs.fail hs.same.ok

theorem holdEnterOp (hs : Stays s₀ s) : Stays s₀ (holdEnterOp c s) := .ite hs.fail hs.same.ok.holdOutputs

theorem holdLeaveOp (hs : Stays s₀ s) : Stays s₀ (holdLeaveOp c s) :=
  .ite hs.fail (hs.same.ok.foldl (fun _ _ k => k.settleOff))

theorem dispHoldScreenBody (hs : Stays s₀ s) : Stays s₀ (dispHoldScreenBody c s) :=
  .ite hs.holdLoadOp (.ite hs.holdPlaceOp (.ite hs.holdEnterOp (hs.onlyWhen (fun _ _ k => k.holdLeaveOp))))

theorem execDispHoldScreenLoad (hs : Stays s₀ s) : Continues s₀ (execDispHoldScreenLoad c s) :=
  .next (hs.runCmd (fun _ _ k => k.onlyWhen (fun _ _ k' => k'.holdLoadOp)))

theorem execDispHoldScreenPlace (hs : Stays s₀ s) : Continues s₀ (execDispHoldScreenPlace c s) :=
  .next (hs.runCmd (fun _ _ k => k.onlyWhen (fun _ _ k' => k'.holdPlaceOp)))

theorem execDispHoldScreenEnter (hs : Stays s₀ s) : Continues s₀ (execDispHoldScreenEnter c s) :=
  .next (hs.runCmd (fun _ _ k => k.onlyWhen (fun _ _ k' => k'.holdEnterOp)))

theorem execDispHoldScreenLeave (hs : Stays s₀ s) : Continues s₀ (execDispHoldScreenLeave c s) :=
  .next (hs.runCmd (fun _ _ k => k.onlyWhen (fun _ _ k' => k'.holdLeaveOp)))

theorem heard {h : HostNo} (hs : Stays s₀ s) : Stays s₀ (heard h s) := .ite hs hs.same

theorem execTileMessage (hs : Stays s₀ s) : Continues s₀ (execTileMessage h tid s) := by
  unfold Machine.execTileMessage
  refine hs.runCore (fun _ k => ?_)
  split
  · refine .ite k ?_
    split
    next hm =>
      have k' := (k.takeMessage hm).heard (h := h)
      exact .ite k'.same (.ite k' (.ite k'.runTile k'.same))
    next => exact k
  · exact k

theorem execFlipMessage (hs : Stays s₀ s) : Continues s₀ (execFlipMessage h tid s) := by
  unfold Machine.execFlipMessage
  refine hs.runCore (fun _ k => ?_)
  split
  · refine .ite ?_ k
    split
    next hm => exact (k.takeMessage hm).heard.runFlip
    next => exact k
  · exact k

theorem blankMode (hs : Stays s₀ s) : Stays s₀ (blankMode o s) := by
  unfold Machine.blankMode
  split
  · exact .ite hs.stopVideo (.ite hs.same.finish hs)
  · exact hs

theorem execVblankStart (hs : Stays s₀ s) : Continues s₀ (execVblankStart o s) :=
  hs.runCore (fun _ k => .ite k.same.raise.safePoint.applyMirror.leaveHold.updOut.noteHoldReads.blankMode.sendTiming k)

theorem regionMismatch {injected : Bool} (hs : Stays s₀ s) : Stays s₀ (regionMismatch o r path injected s) := by
  unfold Machine.regionMismatch
  refine .raise (.ite ?_ ?_)
  · refine .logFault ?_
    split
    · exact hs.same
    · exact hs
  · split
    · exact hs.same
    · exact hs

theorem compareRegion {differs : Bool} (hs : Stays s₀ s) : Stays s₀ (compareRegion o r path differs s) :=
  .ite hs.same.regionMismatch hs.same

theorem execCrcRegionFinal {pathDiffers : Bool} (hs : Stays s₀ s) :
    Continues s₀ (execCrcRegionFinal o r pathDiffers s) := by
  unfold Machine.execCrcRegionFinal
  refine hs.runCore (fun _ k => ?_)
  refine .ite k ?_
  split
  · exact .ite k.compareRegion k
  · exact .ite k (k.same.foldl (fun _ _ k' => k'.compareRegion))

theorem execScanoutUnderrun (hs : Stays s₀ s) : Continues s₀ (execScanoutUnderrun o s) :=
  hs.runCore (fun _ k => .ite k.same.logFault k)

theorem execDpHpdChange {e : HpdEvent} (hs : Stays s₀ s) : Continues s₀ (execDpHpdChange o e s) :=
  hs.runCore (fun _ k => .ite k.same k)

theorem execDpLinkTrainingDone {trained : Bool} (hs : Stays s₀ s) :
    Continues s₀ (execDpLinkTrainingDone o trained s) :=
  hs.runCore (fun _ k => .ite k (.ite k.same.sendTiming.showLink k.same.sendTiming))

theorem execDpLinkRetryTimeout (hs : Stays s₀ s) : Continues s₀ (execDpLinkRetryTimeout o s) :=
  hs.runCore (fun _ k => k.same)

theorem execHoldTimeout (hs : Stays s₀ s) : Continues s₀ (execHoldTimeout o s) := hs.runCore (fun _ k => k.same)

end

section

/-! `Stays` through the functions of `Sys2Proof/Machine/PcieFlow.lean`. -/

variable {h : HostNo} {f : SwitchFn} {status off : Nat} {t : List Byte} {p q : PciePort} {e : PrefetchEntry}
variable {tid : Byte} {r : NpRequest}

theorem refuseNp (hs : Stays s₀ s) : Stays s₀ (refuseNp h f status t s) := hs.sendToHost

theorem refuseHost (hs : Stays s₀ s) : Stays s₀ (refuseHost h t s) := .ite hs.aerRecord hs.refuseNp

theorem refuseDevice {bit : Nat} (hs : Stays s₀ s) : Stays s₀ (refuseDevice h p bit status t s) :=
  .ite hs.aerRecord hs.aerRecord.sendTlp

theorem waitForLock {q : QueuedTlp} (hs : Stays s₀ s) : Stays s₀ (waitForLock q s) := hs.same

theorem hotReset (hs : Stays s₀ s) : Stays s₀ (hotReset p s) := .ite hs.quiescePort hs.quiescePort.dropLink

theorem resetFn (hs : Stays s₀ s) : Stays s₀ (resetFn h p s) := by
  have k := hs.memories (u := { s with pcie := { s.pcie with cfg := upd s.pcie.cfg h (fun c => upd c (portFn p)
      (fun m => m.filter (fun e => (decide (0x104 ≤ 4 * e.1) && decide (4 * e.1 < 0x138)) || 4 * e.1 == 0x168))) } })
    (hc := cfgWf_upd h _ (fun _ => sparseFilter_wf _ _ _))
  exact .ite k.mirrorSlot.mirrorPort k.mirrorSlot

theorem linkDisable {on : Bool} (hs : Stays s₀ s) : Stays s₀ (linkDisable h p on s) :=
  .ite hs (.ite hs.quiescePort.disablePort (.ite hs.settlePort hs))

theorem retrainPort (hs : Stays s₀ s) : Stays s₀ (retrainPort p s) := .ite hs.setPortState hs

theorem cfgEffect {old new cleared : Word} (hs : Stays s₀ s) : Stays s₀ (cfgEffect h f off old new cleared s) :=
  .ite
    (.ite (hs.foldl (fun _ _ k => .ite k.hotReset.resetFn.settlePort k.resetFn)) hs)
    (.ite (.ite hs hs.cfgClear) (.ite hs.dropPrefetch (.ite hs (.ite (.ite hs.hotReset hs)
      (.ite
        (.ite
          (.retrainPort (.cfgClear (.ite hs.linkDisable (.ite hs.linkDisable hs))))
          (.ite hs.linkDisable (.ite hs.linkDisable hs)))
        (.ite
          (.ite (.ite hs.powerOffSlot (.ite hs.powerOnSlot hs)) hs)
          (.ite (.ite hs.cfgClear.containPort hs) (.ite (.ite hs.trainPort hs) hs))))))))

theorem cfgWrite {v mask : Word} (hs : Stays s₀ s) : Stays s₀ (cfgWrite h f off v mask s) := hs.cfgSet.cfgEffect

theorem cfgAccess {write : Bool} (hs : Stays s₀ s) : Stays s₀ (cfgAccess h f write t s) :=
  .ite hs.cfgWrite.sendToHost hs.sendToHost

theorem completeFrom (hs : Stays s₀ s) : Stays s₀ (completeFrom h p e t s) := hs.foldl (fun _ _ k => k.sendToHost)

theorem updEntry {k : Fin 16} {f : PrefetchEntry → PrefetchEntry} (hs : Stays s₀ s) : Stays s₀ (updEntry p k f s) :=
  hs.same

theorem countWindow {w : Fin 8} {f : PrefetchWindow → PrefetchWindow} (hs : Stays s₀ s) :
    Stays s₀ (countWindow w f s) := hs.same

theorem useEntry (hs : Stays s₀ s) : Stays s₀ (useEntry h p e t s) := .updEntry (.ite hs.same.completeFrom hs.same)

theorem freeSlot (hs : Stays s₀ s) : Stays s₀ (freeSlot p s).2 := by
  unfold Machine.freeSlot
  dsimp only
  split
  · exact hs
  · exact hs.dropPrefetch

theorem issuePrefetch (hs : Stays s₀ s) : Stays s₀ (issuePrefetch h tid p t s) :=
  .ite hs hs.freeSlot.updPort.countWindow.toDevice

theorem requestTo {peer : Bool} (hs : Stays s₀ s) : Stays s₀ (requestTo h tid p peer t s) :=
  .ite
    (.answerNp (.aerRecord (.ite hs.dropPrefetch hs)))
    (.ite (.waitForLock (.ite hs.dropPrefetch hs)) (.ite (.toDevice (.ite hs.dropPrefetch hs))
      (.ite (.answerNp (.ite hs.dropPrefetch hs)) (.forwardNp (.ite hs.dropPrefetch hs)))))

theorem lockedRead (hs : Stays s₀ s) : Stays s₀ (lockedRead h tid p t s) := by
  unfold Machine.lockedRead
  refine .ite hs.answerNp ?_
  split
  · exact .ite hs.forwardNp hs.same
  · exact hs.same.grantLock

theorem hostRead (hs : Stays s₀ s) : Stays s₀ (hostRead h tid p t s) := by
  unfold Machine.hostRead
  split
  · exact .ite hs.same hs.useEntry
  · exact .ite hs.requestTo hs.requestTo.issuePrefetch

theorem hostMemory (hs : Stays s₀ s) : Stays s₀ (hostMemory h tid t s) := by
  unfold Machine.hostMemory
  refine .ite hs.refuseHost ?_
  split
  · exact hs.refuseHost
  · exact .ite hs.refuseHost (.ite hs.hostRead (.ite hs.lockedRead hs.requestTo))

theorem hostCfg1 (hs : Stays s₀ s) : Stays s₀ (hostCfg1 h tid t s) := by
  unfold Machine.hostCfg1
  refine .ite (.ite hs.refuseNp hs.cfgAccess) ?_
  split
  · exact hs.refuseNp
  · exact .ite hs.refuseNp (.ite (.ite hs.refuseNp hs.requestTo) hs.requestTo)

theorem hostMessage (hs : Stays s₀ s) : Stays s₀ (hostMessage h tid t s) := by
  unfold Machine.hostMessage
  refine .ite ?_ ?_
  · dsimp only
    split
    · exact .ite
        (.releaseLock (hs.foldl (fun _ _ k => .ite k.requestTo k)))
        (hs.foldl (fun _ _ k => .ite k.requestTo k))
    · exact hs.foldl (fun _ _ k => .ite k.requestTo k)
  · refine .ite (hs.foldl (fun _ _ k => .ite k.requestTo k)) (.ite ?_ hs)
    split
    · exact .ite hs.requestTo hs
    · exact hs.refuseHost

theorem endByCpl (hs : Stays s₀ s) : Stays s₀ (endByCpl r t s) :=
  .ite
    (.setPcie (.ite hs.logCompletion (.ite hs.logCompletion hs)))
    (.ite hs.logCompletion (.ite hs.logCompletion hs))

theorem hostCompletion (hs : Stays s₀ s) : Stays s₀ (hostCompletion h tid t s) := by
  unfold Machine.hostCompletion
  split
  · exact hs.aerRecord
  · split
    · exact hs.aerRecord
    · exact .ite hs.endByCpl.toDevice hs.aerRecord

theorem fromHost (hs : Stays s₀ s) : Stays s₀ (fromHost h tid t s) := by
  unfold Machine.fromHost
  refine .ite hs (.ite hs.aerRecord ?_)
  split
  · exact hs.hostMemory
  · exact hs.hostMemory
  · exact hs.hostMemory
  · exact hs.hostMemory
  · exact hs.refuseHost
  · exact .ite hs.cfgAccess hs.refuseNp
  · exact .ite hs.cfgAccess hs.refuseNp
  · exact hs.hostCfg1
  · exact hs.hostCfg1
  · exact hs.hostMessage
  · exact hs.hostCompletion
  · exact hs.hostCompletion
  · exact hs.aerRecord

theorem deviceToHost (hs : Stays s₀ s) : Stays s₀ (deviceToHost h p t s) :=
  .ite (.ite hs.sendToHost hs.lostWrite) hs.forwardNp

theorem toPeer (hs : Stays s₀ s) : Stays s₀ (toPeer h p q t s) := by
  unfold Machine.toPeer
  dsimp only
  split
  · exact hs.refuseDevice
  · exact hs.deviceToHost
  · exact .ite hs.refuseDevice hs.requestTo

theorem deviceMemory (hs : Stays s₀ s) : Stays s₀ (deviceMemory h p t s) :=
  .ite hs.refuseDevice (.ite hs.refuseDevice (.ite hs.toPeer hs.deviceToHost))

theorem deviceMessage (hs : Stays s₀ s) : Stays s₀ (deviceMessage h p t s) := by
  unfold Machine.deviceMessage
  refine .ite (.ite hs hs.containPort) (.ite hs (.ite ?_ hs.deviceToHost))
  split
  · exact .ite hs.toPeer hs.refuseDevice
  · exact hs.deviceToHost

theorem peerCompletion {cpl : List Byte} (hs : Stays s₀ s) : Stays s₀ (peerCompletion h p q r cpl s) := by
  unfold Machine.peerCompletion
  refine .ite (.sendToHost (.ite hs hs.same)) (.returnCpl ?_)
  split
  · exact .ite hs.same hs
  · exact hs

theorem deviceCompletion (hs : Stays s₀ s) : Stays s₀ (deviceCompletion h p t s) := by
  unfold Machine.deviceCompletion
  refine .ite hs ?_
  split
  · exact hs.aerRecord
  · dsimp only
    split
    · exact hs.endByCpl.peerCompletion
    · exact hs.endByCpl.sendToHost

theorem fromDevice (hs : Stays s₀ s) : Stays s₀ (fromDevice p t s) := by
  unfold Machine.fromDevice
  split
  · exact hs
  · refine .ite hs (.ite (.ite hs.lostWrite hs) (.ite hs.aerRecord (.ite hs.refuseDevice ?_)))
    split
    · exact hs.deviceMemory
    · exact hs.deviceMemory
    · exact hs.deviceMemory
    · exact hs.deviceMessage
    · exact hs.deviceCompletion
    · exact hs.deviceCompletion
    · exact hs.refuseDevice

end

section

/-! `Stays` through the functions of `Sys2Proof/Machine/Pcie.lean`. -/

variable {p : PciePort} {on towardHost : Bool} {rate : BitVec 3} {c : Cmd} {rid : BitVec 16} {tag : BitVec 10}
variable {k : Fin 16} {data : Option (List Byte)} {width : BitVec 4}

theorem storePorts (hs : Stays s₀ s) : Stays s₀ (storePorts s) := by
  unfold Machine.storePorts
  exact hs.storeSetting

theorem movePort {up : Option HostNo} (hs : Stays s₀ s) : Stays s₀ (movePort p up s) := by
  unfold Machine.movePort
  dsimp only
  split
  · exact hs.leaveUplink.updPort.resetPort.settleKarxo
  · exact hs.leaveUplink.updPort.parkPort

theorem presenceChange (hs : Stays s₀ s) : Stays s₀ (presenceChange p on s) :=
  .ite hs (.ite
    (.ite hs.same.mirrorPort.noteSlot.trainPort hs.same.mirrorPort.noteSlot)
    (.ite hs.same.mirrorPort.noteSlot hs.same.mirrorPort.noteSlot.quiescePort.dropLink))

theorem settlePresence (hs : Stays s₀ s) : Stays s₀ (settlePresence p s) :=
  .ite hs.presenceChange (.ite hs hs.same.mirrorPort.noteSlot)

theorem applyPort {flags : BitVec 5} (hs : Stays s₀ s) : Stays s₀ (applyPort p rate flags s) :=
  .settlePort (.settleKarxo (.settlePresence (.ite hs.same.mirrorSlot.retrainPort hs.same.mirrorSlot)))

theorem portSetOp (hs : Stays s₀ s) : Stays s₀ (portSetOp c s) :=
  .ite hs.fail (.ite hs.ok (.ite hs.fail (.ite hs.fail (.ite hs.fail (.ite hs.applyPort.storePorts.ok
    (.ite hs.applyPort.movePort.storePorts.ok (hs.startPending (fun _ k =>
      k.leaveUplink.updPort.mirrorSlot.settlePresence.movePort.storePorts))))))))

theorem portSplitOp (hs : Stays s₀ s) : Stays s₀ (portSplitOp c s) :=
  .ite hs.fail (.ite hs.fail hs.same.storePorts.ok)

theorem pciePortCfgBody (hs : Stays s₀ s) : Stays s₀ (pciePortCfgBody c s) :=
  .ite hs.portSetOp (hs.onlyWhen (fun _ _ k => k.portSplitOp))

theorem execPciePortCfgSet (hs : Stays s₀ s) : Continues s₀ (execPciePortCfgSet c s) :=
  .next (hs.runCmd (fun _ _ k => k.onlyWhen (fun _ _ k' => k'.portSetOp)))

theorem execPciePortCfgSplit (hs : Stays s₀ s) : Continues s₀ (execPciePortCfgSplit c s) :=
  .next (hs.runCmd (fun _ _ k => k.onlyWhen (fun _ _ k' => k'.portSplitOp)))

theorem execPcieReassignPerstDone (hs : Stays s₀ s) : Continues s₀ (execPcieReassignPerstDone p s) :=
  hs.runCore (fun _ k => .ite k.trainPort k)

theorem pcieWindowSetBody (hs : Stays s₀ s) : Stays s₀ (pcieWindowSetBody c s) :=
  .ite hs.fail (.ite hs.ok (.ite hs.fail hs.same.dropPrefetch.ok))

theorem execPcieWindowSet (hs : Stays s₀ s) : Continues s₀ (execPcieWindowSet c s) :=
  .next (hs.runCmd (fun _ _ k => k.pcieWindowSetBody))

theorem errlogOp {empty : Bool} (hs : Stays s₀ s) : Stays s₀ (errlogOp empty c s) :=
  .ite hs.fail (.ite hs.ok.setPcie hs.ok)

theorem pcieErrlogReadBody (hs : Stays s₀ s) : Stays s₀ (pcieErrlogReadBody c s) :=
  .ite hs.errlogOp (hs.onlyWhen (fun _ _ k => k.errlogOp))

theorem execPcieErrlogRead (hs : Stays s₀ s) : Continues s₀ (execPcieErrlogRead c s) :=
  .next (hs.runCmd (fun _ _ k => k.onlyWhen (fun _ _ k' => k'.errlogOp)))

theorem execPcieErrlogReadEmpty (hs : Stays s₀ s) : Continues s₀ (execPcieErrlogReadEmpty c s) :=
  .next (hs.runCmd (fun _ _ k => k.onlyWhen (fun _ _ k' => k'.errlogOp)))

theorem slotOp {f : PciePort → State → State} {needsPower : Bool} (hs : Stays s₀ s)
    (hf : ∀ x u, Stays s₀ u → Stays s₀ (f x u)) :
    Stays s₀ (slotOp f needsPower c s) := .ite hs.fail (.ite hs.fail (.ite hs.fail (.ok (hf _ _ hs))))

theorem requestRemoval (hs : Stays s₀ s) : Stays s₀ (requestRemoval p s) := hs.slotChange

theorem slotNumberOp (hs : Stays s₀ s) : Stays s₀ (slotNumberOp c s) :=
  .ite hs.fail (.ite hs.fail hs.same.mirrorSlot.storePorts.ok)

theorem pcieHotplugBody (hs : Stays s₀ s) : Stays s₀ (pcieHotplugBody c s) :=
  .ite (hs.slotOp (fun _ _ k => k)) (.ite (hs.slotOp (fun _ _ k => k.requestRemoval)) (.ite
    (hs.slotOp (fun _ _ k => k.powerOffSlot))
    (.ite (hs.slotOp (fun _ _ k => k.powerOnSlot)) (hs.onlyWhen (fun _ _ k => k.slotNumberOp)))))

theorem execPcieHotplugRead (hs : Stays s₀ s) : Continues s₀ (execPcieHotplugRead c s) :=
  .next (hs.runCmd (fun _ _ k => k.onlyWhen (fun _ _ k' => k'.slotOp (fun _ _ k'' => k''))))

theorem execPcieHotplugRemove (hs : Stays s₀ s) : Continues s₀ (execPcieHotplugRemove c s) :=
  .next (hs.runCmd (fun _ _ k => k.onlyWhen (fun _ _ k' => k'.slotOp (fun _ _ k'' => k''.requestRemoval))))

theorem execPcieHotplugPowerOff (hs : Stays s₀ s) : Continues s₀ (execPcieHotplugPowerOff c s) :=
  .next (hs.runCmd (fun _ _ k => k.onlyWhen (fun _ _ k' => k'.slotOp (fun _ _ k'' => k''.powerOffSlot))))

theorem execPcieHotplugPowerOn (hs : Stays s₀ s) : Continues s₀ (execPcieHotplugPowerOn c s) :=
  .next (hs.runCmd (fun _ _ k => k.onlyWhen (fun _ _ k' => k'.slotOp (fun _ _ k'' => k''.powerOnSlot))))

theorem execPcieHotplugSlotNumber (hs : Stays s₀ s) : Continues s₀ (execPcieHotplugSlotNumber c s) :=
  .next (hs.runCmd (fun _ _ k => k.onlyWhen (fun _ _ k' => k'.slotNumberOp)))

theorem lockReportOp (hs : Stays s₀ s) : Stays s₀ (lockReportOp c s) := hs.ok

theorem lockForceOp (hs : Stays s₀ s) : Stays s₀ (lockForceOp c s) := hs.releaseLock.ok

theorem pcieLockStatusBody (hs : Stays s₀ s) : Stays s₀ (pcieLockStatusBody c s) :=
  .ite hs.lockReportOp (hs.onlyWhen (fun _ _ k => k.lockForceOp))

theorem execPcieLockStatus (hs : Stays s₀ s) : Continues s₀ (execPcieLockStatus c s) :=
  .next (hs.runCmd (fun _ _ k => k.onlyWhen (fun _ _ k' => k'.lockReportOp)))

theorem execPcieLockForceRelease (hs : Stays s₀ s) : Continues s₀ (execPcieLockForceRelease c s) :=
  .next (hs.runCmd (fun _ _ k => k.onlyWhen (fun _ _ k' => k'.lockForceOp)))

theorem execPcieTlpFromHost (hs : Stays s₀ s) : Continues s₀ (execPcieTlpFromHost h tid s) := by
  unfold Machine.execPcieTlpFromHost
  refine hs.runCore (fun _ k => ?_)
  split
  · refine .ite ?_ k
    split
    next hm => exact .ite (k.takeMessage hm).aerRecord (k.takeMessage hm).fromHost
    next => exact k
  · exact k

theorem execPcieTlpFromDevice {tlp : List Byte} (hs : Stays s₀ s) : Continues s₀ (execPcieTlpFromDevice p tlp s) :=
  hs.runCore (fun _ k => k.fromDevice)

theorem blockedTimeout (hs : Stays s₀ s) : Stays s₀ (blockedTimeout p rid tag s) := by
  unfold Machine.blockedTimeout
  dsimp only
  split
  · exact .ite hs hs.same.answerNp.logCompletion
  · exact hs

theorem execPcieCompletionTimeout (hs : Stays s₀ s) :
    Continues s₀ (execPcieCompletionTimeout p towardHost rid tag s) := by
  unfold Machine.execPcieCompletionTimeout
  refine hs.runCore (fun _ k => ?_)
  split
  · exact k.same.answerNp.logCompletion
  · exact .ite k k.blockedTimeout

theorem execPcieNpOverflowForward (hs : Stays s₀ s) : Continues s₀ (execPcieNpOverflowForward p towardHost s) :=
  hs.runCore (fun _ k => k.forwardHeld)

theorem execPrefetchExpiry (hs : Stays s₀ s) : Continues s₀ (execPrefetchExpiry p k s) :=
  hs.runCore (fun _ k => k.dropPrefetch)

theorem prefetchArrives (hs : Stays s₀ s) : Stays s₀ (prefetchArrives p k data s) := by
  unfold Machine.prefetchArrives
  split
  · exact hs
  · dsimp only
    split
    · exact .updEntry (hs.foldl (fun _ _ k => k.completeFrom))
    · exact hs.same.foldl (fun _ _ k => k.requestTo)

theorem execPrefetchDataArrived (hs : Stays s₀ s) : Continues s₀ (execPrefetchDataArrived p k data s) :=
  hs.runCore (fun _ k => k.prefetchArrives)

theorem execLockWaitTimeout (hs : Stays s₀ s) : Continues s₀ (execLockWaitTimeout s) := by
  unfold Machine.execLockWaitTimeout
  refine hs.runCore (fun _ k => ?_)
  split
  · exact k.same.answerNp.logCompletion
  · exact k

theorem execLockIdleTimeout (hs : Stays s₀ s) : Continues s₀ (execLockIdleTimeout s) :=
  hs.runCore (fun _ k => k.releaseLock)

theorem execPcieSlotInputChange {e : SlotInput} (hs : Stays s₀ s) : Continues s₀ (execPcieSlotInputChange p e s) := by
  unfold Machine.execPcieSlotInputChange
  refine hs.runCore (fun _ k => ?_)
  refine .ite k ?_
  split
  · exact .ite k.same.presenceChange k.same
  · exact .ite k.slotChange k
  · exact .ite k.quiescePort.updPort.disablePort.slotChange k
  · exact k.same

theorem execPcieSlotPowerGood (hs : Stays s₀ s) : Continues s₀ (execPcieSlotPowerGood p s) :=
  hs.runCore (fun _ k => .ite (.ite k.same.trainPort k.same) k)

theorem advertise (hs : Stays s₀ s) : Stays s₀ (advertise p s) := hs.same

theorem inBand (hs : Stays s₀ s) : Stays s₀ (inBand p on s) := .ite hs hs.same.mirrorPort.noteSlot

theorem linkUp {rate : BitVec 3} (hs : Stays s₀ s) : Stays s₀ (linkUp p rate width s) :=
  .ite hs.updPort.setPortState.drainPort (.ite
    (.ite
      hs.updPort.setPortState.advertise.inBand.noteSlot.finish.setFreeCtr.resetPort.updPort
      (.updPort (.takeFree (w := 4) hs.updPort.setPortState.advertise.inBand.noteSlot.finish.setFreeCtr)))
    hs.updPort.setPortState.advertise.inBand.noteSlot.finish.drainPort)

theorem linkDown (hs : Stays s₀ s) : Stays s₀ (linkDown p s) := hs.quiescePort.updPort.dropLink.inBand

theorem execPcieLinkStateChange {st : BitVec 4} (hs : Stays s₀ s) :
    Continues s₀ (execPcieLinkStateChange p st rate width s) :=
  hs.runCore (fun _ k =>
    .ite k (.ite k.setPortState (.ite k.linkUp (.ite (.ite k.setPortState k) (.ite k.linkDown k)))))

theorem execNvmeShutdownDone (hs : Stays s₀ s) : Continues s₀ (execNvmeShutdownDone p s) :=
  hs.runCore (fun _ k => .ite (.ite k.same.resetPort k.same.disablePort) k)

end

section

/-! `Stays` through the functions of `Sys2Proof/Machine/Usb.lean`. -/

variable {c : Cmd} {n port : Fin 8} {h : HostNo} {tid : Byte} {data : List Byte} {i : Nat} {ss : Bool}

theorem storeUsb (hs : Stays s₀ s) : Stays s₀ (storeUsb s) := hs.storeSetting

theorem usbOwnerOp (hs : Stays s₀ s) : Stays s₀ (usbOwnerOp c s) :=
  .ite hs.fail (.ite hs.fail (.ite hs.same.storeUsb.ok (hs.startPending (fun _ k => k.same.storeUsb.moveUsb))))

theorem unplugPort (hs : Stays s₀ s) : Stays s₀ (unplugPort n s) :=
  .settleVbus (.ite
    (.setChange (.endUsb (.setStatus (.ite hs.same.endUsb.setChange hs.same.endUsb))))
    (.endUsb (.setStatus (.ite hs.same.endUsb.setChange hs.same.endUsb))))

theorem usbFlagsOp (hs : Stays s₀ s) : Stays s₀ (usbFlagsOp c s) :=
  .ite hs.fail (.ite hs.fail (.ok (.ite hs.same.storeUsb.unplugPort (.ite hs.same.storeUsb hs.same.storeUsb.settleVbus))))

theorem usbPortCfgBody (hs : Stays s₀ s) : Stays s₀ (usbPortCfgBody c s) :=
  .ite hs.fail (.ite hs.ok (.ite hs.usbOwnerOp hs.usbFlagsOp))

theorem execUsbPortCfg (hs : Stays s₀ s) : Continues s₀ (execUsbPortCfg c s) :=
  .next (hs.runCmd (fun _ _ k => k.usbPortCfgBody))

theorem usbEpCarveBody (hs : Stays s₀ s) : Stays s₀ (usbEpCarveBody c s) :=
  .ite hs.fail (.ite hs.ok (.ite hs.fail hs.same.storeSetting.ok))

theorem execUsbEpCarve (hs : Stays s₀ s) : Continues s₀ (execUsbEpCarve c s) :=
  .next (hs.runCmd (fun _ _ k => k.usbEpCarveBody))

theorem usbStatusOp {clear : Bool} (hs : Stays s₀ s) : Stays s₀ (usbStatusOp clear c s) :=
  .ite hs.fail hs.ok.updUsbPort

theorem usbPortStatusBody (hs : Stays s₀ s) : Stays s₀ (usbPortStatusBody c s) :=
  .ite hs.usbStatusOp (hs.onlyWhen (fun _ _ k => k.usbStatusOp))

theorem execUsbPortStatus (hs : Stays s₀ s) : Continues s₀ (execUsbPortStatus c s) :=
  .next (hs.runCmd (fun _ _ k => k.onlyWhen (fun _ _ k' => k'.usbStatusOp)))

theorem execUsbPortStatusClear (hs : Stays s₀ s) : Continues s₀ (execUsbPortStatusClear c s) :=
  .next (hs.runCmd (fun _ _ k => k.onlyWhen (fun _ _ k' => k'.usbStatusOp)))

theorem storeCharge (hs : Stays s₀ s) : Stays s₀ (storeCharge s) := hs.storeSetting

theorem usbChargeCfgBody (hs : Stays s₀ s) : Stays s₀ (usbChargeCfgBody c s) :=
  .ite hs.fail (.ite hs.ok (.ite hs.fail hs.same.storeCharge.settleRole.settleEfuses.ok))

theorem execUsbChargeCfg (hs : Stays s₀ s) : Continues s₀ (execUsbChargeCfg c s) :=
  .next (hs.runCmd (fun _ _ k => k.usbChargeCfgBody))

theorem usbTake {h : HostNo} {tid : Byte} {kind : UsbMessage} {f : Tunnel → List Byte → State → State}
    (hs : Stays s₀ s) (hf : ∀ v b u, Stays s₀ u → Stays s₀ (f v b u)) : Stays s₀ (usbTake h tid kind f s) := by
  unfold Machine.usbTake
  split
  · exact hs
  · split
    · exact hs
    · refine .ite hs ?_
      split
      next hm => exact .ite (hs.takeMessage hm) (hf _ _ _ (hs.takeMessage hm))
      next => exact hs

theorem execUsbRequest (hs : Stays s₀ s) : Continues s₀ (execUsbRequest h tid s) :=
  hs.runCore (fun _ k => k.usbTake (fun _ _ _ k' => k'.runRequest.serveInternal))

theorem execUsbHubRequest (hs : Stays s₀ s) : Continues s₀ (execUsbHubRequest h tid s) :=
  hs.runCore (fun _ k => k.usbTake (fun _ _ _ k' => k'.runHubRequest))

theorem execUsbCancel (hs : Stays s₀ s) : Continues s₀ (execUsbCancel h tid s) :=
  hs.runCore (fun _ k => k.usbTake (fun _ _ _ k' => k'.runCancel))

theorem execUsbMalformedMessage (hs : Stays s₀ s) : Continues s₀ (execUsbMalformedMessage h tid s) :=
  hs.runCore (fun _ k => k.usbTake (fun _ _ _ k' => k'.runMalformed))

theorem execUsbTransferDone {xid : BitVec 16} {status : Byte} {actual : Nat} (hs : Stays s₀ s) :
    Continues s₀ (execUsbTransferDone h tid xid status actual data s) := by
  unfold Machine.execUsbTransferDone
  refine hs.runCore (fun _ k => ?_)
  split
  · exact .ite k (.ite k.finishUsb (.ite k.finishUsb k.finishUsb))
  · exact k

theorem stepPeriodic {r : UsbRequest} (hs : Stays s₀ s) : Stays s₀ (stepPeriodic i s r) := by
  unfold Machine.stepPeriodic
  split
  · exact hs
  · refine .ite hs ?_
    split
    · exact hs.finishUsb
    · exact .ite hs.issueUsb (.ite (.ite hs.same hs) hs.finishUsb)
    · exact .ite hs.putOnBus hs

theorem serveRounds (hs : Stays s₀ s) : Stays s₀ (serveRounds i s) :=
  hs.foldl (fun _ _ k => k.foldl (fun _ _ k' => .ite k' k'.egress))

theorem sendSofs (hs : Stays s₀ s) : Stays s₀ (sendSofs i s) := hs.egress

theorem drainLoop {n : Nat} (hs : Stays s₀ s) : Stays s₀ (drainLoop n s) := by
  induction n generalizing s with
  | zero => exact hs
  | succ n ih =>
    unfold Machine.drainLoop
    split
    · exact hs
    · exact ih hs.updWaiting.egress

theorem drainSome (hs : Stays s₀ s) : Stays s₀ (drainSome s) := hs.same.drainLoop

theorem loopFallback (hs : Stays s₀ s) : Stays s₀ (loopFallback i s) := by
  unfold Machine.loopFallback
  refine .ite hs ?_
  dsimp only
  split
  · exact .ite (.ite hs.drainSome.setFreeCtr.egress hs.drainSome.setFreeCtr) hs.drainSome.egress
  · exact .ite hs.drainSome.setFreeCtr.endpointError hs.drainSome.setFreeCtr

theorem sendTime (hs : Stays s₀ s) : Stays s₀ (sendTime i s) := by
  unfold Machine.sendTime
  split
  · exact .ite hs.sendMessage hs
  · exact hs

theorem rootMicroframe (hs : Stays s₀ s) : Stays s₀ (rootMicroframe i s) :=
  .serveInternal (.serveRounds (hs.sendSofs.foldl (fun _ _ k => k.stepPeriodic)))

theorem execUsbMicroframeBoundary (hs : Stays s₀ s) : Continues s₀ (execUsbMicroframeBoundary s) :=
  hs.runCore (fun _ k =>
    .ite (.sendTime (.dropIsoDue (.ite k.rootMicroframe k))) (.ite k.loopFallback.dropIsoDue k.same))

theorem execUsbPortChange {status change : BitVec 16} (hs : Stays s₀ s) :
    Continues s₀ (execUsbPortChange ss port status change s) :=
  hs.runCore (fun _ k => .ite k (.setChange (.settleVbus (.ite k.same.endUsb k.same))))

theorem resumeHalf (hs : Stays s₀ s) : Stays s₀ (resumeHalf ss n s) := hs.same.setChange

theorem execUsbRemoteWake (hs : Stays s₀ s) : Continues s₀ (execUsbRemoteWake ss port s) := by
  unfold Machine.execUsbRemoteWake
  refine hs.runCore (fun _ k => ?_)
  refine .ite k ?_
  dsimp only
  split
  · exact .ite
      (.egress (.resumeHalf (.ite k.same.noteReason.raise k.same.noteReason)))
      (.resumeHalf (.ite k.same.noteReason.raise k.same.noteReason))
  · exact .resumeHalf (.ite k.same.noteReason.raise k.same.noteReason)

theorem execUsbUpstreamSuspend {resume : Bool} (hs : Stays s₀ s) : Continues s₀ (execUsbUpstreamSuspend resume s) :=
  hs.runCore (fun _ k => .ite k.same.raise k)

theorem execUsbLpmToken (hs : Stays s₀ s) : Continues s₀ (execUsbLpmToken s) :=
  hs.runCore (fun _ k => .ite k.same.egress k)

theorem resumeWaiting (hs : Stays s₀ s) : Stays s₀ (resumeWaiting port s ss) :=
  .ite hs (.updUsb (.ite hs.resumeHalf hs))

theorem execUsbResumeDone (hs : Stays s₀ s) : Continues s₀ (execUsbResumeDone port s) :=
  hs.runCore (fun _ k => k.resumeWaiting.resumeWaiting.startReady.serveInternal)

theorem execBc12Detection {kind : BitVec 4} (hs : Stays s₀ s) : Continues s₀ (execBc12Detection port kind s) :=
  hs.runCore (fun _ k => .ite k.same.raise k)

theorem execChargeRoleChangeDone (hs : Stays s₀ s) : Continues s₀ (execChargeRoleChangeDone port s) := by
  unfold Machine.execChargeRoleChangeDone
  refine hs.runCore (fun _ k => ?_)
  split
  · exact k.same
  · exact k

theorem execTypecRdAttach {cc2 : Bool} (hs : Stays s₀ s) : Continues s₀ (execTypecRdAttach port cc2 s) :=
  hs.runCore (fun _ k => .ite k.same.raise k)

theorem execTypecRdAbsent (hs : Stays s₀ s) : Continues s₀ (execTypecRdAbsent port s) :=
  hs.runCore (fun _ k => .ite k.same k)

theorem execUsbStorageCommand {p : PciePort} {lun : Byte} {cdb : List Byte} (hs : Stays s₀ s) :
    Continues s₀ (execUsbStorageCommand p lun cdb data s) :=
  hs.runCore (fun _ k => .ite k (.ite k.egress (.ite k.storageReply.egress k.storageReply.egress)))

theorem execUsbLoopbackPacket {iso : Bool} (hs : Stays s₀ s) : Continues s₀ (execUsbLoopbackPacket iso data s) :=
  hs.runCore (fun _ k =>
    .ite k (.ite (.ite k.endpointError k.loopIsoIn) (.ite k.endpointError (.ite k.egress (.ite
      (.iteFst k.same.endpointError k.same.drainSome.loopPackets)
      (.egress (.iteFst k.same.endpointError k.same.drainSome.loopPackets)))))))

theorem answerEp0 {into : Bool} {r : State × Option (List Byte)} (hs : Stays s₀ r.1) :
    Stays s₀ (answerEp0 u into r) := by
  unfold Machine.answerEp0
  split
  · exact .ite hs.egress hs.egress
  · exact hs.egress

theorem execHubClassRequest {setup : BitVec 64} (hs : Stays s₀ s) : Continues s₀ (execHubClassRequest ss setup data s)
    :=
  hs.runCore (fun _ k => .ite k (.answerEp0 (.iteFst k.mgmtControl (.iteFst k.hubRequest k.standardRequest))))

end

section

/-! `Stays` through the functions of `Sys2Proof/Machine/Net.lean`. -/

variable {p e : EthPort} {c : Cmd} {n : Nat} {q : Fin 8} {fcsOk good : Bool} {sp : SwPort}

theorem storeNetPorts (hs : Stays s₀ s) : Stays s₀ (storeNetPorts s) := hs.storeSetting

theorem applyNetCfg {p : SwPort} {b : List Byte} (hs : Stays s₀ s) : Stays s₀ (applyNetCfg p b s) := by
  unfold Machine.applyNetCfg
  refine .ite ?_ ?_
  · refine .storeNetPorts (.settleNet (.updSw ?_))
    split
    · exact .ite hs.ethDown hs
    · exact hs
  · refine .settleNet (.updSw ?_)
    split
    · exact .ite hs.ethDown hs
    · exact hs

theorem netPortCfgBody (hs : Stays s₀ s) : Stays s₀ (netPortCfgBody c s) :=
  .ite hs.fail (.ite hs.ok (.ite hs.fail (.ite hs.fail (.ite hs.fail (.ite hs.refuseOrRaise hs.applyNetCfg.ok)))))

theorem execNetPortCfg (hs : Stays s₀ s) : Continues s₀ (execNetPortCfg c s) :=
  .next (hs.runCmd (fun _ _ k => k.netPortCfgBody))

theorem vlanSetOp (hs : Stays s₀ s) : Stays s₀ (vlanSetOp c s) := .ite hs.fail hs.same.ok

theorem vlanAddOp (hs : Stays s₀ s) : Stays s₀ (vlanAddOp c s) := by
  unfold Machine.vlanAddOp
  refine .ite hs.fail ?_
  split
  · exact .ite hs.fail hs.same.ok
  · refine .ite hs.fail ?_
    split
    · exact hs.same.ok
    · exact hs.fail

theorem vlanRemoveOp (hs : Stays s₀ s) : Stays s₀ (vlanRemoveOp c s) := .ite hs.fail (.ite hs.same.ok hs.fail)

theorem vlanFlushOp (hs : Stays s₀ s) : Stays s₀ (vlanFlushOp c s) := .ite hs.fail hs.same.ok

theorem vlanAgeOp (hs : Stays s₀ s) : Stays s₀ (vlanAgeOp c s) := .ite hs.fail hs.same.ok

theorem vlanReadOp (hs : Stays s₀ s) : Stays s₀ (vlanReadOp c s) := .ite hs.fail hs.ok

theorem netVlanSetBody (hs : Stays s₀ s) : Stays s₀ (netVlanSetBody c s) :=
  .ite hs.vlanSetOp (.ite hs.vlanAddOp (.ite hs.vlanRemoveOp (.ite hs.vlanFlushOp (.ite hs.vlanAgeOp
    (hs.onlyWhen (fun _ _ k => k.vlanReadOp))))))

theorem execNetVlanSetVlan (hs : Stays s₀ s) : Continues s₀ (execNetVlanSetVlan c s) :=
  .next (hs.runCmd (fun _ _ k => k.onlyWhen (fun _ _ k' => k'.vlanSetOp)))

theorem execNetVlanAddStatic (hs : Stays s₀ s) : Continues s₀ (execNetVlanAddStatic c s) :=
  .next (hs.runCmd (fun _ _ k => k.onlyWhen (fun _ _ k' => k'.vlanAddOp)))

theorem execNetVlanRemoveStatic (hs : Stays s₀ s) : Continues s₀ (execNetVlanRemoveStatic c s) :=
  .next (hs.runCmd (fun _ _ k => k.onlyWhen (fun _ _ k' => k'.vlanRemoveOp)))

theorem execNetVlanFlush (hs : Stays s₀ s) : Continues s₀ (execNetVlanFlush c s) :=
  .next (hs.runCmd (fun _ _ k => k.onlyWhen (fun _ _ k' => k'.vlanFlushOp)))

theorem execNetVlanAging (hs : Stays s₀ s) : Continues s₀ (execNetVlanAging c s) :=
  .next (hs.runCmd (fun _ _ k => k.onlyWhen (fun _ _ k' => k'.vlanAgeOp)))

theorem execNetVlanRead (hs : Stays s₀ s) : Continues s₀ (execNetVlanRead c s) :=
  .next (hs.runCmd (fun _ _ k => k.onlyWhen (fun _ _ k' => k'.vlanReadOp)))

theorem storeNetQueues (hs : Stays s₀ s) : Stays s₀ (storeNetQueues s) := by
  unfold Machine.storeNetQueues
  exact hs.storeSetting

theorem netMarkCfgBody (hs : Stays s₀ s) : Stays s₀ (netMarkCfgBody c s) :=
  .ite hs.fail (.ite hs.ok (.ite hs.fail (.ok (.ite hs.same.settleNet.storeNetQueues hs.same.settleNet))))

theorem execNetMarkCfg (hs : Stays s₀ s) : Continues s₀ (execNetMarkCfg c s) :=
  .next (hs.runCmd (fun _ _ k => k.netMarkCfgBody))

theorem storeOverflow (hs : Stays s₀ s) : Stays s₀ (storeOverflow s) := by
  unfold Machine.storeOverflow
  exact hs.storeSetting

theorem overflowPortOp (hs : Stays s₀ s) : Stays s₀ (overflowPortOp c s) :=
  .ite hs.fail (.ite hs.ok (.ite hs.fail hs.same.storeOverflow.ok))

theorem overflowShrinkOp (hs : Stays s₀ s) : Stays s₀ (overflowShrinkOp c s) :=
  .ite hs.fail (.ite hs.fail (hs.startPending (fun _ k => k.same)))

theorem netOverflowCfgBody (hs : Stays s₀ s) : Stays s₀ (netOverflowCfgBody c s) :=
  .ite hs.overflowPortOp (hs.onlyWhen (fun _ _ k => k.overflowShrinkOp))

theorem execNetOverflowCfgPort (hs : Stays s₀ s) : Continues s₀ (execNetOverflowCfgPort c s) :=
  .next (hs.runCmd (fun _ _ k => k.onlyWhen (fun _ _ k' => k'.overflowPortOp)))

theorem execNetOverflowCfgShrink (hs : Stays s₀ s) : Continues s₀ (execNetOverflowCfgShrink c s) :=
  .next (hs.runCmd (fun _ _ k => k.onlyWhen (fun _ _ k' => k'.overflowShrinkOp)))

theorem endShrink (hs : Stays s₀ s) : Stays s₀ (endShrink n s) := hs.same.pbWrite.finish

theorem execOverflowShrinkDrained (hs : Stays s₀ s) : Continues s₀ (execOverflowShrinkDrained s) := by
  unfold Machine.execOverflowShrinkDrained
  refine hs.runCore (fun _ k => ?_)
  split
  · exact .ite k.endShrink k
  · exact k

theorem dropGivenUp {id : Nat} (hs : Stays s₀ s) : Stays s₀ (dropGivenUp n e q s id) := by
  unfold Machine.dropGivenUp
  dsimp only
  split
  · exact hs.same
  · exact hs.same.netCount.settleQueue

theorem dropArea (hs : Stays s₀ s) : Stays s₀ (dropArea n s e) :=
  hs.foldl (fun _ _ k => k.foldl (fun _ _ k' => k'.dropGivenUp))

theorem execOverflowShrinkTimeout (hs : Stays s₀ s) : Continues s₀ (execOverflowShrinkTimeout s) := by
  unfold Machine.execOverflowShrinkTimeout
  refine hs.runCore (fun _ k => ?_)
  split
  · exact .endShrink (.ite (.settleNet (k.foldl (fun _ _ k' => k'.dropArea))) k)
  · exact k

theorem storeReseq (hs : Stays s₀ s) : Stays s₀ (storeReseq s) := hs.storeSetting

theorem netReseqCfgBody (hs : Stays s₀ s) : Stays s₀ (netReseqCfgBody c s) :=
  .ite hs.fail (.ite hs.ok (.ite hs.fail (.ok (.storeReseq (hs.same.foldl (fun _ _ k => k.settleQueue))))))

theorem execNetReseqCfg (hs : Stays s₀ s) : Continues s₀ (execNetReseqCfg c s) :=
  .next (hs.runCmd (fun _ _ k => k.netReseqCfgBody))

theorem netCountersReadOp (hs : Stays s₀ s) : Stays s₀ (netCountersReadOp c s) := .ite hs.fail hs.same.ok

theorem netCountersClearOp (hs : Stays s₀ s) : Stays s₀ (netCountersClearOp c s) := .ite hs.fail hs.same.ok

theorem netCountersThresholdOp (hs : Stays s₀ s) : Stays s₀ (netCountersThresholdOp c s) := .ite hs.fail hs.same.ok

theorem netCountersBody (hs : Stays s₀ s) : Stays s₀ (netCountersBody c s) :=
  .ite hs.netCountersReadOp (.ite hs.netCountersClearOp (hs.onlyWhen (fun _ _ k => k.netCountersThresholdOp)))

theorem execNetCountersRead (hs : Stays s₀ s) : Continues s₀ (execNetCountersRead c s) :=
  .next (hs.runCmd (fun _ _ k => k.onlyWhen (fun _ _ k' => k'.netCountersReadOp)))

theorem execNetCountersClear (hs : Stays s₀ s) : Continues s₀ (execNetCountersClear c s) :=
  .next (hs.runCmd (fun _ _ k => k.onlyWhen (fun _ _ k' => k'.netCountersClearOp)))

theorem execNetCountersThreshold (hs : Stays s₀ s) : Continues s₀ (execNetCountersThreshold c s) :=
  .next (hs.runCmd (fun _ _ k => k.onlyWhen (fun _ _ k' => k'.netCountersThresholdOp)))

theorem countCoding (hs : Stays s₀ s) : Stays s₀ (countCoding p fcsOk s) :=
  .ite (.ite hs.same hs.same.netCount) (.netCount (.ite (.ite hs.same hs.same.netCount) (.netCount
    (.ite hs.same hs.same.netCount))))

theorem execEthFrameReceive {frame : List Byte} (hs : Stays s₀ s) :
    Continues s₀ (execEthFrameReceive p frame fcsOk s) :=
  hs.runCore (fun _ k => .ite k.replicate.countCoding.receiveEth k)

theorem execNetMessageReceive (hs : Stays s₀ s) : Continues s₀ (execNetMessageReceive h tid s) := by
  unfold Machine.execNetMessageReceive
  refine hs.runCore (fun _ k => ?_)
  split
  · refine .ite ?_ k
    split
    next hm => exact .ite (k.takeMessage hm) (k.takeMessage hm).receiveVirtual
    next => exact k
  · exact k

theorem execEthLinkChange {up : Bool} {speed : BitVec 3} {pauseTx pauseRx : Bool} (hs : Stays s₀ s) :
    Continues s₀ (execEthLinkChange p up speed pauseTx pauseRx s) :=
  hs.runCore (fun _ k => .ite k.ethDown (.ite (.ite k.same k.same.raise) k))

theorem execNetEgressSelect (hs : Stays s₀ s) : Continues s₀ (execNetEgressSelect sp s) :=
  hs.runCore (fun _ k => k.selectEgress)

theorem execPauseRefreshTimeout (hs : Stays s₀ s) : Continues s₀ (execPauseRefreshTimeout p s) :=
  hs.runCore (fun _ k => k.foldl (fun _ _ k' => .ite k'.sendPause k'))

theorem execPauseQuantaExpiry {prios : Byte} (hs : Stays s₀ s) : Continues s₀ (execPauseQuantaExpiry p prios s) :=
  hs.runCore (fun _ k => k.same)

theorem execAddressAgingTimeout {addr : BitVec 48} {vid : BitVec 12} (hs : Stays s₀ s) :
    Continues s₀ (execAddressAgingTimeout addr vid s) := hs.runCore (fun _ k => k.same)

theorem readbackDone {seq : Half} (hs : Stays s₀ s) : Stays s₀ (readbackDone p q seq good s) := by
  unfold Machine.readbackDone
  dsimp only
  split
  · exact hs
  · exact .ite
      (.raise (.settleQueue (.settleNet (.ite hs.same.netCount hs.same))))
      (.settleQueue (.settleNet (.ite hs.same.netCount hs.same)))

theorem execOverflowReadbackDone {seq : BitVec 16} (hs : Stays s₀ s) :
    Continues s₀ (execOverflowReadbackDone p q seq good s) := hs.runCore (fun _ k => k.readbackDone)

theorem execReseqTimeout (hs : Stays s₀ s) : Continues s₀ (execReseqTimeout p q s) :=
  hs.runCore (fun _ k => .ite k.giveUp.settleQueue k)

theorem execNetCounterWindow {k : Fin 24} (hs : Stays s₀ s) : Continues s₀ (execNetCounterWindow sp k s) :=
  hs.runCore (fun _ k => k.same)

end

section

/-! `Stays` through the functions of `Sys2Proof/Machine/Can.lean`. -/

variable {p : CanPort} {c : Cmd} {f : Fin 256} {sig : Fin 1024}

theorem storeCan {b : List Byte} (hs : Stays s₀ s) : Stays s₀ (storeCan p b s) := by
  unfold Machine.storeCan
  exact hs.storeSetting

theorem canPortCfgBody (hs : Stays s₀ s) : Stays s₀ (canPortCfgBody c s) :=
  .ite hs.ok (.ite hs.fail hs.applyCanPort.storeCan.ok)

theorem execCanPortCfg (hs : Stays s₀ s) : Continues s₀ (execCanPortCfg c s) :=
  .next (hs.runCmd (fun _ _ k => k.canPortCfgBody))

theorem canMapBeginOp (hs : Stays s₀ s) : Stays s₀ (canMapBeginOp c s) := .ite hs.fail hs.same.ok

theorem canMapFramesOp (hs : Stays s₀ s) : Stays s₀ (canMapFramesOp c s) := .ite hs.fail hs.same.ok

theorem canMapSignalsOp (hs : Stays s₀ s) : Stays s₀ (canMapSignalsOp c s) := .ite hs.fail hs.same.ok

theorem canMapCommitOp (hs : Stays s₀ s) : Stays s₀ (canMapCommitOp c s) := by
  unfold Machine.canMapCommitOp
  refine .ite hs.fail ?_
  split
  · exact hs.respond
  · exact .ok (.ite hs.commitMap.updCan.updCan hs.commitMap.updCan)

theorem canMapStatusOp (hs : Stays s₀ s) : Stays s₀ (canMapStatusOp c s) := .ite hs.fail hs.ok

theorem canMapBody (hs : Stays s₀ s) : Stays s₀ (canMapBody c s) :=
  .ite hs.canMapBeginOp (.ite hs.canMapFramesOp (.ite hs.canMapSignalsOp (.ite hs.canMapCommitOp
    (hs.onlyWhen (fun _ _ k => k.canMapStatusOp)))))

theorem execCanMapBegin (hs : Stays s₀ s) : Continues s₀ (execCanMapBegin c s) :=
  .next (hs.runCmd (fun _ _ k => k.onlyWhen (fun _ _ k' => k'.canMapBeginOp)))

theorem execCanMapFrames (hs : Stays s₀ s) : Continues s₀ (execCanMapFrames c s) :=
  .next (hs.runCmd (fun _ _ k => k.onlyWhen (fun _ _ k' => k'.canMapFramesOp)))

theorem execCanMapSignals (hs : Stays s₀ s) : Continues s₀ (execCanMapSignals c s) :=
  .next (hs.runCmd (fun _ _ k => k.onlyWhen (fun _ _ k' => k'.canMapSignalsOp)))

theorem execCanMapCommit (hs : Stays s₀ s) : Continues s₀ (execCanMapCommit c s) :=
  .next (hs.runCmd (fun _ _ k => k.onlyWhen (fun _ _ k' => k'.canMapCommitOp)))

theorem execCanMapStatus (hs : Stays s₀ s) : Continues s₀ (execCanMapStatus c s) :=
  .next (hs.runCmd (fun _ _ k => k.onlyWhen (fun _ _ k' => k'.canMapStatusOp)))

theorem canSignalReadBody (hs : Stays s₀ s) : Stays s₀ (canSignalReadBody c s) := .ite hs.fail hs.ok

theorem execCanSignalRead (hs : Stays s₀ s) : Continues s₀ (execCanSignalRead c s) :=
  .next (hs.runCmd (fun _ _ k => k.canSignalReadBody))

theorem canSignalWriteBody (hs : Stays s₀ s) : Stays s₀ (canSignalWriteBody c s) :=
  .ite hs.fail (.ite hs.fail hs.applyEntries.ok)

theorem execCanSignalWrite (hs : Stays s₀ s) : Continues s₀ (execCanSignalWrite c s) :=
  .next (hs.runCmd (fun _ _ k => k.canSignalWriteBody))

theorem canRouteClearOp (hs : Stays s₀ s) : Stays s₀ (canRouteClearOp c s) := .ite hs.fail hs.same.ok

theorem canRouteLoadOp (hs : Stays s₀ s) : Stays s₀ (canRouteLoadOp c s) := .ite hs.fail hs.same.ok

theorem canRouteStoreOp (hs : Stays s₀ s) : Stays s₀ (canRouteStoreOp c s) := .ite hs.fail (.ite hs.fail hs.same.ok)

theorem canRouteReadOp (hs : Stays s₀ s) : Stays s₀ (canRouteReadOp c s) := .ite hs.fail hs.ok

theorem canRouteBody (hs : Stays s₀ s) : Stays s₀ (canRouteBody c s) :=
  .ite hs.canRouteClearOp (.ite hs.canRouteLoadOp (.ite hs.canRouteStoreOp (hs.onlyWhen (fun _ _ k => k.canRouteReadOp))))

theorem execCanLegacyRouteClear (hs : Stays s₀ s) : Continues s₀ (execCanLegacyRouteClear c s) :=
  .next (hs.runCmd (fun _ _ k => k.onlyWhen (fun _ _ k' => k'.canRouteClearOp)))

theorem execCanLegacyRouteLoad (hs : Stays s₀ s) : Continues s₀ (execCanLegacyRouteLoad c s) :=
  .next (hs.runCmd (fun _ _ k => k.onlyWhen (fun _ _ k' => k'.canRouteLoadOp)))

theorem execCanLegacyRouteStore (hs : Stays s₀ s) : Continues s₀ (execCanLegacyRouteStore c s) :=
  .next (hs.runCmd (fun _ _ k => k.onlyWhen (fun _ _ k' => k'.canRouteStoreOp)))

theorem execCanLegacyRouteRead (hs : Stays s₀ s) : Continues s₀ (execCanLegacyRouteRead c s) :=
  .next (hs.runCmd (fun _ _ k => k.onlyWhen (fun _ _ k' => k'.canRouteReadOp)))

theorem execCanFrameReceive {f : CanFrame} (hs : Stays s₀ s) : Continues s₀ (execCanFrameReceive p f s) :=
  hs.runCore (fun _ k => .ite k.replicate.receiveCan k)

theorem execCanBusStateChange {st : BusState} {tec rc : BitVec 8} (hs : Stays s₀ s) :
    Continues s₀ (execCanBusStateChange p st tec rc s) := hs.runCore (fun _ k => .ite k.setBus k)

theorem execCanBusOffRecovered (hs : Stays s₀ s) : Continues s₀ (execCanBusOffRecovered p s) :=
  hs.runCore (fun _ k => .ite k.setBus k)

theorem execCanPeriodDue (hs : Stays s₀ s) : Continues s₀ (execCanPeriodDue f s) :=
  hs.runCore (fun _ k => .ite k.queueFrame k)

theorem execCanGapExpiry (hs : Stays s₀ s) : Continues s₀ (execCanGapExpiry f s) :=
  hs.runCore (fun _ k => .ite (.offerFrame (.ite k.same.queueFrame k.same)) k)

theorem frameSent (hs : Stays s₀ s) : Stays s₀ (frameSent p s) := by
  unfold Machine.frameSent
  split
  · exact hs
  · exact hs.same.putCan.offerFrame

theorem execCanFrameSent (hs : Stays s₀ s) : Continues s₀ (execCanFrameSent p s) :=
  hs.runCore (fun _ k => .ite k.frameSent k)

theorem execCanDeliveryDue {h : HostNo} (hs : Stays s₀ s) : Continues s₀ (execCanDeliveryDue h sig s) :=
  hs.runCore (fun _ k => .ite k.deliverSigs k)

theorem execCanSignalStale (hs : Stays s₀ s) : Continues s₀ (execCanSignalStale sig s) :=
  hs.runCore (fun _ k => k.staleSig)

theorem execCanWriteMessage (hs : Stays s₀ s) : Continues s₀ (execCanWriteMessage h tid s) := by
  unfold Machine.execCanWriteMessage
  refine hs.runCore (fun _ k => ?_)
  split
  · refine .ite ?_ k
    split
    next hm => exact .ite (k.takeMessage hm) (.ite (k.takeMessage hm).updCan (k.takeMessage hm).runWrite)
    next => exact k
  · exact k

end

section

/-! `Stays` through the functions of `Sys2Proof/Machine/Pairing.lean`. -/

variable {c : Cmd} {j : PartnerJoin} {planned final : Bool} {payload : List Byte} {id : Nat} {status : Half}
variable {k : SigKey} {seq : Word}

theorem joinBusy (hs : Stays s₀ s) : Stays s₀ (joinBusy c s) := .ite hs.fail hs.respondTo.fail

theorem pairJoinBody (hs : Stays s₀ s) : Stays s₀ (pairJoinBody c s) :=
  .ite hs.fail (.ite hs.fail (.ite hs.fail (.ite hs.joinBusy (hs.startPending (fun _ k =>
    .emit (.ite k.same.storePairing.setPairState k.same.storePairing))))))

theorem execPairJoin (hs : Stays s₀ s) : Continues s₀ (execPairJoin c s) :=
  .next (hs.runCmd (fun _ _ k => k.pairJoinBody))

theorem joinFails {st : Half} (hs : Stays s₀ s) : Stays s₀ (joinFails st s) :=
  .ite hs.same.finish.setPairState hs.same.finish

theorem execPairJoinTimeout (hs : Stays s₀ s) : Continues s₀ (execPairJoinTimeout s) :=
  hs.runCore (fun _ k => .ite k.joinFails k)

theorem takeProfile {p : Profile} (hs : Stays s₀ s) : Stays s₀ (takeProfile p s) := .ite hs.enterProfile hs.same

theorem startMirror {day : Bool} (hs : Stays s₀ s) : Stays s₀ (startMirror day j s) := by
  unfold Machine.startMirror
  refine .ite hs.same.setPairState.emit.sendCopy ?_
  dsimp only
  split
  · exact hs.same.setPairState.disablePortsOf.takeProfile
  · exact hs.same.setPairState.disablePortsOf

theorem syncDone (hs : Stays s₀ s) : Stays s₀ (syncDone s) :=
  .ite
    (.finish (.persistPair (.setPairState (.updPair (hs.foldl (fun _ _ k => k.sendTiming))))))
    (.ite hs.same.setPairState.persistPair.finish hs)

theorem execPairJoinMatched (hs : Stays s₀ s) : Continues s₀ (execPairJoinMatched j s) := by
  unfold Machine.execPairJoinMatched
  refine hs.runCore (fun _ k => ?_)
  split
  · refine .ite k ?_
    dsimp only
    split
    · exact k.same.joinFails
    · exact .ite k.same.startMirror k.same.enterSpan
  · exact k

theorem execAutoRejoin (hs : Stays s₀ s) : Continues s₀ (execAutoRejoin j s) :=
  hs.runCore (fun _ k =>
    .ite k (.ite (.ite k.startMirror k) (.ite (.ite k.setPairState.startMirror k.setPairState.setPairState) k)))

theorem execMirrorSyncDone (hs : Stays s₀ s) : Continues s₀ (execMirrorSyncDone s) :=
  hs.runCore (fun _ k => k.syncDone)

theorem dropForwarded (hs : Stays s₀ s) : Stays s₀ (dropForwarded s) := hs.same.foldl (fun _ _ k => k.finish)

theorem losePartnerHosts (hs : Stays s₀ s) : Stays s₀ (losePartnerHosts s) :=
  .foldl (hs.foldl (fun _ _ k => k.loseHost)) (fun _ _ k => k.closeTunnel)

theorem nightLeaves (hs : Stays s₀ s) : Stays s₀ (nightLeaves s) :=
  .foldl
    (.foldl (hs.foldl (fun _ _ k => k.closeTunnel)) (fun _ _ k => k.freeRegion))
    (fun _ _ k => k.same.finish.settleOff)

theorem leaveDone (hs : Stays s₀ s) : Stays s₀ (leaveDone s) :=
  .ite hs (.finish (.finish (.finish (.updPair (.ite
    (.leaveQuotas (.movePair (.ite hs.dropForwarded.losePartnerHosts (.ite hs.nightLeaves hs))))
    (.movePair (.ite hs.dropForwarded.losePartnerHosts (.ite hs.nightLeaves hs))))))))

theorem pairLeaveBody (hs : Stays s₀ s) : Stays s₀ (pairLeaveBody c s) :=
  .ite hs.ok (.ite hs.fail (hs.startPending (fun _ k => .ite k.same.setPairState.leaveDone k.same.setPairState.emit)))

theorem execPairLeave (hs : Stays s₀ s) : Continues s₀ (execPairLeave c s) :=
  .next (hs.runCmd (fun _ _ k => k.pairLeaveBody))

theorem execPairLeaveDone (hs : Stays s₀ s) : Continues s₀ (execPairLeaveDone s) :=
  hs.runCore (fun _ k => k.leaveDone)

theorem pairStatusOp (hs : Stays s₀ s) : Stays s₀ (pairStatusOp c s) := hs.seeIlk.ok

theorem pairStatusClearOp (hs : Stays s₀ s) : Stays s₀ (pairStatusClearOp c s) := hs.seeIlk.updPair.updLink.ok

theorem pairStatusBody (hs : Stays s₀ s) : Stays s₀ (pairStatusBody c s) :=
  .ite hs.pairStatusOp (hs.onlyWhen (fun _ _ k => k.pairStatusClearOp))

theorem execPairStatus (hs : Stays s₀ s) : Continues s₀ (execPairStatus c s) :=
  .next (hs.runCmd (fun _ _ k => k.onlyWhen (fun _ _ k' => k'.pairStatusOp)))

theorem execPairStatusClear (hs : Stays s₀ s) : Continues s₀ (execPairStatusClear c s) :=
  .next (hs.runCmd (fun _ _ k => k.onlyWhen (fun _ _ k' => k'.pairStatusClearOp)))

theorem handoverOp (hs : Stays s₀ s) : Stays s₀ (handoverOp planned c s) :=
  .ite hs.fail (.ite hs.fail (.ite hs.fail (hs.startPending (fun _ k => .ite k k.yieldDay))))

theorem pairHandoverBody (hs : Stays s₀ s) : Stays s₀ (pairHandoverBody c s) :=
  .ite hs.handoverOp (hs.onlyWhen (fun _ _ k => k.handoverOp))

theorem execPairHandoverPlanned (hs : Stays s₀ s) : Continues s₀ (execPairHandoverPlanned c s) :=
  .next (hs.runCmd (fun _ _ k => k.onlyWhen (fun _ _ k' => k'.handoverOp)))

theorem execPairHandoverImmediate (hs : Stays s₀ s) : Continues s₀ (execPairHandoverImmediate c s) :=
  .next (hs.runCmd (fun _ _ k => k.onlyWhen (fun _ _ k' => k'.handoverOp)))

theorem pairCompareBody (hs : Stays s₀ s) : Stays s₀ (pairCompareBody c s) :=
  .ite hs.ok (.ite hs.fail hs.same.storePairing.ok)

theorem execPairCompareCfg (hs : Stays s₀ s) : Continues s₀ (execPairCompareCfg c s) :=
  .next (hs.runCmd (fun _ _ k => k.pairCompareBody))

theorem execBndPresLow (hs : Stays s₀ s) : Continues s₀ (execBndPresLow s) := hs.runCore (fun _ k => k.same.startBond)

theorem losePartner (hs : Stays s₀ s) : Stays s₀ (losePartner s) :=
  .ite
    (.movePair (.losePartnerHosts (.dropForwarded (.ite hs.seeIlk hs))))
    (.ite
      (.setPairState (.finish (.finish (.updPair (.ite hs.seeIlk hs)))))
      (.ite
        (.setPairState (.finish (.updPair (.ite hs.seeIlk hs))))
        (.ite (.setPairState (.ite hs.seeIlk hs)) (.ite (.leaveDone (.ite hs.seeIlk hs)) (.ite hs.seeIlk hs)))))

theorem execPartnerLost {presHigh : Bool} (hs : Stays s₀ s) : Continues s₀ (execPartnerLost presHigh s) :=
  hs.runCore (fun _ k => .ite k.same.endLink.losePartner (.ite k (.losePartner (.ite k.startBringUp k))))

theorem execRelayedEvent {ev : Fin 64} {hosts : Option (BitVec 2)} {time : BitVec 64} {arg : Word} (hs : Stays s₀ s) :
    Continues s₀ (execRelayedEvent ev hosts time arg s) :=
  hs.runCore (fun _ k => .ite k (k.foldl (fun _ _ k' => k'.deliver)))

theorem execPairTimeMeasure {offset : BitVec 64} (hs : Stays s₀ s) : Continues s₀ (execPairTimeMeasure offset s) :=
  hs.runCore (fun _ k => .ite k.same k)

theorem relayCompletion {f : Forwarded} (hs : Stays s₀ s) : Stays s₀ (relayCompletion f payload s) := by
  unfold Machine.relayCompletion
  split
  · split
    · exact hs.sendZero
    · exact hs
  · exact hs
  · exact hs

theorem openedAcross (hs : Stays s₀ s) : Stays s₀ (openedAcross id status s) := by
  unfold Machine.openedAcross
  split
  · exact hs
  · exact .ite hs.same.setTunnels.noteTunnel hs.same

theorem relayAnswer (hs : Stays s₀ s) : Stays s₀ (relayAnswer id final status payload s) := by
  unfold Machine.relayAnswer
  refine .ite hs.openedAcross.finish ?_
  split
  · exact hs.same.respondTo
  · exact hs

theorem execRelayedResponse {status : BitVec 16} (hs : Stays s₀ s) :
    Continues s₀ (execRelayedResponse id final status payload s) := by
  unfold Machine.execRelayedResponse
  refine hs.runCore (fun _ k => ?_)
  split
  · exact .ite k.nightApplied.persistPair k
  · exact .ite (.relayAnswer (.ite k.same k)) (.relayCompletion (.ite k.same k))

theorem execReplicatedTraffic {t : Replica} (hs : Stays s₀ s) : Continues s₀ (execReplicatedTraffic t s) := by
  unfold Machine.execReplicatedTraffic
  refine hs.runCore (fun _ k => ?_)
  refine .ite k ?_
  split
  · dsimp only
    split
    · exact .ite k.receiveOn k
    · exact k
  · exact k.receiveEth
  · exact k.receiveCan

theorem execMirrorForwardTimeout (hs : Stays s₀ s) : Continues s₀ (execMirrorForwardTimeout s) :=
  hs.runCore (fun _ k => .ite k.pairFault.nightFails k.nightFails)

theorem execIlkRiseSeen (hs : Stays s₀ s) : Continues s₀ (execIlkRiseSeen planned s) :=
  hs.runCore (fun _ k => .ite k.same k.same)

theorem execIlkClaimWaitExpiry (hs : Stays s₀ s) : Continues s₀ (execIlkClaimWaitExpiry s) :=
  hs.runCore (fun _ k => .ite k.same k)

theorem execIlkClaimConfirm {low : Bool} (hs : Stays s₀ s) : Continues s₀ (execIlkClaimConfirm low s) :=
  hs.runCore (fun _ k => .ite k (.ite k.becomeDay k.pairFault.releaseIlk.setPairState))

theorem execIlkHighWhileDay (hs : Stays s₀ s) : Continues s₀ (execIlkHighWhileDay s) :=
  hs.runCore (fun _ k => .ite k.faultRelease k)

theorem execIlkNoHolderTimeout (hs : Stays s₀ s) : Continues s₀ (execIlkNoHolderTimeout s) :=
  hs.runCore (fun _ k => .ite k.same.pairFault k)

theorem execPairWatchdogExpiry (hs : Stays s₀ s) : Continues s₀ (execPairWatchdogExpiry s) :=
  hs.runCore (fun _ k => .ite k k.faultRelease)

theorem execSignatureBoundary (hs : Stays s₀ s) : Continues s₀ (execSignatureBoundary k s) :=
  hs.runCore (fun _ k => k.sigBoundary)

theorem execSignatureRecordReceived {sig : BitVec 64} (hs : Stays s₀ s) :
    Continues s₀ (execSignatureRecordReceived k seq sig s) := hs.runCore (fun _ k => .ite k.joinRecord k)

theorem execSignatureRecordTimeout (hs : Stays s₀ s) : Continues s₀ (execSignatureRecordTimeout k seq s) := by
  unfold Machine.execSignatureRecordTimeout
  refine hs.runCore (fun _ k => ?_)
  dsimp only
  split
  · exact .ite k.same.dropCompared.mismatch k.same.dropCompared
  · exact k

theorem toldMismatch (hs : Stays s₀ s) : Stays s₀ (toldMismatch s) := hs.same.mismatch

theorem execPairSelftestDone {own partner : Bool} (hs : Stays s₀ s) :
    Continues s₀ (execPairSelftestDone own partner s) :=
  hs.runCore (fun _ k => .ite k.verdict (.ite k.toldMismatch.verdict k))

theorem execHandoverPlannedStart (hs : Stays s₀ s) : Continues s₀ (execHandoverPlannedStart s) :=
  hs.runCore (fun _ k => .ite k.yieldDay k)

theorem execDayPrsntRise (hs : Stays s₀ s) : Continues s₀ (execDayPrsntRise s) :=
  hs.runCore (fun _ k => .ite k.yieldDay k)

theorem execNewDayTakeover (hs : Stays s₀ s) : Continues s₀ (execNewDayTakeover s) :=
  hs.runCore (fun _ k =>
    .ite k (.presentUsb (.resetUsbPorts (.updUsb (.settlePorts (.foldl
      (.deliverAll (k.same.raise.holdOutputs.setTunnels.foldl (fun _ _ k' => k'.noteTunnel)))
      (fun _ _ k' => k'.losePosted.updPort)))))))

theorem execLayerOwnerSilentTimeout {h : HostNo} (hs : Stays s₀ s) : Continues s₀ (execLayerOwnerSilentTimeout h s) :=
  hs.runCore (fun _ k => .ite k.same.loseHost k)

end

section

/-! `Stays` through the functions of `Sys2Proof/Machine/WakeOps.lean`. -/

variable {code : Byte}

theorem updPm {f : Pm → Pm} (hs : Stays s₀ s) : Stays s₀ (updPm f s) := hs.same

theorem restoreUsb (hs : Stays s₀ s) : Stays s₀ (restoreUsb s) := by
  unfold Machine.restoreUsb
  exact .updPm (hs.foldl (fun _ _ k => k.setUsbPower.egress))

theorem resumeCan (hs : Stays s₀ s) : Stays s₀ (resumeCan s) := hs.foldl (fun _ _ k => .ite k.wakeCanPort k)

theorem resumeBlocks (hs : Stays s₀ s) : Stays s₀ (resumeBlocks s) :=
  .settleUplinks (.resumeCan (.restoreUsb (hs.foldl (fun _ _ k => .ite k.trainPort k))))

theorem abortStop (hs : Stays s₀ s) : Stays s₀ (abortStop s) := hs.same.resumeBlocks.updateInt.raise

theorem recognise (hs : Stays s₀ s) : Stays s₀ (recognise code s) := by
  unfold Machine.recognise
  refine .ite hs ?_
  split
  · exact .ite hs.raise hs
  · exact hs.same.abortStop
  · exact hs.same
  · exact hs.same
  · exact hs.same

theorem recogniseToo (hs : Stays s₀ s) : Stays s₀ (recogniseToo code s) := .ite hs.recognise hs

end

section

/-! `Stays` through the functions of `Sys2Proof/Machine/PowerPath.lean`. -/

variable {f : Feed} {b : List Byte} {c : Cmd} {ch : Fin 6} {u : Up} {mv vds ma : BitVec 16}

theorem noteFeed {f : State → State} (hs : Stays s₀ s) (hf : ∀ u, Stays s₀ u → Stays s₀ (f u)) :
    Stays s₀ (noteFeed f s) := .ite (hf _ hs) (.recogniseToo (hf _ hs))

theorem newFeedCfg (hs : Stays s₀ s) : Stays s₀ (newFeedCfg b s) :=
  hs.same.storeSetting.noteFeed (fun _ k => k.rewindow.rewindow)

theorem pwrFeedCfgBody (hs : Stays s₀ s) : Stays s₀ (pwrFeedCfgBody c s) := .ite hs.ok (.ite hs.fail hs.newFeedCfg.ok)

theorem execPwrFeedCfg (hs : Stays s₀ s) : Continues s₀ (execPwrFeedCfg c s) :=
  .next (hs.runCmd (fun _ _ k => k.pwrFeedCfgBody))

theorem pwrHotswapCfgBody (hs : Stays s₀ s) : Stays s₀ (pwrHotswapCfgBody c s) :=
  .ite hs.ok (.ite hs.fail hs.same.storeSetting.ok)

theorem execPwrHotswapCfg (hs : Stays s₀ s) : Continues s₀ (execPwrHotswapCfg c s) :=
  .next (hs.runCmd (fun _ _ k => k.pwrHotswapCfgBody))

theorem resumeEfuse (hs : Stays s₀ s) : Stays s₀ (resumeEfuse ch s) :=
  .ite hs (.ite hs.rearmEfuse.updUsbPort hs.rearmEfuse)

theorem pwrEfuseCfgBody (hs : Stays s₀ s) : Stays s₀ (pwrEfuseCfgBody c s) := by
  unfold Machine.pwrEfuseCfgBody
  split
  · exact .ite (.ok (.takeFree (w := 16) hs)) (.ite hs.fail (.ok (.takeFree (w := 16) (.settlePorts7 (.ite
      hs.updPower.storeSetting.resumeEfuse.portOff
      hs.updPower.storeSetting.resumeEfuse)))))
  · exact hs.fail

theorem execPwrEfuseCfg (hs : Stays s₀ s) : Continues s₀ (execPwrEfuseCfg c s) :=
  .next (hs.runCmd (fun _ _ k => k.pwrEfuseCfgBody))

theorem freeReadings {n : Nat} (hs : Stays s₀ s) : Stays s₀ (freeReadings n s).2 := by
  induction n generalizing s with
  | zero => exact hs
  | succ n ih => exact ih (hs.takeFree (w := 16))

theorem pwrReport (hs : Stays s₀ s) : Stays s₀ (pwrReport s).2 := by
  unfold Machine.pwrReport
  dsimp only
  exact .iteSnd hs.freeReadings.freeReadings hs.freeReadings.freeReadings

theorem pwrStatusOp (hs : Stays s₀ s) : Stays s₀ (pwrStatusOp c s) := hs.pwrReport.ok

theorem pwrStatusClearOp (hs : Stays s₀ s) : Stays s₀ (pwrStatusClearOp c s) := hs.pwrReport.updPower.ok

theorem pwrStatusBody (hs : Stays s₀ s) : Stays s₀ (pwrStatusBody c s) :=
  .ite hs.pwrStatusOp (hs.onlyWhen (fun _ _ k => k.pwrStatusClearOp))

theorem execPwrStatus (hs : Stays s₀ s) : Continues s₀ (execPwrStatus c s) :=
  .next (hs.runCmd (fun _ _ k => k.onlyWhen (fun _ _ k' => k'.pwrStatusOp)))

theorem execPwrStatusClear (hs : Stays s₀ s) : Continues s₀ (execPwrStatusClear c s) :=
  .next (hs.runCmd (fun _ _ k => k.onlyWhen (fun _ _ k' => k'.pwrStatusClearOp)))

theorem setPdPolicy (hs : Stays s₀ s) : Stays s₀ (setPdPolicy u b s) :=
  .policyOffer (.policyOffer (.ite (.emit (.storeSetting (.ite hs.same hs.same))) (.storeSetting
    (.ite hs.same hs.same))))

theorem pwrPdPolicyBody (hs : Stays s₀ s) : Stays s₀ (pwrPdPolicyBody c s) :=
  .ite hs.ok (.ite hs.fail hs.setPdPolicy.ok)

theorem execPwrPdPolicy (hs : Stays s₀ s) : Continues s₀ (execPwrPdPolicy c s) :=
  .next (hs.runCmd (fun _ _ k => k.pwrPdPolicyBody))

theorem clearHsw (hs : Stays s₀ s) : Stays s₀ (clearHsw s) := .ite hs.same.storeRetry.settleHsw hs

theorem clearLockout (hs : Stays s₀ s) : Stays s₀ (clearLockout u s) := .ite hs.same.startFive hs

theorem pwrFaultClearBody (hs : Stays s₀ s) : Stays s₀ (pwrFaultClearBody c s) :=
  .ite hs.fail (.ok (.ite
    (.clearLockout (.ite
      (.clearLockout (.foldl (.ite hs.clearHsw hs) (fun _ _ k => k.same)))
      (.foldl (.ite hs.clearHsw hs) (fun _ _ k => k.same))))
    (.ite
      (.clearLockout (.foldl (.ite hs.clearHsw hs) (fun _ _ k => k.same)))
      (.foldl (.ite hs.clearHsw hs) (fun _ _ k => k.same)))))

theorem execPwrFaultClear (hs : Stays s₀ s) : Continues s₀ (execPwrFaultClear c s) :=
  .next (hs.runCmd (fun _ _ k => k.pwrFaultClearBody))

theorem shellRecord {n : Nat} {f : List Byte → State → State} (hs : Stays s₀ s)
    (hf : ∀ x u, Stays s₀ u → Stays s₀ (f x u)) :
    Stays s₀ (shellRecord n f s) := by
  unfold Machine.shellRecord
  split
  · exact hf _ _ hs
  · exact hs
  · exact hs

theorem loadShell (hs : Stays s₀ s) : Stays s₀ (loadShell s) := by
  unfold Machine.loadShell
  exact .ite
    (.updPower (.shellRecord
      (.shellRecord (.shellRecord (hs.shellRecord (fun _ _ k => k.same)) (fun _ _ k => k.same)) (fun _ _ k => k.same))
      (fun _ _ k => k.same)))
    (.updPower (.shellRecord
      (.shellRecord (.shellRecord (hs.shellRecord (fun _ _ k => k.same)) (fun _ _ k => k.same)) (fun _ _ k => k.same))
      (fun _ _ k => k.same)))

theorem execShellStart (hs : Stays s₀ s) : Continues s₀ (execShellStart s) :=
  .next (.ite hs hs.same.loadShell.emits.settleHsw)

theorem runFeed {f : State → State} (hs : Stays s₀ s) (hf : ∀ u, Stays s₀ u → Stays s₀ (f u)) :
    Continues s₀ (runFeed f s) := hs.runShell (fun _ k => k.noteFeed (fun _ k' => hf _ k'))

theorem execFeedWindowLeave (hs : Stays s₀ s) : Continues s₀ (execFeedWindowLeave f mv s) :=
  hs.runFeed (fun _ k => .ite k (.ite k.feedLeave k.same))

theorem execFeedWindowEnter (hs : Stays s₀ s) : Continues s₀ (execFeedWindowEnter f mv s) :=
  hs.runShell (fun _ k => .ite k k.same)

theorem execFeedQualified (hs : Stays s₀ s) : Continues s₀ (execFeedQualified f s) :=
  hs.runFeed (fun _ k => .ite k.same.feedPick k)

theorem execFeedReturnDelayExpiry (hs : Stays s₀ s) : Continues s₀ (execFeedReturnDelayExpiry s) :=
  hs.runShell (fun _ k => .ite k.same k)

theorem execFeedGapExpiry (hs : Stays s₀ s) : Continues s₀ (execFeedGapExpiry s) := by
  unfold Machine.execFeedGapExpiry
  refine hs.runFeed (fun _ k => ?_)
  split
  · exact k.same.useFeed
  · exact k

theorem execNoFeedTimeout (hs : Stays s₀ s) : Continues s₀ (execNoFeedTimeout s) :=
  hs.runShell (fun _ k => .ite k k.same.gateOff)

theorem execInsertionDelayExpiry (hs : Stays s₀ s) : Continues s₀ (execInsertionDelayExpiry s) :=
  hs.runShell (fun _ k => .ite k.same.settleHsw k)

theorem execPowerGood (hs : Stays s₀ s) : Continues s₀ (execPowerGood s) := hs.runShell (fun _ k => .ite k.same k)

theorem execVbusGateDelayExpiry (hs : Stays s₀ s) : Continues s₀ (execVbusGateDelayExpiry s) :=
  hs.runShell (fun _ k => .ite k.same k)

theorem execPowerFail (hs : Stays s₀ s) : Continues s₀ (execPowerFail s) :=
  hs.runShell (fun _ k => .ite k.pgFall.updPower k)

theorem execFastTrip (hs : Stays s₀ s) : Continues s₀ (execFastTrip vds s) :=
  hs.runShell (fun _ k => .ite k.hswFault k)

theorem execRampTimerExpiry (hs : Stays s₀ s) : Continues s₀ (execRampTimerExpiry vds s) :=
  hs.runShell (fun _ k => .ite k.hswFault k)

theorem execHotswapRegulation {enter : Bool} (hs : Stays s₀ s) : Continues s₀ (execHotswapRegulation enter vds s) :=
  hs.runShell (fun _ k => .ite k (.ite k.same (.ite k (.ite k.same k))))

theorem execRetryTimerExpiry (hs : Stays s₀ s) : Continues s₀ (execRetryTimerExpiry s) :=
  hs.runShell (fun _ k => .ite k k.same.storeRetry.settleHsw)

theorem execRetryStateCheckpoint (hs : Stays s₀ s) : Continues s₀ (execRetryStateCheckpoint s) :=
  hs.runShell (fun _ k => .ite k k.same.storeRetry)

theorem execRetryCountReset (hs : Stays s₀ s) : Continues s₀ (execRetryCountReset s) :=
  hs.runShell (fun _ k => .ite k.same.storeRetry k)

theorem execPrsntRemoved (hs : Stays s₀ s) : Continues s₀ (execPrsntRemoved s) :=
  hs.runShell (fun _ k => k.same.gateOff)

theorem execPrsntInserted (hs : Stays s₀ s) : Continues s₀ (execPrsntInserted s) :=
  hs.runShell (fun _ k => .ite k k.same.settleHsw)

theorem execEfuseOverloadTrip (hs : Stays s₀ s) : Continues s₀ (execEfuseOverloadTrip ch ma s) :=
  hs.runShell (fun _ k => k.efuseTrip)

theorem execEfuseSevereTrip (hs : Stays s₀ s) : Continues s₀ (execEfuseSevereTrip ch ma s) :=
  hs.runShell (fun _ k => k.efuseTrip)

theorem execEfuseOffTimeExpiry (hs : Stays s₀ s) : Continues s₀ (execEfuseOffTimeExpiry ch s) :=
  hs.runShell (fun _ k => k.same)

theorem execPdAttach {cc2 : Bool} {cable : Cable} (hs : Stays s₀ s) : Continues s₀ (execPdAttach u cc2 cable s) :=
  hs.runShell (fun _ k => .ite k (.recogniseToo (.refreshOffer (.startFive (.ite k.same k.same)))))

theorem execPdVbusReady (hs : Stays s₀ s) : Continues s₀ (execPdVbusReady u s) :=
  hs.runShell (fun _ k => .ite k.same k)

theorem execPdRequest {rq : PdRequest} (hs : Stays s₀ s) : Continues s₀ (execPdRequest u rq s) := by
  unfold Machine.execPdRequest
  refine hs.runShell (fun _ k => ?_)
  refine .ite k ?_
  split <;> exact k.same

theorem execPdTransitionStart (hs : Stays s₀ s) : Continues s₀ (execPdTransitionStart u s) := by
  unfold Machine.execPdTransitionStart
  refine hs.runShell (fun _ k => ?_)
  split
  · exact k.same
  · exact k

theorem execPdTransitionDone (hs : Stays s₀ s) : Continues s₀ (execPdTransitionDone u s) := by
  unfold Machine.execPdTransitionDone
  refine hs.runShell (fun _ k => ?_)
  split
  · exact .ite k.same.raise.refreshOffer.fallBackOrOwe k.same.raise.refreshOffer
  · exact k

theorem execPdPsRdyTimeout (hs : Stays s₀ s) : Continues s₀ (execPdPsRdyTimeout u s) :=
  hs.runShell (fun _ k => .ite k.hardReset k)

theorem execPdDetach (hs : Stays s₀ s) : Continues s₀ (execPdDetach u s) :=
  hs.runShell (fun _ k => .ite k k.cutVbus.dropUplink.updPd.updLink)

theorem execPdHardReset (hs : Stays s₀ s) : Continues s₀ (execPdHardReset u s) :=
  hs.runShell (fun _ k => .ite k.hardReset k)

theorem execPdPpsRequestTimeout (hs : Stays s₀ s) : Continues s₀ (execPdPpsRequestTimeout u s) := by
  unfold Machine.execPdPpsRequestTimeout
  refine hs.runShell (fun _ k => ?_)
  split
  · exact .ite k.hardReset k
  · exact k

theorem execPdNewCapsTimeout (hs : Stays s₀ s) : Continues s₀ (execPdNewCapsTimeout u s) :=
  hs.runShell (fun _ k => .ite k.hardReset k)

theorem pdAnswer {name : String} {ws : List Word} (hs : Stays s₀ s) : Stays s₀ (pdAnswer u name ws s) := hs.emit

theorem execPdOtherMessage {msg : PdOther} (hs : Stays s₀ s) : Continues s₀ (execPdOtherMessage u msg s) := by
  unfold Machine.execPdOtherMessage
  refine hs.runShell (fun _ k => .ite k ?_)
  split
  · exact .ite k k.sendCaps
  · exact k.pdAnswer
  · exact k.same.pdAnswer
  · exact .ite k.pdAnswer k.pdAnswer.sendCaps
  · exact .ite k.updPd.pdAnswer.sendCaps k.pdAnswer
  · exact .ite k.pdAnswer k.pdAnswer
  · exact .ite k.pdAnswer (.ite k.hardReset k.updPd.sendCaps)
  · exact k.pdAnswer
  · exact k.pdAnswer
  · exact k.pdAnswer
  · exact .ite k.pdAnswer k.pdAnswer

theorem execPmbusAlert (hs : Stays s₀ s) : Continues s₀ (execPmbusAlert u s) :=
  hs.runShell (fun _ k => .ite k.converterFault k)

theorem execPmbusStatusPoll {faulted : Bool} (hs : Stays s₀ s) : Continues s₀ (execPmbusStatusPoll u faulted s) :=
  hs.runShell (fun _ k => .ite k.converterFault k)

end

section

/-! `Stays` through the functions of `Sys2Proof/Machine/ResetOps.lean`. -/

variable {keep : Option Profile} {cold : Bool}

theorem boot (hs : Stays s₀ s) : Stays s₀ (boot s) := by
  unfold Machine.boot
  dsimp only
  split <;> exact hs.same

theorem withSetting {n : Nat} {f : List Byte → State → State} (hs : Stays s₀ s)
    (hf : ∀ x u, Stays s₀ u → Stays s₀ (f x u)) :
    Stays s₀ (withSetting n f s) := by
  unfold Machine.withSetting
  split
  · exact hf _ _ hs
  · exact hs.logFault
  · exact hs

theorem loadMap (hs : Stays s₀ s) : Stays s₀ (loadMap s) :=
  .ite hs.setPerfWorlds (.ite hs.setPerfWorlds.logFault hs.setPerfWorlds)

theorem loadConv (hs : Stays s₀ s) : Stays s₀ (loadConv s) := .ite hs.same (.ite hs.same.logFault hs.same)

theorem startLevel (hs : Stays s₀ s) : Stays s₀ (startLevel keep s) := .ite hs.same hs.same

theorem loadWorlds (hs : Stays s₀ s) : Stays s₀ (loadWorlds s) := by
  unfold Machine.loadWorlds
  exact .withSetting (hs.withSetting (fun _ _ k => k.setWorlds)) (fun _ _ k => k.setWorlds)

theorem loadPcie (hs : Stays s₀ s) : Stays s₀ (loadPcie s) :=
  .mirrorSlot (.mirrorSlot (hs.withSetting (fun _ _ k => k.same)))

theorem loadUsb (hs : Stays s₀ s) : Stays s₀ (loadUsb s) :=
  .settlePorts7 (.withSetting
    (.withSetting (hs.withSetting (fun _ _ k => k.same)) (fun _ _ k => k.same))
    (fun _ _ k => k.same))

theorem loadNet (hs : Stays s₀ s) : Stays s₀ (loadNet s) := by
  unfold Machine.loadNet
  exact .withSetting
    (.ite
      (.setNet (.withSetting
        (.withSetting (hs.withSetting (fun _ _ k => k.same)) (fun _ _ k => k.same))
        (fun _ _ k => k.same)))
      (.withSetting (.withSetting (hs.withSetting (fun _ _ k => k.same)) (fun _ _ k => k.same)) (fun _ _ k => k.same)))
    (fun _ _ k => k.same)

theorem loadCan (hs : Stays s₀ s) : Stays s₀ (loadCan s) := .commitStored (hs.withSetting (fun _ _ k => k.same))

theorem loadPair (hs : Stays s₀ s) : Stays s₀ (loadPair s) := hs.withSetting (fun _ _ k => k.same)

theorem storePm (hs : Stays s₀ s) : Stays s₀ (storePm s) := hs.storeSetting

theorem loadPm (hs : Stays s₀ s) : Stays s₀ (loadPm s) :=
  .ite
    (.storePm (.updPm (.withSetting
      (.withSetting (hs.withSetting (fun _ _ k => k.same)) (fun _ _ k => k.same))
      (fun _ _ k => k.same))))
    (.withSetting (.withSetting (hs.withSetting (fun _ _ k => k.same)) (fun _ _ k => k.same)) (fun _ _ k => k.same))

theorem loadScrub (hs : Stays s₀ s) : Stays s₀ (loadScrub s) := .ite hs (.ite hs.same hs.logFault)

theorem checkPin (hs : Stays s₀ s) : Stays s₀ (checkPin s) := .ite hs.logFault hs

theorem checkShell (hs : Stays s₀ s) : Stays s₀ (checkShell s) := by
  unfold Machine.checkShell
  exact .ite
    (hs.foldl (fun _ _ k => k.withSetting (fun _ _ k' => k')))
    (.logFault (hs.foldl (fun _ _ k => k.withSetting (fun _ _ k' => k'))))

theorem wipeBank (hs : Stays s₀ s) : Stays s₀ (wipeBank s) := hs.same.foldl (fun _ _ k => k.pbWrite)

theorem finishWipe (hs : Stays s₀ s) : Stays s₀ (finishWipe s) := .ite hs.same.wipeBank hs

theorem clearedState (hs : Stays s₀ s) : Stays s₀ (clearedState cold s) := by
  refine hs.memories (hw := fun _ => ?_) (hm := fun _ => ?_) (hc := fun _ => ?_)
  · rfl
  · rfl
  · show cfgWf (Vector.replicate 4 (Vector.replicate 3 [])) = true
    decide

theorem loadSettings (hs : Stays s₀ s) : Stays s₀ (loadSettings keep s) := by
  have k := (hs.boot.checkPin.loadMap.loadConv.startLevel (keep := keep)).memories
    (u := { Machine.startLevel keep (Machine.loadConv (Machine.loadMap (Machine.checkPin (Machine.boot s)))) with
      disp := Display.reset (ownQuota
        (Machine.startLevel keep (Machine.loadConv (Machine.loadMap (Machine.checkPin (Machine.boot s)))))) })
    (hm := fun _ => rfl)
  exact k.loadWorlds.loadPcie.loadUsb.loadNet.loadCan.loadPair.loadPm.loadScrub.checkShell

theorem holdScrapped (hs : Stays s₀ s) : Stays s₀ (holdScrapped s) := .ite hs.same hs

theorem assertPerst {p : PciePort} (hs : Stays s₀ s) : Stays s₀ (assertPerst s p) :=
  .ite hs.same hs.quiescePort.resetPort

theorem enterSafe {cause : SafeCause} (hs : Stays s₀ s) : Stays s₀ (enterSafe cause s) :=
  .ite hs (.foldl
    (.setEv (.updFlt (.ite
      (.yieldDay (.resetUsbPorts (.foldl (hs.same.foldl (fun _ _ k => k.assertPerst)) (fun _ _ k => k.ethDown))))
      (.ite
        (.releaseIlk (.resetUsbPorts (.foldl (hs.same.foldl (fun _ _ k => k.assertPerst)) (fun _ _ k => k.ethDown))))
        (.resetUsbPorts (.foldl (hs.same.foldl (fun _ _ k => k.assertPerst)) (fun _ _ k => k.ethDown)))))))
    (fun _ _ k => k.same))

theorem declareRefclk (hs : Stays s₀ s) : Stays s₀ (declareRefclk s) := .ite hs hs.logFault.enterSafe

theorem restart (hs : Stays s₀ s) : Stays s₀ (restart cold keep s) :=
  hs.finishWipe.clearedState.loadSettings.holdScrapped.declareRefclk

end

section

/-! `Stays` through the functions of `Sys2Proof/Machine/PowerStates.lean`. -/

variable {i : Island} {c : Cmd} {p : CanPort}

theorem execIslandSleepEntry {off : Bool} (hs : Stays s₀ s) : Continues s₀ (execIslandSleepEntry i off s) :=
  hs.runCore (fun _ k => .ite k (.ite (.ite k.same k) (.ite k.same k)))

theorem execIslandSleepExit (hs : Stays s₀ s) : Continues s₀ (execIslandSleepExit i s) :=
  hs.runCore (fun _ k => .ite k k.same)

theorem unpark (hs : Stays s₀ s) : Stays s₀ (unpark i s) :=
  .ite hs.same.startBond (.ite hs.same.settlePorts (.ite hs.same.presentUsb hs.same))

theorem pmIslandSetBody (hs : Stays s₀ s) : Stays s₀ (pmIslandSetBody c s) :=
  .ite hs.ok (.ite hs.fail (.ite hs.fail (.ok (.ite (.ite hs.same (.ite hs.same.unpark hs.same))
    (.storeSetting (.ite hs.same (.ite hs.same.unpark hs.same)))))))

theorem execPmIslandSet (hs : Stays s₀ s) : Continues s₀ (execPmIslandSet c s) :=
  .next (hs.runCmd (fun _ _ k => k.pmIslandSetBody))

theorem pmWakeCfgBody (hs : Stays s₀ s) : Stays s₀ (pmWakeCfgBody c s) :=
  .ite hs.ok (.ite hs.fail hs.same.storeSetting.ok)

theorem execPmWakeCfg (hs : Stays s₀ s) : Continues s₀ (execPmWakeCfg c s) :=
  .next (hs.runCmd (fun _ _ k => k.pmWakeCfgBody))

theorem pmStatusOp (hs : Stays s₀ s) : Stays s₀ (pmStatusOp c s) := hs.ok

theorem pmStatusClearOp (hs : Stays s₀ s) : Stays s₀ (pmStatusClearOp c s) := .ok (.ite hs.same.storePm hs.same)

theorem pmStatusBody (hs : Stays s₀ s) : Stays s₀ (pmStatusBody c s) :=
  .ite hs.pmStatusOp (hs.onlyWhen (fun _ _ k => k.pmStatusClearOp))

theorem execPmStatus (hs : Stays s₀ s) : Continues s₀ (execPmStatus c s) :=
  .next (hs.runCmd (fun _ _ k => k.onlyWhen (fun _ _ k' => k'.pmStatusOp)))

theorem execPmStatusClear (hs : Stays s₀ s) : Continues s₀ (execPmStatusClear c s) :=
  .next (hs.runCmd (fun _ _ k => k.onlyWhen (fun _ _ k' => k'.pmStatusClearOp)))

theorem canWakeOn (hs : Stays s₀ s) : Stays s₀ (canWakeOn p s) := by
  unfold Machine.canWakeOn
  refine .ite hs ?_
  dsimp only
  split
  · exact .ite hs.raise.wakeCanPort hs.raise
  · exact .ite hs.recognise.raise.wakeCanPort hs.recognise.raise
  · exact .ite hs.same.recognise hs
  · exact .ite hs.same.recognise hs
  · exact .ite hs.same.recognise hs

theorem runAon {f : State → State} (hs : Stays s₀ s) (hf : ∀ u, Stays s₀ u → Stays s₀ (f u)) :
    Continues s₀ (runAon f s) := .next (.ite (hf _ hs) hs)

theorem execWakePinDebounced {pin : Fin 4} {active : Bool} (hs : Stays s₀ s) :
    Continues s₀ (execWakePinDebounced pin active s) := by
  unfold Machine.execWakePinDebounced
  refine hs.runAon (fun _ k => ?_)
  refine .ite k.same ?_
  split
  · exact k.same.recognise
  · exact k.same.foldl (fun _ _ k' => k'.canWakeOn)

theorem execWakeSourceRecognised {src : WakeSource} (hs : Stays s₀ s) :
    Continues s₀ (execWakeSourceRecognised src s) := hs.runAon (fun _ k => k.recognise)

theorem execCanWake (hs : Stays s₀ s) : Continues s₀ (execCanWake p s) := hs.runAon (fun _ k => .ite k k.canWakeOn)

theorem stopPort {p : PciePort} (hs : Stays s₀ s) : Stays s₀ (stopPort s p) := hs.quiescePort.disablePort

theorem stopCan (hs : Stays s₀ s) : Stays s₀ (stopCan s p) := .ite hs hs.pauseCan.updCanPort

theorem stopUsb {n : Fin 8} (hs : Stays s₀ s) : Stays s₀ (stopUsb s n) := hs.foldl (fun _ _ k => .ite k k.same)

theorem stopBlocks (hs : Stays s₀ s) : Stays s₀ (stopBlocks s) := by
  unfold Machine.stopBlocks
  exact .updateInt (.foldl
    (.foldl (.foldl (hs.foldl (fun _ _ k => k.ethDown)) (fun _ _ k => k.stopPort)) (fun _ _ k => k.stopCan))
    (fun _ _ k => k.stopUsb))

theorem pmStopBody (hs : Stays s₀ s) : Stays s₀ (pmStopBody c s) :=
  .ite hs.fail (.ite hs.fail (.ite hs.fail (.ite hs.fail (.ite hs.fail hs.ok.updPm.stopBlocks))))

theorem execPmStop (hs : Stays s₀ s) : Continues s₀ (execPmStop c s) := .next (hs.runCmd (fun _ _ k => k.pmStopBody))

theorem execStopPointOfNoReturn (hs : Stays s₀ s) : Continues s₀ (execStopPointOfNoReturn s) :=
  hs.runAon (fun _ k => .ite k k.same.storePm)

theorem execTwilightEntry (hs : Stays s₀ s) : Continues s₀ (execTwilightEntry s) :=
  hs.runAon (fun _ k => .ite k (.ite k.same k.same))

theorem execWakeVddFabReady (hs : Stays s₀ s) : Continues s₀ (execWakeVddFabReady s) :=
  hs.runAon (fun _ k => .ite k.same k)

theorem discardQueues (hs : Stays s₀ s) : Stays s₀ (discardQueues s) := hs.same.checkUnits.dropQueue.dropQueue.setPcie

theorem wakeLink {l : LinkNo} (hs : Stays s₀ s) : Stays s₀ (wakeLink s l) := .ite hs.startRetrain hs

theorem wakeRetained (hs : Stays s₀ s) : Stays s₀ (wakeRetained s) := by
  unfold Machine.wakeRetained
  exact .ite
    (.declareRefclk (.updateInt (hs.same.discardQueues.resumeBlocks.foldl (fun _ _ k => k.wakeLink))))
    (.wakeEvent (.declareRefclk (.updateInt (hs.same.discardQueues.resumeBlocks.foldl (fun _ _ k => k.wakeLink)))))

theorem wakeCold (hs : Stays s₀ s) : Stays s₀ (wakeCold s) := by
  unfold Machine.wakeCold
  exact hs.restart.updPm

theorem execWakeComplete (hs : Stays s₀ s) : Continues s₀ (execWakeComplete s) :=
  hs.runAon (fun _ k => .ite k (.ite k.wakeRetained k.wakeCold))

theorem execWakeEventTimeout (hs : Stays s₀ s) : Continues s₀ (execWakeEventTimeout s) :=
  hs.runAon (fun _ k => .ite k.wakeEvent k)

theorem execTwilightBrownout (hs : Stays s₀ s) : Continues s₀ (execTwilightBrownout s) :=
  hs.runAon (fun _ k => .ite k.same.restart k)

end

section

/-! `Stays` through the functions of `Sys2Proof/Machine/Integrity.lean`. -/

variable {cls : Fin 24} {loc extra : Nat} {injected fromXbar dram : Bool} {p : FabPort} {e : EccError} {c : Cmd}

theorem revertChange (hs : Stays s₀ s) : Stays s₀ (revertChange s) := by
  unfold Machine.revertChange
  split
  · exact hs.same
  · exact hs

theorem dropWork (hs : Stays s₀ s) : Stays s₀ (dropWork s) :=
  .setFwCommits (.updPair (.ite hs.updPerf.updFlt.revertChange hs.updPerf.updFlt))

theorem processorRestart (hs : Stays s₀ s) : Stays s₀ (processorRestart cls loc s) :=
  .ite
    hs.same.dropWork.setReadyActivating.updFlt.setReaction.enterSafe
    hs.same.dropWork.setReadyActivating.updFlt.setReaction

theorem releaseFor (hs : Stays s₀ s) : Stays s₀ (releaseFor cls loc s) := .ite hs.yieldDay.setReaction hs

theorem coreFault (hs : Stays s₀ s) : Stays s₀ (coreFault cls loc injected s) :=
  .ite hs.logFault hs.logFault.processorRestart.releaseFor

theorem execLockstepMismatch {stage : BitVec 4} (hs : Stays s₀ s) : Continues s₀ (execLockstepMismatch stage s) :=
  .next (.ite hs.coreFault hs)

theorem execProcessorWatchdogExpiry (hs : Stays s₀ s) : Continues s₀ (execProcessorWatchdogExpiry s) :=
  .next (.ite hs.coreFault hs)

theorem answerRestart {p : Pending} (hs : Stays s₀ s) : Stays s₀ (answerRestart s p) := hs.finishOne

theorem execProcessorRestartDone (hs : Stays s₀ s) : Continues s₀ (execProcessorRestartDone s) := by
  unfold Machine.execProcessorRestartDone
  refine .next (.ite ?_ hs)
  dsimp only
  split
  · exact .coreFault (hs.same.foldl (fun _ _ k => k.answerRestart))
  · exact hs.same.foldl (fun _ _ k => k.answerRestart)

theorem setPortReaction {r : Byte} (hs : Stays s₀ s) : Stays s₀ (setPortReaction p r s) := by
  unfold Machine.setPortReaction
  split
  · exact hs.same
  · exact hs

theorem isolateEffect (hs : Stays s₀ s) : Stays s₀ (isolateEffect p s) := by
  unfold Machine.isolateEffect
  split
  · exact hs.startRetrain
  · exact hs.startRetrain
  · exact hs.startRetrain
  · exact hs.resetUsbPorts
  · exact hs.ethDown
  · exact hs.ethDown
  · exact hs

theorem fabricFault (hs : Stays s₀ s) : Stays s₀ (fabricFault cls p loc injected s) :=
  .ite hs (.ite hs.logFault (.ite
    hs.logFault.updFlt.setReaction.setReaction.enterSafe
    (.ite
      (.releaseFor (.ite hs.logFault.updFlt.setReaction.processorRestart hs.logFault.updFlt.setReaction.isolateEffect))
      (.ite hs.logFault.updFlt.setReaction.processorRestart hs.logFault.updFlt.setReaction.isolateEffect))))

theorem execFabricInvalidCode {bit : BitVec 9} {falseRail : Bool} (hs : Stays s₀ s) :
    Continues s₀ (execFabricInvalidCode p fromXbar bit falseRail s) := .next (.ite hs.fabricFault hs)

theorem execFabricStall {phase : BitVec 2} (hs : Stays s₀ s) : Continues s₀ (execFabricStall p fromXbar phase s) :=
  .next (.ite hs.fabricFault hs)

theorem failPort (hs : Stays s₀ s) : Stays s₀ (failPort p s) :=
  .ite
    (.enterSafe (.setPortReaction (.ite hs.same hs.same.setPortReaction)))
    (.ite
      (.foldl (.ite hs.same hs.same.setPortReaction) (fun _ _ k => k.closeTunnel))
      (.ite (.finish (.setFw (.ite hs.same hs.same.setPortReaction))) (.ite hs.same hs.same.setPortReaction)))

theorem bootTestFails (hs : Stays s₀ s) : Stays s₀ (bootTestFails p s) :=
  .ite hs.same.logFault.enterSafe hs.same.logFault

theorem selftestEnd {pass : Bool} (hs : Stays s₀ s) : Stays s₀ (selftestEnd p pass s) :=
  .ite (.ite hs.same.setPortReaction hs.failPort) (.ite hs.bootTestFails hs)

theorem repairEntry {made : Bool} (hs : Stays s₀ s) : Stays s₀ (repairEntry made e s) :=
  .ite hs.logFault.setReaction hs.logFault

theorem repair (hs : Stays s₀ s) : Stays s₀ (repair e s) := by
  unfold Machine.repair
  refine .ite ?_ (.ite hs.same.repairEntry hs.repairEntry)
  dsimp only
  split
  · exact .ite hs.same.repairEntry hs.repairEntry
  · exact hs.repairEntry

theorem dropHeld {i : Held} (hs : Stays s₀ s) : Stays s₀ (dropHeld i s) := by
  unfold Machine.dropHeld
  split
  · exact hs.same
  · exact hs.same
  · exact hs.same
  · split
    · exact hs.same.freeUnits.drawMessage
    · exact hs
  · exact hs.same
  · exact hs.same.settleNet

theorem dropStaged {i : Staged} (hs : Stays s₀ s) : Stays s₀ (dropStaged i s) := by
  unfold Machine.dropStaged
  split
  · exact hs.same.answerNp
  · exact hs.same.lostWrite
  · exact hs.finishUsb

theorem freePick {l : List α} (hs : Stays s₀ s) : Stays s₀ (freePick l s).2 := hs.same

theorem poisonEffect (hs : Stays s₀ s) : Stays s₀ (poisonEffect e s) := by
  unfold Machine.poisonEffect
  split
  · exact hs
  · have k := hs.freePick (l := heldItems s)
    split
    next he => exact Stays.dropHeld (by rwa [he] at k)
    next he => rwa [he] at k
  · exact hs
  · exact hs
  · have k := hs.freePick (l := stagedItems s)
    split
    next he => exact Stays.dropStaged (by rwa [he] at k)
    next he => rwa [he] at k
  · exact (hs.takeFree (w := 64)).updFlt
  · exact hs.processorRestart.releaseFor

theorem memoryError {scrub once : Bool} (hs : Stays s₀ s) : Stays s₀ (memoryError e scrub once s) :=
  .ite
    (.ite hs.logFault.poisonEffect hs.logFault.poisonEffect.repair)
    (.ite (.ite hs.logFault.updFlt.repair hs.logFault.updFlt) hs.logFault)

theorem execMemoryEccError (hs : Stays s₀ s) : Continues s₀ (execMemoryEccError e s) := .next (.ite hs.memoryError hs)

theorem scrubOn (hs : Stays s₀ s) : Stays s₀ (scrubOn dram s) := hs.same

theorem scrubFound (hs : Stays s₀ s) : Stays s₀ (scrubFound e s) :=
  .ite hs.memoryError (.ite
    (.ite hs.memoryError.updFlt.repair hs.memoryError.updFlt)
    (.ite hs.memoryError.updFlt.repair hs.memoryError.updFlt))

theorem scrubMeets (hs : Stays s₀ s) : Stays s₀ (scrubMeets dram s).2 := .iteSnd hs (.iteSnd hs hs.same)

theorem injectedError {cls : Nat} (hs : Stays s₀ s) : Stays s₀ (injectedError cls loc extra s).2 := hs.same

theorem scrubStep {e : Option EccError} (hs : Stays s₀ s) : Stays s₀ (scrubStep dram e s) := by
  have k := hs.scrubMeets (dram := dram)
  unfold Machine.scrubStep
  split
  next j u he =>
    rw [he] at k
    exact (k.injectedError (cls := j.cls.toNat) (loc := j.loc.toNat) (extra := j.detail.toNat)).scrubFound.scrubOn
  next he =>
    rw [he] at k
    refine .scrubOn ?_
    split
    · exact .ite k.scrubFound k
    · exact k

theorem execScrubRead {e : Option EccError} (hs : Stays s₀ s) : Continues s₀ (execScrubRead dram e s) :=
  .next (.ite hs.scrubStep hs)

theorem execRefclkLoss (hs : Stays s₀ s) : Continues s₀ (execRefclkLoss s) :=
  .next (.ite hs (.ite hs.same (.ite hs.same.logFault hs.same.declareRefclk)))

theorem execRefclkReturn (hs : Stays s₀ s) : Continues s₀ (execRefclkReturn s) := .next hs.same

theorem execSafeStateExit (hs : Stays s₀ s) : Continues s₀ (execSafeStateExit s) := by
  unfold Machine.execSafeStateExit
  refine .next (.ite hs ?_)
  split
  · exact hs
  · exact hs
  · exact .ite hs.restart hs
  · exact .ite hs.restart hs
  · exact hs.restart

theorem fltStatusOp (hs : Stays s₀ s) : Stays s₀ (fltStatusOp c s) := hs.ok

theorem fltStatusClearOp (hs : Stays s₀ s) : Stays s₀ (fltStatusClearOp c s) := hs.same.ok

theorem fltStatusDisableOp (hs : Stays s₀ s) : Stays s₀ (fltStatusDisableOp c s) := .ite hs.fail hs.same.ok

theorem fltStatusBody (hs : Stays s₀ s) : Stays s₀ (fltStatusBody c s) :=
  .ite hs.fltStatusOp (.ite (hs.onlyWhen (fun _ _ k => k.fltStatusDisableOp)) (hs.onlyWhen
    (fun _ _ k => k.fltStatusClearOp)))

theorem execFltStatus (hs : Stays s₀ s) : Continues s₀ (execFltStatus c s) :=
  .next (hs.runCmd (fun _ _ k => k.onlyWhen (fun _ _ k' => k'.fltStatusOp)))

theorem execFltStatusClear (hs : Stays s₀ s) : Continues s₀ (execFltStatusClear c s) :=
  .next (hs.runCmd (fun _ _ k => k.onlyWhen (fun _ _ k' => k'.fltStatusClearOp)))

theorem execFltStatusDisable (hs : Stays s₀ s) : Continues s₀ (execFltStatusDisable c s) :=
  .next (hs.runCmd (fun _ _ k => k.onlyWhen (fun _ _ k' => k'.fltStatusDisableOp)))

theorem fltLogReadBody (hs : Stays s₀ s) : Stays s₀ (fltLogReadBody c s) := .ite hs.fail hs.ok

theorem execFltLogRead (hs : Stays s₀ s) : Continues s₀ (execFltLogRead c s) :=
  .next (hs.runCmd (fun _ _ k => k.fltLogReadBody))

theorem injectMemory {cls : Nat} (hs : Stays s₀ s) : Stays s₀ (injectMemory cls loc extra s) :=
  .memoryError (hs.injectedError (cls := cls) (loc := loc) (extra := extra))

theorem causeFault {cls : Nat} {persistent : Bool} (hs : Stays s₀ s) :
    Stays s₀ (causeFault cls loc extra persistent s) := by
  unfold Machine.causeFault
  dsimp only
  split
  · exact .fabricFault (.ite hs.same hs)
  · exact .fabricFault (.ite hs.same hs)
  · exact .coreFault (.ite hs.same hs)
  · exact .ite (.ite hs.same hs) (.updFlt (.ite hs.same hs))
  · exact .injectPair (.ite hs.same hs)
  · exact .injectMemory (.ite hs.same hs)

theorem fltInjectOp (hs : Stays s₀ s) : Stays s₀ (fltInjectOp c s) :=
  .ite hs.fail (.ite hs.fail (.ite hs.fail hs.ok.causeFault))

theorem fltInjectClearOp (hs : Stays s₀ s) : Stays s₀ (fltInjectClearOp c s) := .ite hs.fail hs.same.ok

theorem fltInjectBody (hs : Stays s₀ s) : Stays s₀ (fltInjectBody c s) :=
  .ite hs.fltInjectClearOp (hs.onlyWhen (fun _ _ k => k.fltInjectOp))

theorem execFltInjectTransient (hs : Stays s₀ s) : Continues s₀ (execFltInjectTransient c s) :=
  .next (hs.runCmd (fun _ _ k => k.onlyWhen (fun _ _ k' => k'.fltInjectOp)))

theorem execFltInjectPersistent (hs : Stays s₀ s) : Continues s₀ (execFltInjectPersistent c s) :=
  .next (hs.runCmd (fun _ _ k => k.onlyWhen (fun _ _ k' => k'.fltInjectOp)))

theorem execFltInjectClear (hs : Stays s₀ s) : Continues s₀ (execFltInjectClear c s) :=
  .next (hs.runCmd (fun _ _ k => k.onlyWhen (fun _ _ k' => k'.fltInjectClearOp)))

theorem crcConfigureOp (hs : Stays s₀ s) : Stays s₀ (crcConfigureOp c s) := .ite hs.fail (.ite hs.fail hs.same.ok)

theorem crcAssignOp (hs : Stays s₀ s) : Stays s₀ (crcAssignOp c s) := .ite hs.fail hs.same.ok

theorem crcReadOp (hs : Stays s₀ s) : Stays s₀ (crcReadOp c s) := .ite hs.fail hs.ok

theorem crcChannelBody (hs : Stays s₀ s) : Stays s₀ (crcChannelBody c s) :=
  .ite hs.crcConfigureOp (.ite hs.crcAssignOp (hs.onlyWhen (fun _ _ k => k.crcReadOp)))

theorem execCrcChannelConfigure (hs : Stays s₀ s) : Continues s₀ (execCrcChannelConfigure c s) :=
  .next (hs.runCmd (fun _ _ k => k.onlyWhen (fun _ _ k' => k'.crcConfigureOp)))

theorem execCrcChannelAssign (hs : Stays s₀ s) : Continues s₀ (execCrcChannelAssign c s) :=
  .next (hs.runCmd (fun _ _ k => k.onlyWhen (fun _ _ k' => k'.crcAssignOp)))

theorem execCrcChannelRead (hs : Stays s₀ s) : Continues s₀ (execCrcChannelRead c s) :=
  .next (hs.runCmd (fun _ _ k => k.onlyWhen (fun _ _ k' => k'.crcReadOp)))

theorem scrubCfgBody (hs : Stays s₀ s) : Stays s₀ (scrubCfgBody c s) := .ite hs.ok (.ite hs.fail hs.same.storeWord.ok)

theorem execScrubCfg (hs : Stays s₀ s) : Continues s₀ (execScrubCfg c s) :=
  .next (hs.runCmd (fun _ _ k => k.scrubCfgBody))

theorem repairStatusBody (hs : Stays s₀ s) : Stays s₀ (repairStatusBody c s) := .ite hs.ok (.ite hs.fail hs.ok)

theorem execRepairStatus (hs : Stays s₀ s) : Continues s₀ (execRepairStatus c s) :=
  .next (hs.runCmd (fun _ _ k => k.repairStatusBody))

end

section

/-! `Stays` through the functions of `Sys2Proof/Machine/Worlds.lean`. -/

variable {c a : Cmd}

theorem withSecurity {op : Half} {f : Cmd → State → State} (hs : Stays s₀ s)
    (hf : ∀ x u, Stays s₀ u → Stays s₀ (f x u)) :
    Stays s₀ (withSecurity op f c s) := .ite hs.fail (.ite hs.same (hf _ _ hs))

theorem secBlockWorldBody (hs : Stays s₀ s) : Stays s₀ (secBlockWorldBody c s) := by
  unfold Machine.secBlockWorldBody
  exact .ite hs.ok (.ite hs.fail (.ite hs.fail (.ok (.storeSetting hs.setWorlds))))

theorem execSecBlockWorld (hs : Stays s₀ s) : Continues s₀ (execSecBlockWorld c s) :=
  .next (hs.runCmd (fun _ _ k => k.secBlockWorldBody))

theorem secRegionWorldBody (hs : Stays s₀ s) : Stays s₀ (secRegionWorldBody c s) := by
  unfold Machine.secRegionWorldBody
  exact .ite hs.ok (.ite hs.fail (.ite hs.fail (.ok (.storeSetting hs.setWorlds))))

theorem execSecRegionWorld (hs : Stays s₀ s) : Continues s₀ (execSecRegionWorld c s) :=
  .next (hs.runCmd (fun _ _ k => k.secRegionWorldBody))

theorem quiesceAll (hs : Stays s₀ s) : Stays s₀ (quiesceAll s) :=
  .foldl
    (.resetUsbPorts (.foldl (hs.same.foldl (fun _ _ k => k.assertPerst)) (fun _ _ k => k.ethDown)))
    (fun _ _ k => k.same)

/-- A permitted transition starts from a life-cycle state other than SCRAPPED. -/
theorem lcAllowed_ne {old new : Lc} {signer : Nat} (h : lcAllowed old new signer = true) : old ≠ .scrapped := by
  rintro rfl
  cases h

/-- A state that is not SCRAPPED was not reached from one that is. -/
theorem ne_scrapped (hs : Stays s₀ s) (h : s.ident.lc ≠ .scrapped) : s₀.ident.lc ≠ .scrapped :=
  fun k => h (hs.scrapped k)

/-- The identity of a part that was not SCRAPPED is replaced. -/
theorem setIdentFwReadyClock {i : Identity} {f : Firmware} {r : Bool} {x : Clock} (hs : Stays s₀ s)
    (hl : s₀.ident.lc ≠ .scrapped) : Stays s₀ { s with ident := i, fw := f, ready := r, clock := x } :=
  ⟨hs.canon, hs.variant, fun e => absurd e hl⟩

/-- A change of life cycle, from a state that was not SCRAPPED. -/
theorem changeLc {new : Lc} {p : List Byte} (hs : Stays s₀ s) (hl : s₀.ident.lc ≠ .scrapped) :
    Stays s₀ (changeLc new p s) :=
  hs.quiesceAll.setIdentFwReadyClock hl

theorem lcTransitionRun (hs : Stays s₀ s) : Stays s₀ (lcTransitionRun c s) := by
  unfold Machine.lcTransitionRun
  refine .ite hs.fail (.ite hs.fail ?_)
  split
  · exact hs.fail
  · split
    · exact hs.fail
    next ha =>
      have hl := hs.ne_scrapped (lcAllowed_ne (by simpa using ha))
      exact .ite hs.fail (hs.startPending (fun _ k => k.changeLc hl))

theorem lcTransitionBody (hs : Stays s₀ s) : Stays s₀ (lcTransitionBody a s) :=
  hs.withSecurity (fun _ _ k => k.lcTransitionRun)

theorem execLcTransition (hs : Stays s₀ s) : Continues s₀ (execLcTransition c s) :=
  .next (hs.runCmd (fun _ _ k => k.lcTransitionBody))

theorem lcStatusBody (hs : Stays s₀ s) : Stays s₀ (lcStatusBody c s) := .ite hs.same.ok hs.ok

theorem execLcStatus (hs : Stays s₀ s) : Continues s₀ (execLcStatus c s) :=
  .next (hs.runCmd (fun _ _ k => k.lcStatusBody))

theorem nvWearReadBody (hs : Stays s₀ s) : Stays s₀ (nvWearReadBody c s) := .ite hs.fail hs.ok

theorem execNvWearRead (hs : Stays s₀ s) : Continues s₀ (execNvWearRead c s) :=
  .next (hs.runCmd (fun _ _ k => k.nvWearReadBody))

theorem secAttestReportOp (hs : Stays s₀ s) : Stays s₀ (secAttestReportOp c s) := .ite hs.fail hs.ok

theorem secAttestCertificateOp (hs : Stays s₀ s) : Stays s₀ (secAttestCertificateOp c s) := .ite hs.fail hs.ok

theorem secAttestRun (hs : Stays s₀ s) : Stays s₀ (secAttestRun c s) :=
  .ite hs.secAttestReportOp (hs.onlyWhen (fun _ _ k => k.secAttestCertificateOp))

theorem secAttestBody (hs : Stays s₀ s) : Stays s₀ (secAttestBody a s) :=
  hs.withSecurity (fun _ _ k => k.secAttestRun)

theorem execSecAttestReport (hs : Stays s₀ s) : Continues s₀ (execSecAttestReport c s) :=
  .next (hs.runCmd (fun _ _ k => k.withSecurity (fun _ _ k' => k'.onlyWhen (fun _ _ k'' => k''.secAttestReportOp))))

theorem execSecAttestCertificate (hs : Stays s₀ s) : Continues s₀ (execSecAttestCertificate c s) :=
  .next (hs.runCmd (fun _ _ k =>
    k.withSecurity (fun _ _ k' => k'.onlyWhen (fun _ _ k'' => k''.secAttestCertificateOp))))

theorem releaseSecurity (hs : Stays s₀ s) : Stays s₀ (releaseSecurity s) :=
  hs.same.foldl (fun _ _ k => .ite k.lcTransitionBody k.secAttestBody)

theorem execPortSelftestDone {p : FabPort} {pass : Bool} (hs : Stays s₀ s) :
    Continues s₀ (execPortSelftestDone p pass s) :=
  .next (.ite (.ite hs.selftestEnd.releaseSecurity hs.selftestEnd) hs)

end

section

/-! `Stays` through the functions of `Sys2Proof/Machine/System.lean`. -/

variable {c a : Cmd}

theorem sysNopBody (hs : Stays s₀ s) : Stays s₀ (sysNopBody c s) := hs.ok

theorem execSysNop (hs : Stays s₀ s) : Continues s₀ (execSysNop c s) := .next (hs.runCmd (fun _ _ k => k.sysNopBody))

theorem sysInfoBody (hs : Stays s₀ s) : Stays s₀ (sysInfoBody c s) := hs.ok

theorem execSysInfo (hs : Stays s₀ s) : Continues s₀ (execSysInfo c s) :=
  .next (hs.runCmd (fun _ _ k => k.sysInfoBody))

theorem sysTimeGetBody (hs : Stays s₀ s) : Stays s₀ (sysTimeGetBody c s) := hs.ok

theorem execSysTimeGet (hs : Stays s₀ s) : Continues s₀ (execSysTimeGet c s) :=
  .next (hs.runCmd (fun _ _ k => k.sysTimeGetBody))

theorem sysEventMaskBody (hs : Stays s₀ s) : Stays s₀ (sysEventMaskBody c s) := by
  unfold Machine.sysEventMaskBody
  split
  · exact hs.fail
  · exact .ok (.ite hs hs.same)

theorem execSysEventMask (hs : Stays s₀ s) : Continues s₀ (execSysEventMask c s) :=
  .next (hs.runCmd (fun _ _ k => k.sysEventMaskBody))

theorem sysReset {cold : Bool} (hs : Stays s₀ s) : Stays s₀ (sysReset cold c s) := .ite hs.fail hs.restart

theorem sysResetWarmOp (hs : Stays s₀ s) : Stays s₀ (sysResetWarmOp c s) := hs.sysReset

theorem sysResetColdOp (hs : Stays s₀ s) : Stays s₀ (sysResetColdOp c s) := hs.sysReset

theorem sysResetBody (hs : Stays s₀ s) : Stays s₀ (sysResetBody c s) :=
  .ite hs.sysResetWarmOp (hs.onlyWhen (fun _ _ k => k.sysResetColdOp))

theorem execSysResetWarm (hs : Stays s₀ s) : Continues s₀ (execSysResetWarm c s) :=
  .next (hs.runCmd (fun _ _ k => k.onlyWhen (fun _ _ k' => k'.sysResetWarmOp)))

theorem execSysResetCold (hs : Stays s₀ s) : Continues s₀ (execSysResetCold c s) :=
  .next (hs.runCmd (fun _ _ k => k.onlyWhen (fun _ _ k' => k'.sysResetColdOp)))

theorem sysBehaviourPinBody (hs : Stays s₀ s) : Stays s₀ (sysBehaviourPinBody c s) :=
  .ite hs.ok (.ite hs.fail (.ite hs.fail hs.storeWord.ok))

theorem execSysBehaviourPin (hs : Stays s₀ s) : Continues s₀ (execSysBehaviourPin c s) :=
  .next (hs.runCmd (fun _ _ k => k.sysBehaviourPinBody))

theorem updFw {f : Firmware → Firmware} (hs : Stays s₀ s) : Stays s₀ (updFw f s) := hs.same

theorem updSlot {n : Fin 2} {f : Slot → Slot} (hs : Stays s₀ s) : Stays s₀ (updSlot n f s) := hs.same

theorem stageOp {f : Cmd → State → State} (hs : Stays s₀ s) (hf : ∀ x u, Stays s₀ u → Stays s₀ (f x u)) :
    Stays s₀ (stageOp f c s) := .ite hs.fail (.ite hs.fail (.ite hs.fail (hf _ _ hs)))

theorem stageBeginOp (hs : Stays s₀ s) : Stays s₀ (stageBeginOp a s) :=
  hs.stageOp (fun _ _ k => .ite k.fail (k.startPending (fun _ k' => k'.finish.updFw.updSlot)))

theorem stageDataOp (hs : Stays s₀ s) : Stays s₀ (stageDataOp a s) :=
  hs.stageOp (fun _ _ k => .ite k.fail (.ite k.fail k.same.ok))

theorem stageFinishOp (hs : Stays s₀ s) : Stays s₀ (stageFinishOp c s) :=
  hs.stageOp (fun _ _ k => .ite k.fail (.ite k.respond (k.startPending (fun _ k' => k'))))

theorem stageStatusOp (hs : Stays s₀ s) : Stays s₀ (stageStatusOp c s) := .ite hs.fail (.ite hs.fail hs.ok)

theorem stageBody (hs : Stays s₀ s) : Stays s₀ (stageBody c s) :=
  .ite hs.stageBeginOp (.ite hs.stageDataOp (.ite hs.stageFinishOp (hs.onlyWhen (fun _ _ k => k.stageStatusOp))))

theorem execSysFwStageBegin (hs : Stays s₀ s) : Continues s₀ (execSysFwStageBegin c s) :=
  .next (hs.runCmd (fun _ _ k => k.onlyWhen (fun _ _ k' => k'.stageBeginOp)))

theorem execSysFwStageData (hs : Stays s₀ s) : Continues s₀ (execSysFwStageData c s) :=
  .next (hs.runCmd (fun _ _ k => k.onlyWhen (fun _ _ k' => k'.stageDataOp)))

theorem execSysFwStageFinish (hs : Stays s₀ s) : Continues s₀ (execSysFwStageFinish c s) :=
  .next (hs.runCmd (fun _ _ k => k.onlyWhen (fun _ _ k' => k'.stageFinishOp)))

theorem execSysFwStageStatus (hs : Stays s₀ s) : Continues s₀ (execSysFwStageStatus c s) :=
  .next (hs.runCmd (fun _ _ k => k.onlyWhen (fun _ _ k' => k'.stageStatusOp)))

theorem execFwSlotEraseDone (hs : Stays s₀ s) : Continues s₀ (execFwSlotEraseDone s) := .next (.ite hs.finish hs)

theorem execFwStageCheckDone (hs : Stays s₀ s) : Continues s₀ (execFwStageCheckDone s) := by
  unfold Machine.execFwStageCheckDone
  refine .next (.ite hs ?_)
  dsimp only
  split <;> exact hs.same.finish

theorem activateBody (hs : Stays s₀ s) : Stays s₀ (activateBody c s) :=
  .ite hs.fail (.ite hs.fail (hs.startPending (fun _ k => k)))

theorem execSysFwActivate (hs : Stays s₀ s) : Continues s₀ (execSysFwActivate c s) :=
  .next (hs.runCmd (fun _ _ k => k.activateBody))

theorem execFwActivateWaitTimeout (hs : Stays s₀ s) : Continues s₀ (execFwActivateWaitTimeout s) :=
  .next (.ite hs.finish hs)

theorem execFwActivationStart (hs : Stays s₀ s) : Continues s₀ (execFwActivationStart s) := .next (.ite hs.same hs)

theorem formerSlot (hs : Stays s₀ s) : Stays s₀ (formerSlot s).2 := hs.same

theorem execFwActivationDone (hs : Stays s₀ s) : Continues s₀ (execFwActivationDone s) := by
  unfold Machine.execFwActivationDone
  refine .next (.ite hs ?_)
  split
  · exact hs
  · dsimp only
    exact hs.formerSlot.updSlot.updSlot.updFw.setIdentReadyActivating.finish

theorem execFwActivationFail (hs : Stays s₀ s) : Continues s₀ (execFwActivationFail s) :=
  .next (.ite hs hs.same.finish)

theorem setProfile {p : Profile} (hs : Stays s₀ s) : Stays s₀ (setProfile p c s) :=
  .ite (.ok (.ite hs hs.enterProfile)) (.ite hs.fail (.ite hs.fail (hs.startPending (fun _ k => k.same))))

theorem sysProfileSetBody (hs : Stays s₀ s) : Stays s₀ (sysProfileSetBody c s) := by
  unfold Machine.sysProfileSetBody
  refine .ite hs.ok ?_
  split
  · exact hs.fail
  · exact .ite hs.fail (.ite hs.fail (.ite hs.holdRequest hs.setProfile))

theorem execSysProfileSet (hs : Stays s₀ s) : Continues s₀ (execSysProfileSet c s) :=
  .next (hs.runCmd (fun _ _ k => k.sysProfileSetBody))

theorem rerun {x : HeldCmd} (hs : Stays s₀ s) : Stays s₀ (rerun s x) :=
  .setPend (.iteApply hs.dispModeSetBody (.iteApply hs.tunOpenBody (.iteApply hs.tunShapeBody
    (.iteApply hs.tunPoliceBody (.iteApply hs.linkAllotBody (.iteApply hs.netPortCfgBody hs.sysProfileSetBody))))))

theorem rerunHeld (hs : Stays s₀ s) : Stays s₀ (rerunHeld s) := hs.same.foldl (fun _ _ k => k.rerun)

theorem completeChange {c : PlChange} (hs : Stays s₀ s) : Stays s₀ (completeChange c s) := by
  unfold Machine.completeChange
  dsimp only
  split
  · exact hs.same.enterProfile.finish.rerunHeld
  · exact hs.same.rerunHeld
  · exact hs.same.rerunHeld
  · exact hs.same.rerunHeld
  · exact hs.same

theorem execPlChangeConfirmed (hs : Stays s₀ s) : Continues s₀ (execPlChangeConfirmed s) := by
  unfold Machine.execPlChangeConfirmed
  refine .next (.ite ?_ hs)
  split
  · exact hs
  · exact hs.completeChange

theorem failRequests {cause : PlCause} (hs : Stays s₀ s) : Stays s₀ (failRequests cause s) := by
  unfold Machine.failRequests
  split
  · exact hs.finish.rerunHeld
  · split
    · exact hs
    · exact hs.same.setPend.fail.rerunHeld
  · exact hs
  · exact hs.rerunHeld
  · exact hs

theorem failChange {c : PlChange} (hs : Stays s₀ s) : Stays s₀ (failChange c s) := by
  unfold Machine.failChange
  split
  · exact hs.logFault
  · exact hs.same
  · exact .failRequests (.ite hs.logFault.startChange hs.logFault.updPerf.emit)

theorem execPlChangeTimeout (hs : Stays s₀ s) : Continues s₀ (execPlChangeTimeout s) := by
  unfold Machine.execPlChangeTimeout
  refine .next (.ite ?_ hs)
  split
  · exact hs
  · exact hs.failChange

theorem execPlAutoLower (hs : Stays s₀ s) : Continues s₀ (execPlAutoLower s) := hs.runCore (fun _ k => .ite k.same k)

theorem loseFab (hs : Stays s₀ s) : Stays s₀ (loseFab s) := by
  unfold Machine.loseFab
  dsimp only
  split
  · exact hs.logFault.updPerf
  · exact .failRequests (.updPerf (.ite hs.logFault.updPerf hs.logFault.updPerf.logFault))

theorem loseVbus {u : Up} (hs : Stays s₀ s) : Stays s₀ (loseVbus u s) := hs.logFault.updPd.cutVbus.dropUplink.updLink

theorem execPmbusTransactionTimeout {cv : Converter} (hs : Stays s₀ s) :
    Continues s₀ (execPmbusTransactionTimeout cv s) := by
  unfold Machine.execPmbusTransactionTimeout
  refine .next (.ite hs (.ite hs.same ?_))
  split
  · exact .ite hs.same.loseFab hs.same
  · exact .ite hs.same.loseVbus hs.same

end

section

/-! `Stays` through the functions of `Sys2Proof/Machine/Telemetry.lean`. -/

variable {c : Cmd}

theorem updTel {f : Telemetry → Telemetry} (hs : Stays s₀ s) : Stays s₀ (updTel f s) := hs.same

theorem thermalEvent {code : Nat} (hs : Stays s₀ s) : Stays s₀ (thermalEvent code s) := hs.raise

theorem criticalTemp (hs : Stays s₀ s) : Stays s₀ (criticalTemp s) := hs.thermalEvent.logFault.enterSafe

theorem thermalCross (hs : Stays s₀ s) : Stays s₀ (thermalCross s) :=
  .ite
    (.thermalEvent (.ite
      (.thermalEvent (.ite
        (.criticalTemp (.ite (.thermalEvent (.ite hs.same.thermalEvent hs.same)) (.ite hs.same.thermalEvent hs.same)))
        (.ite (.thermalEvent (.ite hs.same.thermalEvent hs.same)) (.ite hs.same.thermalEvent hs.same))))
      (.ite
        (.criticalTemp (.ite (.thermalEvent (.ite hs.same.thermalEvent hs.same)) (.ite hs.same.thermalEvent hs.same)))
        (.ite (.thermalEvent (.ite hs.same.thermalEvent hs.same)) (.ite hs.same.thermalEvent hs.same)))))
    (.ite
      (.thermalEvent (.ite
        (.criticalTemp (.ite (.thermalEvent (.ite hs.same.thermalEvent hs.same)) (.ite hs.same.thermalEvent hs.same)))
        (.ite (.thermalEvent (.ite hs.same.thermalEvent hs.same)) (.ite hs.same.thermalEvent hs.same))))
      (.ite
        (.criticalTemp (.ite (.thermalEvent (.ite hs.same.thermalEvent hs.same)) (.ite hs.same.thermalEvent hs.same)))
        (.ite (.thermalEvent (.ite hs.same.thermalEvent hs.same)) (.ite hs.same.thermalEvent hs.same))))

theorem execThermalSample {t : Vector (BitVec 16) 4} (hs : Stays s₀ s) : Continues s₀ (execThermalSample t s) :=
  .next (.ite hs hs.same.thermalCross)

theorem execTelemetrySample {q : Vector Word 16} (hs : Stays s₀ s) : Continues s₀ (execTelemetrySample q s) :=
  .next (.ite hs hs.same)

theorem telSampleCfgBody (hs : Stays s₀ s) : Stays s₀ (telSampleCfgBody c s) := .ite hs.ok (.ite hs.fail hs.same.ok)

theorem execTelSampleCfg (hs : Stays s₀ s) : Continues s₀ (execTelSampleCfg c s) :=
  .next (hs.runCmd (fun _ _ k => k.telSampleCfgBody))

theorem freeWords {n : Nat} (hs : Stays s₀ s) : Stays s₀ (freeWords n s).2 := by
  induction n generalizing s with
  | zero => exact hs
  | succ n ih => exact ih (hs.takeFree (w := 32))

theorem telReadOp (hs : Stays s₀ s) : Stays s₀ (telReadOp c s) := hs.ok

theorem telReadExtremesOp (hs : Stays s₀ s) : Stays s₀ (telReadExtremesOp c s) := by
  unfold Machine.telReadExtremesOp
  dsimp only
  exact .ok (.updTel (.iteSnd hs hs.freeWords))

theorem telReadBody (hs : Stays s₀ s) : Stays s₀ (telReadBody c s) :=
  .ite hs.telReadOp (hs.onlyWhen (fun _ _ k => k.telReadExtremesOp))

theorem execTelRead (hs : Stays s₀ s) : Continues s₀ (execTelRead c s) :=
  .next (hs.runCmd (fun _ _ k => k.onlyWhen (fun _ _ k' => k'.telReadOp)))

theorem execTelReadExtremes (hs : Stays s₀ s) : Continues s₀ (execTelReadExtremes c s) :=
  .next (hs.runCmd (fun _ _ k => k.onlyWhen (fun _ _ k' => k'.telReadExtremesOp)))

theorem telThermalBody (hs : Stays s₀ s) : Stays s₀ (telThermalBody c s) := .ite hs.ok (.ite hs.fail hs.same.ok)

theorem execTelThermal (hs : Stays s₀ s) : Continues s₀ (execTelThermal c s) :=
  .next (hs.runCmd (fun _ _ k => k.telThermalBody))

end

section

/-! `Stays` through the functions of `Sys2Proof/Machine/Karxo.lean`. -/

variable {m : MbNo} {id : Nat}

/-- Every command of a set carries `Stays` on. -/
def SetStays (l : CmdTable) : Prop := ∀ e ∈ l, ∀ {c : Cmd} {s₀ s : State}, Stays s₀ s → Stays s₀ (e.2 c s)

theorem systemSet : SetStays systemSet := by
  simp only [SetStays, Machine.systemSet, List.forall_mem_cons]
  exact ⟨(·.sysNopBody), (·.sysInfoBody), (·.sysProfileSetBody), (·.sysResetBody), (·.sysBehaviourPinBody),
    (·.sysTimeGetBody), (·.stageBody), (·.activateBody), (·.sysEventMaskBody), List.forall_mem_nil _⟩

theorem linkSet : SetStays linkSet := by
  simp only [SetStays, Machine.linkSet, List.forall_mem_cons]
  exact ⟨(·.linkStatusBody), (·.linkAllotBody), (·.linkRetrainBody), (·.linkEqBody), (·.linkSleepBody),
    (·.linkSpareBody), (·.linkCountersBody), List.forall_mem_nil _⟩

theorem tunnelSet : SetStays tunnelSet := by
  simp only [SetStays, Machine.tunnelSet, List.forall_mem_cons]
  exact ⟨(·.tunOpenBody), (·.tunCloseBody), (·.tunShapeBody), (·.tunPoliceBody), (·.tunQueryBody),
    (·.classSetBody), (·.schedSampleBody), List.forall_mem_nil _⟩

theorem displaySet : SetStays displaySet := by
  simp only [SetStays, Machine.displaySet, List.forall_mem_cons]
  exact ⟨(·.dispModeSetBody), (·.dispRegionAllocBody), (·.dispRegionReleaseBody), (·.dispLayerBindBody),
    (·.dispCrcRegionBody), (·.dispHoldPolicyBody), (·.dispOutputStatusBody), (·.dispHoldScreenBody),
    List.forall_mem_nil _⟩

theorem portSet : SetStays portSet := by
  simp only [SetStays, Machine.portSet, List.forall_mem_cons]
  exact ⟨(·.pciePortCfgBody), (·.pcieWindowSetBody), (·.pcieErrlogReadBody), (·.pcieHotplugBody),
    (·.pcieLockStatusBody), (·.usbPortCfgBody), (·.usbEpCarveBody), (·.usbPortStatusBody), (·.usbChargeCfgBody),
    List.forall_mem_nil _⟩

theorem networkSet : SetStays networkSet := by
  simp only [SetStays, Machine.networkSet, List.forall_mem_cons]
  exact ⟨(·.netPortCfgBody), (·.netVlanSetBody), (·.netMarkCfgBody), (·.netOverflowCfgBody), (·.netReseqCfgBody),
    (·.netCountersBody), (·.canPortCfgBody), (·.canMapBody), (·.canSignalReadBody), (·.canSignalWriteBody),
    (·.canRouteBody), List.forall_mem_nil _⟩

theorem chipSet : SetStays chipSet := by
  simp only [SetStays, Machine.chipSet, List.forall_mem_cons]
  exact ⟨(·.pairJoinBody), (·.pairLeaveBody), (·.pairStatusBody), (·.pairHandoverBody), (·.pairCompareBody),
    (·.pwrFeedCfgBody), (·.pwrHotswapCfgBody), (·.pwrEfuseCfgBody), (·.pwrStatusBody), (·.pwrPdPolicyBody),
    (·.pwrFaultClearBody), (·.pmIslandSetBody), (·.pmStopBody), (·.pmWakeCfgBody), (·.pmStatusBody),
    List.forall_mem_nil _⟩

theorem integritySet : SetStays integritySet := by
  simp only [SetStays, Machine.integritySet, List.forall_mem_cons]
  exact ⟨(·.fltStatusBody), (·.fltLogReadBody), (·.fltInjectBody), (·.crcChannelBody), (·.scrubCfgBody),
    (·.repairStatusBody), (·.secBlockWorldBody), (·.secRegionWorldBody), (·.lcTransitionBody), (·.lcStatusBody),
    (·.nvWearReadBody), (·.secAttestBody), (·.telSampleCfgBody), (·.telReadBody), (·.telThermalBody),
    List.forall_mem_nil _⟩

theorem karxoSet : SetStays karxoSet := by
  simp only [SetStays, Machine.karxoSet, List.forall_mem_append]
  exact ⟨⟨⟨⟨⟨⟨⟨systemSet, linkSet⟩, tunnelSet⟩, displaySet⟩, portSet⟩, networkSet⟩, chipSet⟩, integritySet⟩

theorem runOpcode {op : Half} {length : Nat} (hs : Stays s₀ s) : Stays s₀ (runOpcode op length c s) := by
  unfold Machine.runOpcode
  split
  · exact hs.fail
  next e he => exact .ite hs.fail (hs.runCmd (fun _ _ k => karxoSet e (List.mem_of_find?_eq_some he) k))

theorem takeRing (hs : Stays s₀ s) : Stays s₀ (takeRing m s) := .ite hs.same.fail hs.same.runOpcode

theorem takePartner (hs : Stays s₀ s) : Stays s₀ (takePartner s) := by
  unfold Machine.takePartner
  split
  · exact hs
  · exact hs.same.runOpcode

theorem serve (hs : Stays s₀ s) : Stays s₀ (serve m s) := .ite hs.same.takePartner hs.same.takeRing

theorem execKarxoTakeCommand (hs : Stays s₀ s) : Continues s₀ (execKarxoTakeCommand s) := by
  unfold Machine.execKarxoTakeCommand
  refine .next (.ite ?_ hs)
  split
  · exact hs.serve
  · exact hs

theorem execForwardedCommand {req : Requester} {w0 w1 w2 w3 : Word} {payload : List Byte} (hs : Stays s₀ s) :
    Continues s₀ (execForwardedCommand req id w0 w1 w2 w3 payload s) :=
  hs.runCore (fun _ k => .ite k (.ite k.fail k.same))

theorem mirrorCommand {op : Half} {c : Cmd} {dayStatus : Half} (hs : Stays s₀ s) :
    Stays s₀ (mirrorCommand id op c dayStatus s) :=
  .ite hs.same.runOpcode.emit hs.same.runOpcode.emit.pairFault.nightFails

theorem execMirrorStateForward {ch : MirrorChange} (hs : Stays s₀ s) : Continues s₀ (execMirrorStateForward ch s) :=
    by
  unfold Machine.execMirrorStateForward
  refine hs.runCore (fun _ k => ?_)
  refine .ite k ?_
  split
  · exact k.mirrorCommand.persistPair
  · exact k.applyMirrorSet
  · exact k.lockTiming
  · exact k.installCopy

theorem startEvents (hs : Stays s₀ s) : Stays s₀ (startEvents s) :=
  .ite (.raise (.updPm (.ite hs.same.raise hs))) (.ite hs.same.raise hs)

theorem execKarxoReady (hs : Stays s₀ s) : Continues s₀ (execKarxoReady s) :=
  .next (.ite hs.same.updateInt.startEvents.wakeEvent.settleUplinks hs)

end

section

/-! `Stays` through the functions of `Sys2Proof/Machine/Reset.lean`. -/

variable {lowNs : Nat}

theorem holdReset (hs : Stays s₀ s) : Stays s₀ (holdReset s) := hs.same.setClockReadyEv

theorem pulseResets (hs : Stays s₀ s) : Stays s₀ (pulseResets lowNs s).2 := .iteSnd hs (.iteSnd hs hs.same)

theorem execResetPin (hs : Stays s₀ s) : Continues s₀ (execResetPin lowNs s) :=
  .next (.ite (.ite hs.pulseResets.holdReset hs.pulseResets) hs)

theorem execResetRelease (hs : Stays s₀ s) : Continues s₀ (execResetRelease s) := .next (.ite hs.restart hs)

theorem execRailUndervoltage {r : Rail} (hs : Stays s₀ s) : Continues s₀ (execRailUndervoltage r s) :=
  .next (.ite hs.same.setClock.holdReset hs)

theorem execPowerLoss (hs : Stays s₀ s) : Continues s₀ (execPowerLoss s) :=
  .next (.ite hs.same.setClockFltLinksUsbPower hs)

end

section

/-! `Stays` through the functions of `Sys2Proof/Machine/Window.lean`. -/

variable {req : Requester} {m : MbNo} {v : Word} {hi cut : Bool} {off : BitVec 24} {h : HostNo}
variable {b data raw : List Byte} {u : Up} {words : List Word} {count id : Nat} {writes : Option (List Word)}

theorem execMbCmdPiWrite (hs : Stays s₀ s) : Continues s₀ (execMbCmdPiWrite req m v s) := .next hs.accessWrite

theorem execMbRspCiWrite (hs : Stays s₀ s) : Continues s₀ (execMbRspCiWrite req m v s) := .next hs.accessWrite

theorem execMbEvtCiWrite (hs : Stays s₀ s) : Continues s₀ (execMbEvtCiWrite req m v s) := .next hs.accessWrite

theorem execMbCtrlLostClr (hs : Stays s₀ s) : Continues s₀ (execMbCtrlLostClr req m v s) := .next hs.accessWrite

theorem execEvtPendClear (hs : Stays s₀ s) : Continues s₀ (execEvtPendClear req hi v s) := .next hs.accessWrite

theorem execIntEnWrite (hs : Stays s₀ s) : Continues s₀ (execIntEnWrite req hi v s) := .next hs.accessWrite

theorem execDispCommitWrite {o : OutNo} (hs : Stays s₀ s) : Continues s₀ (execDispCommitWrite req o v s) :=
  .next hs.accessWrite

theorem execPbWordWrite {w : Fin 1024} (hs : Stays s₀ s) : Continues s₀ (execPbWordWrite req w v s) :=
  .next hs.accessWrite

theorem execRegisterWrite {off : BitVec 18} (hs : Stays s₀ s) : Continues s₀ (execRegisterWrite req off v s) :=
  .next hs.accessWrite

theorem sendMgmt (hs : Stays s₀ s) : Stays s₀ (sendMgmt h b s) := hs.sendZero

theorem mgBad (hs : Stays s₀ s) : Stays s₀ (mgBad h b s) := hs.sendMgmt

theorem runMgmt (hs : Stays s₀ s) : Stays s₀ (runMgmt u b s) :=
  .ite hs.mgBad (.ite hs.same (.ite hs.windowReads.sendMgmt hs.windowWrites.sendMgmt))

theorem takeMgmt {named : Nat → Bool} (hs : Stays s₀ s) : Stays s₀ (takeMgmt u named s) := by
  unfold Machine.takeMgmt
  refine .ite hs ?_
  split
  · exact hs
  next hm => exact .ite hs (.ite (hs.takeMessage hm) (hs.takeMessage hm).runMgmt)

theorem execReadReq (hs : Stays s₀ s) : Continues s₀ (execReadReq u s) := .next hs.takeMgmt

theorem execWriteReq (hs : Stays s₀ s) : Continues s₀ (execWriteReq u s) := .next hs.takeMgmt

theorem execMgmtOtherType (hs : Stays s₀ s) : Continues s₀ (execMgmtOtherType u s) := .next hs.takeMgmt

theorem execTunIntHoldoffExpiry (hs : Stays s₀ s) : Continues s₀ (execTunIntHoldoffExpiry u s) :=
  .next (.ite hs.same.sendInterrupt hs.same)

theorem execEp0VendorRead {wValue wIndex wLength : BitVec 16} (hs : Stays s₀ s) :
    Continues s₀ (execEp0VendorRead wValue wIndex wLength s) := by
  unfold Machine.execEp0VendorRead
  split
  · exact .next hs
  · exact .next (.answerEp0 hs.vendorRead)

theorem execEp0VendorWrite {wValue wIndex wLength : BitVec 16} (hs : Stays s₀ s) :
    Continues s₀ (execEp0VendorWrite wValue wIndex wLength data s) := by
  unfold Machine.execEp0VendorWrite
  split
  · exact .next hs
  · exact .next (.answerEp0 hs.vendorWrite)

theorem slotImages (hs : Stays s₀ s) : Stays s₀ (slotImages u data s) := .ite hs.takeImages hs.takeImages.egress

theorem execEp1OutTransfer (hs : Stays s₀ s) : Continues s₀ (execEp1OutTransfer data s) := by
  unfold Machine.execEp1OutTransfer
  split
  · exact .next hs
  · exact .next (.ite hs (.ite hs.egress hs.slotImages))

theorem execEp1InAcknowledged (hs : Stays s₀ s) : Continues s₀ (execEp1InAcknowledged s) := by
  unfold Machine.execEp1InAcknowledged
  split
  · exact .next hs
  · exact .ite (.next hs.egress.updMb.postWaiting) (.next hs.egress)

theorem execEp2InAcknowledged (hs : Stays s₀ s) : Continues s₀ (execEp2InAcknowledged s) := by
  unfold Machine.execEp2InAcknowledged
  split
  · exact .next hs
  · exact .ite (.next hs.egress.updMb) (.next hs.egress)

theorem spiDrainAll (hs : Stays s₀ s) : Stays s₀ (spiDrainAll s) := hs.spiDrain

theorem spiWord {off : Nat} {w : Word} (hs : Stays s₀ s) : Stays s₀ (spiWord off w s) :=
  .ite hs.same.spiDrain.setSpi hs.same.spiDrain.setSpi

theorem spiWords {off : Nat} {l : List Word} (hs : Stays s₀ s) : Stays s₀ (spiWords off l s) := by
  induction l generalizing s off with
  | nil => exact hs
  | cons w l ih => exact ih hs.spiWord

theorem spiWrite (hs : Stays s₀ s) : Stays s₀ (spiWrite off words cut s) := .ite hs.same hs.spiWords.setSpi

theorem execSpiWrite (hs : Stays s₀ s) : Continues s₀ (execSpiWrite off words cut s) := .next (.ite hs hs.spiWrite)

theorem spiReads {off n : Nat} (hs : Stays s₀ s) : Stays s₀ (spiReads off n s).2 := by
  induction n generalizing s off with
  | zero => exact hs
  | succ n ih => exact ih (.iteSnd hs.setSpi.windowRead hs)

theorem spiRead {n : Nat} (hs : Stays s₀ s) : Stays s₀ (spiRead off n s) := .ite hs.same hs.spiDrainAll.spiReads.emit

theorem execSpiRead (hs : Stays s₀ s) : Continues s₀ (execSpiRead off count s) := .next (.ite hs hs.spiRead)

theorem execSpiStatus (hs : Stays s₀ s) : Continues s₀ (execSpiStatus s) := .next (.ite hs hs.same)

theorem spiTransaction (hs : Stays s₀ s) : Stays s₀ (spiTransaction raw s) := by
  unfold Machine.spiTransaction
  split
  · exact hs
  · exact .ite hs.same (.ite (.ite hs.same hs.spiWrite) (.ite (.ite hs.same hs.spiRead) hs.same))

theorem execSpiBadTransaction (hs : Stays s₀ s) : Continues s₀ (execSpiBadTransaction raw s) :=
  .next (.ite hs hs.spiTransaction)

theorem execSpiWriteBufferDrained (hs : Stays s₀ s) : Continues s₀ (execSpiWriteBufferDrained s) :=
  .next (.ite hs hs.spiDrainAll)

theorem execIntHoldoffExpiry (hs : Stays s₀ s) : Continues s₀ (execIntHoldoffExpiry s) := .next hs.same.updateInt

theorem execUpstreamBusReset {partialTransfer : Bool} (hs : Stays s₀ s) :
    Continues s₀ (execUpstreamBusReset partialTransfer s) := .ite (.next hs.same.resetUsbPorts.resetMgmt) (.next hs)

theorem forwardedReads {r : Requester} {off n : Nat} (hs : Stays s₀ s) : Stays s₀ (forwardedReads r off n s).2 := by
  induction n generalizing s off with
  | zero => exact hs
  | succ n ih => exact ih (.between (.iteSnd hs.windowRead hs.refuseAccess))

theorem forwardedWrites {r : Requester} {off : Nat} {l : List Word} (hs : Stays s₀ s) :
    Stays s₀ (forwardedWrites r off l s) := by
  induction l generalizing s off with
  | nil => exact hs
  | cons w l ih => exact ih (.between (.ite hs.windowWrite hs.refuseAccess))

theorem partnerAccess {off : BitVec 18} (hs : Stays s₀ s) : Stays s₀ (partnerAccess id off count writes s) := by
  unfold Machine.partnerAccess
  refine .ite hs.same ?_
  split
  · exact hs.windowWrites.emit
  · exact hs.windowReads.emit

theorem execForwardedWindowAccess {off : BitVec 18} (hs : Stays s₀ s) :
    Continues s₀ (execForwardedWindowAccess req id off count writes s) := by
  unfold Machine.execForwardedWindowAccess
  refine .ite (.next (.ite hs hs.partnerAccess)) (.ite (.next hs) ?_)
  split
  · exact .next hs.forwardedWrites.emit
  · exact .next hs.forwardedReads.emit

end

section

/-! `Stays` through the functions of `Sys2Proof/Machine/Dispatch.lean`. -/

theorem exec {i : Instr} (hs : Stays s₀ s) : Continues s₀ (exec i s) := by
  unfold Machine.exec
  split
  · exact hs.execSysNop
  · exact hs.execSysInfo
  · exact hs.execSysProfileSet
  · exact hs.execSysResetWarm
  · exact hs.execSysResetCold
  · exact hs.execSysBehaviourPin
  · exact hs.execSysTimeGet
  · exact hs.execSysFwStageBegin
  · exact hs.execFwSlotEraseDone
  · exact hs.execSysFwStageData
  · exact hs.execSysFwStageFinish
  · exact hs.execFwStageCheckDone
  · exact hs.execSysFwStageStatus
  · exact hs.execSysFwActivate
  · exact hs.execFwActivateWaitTimeout
  · exact hs.execFwActivationStart
  · exact hs.execFwActivationDone
  · exact hs.execFwActivationFail
  · exact hs.execSysEventMask
  · exact hs.execLinkStatus
  · exact hs.execLinkAllot
  · exact hs.execAllotAckReceived
  · exact hs.execAllotAckTimeout
  · exact hs.execTurnBlockLock
  · exact hs.execTurnBlockLockTimeout
  · exact hs.execTurnFirstFrame
  · exact hs.execLinkRetrainRetrain
  · exact hs.execLinkRetrainFull
  · exact hs.execLinkRetrainLanes
  · exact hs.execLinkEqReport
  · exact hs.execLinkEqReportStored
  · exact hs.execLinkSleepPolicy
  · exact hs.execLinkLaneSpare
  · exact hs.execLinkCountersRead
  · exact hs.execLinkCountersClear
  · exact hs.execLinkCountersThreshold
  · exact hs.execTunOpen
  · exact hs.execTunClose
  · exact hs.execTunCloseDrained
  · exact hs.execTunCloseTimeout
  · exact hs.execTunShape
  · exact hs.execTunPolice
  · exact hs.execTunQuery
  · exact hs.execTunQueryClear
  · exact hs.execClassSet
  · exact hs.execSchedSampleStart
  · exact hs.execSchedSampleStop
  · exact hs.execSchedSampleRelease
  · exact hs.execDispModeSet
  · exact hs.execDispPllLocked
  · exact hs.execDispRegionAllocAllocate
  · exact hs.execDispRegionAllocAdopt
  · exact hs.execDispRegionAllocQuota
  · exact hs.execDispRegionRelease
  · exact hs.execDispLayerBindClaim
  · exact hs.execDispLayerBindShadow
  · exact hs.execDispLayerBindRelease
  · exact hs.execDispCrcRegionWrite
  · exact hs.execDispCrcRegionCommit
  · exact hs.execDispCrcRegionGrant
  · exact hs.execDispCrcRegionRevoke
  · exact hs.execDispHoldPolicy
  · exact hs.execDispOutputStatusRead
  · exact hs.execDispOutputStatusEdid
  · exact hs.execDispOutputStatusClear
  · exact hs.execDispHoldScreenLoad
  · exact hs.execDispHoldScreenPlace
  · exact hs.execDispHoldScreenEnter
  · exact hs.execDispHoldScreenLeave
  · exact hs.execPciePortCfgSet
  · exact hs.execPciePortCfgSplit
  · exact hs.execPcieReassignPerstDone
  · exact hs.execPcieWindowSet
  · exact hs.execPcieErrlogRead
  · exact hs.execPcieErrlogReadEmpty
  · exact hs.execPcieHotplugRead
  · exact hs.execPcieHotplugRemove
  · exact hs.execPcieHotplugPowerOff
  · exact hs.execPcieHotplugPowerOn
  · exact hs.execPcieHotplugSlotNumber
  · exact hs.execPcieLockStatus
  · exact hs.execPcieLockForceRelease
  · exact hs.execUsbPortCfg
  · exact hs.execUsbEpCarve
  · exact hs.execUsbPortStatus
  · exact hs.execUsbPortStatusClear
  · exact hs.execUsbChargeCfg
  · exact hs.execNetPortCfg
  · exact hs.execNetVlanSetVlan
  · exact hs.execNetVlanAddStatic
  · exact hs.execNetVlanRemoveStatic
  · exact hs.execNetVlanFlush
  · exact hs.execNetVlanAging
  · exact hs.execNetVlanRead
  · exact hs.execNetMarkCfg
  · exact hs.execNetOverflowCfgPort
  · exact hs.execNetOverflowCfgShrink
  · exact hs.execOverflowShrinkDrained
  · exact hs.execOverflowShrinkTimeout
  · exact hs.execNetReseqCfg
  · exact hs.execNetCountersRead
  · exact hs.execNetCountersClear
  · exact hs.execNetCountersThreshold
  · exact hs.execCanPortCfg
  · exact hs.execCanMapBegin
  · exact hs.execCanMapFrames
  · exact hs.execCanMapSignals
  · exact hs.execCanMapCommit
  · exact hs.execCanMapStatus
  · exact hs.execCanSignalRead
  · exact hs.execCanSignalWrite
  · exact hs.execCanLegacyRouteClear
  · exact hs.execCanLegacyRouteLoad
  · exact hs.execCanLegacyRouteStore
  · exact hs.execCanLegacyRouteRead
  · exact hs.execPairJoin
  · exact hs.execPairJoinTimeout
  · exact hs.execPairJoinMatched
  · exact hs.execMirrorSyncDone
  · exact hs.execPairLeave
  · exact hs.execPairLeaveDone
  · exact hs.execPairStatus
  · exact hs.execPairStatusClear
  · exact hs.execPairHandoverPlanned
  · exact hs.execPairHandoverImmediate
  · exact hs.execPairCompareCfg
  · exact hs.execPwrFeedCfg
  · exact hs.execPwrHotswapCfg
  · exact hs.execPwrEfuseCfg
  · exact hs.execPwrStatus
  · exact hs.execPwrStatusClear
  · exact hs.execPwrPdPolicy
  · exact hs.execPwrFaultClear
  · exact hs.execPmIslandSet
  · exact hs.execPmStop
  · exact hs.execPmWakeCfg
  · exact hs.execPmStatus
  · exact hs.execPmStatusClear
  · exact hs.execFltStatus
  · exact hs.execFltStatusClear
  · exact hs.execFltStatusDisable
  · exact hs.execFltLogRead
  · exact hs.execFltInjectTransient
  · exact hs.execFltInjectPersistent
  · exact hs.execFltInjectClear
  · exact hs.execCrcChannelConfigure
  · exact hs.execCrcChannelAssign
  · exact hs.execCrcChannelRead
  · exact hs.execScrubCfg
  · exact hs.execRepairStatus
  · exact hs.execSecBlockWorld
  · exact hs.execSecRegionWorld
  · exact hs.execLcTransition
  · exact hs.execLcStatus
  · exact hs.execNvWearRead
  · exact hs.execSecAttestReport
  · exact hs.execSecAttestCertificate
  · exact hs.execTelSampleCfg
  · exact hs.execTelRead
  · exact hs.execTelReadExtremes
  · exact hs.execTelThermal
  · exact hs.execKarxoTakeCommand
  · exact hs.execMbCmdPiWrite
  · exact hs.execMbRspCiWrite
  · exact hs.execMbEvtCiWrite
  · exact hs.execMbCtrlLostClr
  · exact hs.execEvtPendClear
  · exact hs.execIntEnWrite
  · exact hs.execDispCommitWrite
  · exact hs.execPbWordWrite
  · exact hs.execRegisterWrite
  · exact hs.execReadReq
  · exact hs.execWriteReq
  · exact hs.execMgmtOtherType
  · exact hs.execTunIntHoldoffExpiry
  · exact hs.execEp0VendorRead
  · exact hs.execEp0VendorWrite
  · exact hs.execEp1OutTransfer
  · exact hs.execEp1InAcknowledged
  · exact hs.execEp2InAcknowledged
  · exact hs.execUpstreamBusReset
  · exact hs.execSpiWrite
  · exact hs.execSpiRead
  · exact hs.execSpiStatus
  · exact hs.execSpiBadTransaction
  · exact hs.execIntHoldoffExpiry
  · exact hs.execKarxoReady
  · exact hs.execVdmDiscoverIdentity
  · exact hs.execVdmDiscoverSvids
  · exact hs.execVdmDiscoverModes
  · exact hs.execEnterMode
  · exact hs.execExitMode
  · exact hs.execNoContractTimeout
  · exact hs.execNoEnterModeTimeout
  · exact hs.execExitModeWaitTimeout
  · exact hs.execBringupStateExit
  · exact hs.execBringupStateTimeout
  · exact hs.execBringupRetryWait
  · exact hs.execCapReceived
  · exact hs.execRetrainReceived
  · exact hs.execRetrainTimeout
  · exact hs.execLinkFrameReceive
  · exact hs.execNakReceived
  · exact hs.execReplayTimeout
  · exact hs.execLinkFrameSend
  · exact hs.execLaneLost
  · exact hs.execLaneDownReceived
  · exact hs.execSpareTurnTimeout
  · exact hs.execLaneRestoreAttempt
  · exact hs.execLaneRestored
  · exact hs.execLaneIdleTimeout
  · exact hs.execEiosReceived
  · exact hs.execLaneWake
  · exact hs.execWakeBurstReceived
  · exact hs.execWakePatternTimeout
  · exact hs.execTapSaturationTimeout
  · exact hs.execLinkCounterWindow
  · exact hs.execTunnelPacketReceive
  · exact hs.execSchedSelect
  · exact hs.execSchedRefill
  · exact hs.execCreditReturnTimeout
  · exact hs.execKeepaliveSendTimeout
  · exact hs.execTunnelSilentTimeout
  · exact hs.execCreditStallTimeout
  · exact hs.execPlChangeConfirmed
  · exact hs.execPlChangeTimeout
  · exact hs.execPlAutoLower
  · exact hs.execPmbusTransactionTimeout
  · exact hs.execPmbusAlert
  · exact hs.execPmbusStatusPoll
  · exact hs.execTileMessage
  · exact hs.execFlipMessage
  · exact hs.execVblankStart
  · exact hs.execCrcRegionFinal
  · exact hs.execScanoutUnderrun
  · exact hs.execDpHpdChange
  · exact hs.execDpLinkTrainingDone
  · exact hs.execDpLinkRetryTimeout
  · exact hs.execHoldTimeout
  · exact hs.execPcieTlpFromHost
  · exact hs.execPcieTlpFromDevice
  · exact hs.execPcieCompletionTimeout
  · exact hs.execPcieNpOverflowForward
  · exact hs.execPrefetchExpiry
  · exact hs.execPrefetchDataArrived
  · exact hs.execLockWaitTimeout
  · exact hs.execLockIdleTimeout
  · exact hs.execPcieSlotInputChange
  · exact hs.execPcieSlotPowerGood
  · exact hs.execPcieLinkStateChange
  · exact hs.execNvmeShutdownDone
  · exact hs.execUsbRequest
  · exact hs.execUsbHubRequest
  · exact hs.execUsbCancel
  · exact hs.execUsbMalformedMessage
  · exact hs.execUsbTransferDone
  · exact hs.execUsbMicroframeBoundary
  · exact hs.execUsbPortChange
  · exact hs.execUsbRemoteWake
  · exact hs.execUsbUpstreamSuspend
  · exact hs.execUsbLpmToken
  · exact hs.execUsbResumeDone
  · exact hs.execBc12Detection
  · exact hs.execChargeRoleChangeDone
  · exact hs.execTypecRdAttach
  · exact hs.execTypecRdAbsent
  · exact hs.execUsbStorageCommand
  · exact hs.execUsbLoopbackPacket
  · exact hs.execEthFrameReceive
  · exact hs.execNetMessageReceive
  · exact hs.execEthLinkChange
  · exact hs.execNetEgressSelect
  · exact hs.execPauseRefreshTimeout
  · exact hs.execPauseQuantaExpiry
  · exact hs.execAddressAgingTimeout
  · exact hs.execOverflowReadbackDone
  · exact hs.execReseqTimeout
  · exact hs.execNetCounterWindow
  · exact hs.execCanFrameReceive
  · exact hs.execCanBusStateChange
  · exact hs.execCanBusOffRecovered
  · exact hs.execCanPeriodDue
  · exact hs.execCanGapExpiry
  · exact hs.execCanFrameSent
  · exact hs.execCanDeliveryDue
  · exact hs.execCanSignalStale
  · exact hs.execCanWriteMessage
  · exact hs.execCanWake
  · exact hs.execBndPresLow
  · exact hs.execPartnerLost
  · exact hs.execAutoRejoin
  · exact hs.execForwardedCommand
  · exact hs.execForwardedWindowAccess
  · exact hs.execRelayedEvent
  · exact hs.execPairTimeMeasure
  · exact hs.execMirrorStateForward
  · exact hs.execMirrorForwardTimeout
  · exact hs.execReplicatedTraffic
  · exact hs.execIlkRiseSeen
  · exact hs.execIlkClaimWaitExpiry
  · exact hs.execIlkClaimConfirm
  · exact hs.execIlkHighWhileDay
  · exact hs.execIlkNoHolderTimeout
  · exact hs.execPairWatchdogExpiry
  · exact hs.execSignatureBoundary
  · exact hs.execSignatureRecordReceived
  · exact hs.execSignatureRecordTimeout
  · exact hs.execPairSelftestDone
  · exact hs.execHandoverPlannedStart
  · exact hs.execDayPrsntRise
  · exact hs.execNewDayTakeover
  · exact hs.execLayerOwnerSilentTimeout
  · exact hs.execShellStart
  · exact hs.execFeedWindowLeave
  · exact hs.execFeedQualified
  · exact hs.execFeedReturnDelayExpiry
  · exact hs.execFeedGapExpiry
  · exact hs.execNoFeedTimeout
  · exact hs.execInsertionDelayExpiry
  · exact hs.execPowerGood
  · exact hs.execVbusGateDelayExpiry
  · exact hs.execPowerFail
  · exact hs.execFastTrip
  · exact hs.execRampTimerExpiry
  · exact hs.execHotswapRegulation
  · exact hs.execRetryTimerExpiry
  · exact hs.execRetryStateCheckpoint
  · exact hs.execRetryCountReset
  · exact hs.execPrsntRemoved
  · exact hs.execPrsntInserted
  · exact hs.execEfuseOverloadTrip
  · exact hs.execEfuseSevereTrip
  · exact hs.execEfuseOffTimeExpiry
  · exact hs.execPdAttach
  · exact hs.execPdVbusReady
  · exact hs.execPdRequest
  · exact hs.execPdTransitionStart
  · exact hs.execPdTransitionDone
  · exact hs.execPdPsRdyTimeout
  · exact hs.execPdDetach
  · exact hs.execPdHardReset
  · exact hs.execPdPpsRequestTimeout
  · exact hs.execPdNewCapsTimeout
  · exact hs.execPdOtherMessage
  · exact hs.execIslandSleepEntry
  · exact hs.execIslandSleepExit
  · exact hs.execStopPointOfNoReturn
  · exact hs.execWakePinDebounced
  · exact hs.execWakeSourceRecognised
  · exact hs.execWakeVddFabReady
  · exact hs.execWakeComplete
  · exact hs.execWakeEventTimeout
  · exact hs.execTwilightBrownout
  · exact hs.execThermalSample
  · exact hs.execTelemetrySample
  · exact hs.execFabricInvalidCode
  · exact hs.execFabricStall
  · exact hs.execPortSelftestDone
  · exact hs.execRefclkLoss
  · exact hs.execSafeStateExit
  · exact hs.execMemoryEccError
  · exact hs.execScrubRead
  · exact hs.execLockstepMismatch
  · exact hs.execProcessorWatchdogExpiry
  · exact hs.execProcessorRestartDone
  · exact hs.execResetPin
  · exact hs.execResetRelease
  · exact hs.execRailUndervoltage
  · exact hs.execHubClassRequest
  · exact hs.execAllotDoneReceived
  · exact hs.execResumeReceived
  · exact hs.execFeedWindowEnter
  · exact hs.execRefclkReturn
  · exact hs.execPowerLoss
  · exact hs.execRelayedResponse
  · exact hs.execTwilightEntry
  · exact hs.execSpiWriteBufferDrained

end

section

/-! `Stays` through the functions of `Sys2Proof/Machine/Step.lean`. -/

theorem idle (hs : Stays s₀ s) : Stays s₀ (idle s) := .ite hs (.ite hs.same hs.same.setClock)

theorem step (hs : Stays s₀ s) : Continues s₀ (step s) := by
  unfold Machine.step
  split
  · exact .next hs.idle
  · exact hs.same.exec

end

end Stays

end Sys2Proof.Machine
end

section
/-! The step lemma of `Stays` and a reference cycle settle the invariant and the tie of a step to its command. -/

namespace Sys2Proof.Machine

/-- Settles O60, from the step lemma of `Stays`, through every command. -/
theorem scrappedIsFinal : Obligations.ScrappedIsFinal := by
  unfold Obligations.ScrappedIsFinal
  intro s t h
  obtain ⟨u, hu, k⟩ := (Stays.refl s).step
  cases hu.symm.trans h
  exact ⟨k.variant, k.scrapped⟩

/-- With no command waiting and hub time held, a reference cycle changes nothing. -/
theorem idle_of_stopped {s : State} (h : s.clock.powered = false ∨ s.clock.inReset = true) : idle s = s := by
  rcases h with h | h <;> simp [idle, h]

/-- With REFCLK running, a reference cycle advances hub time by 25 ns. -/
theorem idle_of_refclk {s : State} (hr : s.clock.refclk = true) (hp : s.clock.powered = true)
    (hn : s.clock.inReset = false) : idle s = { s with clock := { s.clock with hubTime := s.clock.hubTime + 25 } } := by
  simp [idle, hr, hp, hn]

/-- With REFCLK lost, a reference cycle advances hub time by a free value. -/
theorem idle_of_no_refclk {s : State} (hr : s.clock.refclk = false) (hp : s.clock.powered = true)
    (hn : s.clock.inReset = false) :
    idle s = { s with clock := { s.clock with hubTime := s.clock.hubTime + Config.freeValue 64 s.freeCtr },
                      freeCtr := s.freeCtr + 1 } := by
  simp [idle, takeFree, hr, hp, hn]

theorem step_of_empty {s : State} (h : s.pending = []) : step s = .next (idle s) := by
  simp only [step, h]

/-- Settles O47: by the two cases of the queue, and for the last clause by the step lemma of `Stays`. -/
theorem stepRunsTheFrontCommand : Obligations.StepRunsTheFrontCommand := by
  unfold Obligations.StepRunsTheFrontCommand
  refine ⟨fun c rest s => rfl, fun s h hr hp hn => ?_, fun s h hr hp hn => ?_, fun s h hc => ?_, fun s => ?_⟩
  · rw [step_of_empty h, idle_of_refclk hr hp hn]
  · rw [step_of_empty h, idle_of_no_refclk hr hp hn]
  · rw [step_of_empty h, idle_of_stopped hc]
  · obtain ⟨t, ht, -⟩ := (Stays.refl s).step
    exact ⟨t, ht⟩

end Sys2Proof.Machine
end

section
/-! SUPPORT. What a write to the window does, by what its offset reaches, and what the registers of fixed ranges do. -/
namespace Sys2Proof.Machine

variable {s : State} {r : Requester} {off : Nat} {v : Word}

theorem exec_registerWrite (r : Requester) (off : BitVec 18) (v : Word) (s : State) :
    exec (.registerWrite r off v) s = .next (accessWrite r (off.toNat / 4 * 4) v s) := rfl

theorem exec_dispCommitWrite (r : Requester) (o : OutNo) (v : Word) (s : State) :
    exec (.dispCommitWrite r o v) s = .next (accessWrite r (0x400C + 0x400 * o.val) v s) := rfl

theorem accessWrite_bridgeOff (hb : bridgeOff s = true) : accessWrite r off v s = s := by
  simp only [accessWrite, hb, if_true]

theorem accessWrite_bridgeOn (hb : bridgeOff s = false) : accessWrite r off v s = windowWrite r off v s := by
  simp only [accessWrite, hb, Bool.false_eq_true, if_false]

theorem windowWrite_quiet (hc : classify s r true off = .quiet) : windowWrite r off v s = s := by
  simp only [windowWrite, hc]

theorem windowWrite_refused (hc : classify s r true off = .refused) :
    windowWrite r off v s = raise (.denied r) 6 (violationWindow r true off) s := by
  simp only [windowWrite, hc, refuseAccess]

theorem accessWrite_reaches (hb : bridgeOff s = false) (hc : classify s r true off = .reaches) :
    accessWrite r off v s = writeReg r off v s := by
  rw [accessWrite_bridgeOn hb]
  simp only [windowWrite, hc]

theorem writeReg_scratch : writeReg r 0x40 v s = { s with scratch := v } := rfl

/-- The registers of the identity range other than SCRATCH are read-only. -/
theorem writeReg_identity (h : off < 0x1000) (hn : off ≠ 0x40) : writeReg r off v s = s := by
  simp only [writeReg, if_pos h, if_neg hn]

/-- From the check channels to the buffers no register takes a write. -/
theorem writeReg_check (hl : 0x5000 ≤ off) (hh : off < 0x10000) : writeReg r off v s = s := by
  rw [writeReg, if_neg (by omega), if_neg (by omega), if_neg (by omega), if_neg (by omega), if_neg (by omega),
    if_neg (by omega), if_pos hh]

/-- From the buffers on, a write reaches the command slots and nothing else. -/
theorem writeReg_buffers (hl : 0x10000 ≤ off) : writeReg r off v s =
    if off < 0x20000 ∧ off % 0x4000 < 0x1000 then { s with window := memWrite s.window off (wordBytes v) } else s := by
  rw [writeReg, if_neg (by omega), if_neg (by omega), if_neg (by omega), if_neg (by omega), if_neg (by omega),
    if_neg (by omega), if_neg (by omega)]

theorem dispOut_commit (o : OutNo) : dispOut (0x400C + 0x400 * o.val) = o :=
  Fin.ext (show (0x400C + 0x400 * o.val - 0x4000) / 0x400 % 4 = o.val by omega)

theorem dispRel_commit (o : OutNo) : dispRel (0x400C + 0x400 * o.val) = 0x0C := by
  unfold dispRel
  omega

theorem writeReg_dispCommit (o : OutNo) : writeReg r (0x400C + 0x400 * o.val) v s = writeCommit r o v s := by
  rw [writeReg, if_neg (by omega), if_neg (by omega), if_neg (by omega), if_neg (by omega), if_neg (by omega),
    if_pos (by omega), dispOut_commit, dispRel_commit, writeDisplay, if_neg (by decide), if_pos rfl]

/-- Settles O10, by the offset's class and, where it reaches, by the range it lies in. -/
theorem registerWritesReachOrAreRefused : Obligations.RegisterWritesReachOrAreRefused := by
  unfold Obligations.RegisterWritesReachOrAreRefused
  refine ⟨fun r off v s hb => ?off, fun r off v s hb hc => ?quiet, fun r off v s hb hc => ?refused,
    fun r v s hb hc => ?scratch, fun r off v s hb hc hl hh hm => ?slot, fun r off v s hb hl hh hm hc => ?ring,
    fun r off v s hb hr hc => ?readOnly, fun r o v s hb => ?commitOff, fun r o v s hb hc => ?commit⟩
  case off => rw [exec_registerWrite, accessWrite_bridgeOff hb]
  case quiet => rw [exec_registerWrite, accessWrite_bridgeOn hb, windowWrite_quiet hc]
  case refused => rw [exec_registerWrite, accessWrite_bridgeOn hb, windowWrite_refused hc]
  case scratch =>
    rw [exec_registerWrite, show (0x40 : BitVec 18).toNat / 4 * 4 = 0x40 from rfl, accessWrite_reaches hb hc,
      writeReg_scratch]
  case slot => rw [exec_registerWrite, accessWrite_reaches hb hc, writeReg_buffers (by omega), if_pos (by omega)]
  case ring => rw [exec_registerWrite, accessWrite_reaches hb hc, writeReg_buffers (by omega), if_neg (by omega)]
  case readOnly =>
    rw [exec_registerWrite, accessWrite_reaches hb hc]
    rcases hr with ⟨hl, hn⟩ | ⟨hl, hh⟩
    · rw [writeReg_identity (by omega) hn]
    · rw [writeReg_check (by omega) (by omega)]
  case commitOff => rw [exec_dispCommitWrite, accessWrite_bridgeOff hb]
  case commit => rw [exec_dispCommitWrite, accessWrite_reaches hb hc, writeReg_dispCommit, writeCommit]

end Sys2Proof.Machine
end

section
/-! SUPPORT. SYS_PROFILE_SET by its payload, and a change of performance level by its cause and its end. -/
namespace Sys2Proof.Machine

variable {s : State} {c : Cmd} {p : Profile} {k : PlChange}

/-- What is carried out depends on the operation only at the state it is carried out from. -/
theorem carried_congr {sp : OpSpec} {f g : State → State} (h : f (fresh s) = g (fresh s)) :
    carried sp c f s = carried sp c g s := by
  unfold carried
  rw [h]

theorem exec_sysProfileSet (h : accepted sysProfileSetSpec c s = true) :
    exec (.sysProfileSet c) s = carried sysProfileSetSpec c (sysProfileSetBody c) s := runCmd_accepted _ h

theorem sysProfileSetBody_read (h : c.payload = []) : sysProfileSetBody c s =
    ok 0x0102 c [BitVec.ofNat 8 (profileCode s.perf.profile), BitVec.ofNat 8 s.perf.pl.val, 0, 0] s := by
  unfold sysProfileSetBody
  rw [h]
  rfl

theorem profileOfCode_profileCode (p : Profile) : profileOfCode (profileCode p) = some p := by
  cases p <;> rfl

theorem byteAt_profileCode (p : Profile) : byteAt [BitVec.ofNat 8 (profileCode p), 0, 0, 0] 0 = profileCode p := by
  cases p <;> rfl

/-- A payload that names a profile is decided by what is in progress, and else by the profile. -/
theorem sysProfileSetBody_named (h : c.payload = [BitVec.ofNat 8 (profileCode p), 0, 0, 0])
    (hb : profileBusy s = false) :
    sysProfileSetBody c s = if plBusy s then holdRequest 0x0102 c s else setProfile p c s := by
  have hz : zeroAt [BitVec.ofNat 8 (profileCode p), 0, 0, 0] 1 3 = true := rfl
  simp only [sysProfileSetBody, h, byteAt_profileCode, profileOfCode_profileCode, hz, hb, List.isEmpty_cons,
    Bool.not_true, Bool.false_eq_true, if_false]

theorem sysProfileSetBody_free (h : c.payload = [BitVec.ofNat 8 (profileCode p), 0, 0, 0])
    (hb : profileBusy s = false) (hl : plBusy s = false) : sysProfileSetBody c s = setProfile p c s := by
  rw [sysProfileSetBody_named h hb, hl, if_neg Bool.false_ne_true]

theorem sysProfileSetBody_busy (h : c.payload = [BitVec.ofNat 8 (profileCode p), 0, 0, 0])
    (hb : profileBusy s = false) (hl : plBusy s = true) : sysProfileSetBody c s = holdRequest 0x0102 c s := by
  rw [sysProfileSetBody_named h hb, hl, if_pos rfl]

/-- Another profile of the level in force is entered. -/
theorem setProfile_level (hl : profilePl p = s.perf.pl) (hp : p ≠ s.perf.profile) :
    setProfile p c s = ok 0x0102 c [] (enterProfile p s) := by
  simp only [setProfile, hl, hp, decide_true, Bool.or_true, if_true, if_false]

/-- A profile of another level starts a change, where a converter is there and everything is admitted. -/
theorem setProfile_change (hl : profilePl p ≠ s.perf.pl) (hp : p ≠ s.perf.profile) (hv : hasConv s = true)
    (ha : s.perf.pl.val < (profilePl p).val → admitNow s (profilePl p) = true) :
    setProfile p c s = startPending 0x0102 c (.profile p) (startChange (profilePl p) (.profile p)) s := by
  have hn : (decide (s.perf.pl.val < (profilePl p).val) && !admitNow s (profilePl p)) = false := by
    by_cases hr : s.perf.pl.val < (profilePl p).val
    · simp only [ha hr, Bool.not_true, Bool.and_false]
    · simp only [hr, decide_false, Bool.false_and]
  simp only [setProfile, hl, hp, hv, hn, decide_false, Bool.or_false, Bool.not_true, Bool.false_eq_true, if_false]

theorem holdRequest_held {op : Half} (h : mayPend s c = true) : holdRequest op c s =
    updPerf (fun x => { x with held := x.held ++ [⟨op, c⟩] }) (holdPending op c .held s) := startPending_held h

theorem startChange_change (pl : Fin 4) (cause : PlCause) (s : State) :
    (startChange pl cause s).perf.change = some ⟨s.perf.pl, pl, cause⟩ := rfl

theorem startChange_out (pl : Fin 4) (cause : PlCause) (s : State) :
    (startChange pl cause s).out = s.out ++ [.pmbus .vddFab 0x21 (plMv pl)] := rfl

theorem startChange_profile (pl : Fin 4) (cause : PlCause) (s : State) :
    (startChange pl cause s).perf.profile = s.perf.profile := rfl

theorem startChange_held (pl : Fin 4) (cause : PlCause) (s : State) :
    (startChange pl cause s).perf.held = s.perf.held := rfl

/-- With no request held, deciding the held requests changes nothing of the level. -/
theorem rerunHeld_of_none (h : s.perf.held = []) : rerunHeld s = updPerf (fun x => { x with held := [] }) s := by
  rw [rerunHeld, h, List.foldl_nil]

theorem exec_plChangeConfirmed (hc : coreOn s = true) (hk : s.perf.change = some k) :
    exec .plChangeConfirmed s = .next (completeChange k s) := by
  simp only [exec, execPlChangeConfirmed, hc, hk, if_true]

theorem exec_plChangeTimeout (hc : coreOn s = true) (hk : s.perf.change = some k) :
    exec .plChangeTimeout s = .next (failChange k s) := by
  simp only [exec, execPlChangeTimeout, hc, hk, if_true]

/-- A change made for a request, for a profile or by the hub itself, that fails. -/
theorem failChange_logged (hs : k.cause ≠ .start) (hr : k.cause ≠ .restore) : failChange k s = failRequests k.cause (
    if k.fromPl.val < k.toPl.val then startChange k.fromPl .restore (logFault 0x0C k.toPl.val {} s)
    else emit (.pmbus .vddFab 0x21 (plMv k.fromPl))
      (updPerf (fun x => { x with change := none }) (logFault 0x0C k.toPl.val {} s))) := by
  obtain ⟨a, b, cause⟩ := k
  cases cause
  case start => exact absurd rfl hs
  case restore => exact absurd rfl hr
  all_goals rfl

/-- What a confirmed change for a profile leaves when no request is held. -/
theorem completeChange_profile {a b : Fin 4} (hh : s.perf.held = []) :
    (completeChange ⟨a, b, .profile p⟩ s).perf.change = none ∧ (completeChange ⟨a, b, .profile p⟩ s).perf.pl = b ∧
    (completeChange ⟨a, b, .profile p⟩ s).perf.profile = p ∧
    waitsFor (completeChange ⟨a, b, .profile p⟩ s) (.profile p) = false := by
  simp only [completeChange]
  rw [rerunHeld_of_none (by simpa [enterProfile_perf] using hh)]
  refine ⟨by simp [enterProfile_perf], by simp [enterProfile_perf], by simp [enterProfile_perf], ?_⟩
  exact (waitsFor_finish _ _ _ _ _).trans (by simp)

/-- What a failed raise for a profile leaves when no request is held. -/
theorem failChange_profile {a b : Fin 4} (hl : a.val < b.val) (hh : s.perf.held = []) :
    (failChange ⟨a, b, .profile p⟩ s).perf.change = some ⟨s.perf.pl, a, .restore⟩ ∧
    (failChange ⟨a, b, .profile p⟩ s).perf.profile = s.perf.profile ∧
    waitsFor (failChange ⟨a, b, .profile p⟩ s) (.profile p) = false := by
  rw [failChange_logged (by simp) (by simp)]
  simp only [failRequests, if_pos hl]
  rw [rerunHeld_of_none (by simpa [startChange_held] using hh)]
  refine ⟨by simp [startChange_change], by simp [startChange_profile], ?_⟩
  exact (waitsFor_finish _ _ _ _ _).trans (by simp)

/-- In Dusk at PL2 the hub lowers the level by itself. -/
theorem exec_plAutoLower (hd : dataOn s = true) (hp : s.perf.profile = .dusk) (hl : s.perf.pl = 2)
    (hn : s.perf.change = none) (hh : s.perf.held = []) (hv : hasConv s = true)
    (ht : ∀ t, s.perf.lastRaise = some t → 1000000000 ≤ (s.clock.hubTime - t).toNat) (hk : karxoRuns s = true)
    (hr : s.pm.phase = .run) (ha : admitNow s 3 = true) :
    exec .plAutoLower s = .next (startChange 3 .auto s) := by
  refine (runCore_on hd).trans (congrArg _ ?_)
  cases e : s.perf.lastRaise with
  | none => simp [hp, hl, hn, hh, hv, hk, hr, ha]
  | some t => simp [hp, hl, hn, hh, hv, hk, hr, ha, Nat.not_lt.2 (ht t e), -BitVec.toNat_sub]

/-- Settles O7: each clause by the lemma of its case. -/
theorem profilesAndLevels : Obligations.ProfilesAndLevels := by
  unfold Obligations.ProfilesAndLevels
  refine ⟨fun c s h hp => ?read, fun c s p h hp hb hn hl hq => ?level, fun c s p h hp hb hn hl hq hv ha hm => ?change,
    fun c s p h hp hb hn hm => ?held, fun p s => ?entered,
    fun pl cause s => ⟨startChange_change pl cause s, startChange_out pl cause s⟩, fun s k hc hk => ?confirmed,
    fun s k p hc hk hq hh => ?confirmedProfile, fun s a b hc hk => exec_plChangeTimeout hc hk,
    fun s a b hc hk => exec_plChangeTimeout hc hk, fun s k hc hk hs hr => ?timeout,
    fun s a b p hc hk hl hh => ?timeoutProfile, fun s => exec_plAutoLower⟩
  case read =>
    rw [exec_sysProfileSet h]
    exact carried_congr (sysProfileSetBody_read hp)
  case level =>
    rw [exec_sysProfileSet h]
    refine carried_congr ((sysProfileSetBody_free (s := fresh s) hp hb hn).trans ?_)
    exact setProfile_level hl hq
  case change =>
    rw [exec_sysProfileSet h]
    refine carried_congr ((sysProfileSetBody_free (s := fresh s) hp hb hn).trans ?_)
    exact (setProfile_change (s := fresh s) hl hq hv ha).trans (startPending_held hm)
  case held =>
    rw [exec_sysProfileSet h]
    exact carried_congr ((sysProfileSetBody_busy (s := fresh s) hp hb hn).trans (holdRequest_held hm))
  case entered => rw [enterProfile_perf]; exact ⟨rfl, rfl⟩
  case confirmed =>
    rw [exec_plChangeConfirmed hc hk]
    obtain ⟨a, b, cause⟩ := k
    cases cause <;> rfl
  case confirmedProfile =>
    obtain ⟨a, b, cause⟩ := k
    cases hq
    exact ⟨_, exec_plChangeConfirmed hc hk, completeChange_profile hh⟩
  case timeout => rw [exec_plChangeTimeout hc hk, failChange_logged hs hr]
  case timeoutProfile => exact ⟨_, exec_plChangeTimeout hc hk, failChange_profile hl hh⟩

end Sys2Proof.Machine
end

section
/-! SUPPORT. What a fault does: a fabric fault at its port, the processor restart and its end, memory errors, and how the
safe state is entered on the loss of REFCLK and left. -/
namespace Sys2Proof.Machine

variable {s : State} {cls : Fin 24} {p : FabPort} {loc : Nat} {j : Bool}

/-! ### Port isolation (R474, Table 13.4) -/

theorem exec_fabricInvalidCode (x : Bool) (b : BitVec 9) (f : Bool) (hc : coreOn s = true) :
    exec (.fabricInvalidCode p x b f) s =
      .next (fabricFault 0x01 p (p.val + 256 * bitNat x + 512 * b.toNat + 2 ^ 18 * bitNat f) false s) := by
  simp only [exec, execFabricInvalidCode, hc, if_true]

theorem exec_fabricStall (x : Bool) (ph : BitVec 2) (hc : coreOn s = true) :
    exec (.fabricStall p x ph) s =
      .next (fabricFault 0x02 p (p.val + 256 * bitNat x + 512 * ph.toNat) false s) := by
  simp only [exec, execFabricStall, hc, if_true]

/-- An isolated port is left as it is. -/
theorem fabricFault_isolated (hi : s.flt.isolated.getLsbD p.val = true) : fabricFault cls p loc j s = s := by
  simp only [fabricFault, hi, if_true]

/-- A fault whose class is disabled is only logged. -/
theorem fabricFault_disabled (hi : s.flt.isolated.getLsbD p.val = false)
    (hd : (logFault cls loc { reaction := 2, injected := j } s).flt.disabled.getLsbD cls.val = true) :
    fabricFault cls p loc j s = logFault cls loc { reaction := 2, injected := j } s := by
  simp only [fabricFault, hi, hd, Bool.false_eq_true, if_false, if_true]

/-- A fabric fault logged, its port isolated and in its self-test. -/
def portTested (cls : Fin 24) (p : FabPort) (loc : Nat) (j : Bool) (s : State) : State :=
  setReaction cls loc 2 (updFlt (fun f =>
    { f with isolated := setBit f.isolated p.val true, testing := setBit f.testing p.val true })
    (logFault cls loc { reaction := 2, injected := j } s))

/-- What the isolation of a port then does. -/
def portReaction (cls : Fin 24) (p : FabPort) (loc : Nat) (t : State) : State :=
  if safePort p then enterSafe .other (setReaction cls loc 6 t)
  else
    let u := if p = 12 then processorRestart cls loc t else isolateEffect p t
    if p = 3 || p = 4 || p = 5 || p = 12 then releaseFor cls loc u else u

theorem fabricFault_enabled (hi : s.flt.isolated.getLsbD p.val = false)
    (hd : (logFault cls loc { reaction := 2, injected := j } s).flt.disabled.getLsbD cls.val = false) :
    fabricFault cls p loc j s = portReaction cls p loc (portTested cls p loc j s) := by
  simp only [fabricFault, hi, hd, Bool.false_eq_true, if_false]
  rfl

theorem portReaction_safe (hp : safePort p = true) :
    portReaction cls p loc s = enterSafe .other (setReaction cls loc 6 s) := if_pos hp

/-- A port that neither enters the safe state nor releases ILK_N acts on its engine alone. -/
theorem portReaction_engine (hp : safePort p = false) (h3 : p ≠ 3) (h4 : p ≠ 4) (h5 : p ≠ 5) (h12 : p ≠ 12) :
    portReaction cls p loc s = isolateEffect p s := by
  simp only [portReaction, hp, h3, h4, h5, h12, decide_false, Bool.or_false, Bool.false_eq_true, if_false]

/-- The display ports release ILK_N and act while their bit is set. -/
theorem portReaction_display (hp : p = 3 ∨ p = 4 ∨ p = 5) :
    portReaction cls p loc s = releaseFor cls loc s := by
  rcases hp with rfl | rfl | rfl <;> rfl

/-- The processor's port restarts the processor. -/
theorem portReaction_processor :
    portReaction cls 12 loc s = releaseFor cls loc (processorRestart cls loc s) := rfl

theorem safePort_iff (p : FabPort) : safePort p = true ↔ p = 14 ∨ 16 ≤ p.val := by
  simp only [safePort, Bool.or_eq_true, beq_iff_eq, decide_eq_true_eq]

/-- A self-test of another port than the security engine's that ends while it runs. -/
theorem exec_portSelftestDone {pass : Bool} (hc : coreOn s = true) (hp : p ≠ 15)
    (ht : s.flt.testing.getLsbD p.val = true) : exec (.portSelftestDone p pass) s =
    .next (if pass && !injectedPort s p then
      setPortReaction p 3 (updFlt (fun f =>
        { f with isolated := setBit f.isolated p.val false, testing := setBit f.testing p.val false }) s)
    else failPort p s) := by
  simp only [exec, execPortSelftestDone, selftestEnd, hc, hp, ht, if_true, if_false]

/-! ### The processor restart (R484, R485) -/

theorem exec_lockstepMismatch (g : BitVec 4) (hc : coreOn s = true) (hr : s.flt.restarting = false) :
    exec (.lockstepMismatch g) s = .next (coreFault 0x07 g.toNat false s) := by
  simp only [exec, execLockstepMismatch, hc, hr, Bool.not_false, Bool.and_self, if_true]

theorem exec_processorWatchdogExpiry (hc : coreOn s = true) (hr : s.flt.restarting = false)
    (ha : s.activating = false) : exec .processorWatchdogExpiry s = .next (coreFault 0x08 0 false s) := by
  simp only [exec, execProcessorWatchdogExpiry, hc, hr, ha, Bool.not_false, Bool.and_self, if_true]

theorem exec_processorWatchdogExpiry_paused (ha : s.activating = true) :
    exec .processorWatchdogExpiry s = .next s := by
  simp only [exec, execProcessorWatchdogExpiry, ha, Bool.not_true, Bool.and_false, Bool.false_eq_true, if_false]

theorem revertChange_flt (s : State) : (revertChange s).flt = s.flt := by
  unfold revertChange
  split <;> rfl

theorem revertChange_held (s : State) : (revertChange s).perf.held = s.perf.held := by
  unfold revertChange
  split
  · exact startChange_held _ _ _
  · rfl

theorem dropWork_staging (s : State) : (dropWork s).fw.staging = false := rfl

theorem dropWork_held (s : State) : (dropWork s).perf.held = [] := by
  simp only [dropWork, updPair_perf]
  split
  · rw [revertChange_held]
    rfl
  · rfl

theorem dropWork_safe (s : State) : (dropWork s).flt.safe = s.flt.safe := by
  simp only [dropWork, updPair_flt]
  split
  · rw [revertChange_flt]
    rfl
  · rfl

/-- The processor as its restart begins. -/
def processorHalted (s : State) : State :=
  updFlt (fun f => { f with restarting := true, lastRestart := some s.clock.hubTime })
    { dropWork (holdResponses s) with ready := false, activating := false }

/-- A first restart brings no safe state. -/
theorem processorRestart_first (hl : s.flt.lastRestart = none) :
    processorRestart cls loc s = setReaction cls loc 5 (processorHalted s) := by
  simp only [processorRestart, hl, Bool.false_eq_true, if_false]
  rfl

theorem processorHalted_safe (s : State) : (processorHalted s).flt.safe = s.flt.safe :=
  dropWork_safe (holdResponses s)

theorem answerRestart_flt (s : State) (p : Pending) : (answerRestart s p).flt = s.flt :=
  (answers_respondTo _ _ _ _ _ _ _ _ s).flt

theorem foldl_answerRestart_flt (l : List Pending) (s : State) : (l.foldl answerRestart s).flt = s.flt := by
  induction l generalizing s with
  | nil => rfl
  | cons p r ih => exact (ih _).trans (answerRestart_flt s p)

/-- Whether a command waits for the restart to end. -/
def awaitsRestart (p : Pending) : Bool := match p.kind with | .restart _ => true | _ => false

theorem awaitsRestart_restart {p : Pending} {k : Bool} (h : p.kind = .restart k) : awaitsRestart p = true := by
  simp only [awaitsRestart, h]

/-- The end of a restart answers every command that waited for it. -/
theorem exec_processorRestartDone (hc : coreOn s = true) (hr : s.flt.restarting = true)
    (hj : s.flt.injections = []) : exec .processorRestartDone s =
    .next ((s.pend.filter awaitsRestart).foldl answerRestart (updFlt (fun f => { f with restarting := false })
      { s with ready := true, pend := s.pend.filter (fun p => !awaitsRestart p) })) := by
  simp only [exec, execProcessorRestartDone, hc, hr, Bool.and_self, if_true, foldl_answerRestart_flt, updFlt_flt, hj,
    List.find?_nil]
  rfl

/-! ### Memory errors and scrubbing (R478 to R480) -/

variable {e : EccError} {d : Bool}

theorem exec_memoryEccError (e : EccError) (hc : coreOn s = true) :
    exec (.memoryEccError e) s = .next (memoryError e false false s) := by
  simp only [exec, execMemoryEccError, hc, if_true]

/-- A corrected SRAM error is logged and nothing else. -/
theorem memoryError_corrected (h1 : e.double = false) (h2 : e.dram = false) (hj : injectedHere s e = false) :
    memoryError e false false s =
      logFault 3 (e.sram.toNat + 65536 * e.row.toNat) { reaction := 0, detail := e.syndrome, addr := 0 } s := by
  simp only [memoryError, eccClass, eccLoc, eccAddr, h1, h2, hj, Bool.or_self, Bool.false_and, Bool.false_eq_true,
    if_false]

/-- An uncorrectable error is logged, poisons what it met and is repaired. -/
theorem memoryError_uncorrectable (h : e.double = true) (hj : injectedHere s e = false) :
    memoryError e false false s = repair e (poisonEffect e
      (logFault (eccClass e) (eccLoc e) { reaction := 1, detail := e.syndrome, addr := eccAddr e } s)) := by
  simp only [memoryError, h, hj, Bool.or_self, Bool.false_eq_true, if_true, if_false]

theorem exec_scrubRead (e : Option EccError) (h : scrubs s = true) :
    exec (.scrubRead d e) s = .next (scrubStep d e s) := by
  simp only [exec, execScrubRead, h, if_true]

/-- The scrub engine stands while its port is isolated. -/
theorem scrubs_isolated (hi : s.flt.isolated.getLsbD 13 = true) : scrubs s = false := by
  simp only [scrubs, hi, Bool.not_true, Bool.and_false, Bool.false_and]

theorem exec_scrubRead_isolated (e : Option EccError) (hi : s.flt.isolated.getLsbD 13 = true) :
    exec (.scrubRead d e) s = .next s := by
  simp only [exec, execScrubRead, scrubs_isolated hi, Bool.false_eq_true, if_false]

theorem scrubMeets_none (hj : s.flt.injections = []) : scrubMeets d s = (none, s) := by
  simp only [scrubMeets, hj, List.filter_nil, List.isEmpty_nil, if_true]

/-- A read that meets nothing goes on to the next word. -/
theorem scrubStep_clean (hj : s.flt.injections = []) : scrubStep d none s = scrubOn d s := by
  simp only [scrubStep, scrubMeets_none hj]

/-- A read that meets an error acts on it first. -/
theorem scrubStep_error (hj : s.flt.injections = []) (hd : e.dram = d) :
    scrubStep d (some e) s = scrubOn d (scrubFound e s) := by
  simp only [scrubStep, scrubMeets_none hj, hd, beq_self_eq_true, if_true]

/-! ### REFCLK and the safe state (R46, R476, R477) -/

/-- Outside the safe state the loss of REFCLK is logged and enters it. -/
theorem declareRefclk_lost (hr : s.clock.refclk = false) (hs : s.flt.safe = none) :
    declareRefclk s = enterSafe .refclk (logFault 0x09 0 { reaction := 6 } s) := by
  simp only [declareRefclk, hr, hs, Option.isSome_none, Bool.or_self, Bool.false_eq_true, if_false]

/-- REFCLK lost outside the safe state, while the core acts: the core acts on without it. -/
theorem exec_refclkLoss (hp : s.clock.powered = true) (hr : s.clock.refclk = true) (hc : coreOn s = true)
    (hs : s.flt.safe = none) : exec .refclkLoss s = .next (enterSafe .refclk (logFault 0x09 0 { reaction := 6 }
      { s with clock := { s.clock with refclk := false, untimed := true } })) := by
  have hlost : ¬ (!s.clock.powered || !s.clock.refclk) = true := by simp [hp, hr]
  have hacts : ¬ (!coreOn s) = true := by simp [hc]
  have hsafe : ¬ s.flt.safe.isSome = true := by simp [hs]
  exact congrArg Host.Outcome.next ((if_neg hlost).trans ((if_neg hacts).trans ((if_neg hsafe).trans
    (declareRefclk_lost rfl hs))))

/-- A hub that stays in the safe state for good takes no warm reset. -/
theorem exec_safeStateExit_stays (hs : s.flt.safeStays = true) : exec .safeStateExit s = .next s := by
  simp only [exec, execSafeStateExit, hs, Bool.true_or, if_true]

theorem exec_safeStateExit_scrapped (hf : s.flt.safe = some .scrapped) : exec .safeStateExit s = .next s := by
  simp only [exec, execSafeStateExit, hf, ite_self]

section Exit
variable (hs : s.flt.safeStays = false) (hc : coreOn s = true)
include hs hc

theorem exec_safeStateExit_refclk (hf : s.flt.safe = some .refclk) :
    exec .safeStateExit s = .next (if s.clock.refclk then restart false none s else s) := by
  simp only [exec, execSafeStateExit, hs, hc, hf, Bool.not_true, Bool.or_self, Bool.false_eq_true, if_false]

theorem exec_safeStateExit_critical (hf : s.flt.safe = some .critical) :
    exec .safeStateExit s = .next (if s.tel.tj.toInt < 920 then restart false none s else s) := by
  simp only [exec, execSafeStateExit, hs, hc, hf, Bool.not_true, Bool.or_self, Bool.false_eq_true, if_false]
  rfl

theorem exec_safeStateExit_other (hf : s.flt.safe = some .other) :
    exec .safeStateExit s = .next (restart false none s) := by
  simp only [exec, execSafeStateExit, hs, hc, hf, Bool.not_true, Bool.or_self, Bool.false_eq_true, if_false]

end Exit

/-- Settles O44: each clause by the lemma of its case. -/
theorem faultHandling : Obligations.FaultHandling := by
  unfold Obligations.FaultHandling
  refine ⟨fun s p x b f hc hi => ⟨?isolatedCode, fun ph => ?isolatedStall⟩, fun s p x ph => exec_fabricStall x ph,
    fun s p x b f => exec_fabricInvalidCode x b f, fun s cls p loc j => fabricFault_disabled,
    fun s cls p loc j t hi hd ht => ?enabled, safePort_iff, fun s => ⟨rfl, rfl, rfl, rfl, rfl, rfl⟩,
    fun s p hc hp ht hj => ?passed, fun s p hc hp ht => exec_portSelftestDone hc hp ht,
    fun s g => exec_lockstepMismatch g, fun s => exec_processorWatchdogExpiry,
    fun s => exec_processorWatchdogExpiry_paused, fun s cls loc hl => ?restart, fun s hc hr hp hj => ?doneNone,
    fun s p k hc hr hp hk hj => ?doneOne, fun s p k _ => rfl, fun s e hc h1 h2 hj => ?corrected,
    fun s e hc h hj => ?uncorrectable, fun s d e => exec_scrubRead e,
    fun s d hj => ⟨scrubStep_clean hj, fun e => scrubStep_error hj⟩, fun s d e => exec_scrubRead_isolated e,
    fun s hp hr hc hs => ⟨_, exec_refclkLoss hp hr hc hs, rfl⟩, fun s => rfl, fun s hs hc hf => ?refclk,
    fun s => exec_safeStateExit_stays, fun s hs hc hf => ?critical, fun s => exec_safeStateExit_other,
    fun s => exec_safeStateExit_scrapped⟩
  case isolatedCode => rw [exec_fabricInvalidCode x b f hc, fabricFault_isolated hi]
  case isolatedStall => rw [exec_fabricStall x ph hc, fabricFault_isolated hi]
  case enabled =>
    rw [fabricFault_enabled hi hd, portTested, ← ht]
    refine ⟨portReaction_safe, portReaction_engine, portReaction_display, ?_⟩
    rintro rfl
    exact portReaction_processor
  case passed => rw [exec_portSelftestDone hc hp ht, hj, Bool.not_false, Bool.and_self, if_pos rfl]
  case restart =>
    exact ⟨processorHalted s, processorRestart_first hl, rfl, rfl, dropWork_staging _, dropWork_held _,
      processorHalted_safe s⟩
  case doneNone =>
    rw [exec_processorRestartDone hc hr hj, hp]
    rfl
  case doneOne =>
    simp only [exec_processorRestartDone hc hr hj, hp, List.filter_cons, awaitsRestart_restart hk, List.filter_nil,
      Bool.not_true, Bool.false_eq_true, if_true, if_false, List.foldl_cons, List.foldl_nil]
  case corrected => rw [exec_memoryEccError e hc, memoryError_corrected h1 h2 hj]
  case uncorrectable => rw [exec_memoryEccError e hc, memoryError_uncorrectable h hj]
  case refclk =>
    rw [exec_safeStateExit_refclk hs hc hf]
    exact ⟨fun h => by rw [if_pos h], fun h => by rw [h, if_neg Bool.false_ne_true]⟩
  case critical =>
    rw [exec_safeStateExit_critical hs hc hf]
    exact ⟨fun h => by rw [if_pos h], fun h => by rw [if_neg (Int.not_lt.2 h)]⟩

end Sys2Proof.Machine
end

section
/-! SUPPORT. The scrambler of a lane bit by bit, and runs of blocks through it and through its inverse. -/
namespace Sys2Proof.Machine

variable {st x : BitVec 58} {d w : Dword} {i : Nat}

/-- What has gone over the wire: the 58 bits before a word, then the word. -/
theorem getLsbD_wire (w : Dword) (st : BitVec 58) (i : Nat) :
    (w ++ st : BitVec 122).getLsbD i = if i < 58 then st.getLsbD i else w.getLsbD (i - 58) :=
  BitVec.getLsbD_append

/-- The first 39 bits sent are scrambled with bits of the state alone. -/
theorem getLsbD_scramble_low (h : i < 39) :
    (scramble st d).1.getLsbD i = (d.getLsbD i ^^ st.getLsbD (19 + i) ^^ st.getLsbD i) := by
  refine BitVec.getLsbD_append.trans ?_
  simp only [BitVec.getLsbD_xor, BitVec.getLsbD_extractLsb', BitVec.getLsbD_setWidth, h, decide_true, Bool.true_and,
    if_true]

/-- The last 25 bits sent are scrambled with bits of the state and of the first 39. -/
theorem getLsbD_scramble_high (hl : 39 ≤ i) (h : i < 64) :
    (scramble st d).1.getLsbD i = (d.getLsbD i ^^ (scramble st d).1.getLsbD (i - 39) ^^
      if i < 58 then st.getLsbD i else (scramble st d).1.getLsbD (i - 58)) := by
  rw [getLsbD_scramble_low (i := i - 39) (by omega), getLsbD_scramble_low (i := i - 58) (by omega)]
  refine BitVec.getLsbD_append.trans ?_
  simp only [BitVec.getLsbD_xor, BitVec.getLsbD_extractLsb', BitVec.getLsbD_append, BitVec.getLsbD_setWidth,
    Nat.add_sub_cancel' hl, Nat.add_sub_cancel_left, if_neg (Nat.not_lt.2 hl), if_neg (show ¬ 58 + (i - 39) < 58 by omega),
    show i - 39 < 25 by omega, show i - 39 < 39 by omega, show i - 58 < 39 by omega, decide_true, Bool.true_and]

/-- A scrambled bit is the payload bit added to the bits sent 39 and 58 bits before it (R111). -/
theorem getLsbD_scramble (h : i < 64) : (scramble st d).1.getLsbD i = (d.getLsbD i ^^
    ((scramble st d).1 ++ st : BitVec 122).getLsbD (19 + i) ^^ ((scramble st d).1 ++ st : BitVec 122).getLsbD i) := by
  rw [getLsbD_wire, getLsbD_wire]
  by_cases hl : i < 39
  · rw [if_pos (by omega), if_pos (by omega), getLsbD_scramble_low hl]
  · rw [if_neg (show ¬ 19 + i < 58 by omega), show 19 + i - 58 = i - 39 by omega]
    exact getLsbD_scramble_high (by omega) h

/-- A descrambled bit is the bit received added to those received 39 and 58 bits before it. -/
theorem getLsbD_descramble (h : i < 64) : (descramble st w).1.getLsbD i = (w.getLsbD i ^^
    (w ++ st : BitVec 122).getLsbD (19 + i) ^^ (w ++ st : BitVec 122).getLsbD i) := by
  simp only [descramble, BitVec.getLsbD_xor, BitVec.getLsbD_extractLsb', BitVec.getLsbD_setWidth, h, decide_true,
    Bool.true_and]

/-- The descrambler that holds the sender's state gives a block back. -/
theorem descramble_scramble (st : BitVec 58) (d : Dword) : descramble st (scramble st d).1 = (d, (scramble st d).2) := by
  refine Prod.ext (BitVec.eq_of_getLsbD_eq fun i h => ?_) rfl
  rw [getLsbD_descramble h, getLsbD_scramble h]
  exact (by decide : ∀ a b c : Bool, ((a ^^ b ^^ c) ^^ b ^^ c) = a) _ _ _

/-- From the 58th bit on the descrambler's output does not depend on its state. -/
theorem getLsbD_descramble_late (h : 58 ≤ i) : (descramble st w).1.getLsbD i = (descramble x w).1.getLsbD i := by
  by_cases hi : i < 64
  · simp only [getLsbD_descramble hi, getLsbD_wire, if_neg (Nat.not_lt.2 h), if_neg (show ¬ 19 + i < 58 by omega)]
  · rw [BitVec.getLsbD_of_ge _ _ (Nat.le_of_not_lt hi), BitVec.getLsbD_of_ge _ _ (Nat.le_of_not_lt hi)]

/-- The state of the scrambler is the last 58 bits sent. -/
theorem scramble_state (st : BitVec 58) (d : Dword) :
    (scramble st d).2 = ((scramble st d).1 ++ st : BitVec 122).extractLsb' 64 58 := by
  refine BitVec.eq_of_getLsbD_eq fun i h => ?_
  rw [BitVec.getLsbD_extractLsb', getLsbD_wire, if_neg (by omega), show 64 + i - 58 = 6 + i by omega]
  exact BitVec.getLsbD_extractLsb' _ _ _ _

/-- Sync headers pass unchanged (R110). -/
theorem mapBlocks_sync (f : BitVec 58 → Dword → Dword × BitVec 58) (st : BitVec 58) (bs : List Block) :
    (mapBlocks f st bs).1.map (fun b => b.sync) = bs.map (fun b => b.sync) := by
  induction bs generalizing st with
  | nil => rfl
  | cons b bs ih => exact congrArg (b.sync :: ·) (ih _)

/-- The state runs on from one run of blocks to the next. -/
theorem mapBlocks_append (f : BitVec 58 → Dword → Dword × BitVec 58) (st : BitVec 58) (as bs : List Block) :
    mapBlocks f st (as ++ bs) = ((mapBlocks f st as).1 ++ (mapBlocks f (mapBlocks f st as).2 bs).1,
      (mapBlocks f (mapBlocks f st as).2 bs).2) := by
  induction as generalizing st with
  | nil => rfl
  | cons a as ih => simp only [List.cons_append, mapBlocks, ih]

/-- The descrambler that holds the sender's state gives every block back, and follows that state. -/
theorem mapBlocks_descramble_scramble (st : BitVec 58) (bs : List Block) :
    mapBlocks descramble st (mapBlocks scramble st bs).1 = (bs, (mapBlocks scramble st bs).2) := by
  induction bs generalizing st with
  | nil => rfl
  | cons b bs ih => simp only [mapBlocks, descramble_scramble, ih]

/-- Settles O19: the scrambler bit by bit, and the runs of blocks by induction on them. -/
theorem scramblerAndItsInverse : Obligations.ScramblerAndItsInverse := by
  unfold Obligations.ScramblerAndItsInverse
  refine ⟨fun st d i h => ?bit, scramble_state, mapBlocks_sync, mapBlocks_append, mapBlocks_descramble_scramble,
    fun st x w i => getLsbD_descramble_late, fun st x b bs => rfl⟩
  case bit =>
    rw [show 58 + i - 39 = 19 + i by omega, show 58 + i - 58 = i by omega]
    exact getLsbD_scramble h

end Sys2Proof.Machine
end

section
/-! SUPPORT. What telling the outside, counting and sending leave of the links: everything but a link's wake reason,
counters, scramblers, sleeping lanes and owed sets. `SameLinks s₀ s` is stated from a fixed earlier state `s₀`, so the
lemma of each function of the model says how it extends such a chain. -/
namespace Sys2Proof.Machine

variable {s₀ s t : State} {l : LinkNo} {p : PairNo}

theorem upd_self {α : Type} {n : Nat} (v : Vector α n) (i : Fin n) (f : α → α) : (upd v i f)[i] = f v[i] :=
  Vector.getElem_set_self _

/-- The link that an update names. -/
theorem updLink_self (l : LinkNo) (f : Link → Link) (s : State) : (updLink l f s).links[l] = f s.links[l] :=
  upd_self _ _ _

/-- A link that an update does not name. -/
theorem updLink_other {m : LinkNo} (f : Link → Link) (s : State) (h : l ≠ m) : (updLink l f s).links[m] = s.links[m] :=
  Vector.getElem_set_ne l.isLt m.isLt (fun e => h (Fin.ext e))

/-- A link without what counting, sending and noting a wake reason change. -/
def linkCore (k : Link) : Link :=
  { k with
    wakeReason := none, fired := 0
    counters := Vector.replicate 16 0, thresholds := Vector.replicate 16 ⟨0, 0, 0, false⟩
    txScr := Vector.replicate 4 0, txSleep := Vector.replicate 4 none, waking := false, wakeStart := 0, owedSets := [] }

/-- From one state to another the core of every link is the same. -/
def SameLinks (s t : State) : Prop := ∀ l : LinkNo, linkCore t.links[l] = linkCore s.links[l]

namespace SameLinks

theorem refl (s : State) : SameLinks s s := fun _ => rfl

/-- An update that touches no link. -/
theorem same (h : SameLinks s₀ s) (k : t.links = s.links := by rfl) : SameLinks s₀ t := fun l => by rw [k]; exact h l

theorem updLink {f : Link → Link} (h : SameLinks s₀ s) (hf : ∀ k, linkCore (f k) = linkCore k) :
    SameLinks s₀ (updLink l f s) := fun m => (upd_keeps s.links l f linkCore hf m).trans (h m)

theorem ite {c : Prop} [Decidable c] {a b : State} (h : SameLinks s₀ a) (k : SameLinks s₀ b) :
    SameLinks s₀ (if c then a else b) := by
  split
  · exact h
  · exact k

theorem foldl {α : Type} {f : State → α → State} {xs : List α} (h : SameLinks s₀ s)
    (hf : ∀ x u, SameLinks s₀ u → SameLinks s₀ (f u x)) : SameLinks s₀ (xs.foldl f s) := by
  induction xs generalizing s with
  | nil => exact h
  | cons x r ih => exact ih (hf x _ h)

/-! ### Events -/

theorem noteReason {h : HostNo} {code : Byte} (hs : SameLinks s₀ s) : SameLinks s₀ (noteReason h code s) := by
  unfold Machine.noteReason
  split
  · exact hs.updLink (fun k => by split <;> rfl)
  · exact hs

theorem queuePacket {h : HostNo} {tid : Byte} {last : Bool} {b : List Byte} (hs : SameLinks s₀ s) :
    SameLinks s₀ (queuePacket h tid last b s) := hs.same.noteReason

theorem admitHeld {h : HostNo} {tid : Byte} {n : Nat} (hs : SameLinks s₀ s) : SameLinks s₀ (admitHeld h tid n s) := by
  induction n generalizing s with
  | zero => exact hs
  | succ n ih =>
    unfold Machine.admitHeld
    split
    · exact hs
    · split
      · exact hs
      · exact .ite (ih hs.same.queuePacket) hs

theorem sendZero {h : HostNo} {b : List Byte} (hs : SameLinks s₀ s) : SameLinks s₀ (sendZero h b s) := by
  unfold Machine.sendZero
  split
  · exact hs
  · exact hs.same.admitHeld

theorem updateInt (hs : SameLinks s₀ s) : SameLinks s₀ (updateInt s) :=
  .ite hs.same (.ite (.ite hs hs.same) (.ite hs.same hs))

theorem sendInterrupt {m : MbNo} (hs : SameLinks s₀ s) : SameLinks s₀ (sendInterrupt m s) := by
  unfold Machine.sendInterrupt
  split
  · exact hs.noteReason.sendZero.same
  · exact hs

theorem noteAdvance {m : MbNo} (hs : SameLinks s₀ s) : SameLinks s₀ (noteAdvance m s) :=
  .ite hs (.ite hs.same (.ite hs.sendInterrupt hs))

theorem ringEvent {m : MbNo} {ev : Fin 64} {b : Bool} {x : Dword} {a : Word} (hs : SameLinks s₀ s) :
    SameLinks s₀ (ringEvent m ev b x a s) := .ite hs.same.noteAdvance hs.same

theorem deliver {ev : Fin 64} {f b : Bool} {x : Dword} {a : Word} {m : MbNo} (hs : SameLinks s₀ s) :
    SameLinks s₀ (deliver ev f b x a s m) := .updateInt (.ite hs.same.ringEvent hs.same)

theorem relayEvent {sc : Scope} {ev : Fin 64} {a : Word} (hs : SameLinks s₀ s) : SameLinks s₀ (relayEvent sc ev a s) :=
  .ite (.ite hs.same (.ite hs.same hs)) hs

theorem raise {sc : Scope} {ev : Fin 64} {a : Nat} (hs : SameLinks s₀ s) : SameLinks s₀ (raise sc ev a s) :=
  .relayEvent (hs.foldl fun _ _ k => k.deliver)

/-! ### Responses -/

theorem postResponse {m : MbNo} {r : Response} (hs : SameLinks s₀ s) : SameLinks s₀ (postResponse m r s) :=
  .ite (.deliver hs.same.noteAdvance) hs.same

theorem noteStatus {st : Half} (hs : SameLinks s₀ s) : SameLinks s₀ (noteStatus st s) := .ite hs.same hs

theorem respondTo {src : CmdSrc} {seq tag : Half} {fl : BitVec 8} {op st : Half} {i : Bool} {b : List Byte}
    (hs : SameLinks s₀ s) : SameLinks s₀ (respondTo src seq tag fl op st i b s) := by
  unfold Machine.respondTo
  cases src with
  | mailbox m => exact .ite hs.noteStatus.postResponse (.ite hs.noteStatus.same hs.noteStatus.same.postResponse)
  | forwarded r id => exact hs.noteStatus.same
  | mirror r => exact hs.noteStatus

theorem finish {k : PendKind} {st : Half} {b : List Byte} (hs : SameLinks s₀ s) : SameLinks s₀ (finish k st b s) :=
  hs.same.foldl fun _ _ h => h.respondTo

/-! ### Counters and ordered sets -/

theorem linkCount {c : Fin 16} {n : Nat} (hs : SameLinks s₀ s) : SameLinks s₀ (linkCount l c n s) := by
  unfold Machine.linkCount
  split
  · exact hs.updLink fun _ => rfl
  · exact .ite (.raise (.updLink (hs.updLink fun _ => rfl) fun _ => rfl)) (hs.updLink fun _ => rfl)

theorem sendBlocks (bs : List Block) (hs : SameLinks s₀ s) : SameLinks s₀ (sendBlocks l p bs s).2 :=
  hs.updLink fun _ => rfl

theorem sendSetOn {code : Byte} {b : List Byte} (hs : SameLinks s₀ s) : SameLinks s₀ (sendSetOn l p code b s) :=
  (hs.sendBlocks (p := p) (List.replicate (setRun code) (setBlock code b))).same

theorem wakeLane (hs : SameLinks s₀ s) : SameLinks s₀ (wakeLane l p s) := by
  unfold Machine.wakeLane
  dsimp only
  split
  · exact hs
  · exact .ite hs (hs.same.updLink fun _ => rfl)
  · exact .sendSetOn (.linkCount (hs.updLink fun _ => rfl))

theorem sendSet {code : Byte} {b : List Byte} (hs : SameLinks s₀ s) : SameLinks s₀ (sendSet l code b s) :=
  .ite (.wakeLane (hs.updLink fun _ => rfl)) hs.wakeLane.sendSetOn

theorem laneEvent {r : Bool} (hs : SameLinks s₀ s) : SameLinks s₀ (laneEvent l p r s) := by
  unfold Machine.laneEvent
  split
  · exact hs.raise
  · exact hs

theorem linkStateEvent {a b : Fin 10} (hs : SameLinks s₀ s) : SameLinks s₀ (linkStateEvent l a b s) := by
  unfold Machine.linkStateEvent
  split
  · exact hs.raise
  · exact .ite hs.raise (.ite hs.raise hs)

variable (h : SameLinks s t) (l)
include h

theorem state : t.links[l].state = s.links[l].state := (congrArg Link.state (h l) :)
theorem phase : t.links[l].phase = s.links[l].phase := (congrArg Link.phase (h l) :)
theorem exitWait : t.links[l].exitWait = s.links[l].exitWait := (congrArg Link.exitWait (h l) :)
theorem usbTerm : t.links[l].usbTerm = s.links[l].usbTerm := (congrArg Link.usbTerm (h l) :)
theorem lost : t.links[l].lost = s.links[l].lost := (congrArg Link.lost (h l) :)
theorem restoring : t.links[l].restoring = s.links[l].restoring := (congrArg Link.restoring (h l) :)

end SameLinks

/-- A link's new state, and otherwise its core as it was. -/
theorem linkCore_setLinkState (l : LinkNo) (st : Fin 10) (s : State) :
    linkCore (setLinkState l st s).links[l] = linkCore { s.links[l] with state := st } := by
  unfold setLinkState
  split
  case isTrue h => subst h; rfl
  case isFalse h =>
    refine ((SameLinks.refl (updLink l (fun k => { k with state := st }) s)).linkStateEvent l).trans ?_
    rw [updLink_self]

/-! ### A retrain or a wake enters a phase (R105, R108, R136) -/

theorem sendPrbs_links (l : LinkNo) (s : State) : (sendPrbs l s).links = s.links := rfl

/-- A link in a retrain or a wake stays in its state as it enters Training or Bit lock, and sends PRBS31. -/
theorem enterPhase_prbs {ph : Fin 10} (hp : ph = 2 ∨ ph = 3)
    (h : s.links[l].state = 8 ∨ s.links[l].deepWake = true) : enterPhase l ph false s =
    sendPrbs l (updLink l (fun k => { k with phase := ph, reversed := false }) s) := by
  have hk : (decide (s.links[l].state = 8) || s.links[l].deepWake || decide (ph = 6)) = true := by
    rcases h with h | h <;> simp only [h, decide_true, Bool.true_or, Bool.or_true]
  have hq : (decide (ph = 2) || decide (ph = 3)) = true := by
    simpa only [Bool.or_eq_true, decide_eq_true_eq] using hp
  simp only [enterPhase, updLink_self, hk, hq, Bool.false_eq_true, if_true, if_false]

end Sys2Proof.Machine
end

section
/-! SUPPORT. The answers to Structured VDMs, what Enter Mode starts, and when an uplink falls back. -/
namespace Sys2Proof.Machine

variable {s : State} {u : Up} {svid : Half}

/-! ### Discovery (R98) -/

theorem answerVdm_attached {a : Fin 3} {n : Byte} {ws : List Word} (hc : s.links[linkOfUp u].cc ≠ 0) :
    answerVdm u a n ws s = emit (.vdm u a n ws) s := if_neg hc

section Attached
variable (hp : s.power.shell = true) (hc : s.links[linkOfUp u].cc ≠ 0)
include hp hc

theorem exec_vdmDiscoverIdentity : exec (.vdmDiscoverIdentity u) s =
    .next (emit (.vdm u 1 1 [0x3A71, BitVec.ofNat 32 (productId s), 1]) s) :=
  (runShell_on hp).trans (congrArg _ (answerVdm_attached hc))

theorem exec_vdmDiscoverSvids : exec (.vdmDiscoverSvids u) s =
    .next (emit (.vdm u 1 2 (if offersXansa s.links[linkOfUp u] then [0x3A71] else [])) s) :=
  (runShell_on hp).trans (congrArg _ (answerVdm_attached hc))

theorem exec_vdmDiscoverModes : exec (.vdmDiscoverModes u 0x3A71) s = .next (emit (.vdm u 1 3 [modeVdo s]) s) := by
  simp only [exec, execVdmDiscoverModes, runShell_on hp, if_true, answerVdm_attached hc]

theorem exec_vdmDiscoverModes_other (hv : svid ≠ 0x3A71) :
    exec (.vdmDiscoverModes u svid) s = .next (emit (.vdm u 0 3 []) s) := by
  simp only [exec, execVdmDiscoverModes, runShell_on hp, hv, if_false, answerVdm_attached hc]

/-- Enter Mode before READY, outside Run or in the safe state. -/
theorem exec_enterMode_busy (h : dataOn s = false ∨ s.pm.phase ≠ .run ∨ s.ready = false) :
    exec (.enterMode u svid) s = .next (emit (.vdm u 2 4 []) s) := by
  have hr : (dataOn s && decide (s.pm.phase = .run) && s.ready) = false := by
    rcases h with h | h | h <;> simp only [h, decide_false, Bool.false_and, Bool.and_false]
  simp only [exec, execEnterMode, runShell_on hp, hr, Bool.false_eq_true, if_false, answerVdm_attached hc]

end Attached

/-! ### Enter Mode (R99) -/

theorem exec_enterMode (hp : s.power.shell = true) (hd : dataOn s = true) (hr : s.pm.phase = .run)
    (hy : s.ready = true) : exec (.enterMode u svid) s = .next (enterXansa u svid s) := by
  simp only [exec, execEnterMode, runShell_on hp, hd, hr, hy, decide_true, Bool.and_self, if_true]

theorem enterXansa_other (hv : svid ≠ 0x3A71) (hc : s.links[linkOfUp u].cc ≠ 0) :
    enterXansa u svid s = emit (.vdm u 0 4 []) s := by
  simp only [enterXansa, bne_iff_ne.2 hv, Bool.true_or, if_true, answerVdm_attached hc]

/-- What a new bring-up makes of its link. -/
theorem startBringUp_link (l : LinkNo) (s : State) : (startBringUp l s).links[l].state = 1 ∧
    (startBringUp l s).links[l].phase = 1 ∧ (startBringUp l s).links[l].usbTerm = false ∧
    (startBringUp l s).links[l].exitWait = s.links[l].exitWait := by
  have h := linkCore_setLinkState l 1
    (updLink l (fun k => { clearLink k with phase := 1, attempts := 0, usbTerm := false }) s)
  rw [updLink_self] at h
  exact ⟨(congrArg Link.state h :), (congrArg Link.phase h :), (congrArg Link.usbTerm h :),
    (congrArg Link.exitWait h :)⟩

namespace SameLinks
variable {s₀ : State} {l : LinkNo}

theorem emit {e : Emit} (hs : SameLinks s₀ s) : SameLinks s₀ (emit e s) := hs.same

theorem closeTid0 (hs : SameLinks s₀ s) : SameLinks s₀ (closeTid0 u s) := hs.same

theorem endLinkCommands {st : Half} (hs : SameLinks s₀ s) : SameLinks s₀ (endLinkCommands l st s) := by
  unfold Machine.endLinkCommands
  dsimp only
  split
  · exact hs.finish.finish.finish
  · exact hs.finish.finish

theorem settleRole {n : Fin 8} (hs : SameLinks s₀ s) : SameLinks s₀ (settleRole s n) :=
  .ite hs.same (.ite hs (.ite hs.same hs.same))

theorem settleEfuses (hs : SameLinks s₀ s) : SameLinks s₀ (settleEfuses s) := hs.same

theorem settlePorts7 (hs : SameLinks s₀ s) : SameLinks s₀ (settlePorts7 s) :=
  .settleEfuses (hs.foldl fun _ _ k => k.settleRole)

end SameLinks

/-- The USB termination of each uplink, and nothing else of it, follows the presentation (R280). -/
theorem settleTerm_link (u : Up) (s : State) : (settleTerm s).links[linkOfUp u] = { s.links[linkOfUp u] with
    usbTerm := s.links[linkOfUp u].state == 7 && s.usb.presented && hostOnUp s u == s.usb.owner } := by
  simp only [settleTerm, List.foldl_cons, List.foldl_nil]
  match u with
  | 0 => rw [updLink_other _ _ (show linkOfUp 1 ≠ linkOfUp 0 by decide), updLink_self]
  | 1 =>
    rw [updLink_self, updLink_other _ _ (show linkOfUp 0 ≠ linkOfUp 1 by decide)]
    rfl

theorem settleTerm_outside (hs : s.links[linkOfUp u].state ≠ 7) :
    (settleTerm s).links[linkOfUp u] = { s.links[linkOfUp u] with usbTerm := false } := by
  simp only [settleTerm_link, beq_false_of_ne hs, Bool.false_and]

/-- Presenting the hub leaves an uplink outside fall-back as it is, without a USB termination. -/
theorem presentUsb_link (hs : s.links[linkOfUp u].state ≠ 7) :
    (presentUsb s).links[linkOfUp u].state = s.links[linkOfUp u].state ∧
    (presentUsb s).links[linkOfUp u].phase = s.links[linkOfUp u].phase ∧
    (presentUsb s).links[linkOfUp u].usbTerm = false ∧
    (presentUsb s).links[linkOfUp u].exitWait = s.links[linkOfUp u].exitWait := by
  obtain ⟨x, hx, hp⟩ : ∃ x : State, x.links = s.links ∧ SameLinks (settleTerm x) (presentUsb s) := by
    refine ⟨_, ?_, .ite (SameLinks.refl _).settlePorts7.finish (SameLinks.refl _).settlePorts7⟩
    rfl
  rw [hp.state, hp.phase, hp.usbTerm, hp.exitWait, settleTerm_outside (by rw [hx]; exact hs), hx]
  exact ⟨rfl, rfl, rfl, rfl⟩

/-- The uplink as its old link has ended and ACK has gone out. -/
def modeAcked (u : Up) (s : State) : State :=
  emit (.vdm u 1 4 []) (finish (.retrainFull (linkOfUp u)) stNoResource [] (endLinkCommands (linkOfUp u) stNoResource
    (closeTid0 u (updLink (linkOfUp u) (fun k => { k with usbTerm := false, exitWait := false }) s))))

theorem modeAcked_exitWait (u : Up) (s : State) : (modeAcked u s).links[linkOfUp u].exitWait = false := by
  have h : SameLinks (updLink (linkOfUp u) (fun k => { k with usbTerm := false, exitWait := false }) s)
      (modeAcked u s) := (SameLinks.refl _).closeTid0.endLinkCommands.finish.emit
  rw [h.exitWait, updLink_self]

/-- Enter Mode accepted starts bring-up; the hub is presented anew where the uplink's host owns it. -/
theorem enterXansa_accepted (hc : s.power.pd[u].contract.isSome = true) (ho : offersXansa s.links[linkOfUp u] = true)
    (hp : s.pm.setting[(⟨u.val, by omega⟩ : Island)] ≠ 1) : enterXansa u 0x3A71 s =
    if (startBringUp (linkOfUp u) (modeAcked u s)).usb.owner = hostOnUp (startBringUp (linkOfUp u) (modeAcked u s)) u
    then presentUsb (startBringUp (linkOfUp u) (modeAcked u s)) else startBringUp (linkOfUp u) (modeAcked u s) := by
  have hn : s.power.pd[u].contract.isNone = false := by rw [← Option.not_isSome, hc]; rfl
  simp only [enterXansa, hn, ho, beq_false_of_ne hp, bne_self_eq_false, Bool.not_true, Bool.or_self, Bool.false_eq_true,
    if_false]
  rfl

/-- A link that enters the mode begins at Detect, with no USB termination and no wait for Exit Mode. -/
theorem enterXansa_link (hc : s.power.pd[u].contract.isSome = true) (ho : offersXansa s.links[linkOfUp u] = true)
    (hp : s.pm.setting[(⟨u.val, by omega⟩ : Island)] ≠ 1) : (enterXansa u 0x3A71 s).links[linkOfUp u].state = 1 ∧
    (enterXansa u 0x3A71 s).links[linkOfUp u].phase = 1 ∧ (enterXansa u 0x3A71 s).links[linkOfUp u].usbTerm = false ∧
    (enterXansa u 0x3A71 s).links[linkOfUp u].exitWait = false := by
  obtain ⟨hs, hph, ht, hw⟩ := startBringUp_link (linkOfUp u) (modeAcked u s)
  rw [modeAcked_exitWait] at hw
  rw [enterXansa_accepted hc ho hp]
  split
  case isTrue =>
    obtain ⟨ks, kp, kt, kw⟩ := presentUsb_link (u := u) (s := startBringUp (linkOfUp u) (modeAcked u s))
      (by rw [hs]; decide)
    exact ⟨ks.trans hs, kp.trans hph, kt, kw.trans hw⟩
  case isFalse => exact ⟨hs, hph, ht, hw⟩

/-! ### Exit Mode and falling back (R101, R102) -/

theorem exec_exitMode (hp : s.power.shell = true) (hs : s.links[linkOfUp u].state ≠ 0)
    (hc : s.links[linkOfUp u].cc ≠ 0) : exec (.exitMode u) s =
    .next (updLink (linkOfUp u) (fun k => { k with exitWait := false })
      (finish (.retrainFull (linkOfUp u)) stNoResource [] (fallBackOrOwe u (emit (.vdm u 1 5 []) s)))) := by
  simp only [exec, execExitMode, runShell_on hp, hs, if_false, answerVdm_attached hc]

theorem exec_exitMode_off (hp : s.power.shell = true) (hs : s.links[linkOfUp u].state = 0)
    (hc : s.links[linkOfUp u].cc ≠ 0) : exec (.exitMode u) s = .next (emit (.vdm u 0 5 []) s) := by
  simp only [exec, execExitMode, runShell_on hp, hs, if_true, answerVdm_attached hc]

theorem fallBackOrOwe_now (hd : dataOn s = true) (hr : s.pm.phase = .run) : fallBackOrOwe u s = fallBack u s := by
  simp only [fallBackOrOwe, linksMove, hd, hr, beq_self_eq_true, Bool.and_self, if_true]

theorem fallBackOrOwe_later (h : dataOn s = false ∨ s.pm.phase ≠ .run) :
    fallBackOrOwe u s = updLink (linkOfUp u) (fun k => { k with due := 1 }) s := by
  have hm : linksMove s = false := by
    rcases h with h | h
    · simp only [linksMove, h, Bool.false_and]
    · simp only [linksMove, beq_false_of_ne h, Bool.and_false]
  simp only [fallBackOrOwe, hm, Bool.false_eq_true, if_false]

theorem exec_noContractTimeout (hd : dataOn s = true) (hs : s.links[linkOfUp u].state = 0)
    (hc : s.power.pd[u].contract = none) : exec (.noContractTimeout u) s = .next (fallBack u s) := by
  simp only [exec, execNoContractTimeout, runCore_on hd, hs, hc, Option.isNone_none, decide_true, Bool.and_self,
    if_true]

theorem exec_noEnterModeTimeout (hd : dataOn s = true) (hs : s.links[linkOfUp u].state = 0)
    (hc : s.power.pd[u].contract.isSome = true) : exec (.noEnterModeTimeout u) s = .next (fallBack u s) := by
  simp only [exec, execNoEnterModeTimeout, runCore_on hd, hs, hc, decide_true, Bool.and_self, if_true]

theorem exec_exitModeWaitTimeout (hd : dataOn s = true) (hw : s.links[linkOfUp u].exitWait = true) :
    exec (.exitModeWaitTimeout u) s = .next (hardReset u true s) := by
  simp only [exec, execExitModeWaitTimeout, runCore_on hd, hw, if_true]

/-- Settles O17: each clause by the lemma of its case. -/
theorem xansaModeEntry : Obligations.XansaModeEntry := by
  unfold Obligations.XansaModeEntry
  refine ⟨fun s u hp hc => ⟨exec_vdmDiscoverIdentity hp hc, exec_vdmDiscoverSvids hp hc, exec_vdmDiscoverModes hp hc,
      fun svid hv => ⟨exec_vdmDiscoverModes_other hp hc hv, fun hd hr hy => ?otherSvid⟩,
      fun svid => exec_enterMode_busy hp hc⟩,
    fun s u hp hd hr hy hc ho hk => ⟨_, exec_enterMode hp hd hr hy, enterXansa_link hc ho hk⟩,
    fun s u => exec_exitMode, fun s u => exec_exitMode_off, fun s u => ⟨fallBackOrOwe_now, fallBackOrOwe_later⟩,
    fun s u hd hs => ⟨exec_noContractTimeout hd hs, exec_noEnterModeTimeout hd hs⟩, fun s u => exec_exitModeWaitTimeout⟩
  case otherSvid => rw [exec_enterMode hp hd hr hy, enterXansa_other hv hc]

end Sys2Proof.Machine
end

section
/-! SUPPORT. Frames on a link: the blocks kept of what a lane receives, a whole frame among them, NAKs, the replay timer
and what goes out. -/
namespace Sys2Proof.Machine

variable {s : State} {l : LinkNo} {p : PairNo} {b : Dword}

/-! ### Blocks received (R110 to R112, R115) -/

/-- A kept block is a data block, or a control block of a type that stands in Table 3.7. -/
theorem blockKept_iff (b : Block) :
    blockKept b = true ↔ b.sync = 2 ∨ (b.sync = 1 ∧ b.word.toNat % 256 ∈ [0x78, 0x87, 0x4B, 0x2D, 0x1E]) := by
  simp only [blockKept, knownBlock, blockType, Bool.or_eq_true, Bool.and_eq_true, beq_iff_eq, List.contains_iff_mem]

/-- A lane of an Active link that the hub receives on: its blocks are taken, and their frame is received. -/
theorem exec_linkFrameReceive (bs : List Block) (hd : dataOn s = true) (ha : s.links[l].state = 6)
    (hp : p ∈ receiveLanes l s.links[l]) : exec (.linkFrameReceive l p bs) s =
    .next (receiveFrame l p (takeBlocks l p bs s).1 (takeBlocks l p bs s).2) := by
  simp only [exec, execLinkFrameReceive, runCore_on hd, ha, List.contains_iff_mem.2 hp, Bool.true_or, decide_true,
    Bool.and_self, if_true]

/-- Eight bytes are the bytes of the number they lay out (R15). -/
theorem leBytes_leNat (xs : List Byte) : leBytes xs.length (leNat xs) = xs := by
  induction xs with
  | nil => rfl
  | cons x r ih =>
    have hx : (x.toNat + 256 * leNat r) / 256 = leNat r := by have := x.isLt; omega
    have hm : BitVec.ofNat 8 (x.toNat + 256 * leNat r) = x := BitVec.eq_of_toNat_eq (by
      have := x.isLt
      rw [BitVec.toNat_ofNat]
      omega)
    simp only [List.length_cons, leNat, leBytes, hx, hm, ih]

theorem leNat_lt (xs : List Byte) : leNat xs < 256 ^ xs.length := by
  induction xs with
  | nil => exact Nat.one_pos
  | cons x r ih =>
    have := x.isLt
    simp only [leNat, List.length_cons, Nat.pow_succ]
    omega

/-- The bytes of a list in groups of eight are its bytes in order. -/
theorem flatMap_chunks (n : Nat) (xs : List Byte) :
    (List.range n).flatMap (fun i => (xs.drop (8 * i)).take 8) = xs.take (8 * n) := by
  induction n with
  | zero => rfl
  | succ n ih =>
    rw [List.range_succ, List.flatMap_append, ih, List.flatMap_singleton, Nat.mul_succ, List.take_add]

/-- A block carries eight bytes as they are. -/
theorem leBytes_dataBlock {xs : List Byte} (h : xs.length = 8) :
    leBytes 8 (dataBlock (BitVec.ofNat 64 (leNat xs))).word.toNat = xs := by
  have hlt : leNat xs < 2 ^ 64 := by have := leNat_lt xs; rwa [h] at this
  have hx := leBytes_leNat xs
  rw [h] at hx
  rw [dataBlock, BitVec.toNat_ofNat, Nat.mod_eq_of_lt hlt, hx]

/-- The data blocks of a frame. -/
def payloadBlocks (f : RawFrame) : List Block :=
  (List.range 62).map (fun i => dataBlock (BitVec.ofNat 64 (leNat ((f.payload.drop (8 * i)).take 8))))

theorem frameBlocks_eq (f : RawFrame) :
    frameBlocks f = controlBlock f.hdr :: (payloadBlocks f ++ [controlBlock f.trl]) := rfl

theorem payloadBlocks_length (f : RawFrame) : (payloadBlocks f).length = 62 := by
  rw [payloadBlocks, List.length_map, List.length_range]

theorem payloadBlocks_data (f : RawFrame) : (payloadBlocks f).all (fun b => b.sync == 2) = true := by
  refine List.all_eq_true.2 fun b hb => ?_
  obtain ⟨i, -, rfl⟩ := List.mem_map.1 hb
  rfl

/-- The data blocks of a frame carry its payload. -/
theorem payloadBlocks_bytes {f : RawFrame} (h : f.payload.length = 496) :
    (payloadBlocks f).flatMap (fun b => leBytes 8 b.word.toNat) = f.payload := by
  have hchunks : (payloadBlocks f).map (fun b => leBytes 8 b.word.toNat) =
      (List.range 62).map (fun i => (f.payload.drop (8 * i)).take 8) := by
    rw [payloadBlocks, List.map_map]
    refine List.map_congr_left fun i hi => leBytes_dataBlock ?_
    have := List.mem_range.1 hi
    rw [List.length_take, List.length_drop]
    omega
  rw [List.flatMap_def, hchunks, ← List.flatMap_def, flatMap_chunks, List.take_of_length_le (by omega)]

/-- The frame among its own 64 blocks. -/
theorem frameIn_frameBlocks {f : RawFrame} (hl : f.payload.length = 496) (hh : f.hdr.toNat % 256 = 0x78)
    (ht : f.trl.toNat % 256 = 0x87) : frameIn (frameBlocks f) = some f := by
  have hhdr : (frameBlocks f).dropWhile (fun b => b.sync == 2 || blockType b.word != 0x78) = frameBlocks f :=
    List.dropWhile_cons_of_neg (by
      show ¬ ((1 : BitVec 2) == 2 || blockType f.hdr != 0x78) = true
      rw [show blockType f.hdr = 0x78 from hh]
      decide)
  have htake : (payloadBlocks f ++ [controlBlock f.trl]).take 62 = payloadBlocks f :=
    List.take_left' (payloadBlocks_length f)
  have hdrop : (payloadBlocks f ++ [controlBlock f.trl]).drop 62 = [controlBlock f.trl] :=
    List.drop_left' (payloadBlocks_length f)
  have htrl : blockType (controlBlock f.trl).word = 0x87 := ht
  rw [frameIn, hhdr, frameBlocks_eq]
  simp only [htake, hdrop, payloadBlocks_data, payloadBlocks_bytes hl, htrl]
  rfl

/-- The blocks of a frame are received as that frame. -/
theorem receiveFrame_frameBlocks {f : RawFrame} (hl : f.payload.length = 496) (hh : f.hdr.toNat % 256 = 0x78)
    (ht : f.trl.toNat % 256 = 0x87) :
    receiveFrame l p (frameBlocks f) s = if frameGood f then goodFrame l p f s else badFrame l p s := by
  simp only [receiveFrame, frameIn_frameBlocks hl hh ht]

/-! ### NAKs and the replay timer (R112, R124, R125) -/

theorem exec_nakReceived_unknown (hd : dataOn s = true) (ha : s.links[l].state = 6) (hb : knownBlock b = false) :
    exec (.nakReceived l b) s = .next (linkCount l 1 1 s) := by
  simp only [exec, execNakReceived, runCore_on hd, ha, hb, bne_self_eq_false, Bool.not_false,
    Bool.false_eq_true, if_true, if_false]

/-- The first byte of a block is its type. -/
theorem blockByte_zero (b : Dword) : blockByte b 0 = blockType b := by
  show b.toNat / 1 % 256 = b.toNat % 256
  rw [Nat.div_one]

theorem exec_nakReceived (hd : dataOn s = true) (ha : s.links[l].state = 6) (hb : blockByte b 0 = 0x2D)
    (hc : b.extractLsb' 32 16 = ~~~ (b.extractLsb' 8 16)) : exec (.nakReceived l b) s = .next (updLink l (fun k =>
      if k.retry.any (fun r => r.frame.seq == b.extractLsb' 8 12) && !k.replayQ.contains (b.extractLsb' 8 12)
      then { k with replayQ := k.replayQ ++ [b.extractLsb' 8 12] } else k) (linkCount l 4 1 s)) := by
  have hk : knownBlock b = true := by rw [knownBlock, ← blockByte_zero, hb]; rfl
  simp only [exec, execNakReceived, runCore_on hd, ha, hb, hk, hc, bne_self_eq_false, Bool.not_true, Bool.or_self,
    Bool.false_eq_true, if_false]

/-- A NAK whose check fails is ignored. -/
theorem exec_nakReceived_bad (hd : dataOn s = true) (hb : knownBlock b = true)
    (hc : b.extractLsb' 32 16 ≠ ~~~ (b.extractLsb' 8 16)) : exec (.nakReceived l b) s = .next s := by
  simp only [exec, execNakReceived, runCore_on hd, hb, bne_iff_ne.2 hc, Bool.or_true, Bool.not_true, Bool.false_eq_true,
    if_true, if_false, ite_self]

theorem exec_replayTimeout (hd : dataOn s = true) (ha : s.links[l].state = 6) (hr : s.links[l].retry ≠ []) :
    exec (.replayTimeout l) s =
      .next (linkCount l 6 1 (updLink l (fun k => { k with replayQ := k.retry.map (fun r => r.frame.seq) }) s)) := by
  simp only [exec, execReplayTimeout, runCore_on hd, ha, List.isEmpty_eq_false_iff.2 hr, decide_true, Bool.not_false,
    Bool.and_self, if_true]

/-! ### Frames sent (R120, R125) -/

theorem exec_linkFrameSend (hd : dataOn s = true) (ha : s.links[l].state = 6) (hp : p ∈ sendLanes l s.links[l])
    (hs : s.links[l].txSleep[p] = none) : exec (.linkFrameSend l p) s = .next (sendFrame l p s) := by
  simp only [exec, execLinkFrameSend, runCore_on hd, ha, List.contains_iff_mem.2 hp, hs, Option.isNone_none,
    decide_true, Bool.and_self, if_true]

/-- A replay that waits goes first. -/
theorem sendFrame_replay {q : BitVec 12} {qs : List (BitVec 12)} (h : s.links[l].replayQ = q :: qs) :
    sendFrame l p s = sendReplay l p q s := by
  simp only [sendFrame, h]

/-- Settles O20: each clause by the lemma of its case. -/
theorem linkFrames : Obligations.LinkFrames := by
  unfold Obligations.LinkFrames
  refine ⟨fun s l p bs => exec_linkFrameReceive bs, fun s l p bs n hn => ?taken, blockKept_iff,
    fun s l p f => receiveFrame_frameBlocks, fun s l b => exec_nakReceived_unknown, fun s l b => exec_nakReceived,
    fun s l b => exec_nakReceived_bad, fun s l => exec_replayTimeout, fun s l p => exec_linkFrameSend,
    fun s l p q qs => sendFrame_replay⟩
  case taken =>
    subst hn
    exact ⟨rfl, rfl⟩

end Sys2Proof.Machine
end

section
/-! SUPPORT. How a bring-up or a retrain goes on, fails and begins again, and LINK_RETRAIN by its option. -/
namespace Sys2Proof.Machine

variable {s : State} {l : LinkNo} {m : BitVec 4} {b : Dword} {c : Cmd} {u : Up}

/-! ### The states of a bring-up (R104 to R107) -/

section State
variable (hd : dataOn s = true) (hb : bringingUp s.links[l] = true)
include hd hb

theorem exec_bringupStateExit (hp : s.links[l].phase ≠ 5) (hm : stateMet l s.links[l] m = true) :
    exec (.bringupStateExit l m) s = .next (nextPhase l m s) := by
  simp only [exec, execBringupStateExit, runCore_on hd, hb, hp, hm, decide_false, Bool.not_true, Bool.false_and,
    Bool.or_self, Bool.or_true, Bool.false_eq_true, if_false, if_true]

/-- The lanes that met the condition go on. -/
theorem exec_bringupStateTimeout_met (h5 : s.links[l].phase ≠ 5) (h6 : s.links[l].phase ≠ 6)
    (hm : stateMet l s.links[l] m = true) : exec (.bringupStateTimeout l m) s = .next (nextPhase l m s) := by
  simp only [exec, execBringupStateTimeout, runCore_on hd, hb, h5, h6, hm, decide_false, Bool.not_true, Bool.false_and,
    Bool.or_self, Bool.false_eq_true, if_false, ite_self]

/-- The Active state times out only without a good frame. -/
theorem exec_bringupStateTimeout_active (hr : s.links[l].reversed = false) (h6 : s.links[l].phase = 6) :
    exec (.bringupStateTimeout l m) s = .next (failAttempt l s) := by
  simp only [exec, execBringupStateTimeout, runCore_on hd, hb, hr, h6, decide_true, Bool.not_true, Bool.true_or,
    Bool.false_eq_true, if_false, if_true]

theorem exec_bringupStateTimeout_unmet (hr : s.links[l].reversed = false) (hm : stateMet l s.links[l] m = false) :
    exec (.bringupStateTimeout l m) s = .next (failAttempt l s) := by
  simp only [exec, execBringupStateTimeout, runCore_on hd, hb, hr, hm, Bool.not_true, Bool.not_false, Bool.or_true,
    Bool.false_eq_true, if_false, if_true]

/-! ### Capability (R112, R114) -/

theorem exec_capReceived_unknown (hp : s.links[l].phase = 5) (hk : knownBlock b = false) :
    exec (.capReceived l b) s = .next (linkCount l 1 1 s) := by
  simp only [exec, execCapReceived, runCore_on hd, hb, hp, hk, bne_self_eq_false, Bool.not_true, Bool.not_false,
    Bool.or_self, Bool.false_eq_true, if_false, if_true]

/-- A CAP is recorded, or it fails the attempt. -/
theorem exec_capReceived (hp : s.links[l].phase = 5) (h0 : blockByte b 0 = 0x4B) (h1 : blockByte b 1 = 0x10) :
    exec (.capReceived l b) s = .next (if capAccepted s l b then updLink l (fun k => { k with
      cap := some ⟨(blockByte b 3).testBit 6, BitVec.ofNat 5 (blockByte b 3), BitVec.ofNat 3 (blockByte b 4),
        BitVec.ofNat 3 (blockByte b 4 / 8), BitVec.ofNat 8 (blockByte b 5)⟩ }) s else failAttempt l s) := by
  have hk : knownBlock b = true := by rw [knownBlock, ← blockByte_zero, h0]; rfl
  simp only [exec, execCapReceived, runCore_on hd, hb, hp, hk, h0, h1, bne_self_eq_false, Bool.not_true, Bool.or_self,
    Bool.false_eq_true, if_false]

end State

/-! ### Failed attempts (R106, R108) -/

theorem exec_bringupRetryWait (hd : dataOn s = true) (hw : s.links[l].retryWait = true) :
    exec (.bringupRetryWait l) s = .next (nextAttempt l s) := by
  simp only [exec, execBringupRetryWait, runCore_on hd, hw, if_true]

/-- A link that has failed an attempt and waits in Detect for the next. -/
def waitInDetect (l : LinkNo) (s : State) : State :=
  updLink l (fun k => { clearLink k with phase := 1, retryWait := true }) (setLinkState l 1 s)

theorem waitInDetect_link (l : LinkNo) (s : State) : (waitInDetect l s).links[l].state = 1 ∧
    (waitInDetect l s).links[l].retryWait = true ∧ (waitInDetect l s).links[l].attempts = s.links[l].attempts := by
  have h := linkCore_setLinkState l 1 s
  rw [waitInDetect, updLink_self]
  exact ⟨(congrArg Link.state h :), rfl, (congrArg Link.attempts h :)⟩

/-- A failed attempt counted. -/
def countAttempt (l : LinkNo) (s : State) : State :=
  updLink l (fun k => { k with attempts := k.attempts + 1, failed := k.failed + 1 }) s

theorem countAttempt_attempts (l : LinkNo) (s : State) :
    (countAttempt l s).links[l].attempts = s.links[l].attempts + 1 := by
  rw [countAttempt, updLink_self]

/-- A failed attempt of a bring-up, below the third on an uplink, is counted and the link waits in Detect; an uplink's
tunnel 0 ends with it. -/
theorem failAttempt_bringUp (hs : s.links[l].state ≠ 8) (hr : s.links[l].retraining = false)
    (hw : s.links[l].deepWake = false) (hf : s.links[l].fromDeep = 0)
    (ha : upOfLink l = none ∨ s.links[l].attempts < 2) :
    ∃ x : State, x.links = (countAttempt l s).links ∧ failAttempt l s = waitInDetect l x := by
  have hk : (decide (s.links[l].state = 8) || s.links[l].retraining) = false := by
    simp only [hs, hr, decide_false, Bool.or_self]
  have hd : (s.links[l].deepWake || s.links[l].fromDeep != 0) = false := by rw [hw, hf]; rfl
  cases hu : upOfLink l with
  | none =>
    refine ⟨countAttempt l s, rfl, ?_⟩
    simp only [failAttempt, hk, hd, hu, Bool.false_eq_true, if_false]
    rfl
  | some u =>
    have h3 : ¬ 3 ≤ (countAttempt l s).links[l].attempts := by
      rcases ha with ha | ha
      · rw [ha] at hu
        cases hu
      · rw [countAttempt_attempts]
        omega
    refine ⟨closeTid0 u (countAttempt l s), rfl, ?_⟩
    simp only [failAttempt, hk, hd, hu, Bool.false_eq_true, if_false]
    exact if_neg h3

theorem setLinkState_same {st : Fin 10} (h : s.links[l].state = st) : setLinkState l st s = s := if_pos h

/-- A failed retrain starts again at Training. -/
theorem failAttempt_retrain (hs : s.links[l].state = 8) : failAttempt l s =
    sendPrbs l (updLink l (fun k => { k with phase := 2, reversed := false })
      (updLink l (fun k => { k with leftOut := 0, cap := none, retraining := false, resend := true }) s)) := by
  rw [failAttempt, if_pos (by rw [hs]; rfl), setLinkState_same hs,
    enterPhase_prbs (.inl rfl) (.inl (by rw [updLink_self]; exact hs))]

/-! ### Retrains (R108, R109) -/

theorem exec_retrainReceived (hd : dataOn s = true) :
    exec (.retrainReceived l) s = .next (startRetrain l false s) := runCore_on hd

theorem exec_retrainTimeout_uplink (hd : dataOn s = true) (hs : s.links[l].state = 8) (hu : upOfLink l = some u) :
    exec (.retrainTimeout l) s = .next (loseAttached u s) := by
  simp only [exec, execRetrainTimeout, runCore_on hd, hs, hu, bne_self_eq_false, Bool.false_eq_true, if_false]

theorem exec_retrainTimeout_bond (hd : dataOn s = true) (hs : s.links[(2 : LinkNo)].state = 8) :
    exec (.retrainTimeout 2) s = .next (startBringUp 2 s) := by
  have hu : upOfLink 2 = none := rfl
  simp only [exec, execRetrainTimeout, runCore_on hd, hs, hu, bne_self_eq_false, Bool.false_eq_true, if_false]

/-! ### LINK_RETRAIN (R542) -/

/-- A Link command for an uplink acts on it. -/
theorem onUplink_of_code {op : Half} {f : Up → Cmd → State → State} (h : linkCode c = u.val) :
    onUplink op f c s = f u c s := by
  unfold onUplink
  rw [h]
  match u with
  | 0 => rfl
  | 1 => rfl

theorem retrainOp_pending (hb : retrainBusy s u true = false) (h0 : s.links[linkOfUp u].state ≠ 0)
    (h7 : s.links[linkOfUp u].state ≠ 7) (hm : mayPend s c = true) : retrainOp u c s = startRetrain (linkOfUp u) true
      (clearLimit (linkOfUp u) (holdPending 0x0203 c (.retrain (linkOfUp u)) s)) := by
  simp only [retrainOp, hb, h0, h7, decide_false, Bool.or_self, Bool.false_eq_true, if_false, startPending_held hm]

theorem retrainFullOp_pending (hb : retrainBusy s u false = false) (h0 : s.links[linkOfUp u].state ≠ 0)
    (h7 : s.links[linkOfUp u].state ≠ 7) (hm : mayPend s c = true) : retrainFullOp u c s = startBringUp (linkOfUp u)
      (closeTid0 u (updLink (linkOfUp u) (fun k => { k with suppressed := false })
        (clearLimit (linkOfUp u) (holdPending 0x0203 c (.retrainFull (linkOfUp u)) s)))) := by
  simp only [retrainFullOp, hb, h0, h7, decide_false, Bool.or_self, Bool.false_eq_true, if_false, startPending_held hm]

theorem retrainLanesOp_none (hb : retrainBusy s u false = false) (hl : s.links[linkOfUp u].lost = 0) :
    retrainLanesOp u c s = ok 0x0203 c [] (clearLimit (linkOfUp u) s) := by
  simp only [retrainLanesOp, hb, hl, Bool.false_eq_true, if_false, if_true]

theorem retrainLanesOp_pending (hb : retrainBusy s u false = false) (hl : s.links[linkOfUp u].lost ≠ 0)
    (hm : mayPend s c = true) : retrainLanesOp u c s = tryLanes (linkOfUp u)
      (clearLimit (linkOfUp u) (holdPending 0x0203 c (.retrainLanes (linkOfUp u)) s)) := by
  simp only [retrainLanesOp, hb, hl, Bool.false_eq_true, if_false, startPending_held hm]

/-- An accepted LINK_RETRAIN whose payload names an option has that option's effect on the uplink it names. -/
theorem exec_linkRetrain {n : Nat} {f : Up → Cmd → State → State} {g : State → State}
    (h : accepted linkRetrainSpec c s = true) (hu : linkCode c = u.val) (hp : retrainOption n c = true)
    (hg : f u c (fresh s) = g (fresh s)) :
    (.next (runCmd linkRetrainSpec (onlyWhen (retrainOption n) 0x0203 (onUplink 0x0203 f)) c s) : Answer) =
      carried linkRetrainSpec c g s := by
  refine (runCmd_accepted _ h).trans (carried_congr ?_)
  rw [onlyWhen_named hp, onUplink_of_code hu, hg]

theorem retrainOption_of_payload {n : Byte} (h : c.payload = [n, 0, 0, 0]) : retrainOption n.toNat c = true := by
  have hb : byteAt [n, 0, 0, 0] 0 = n.toNat := rfl
  have hz : zeroAt [n, 0, 0, 0] 1 3 = true := rfl
  rw [retrainOption, h, hb, hz, beq_self_eq_true, Bool.and_self]

/-- Settles O18: each clause by the lemma of its case. -/
theorem bringUpAndRetrain : Obligations.BringUpAndRetrain := by
  unfold Obligations.BringUpAndRetrain
  refine ⟨fun s l m => exec_bringupStateExit, fun s l m => exec_bringupStateTimeout_met,
    fun s l m => exec_bringupStateTimeout_active, fun s l m => exec_bringupStateTimeout_unmet,
    fun s l => exec_bringupRetryWait, fun s l _ h5 hr hw hf ha => ?failed,
    fun s l hs => ?retrain, fun s l b => exec_capReceived_unknown, fun s l b hd hb hp h0 h1 => ?cap,
    fun c s u h hu hp hb h0 h7 hm => ?option0, fun c s u h hu hp hb h0 h7 hm => ?option1,
    fun c s u h hu hp hb hl => ?option2None, fun c s u h hu hp hb hl hm => ?option2, fun s l => exec_retrainReceived,
    fun s l u => exec_retrainTimeout_uplink, fun s => exec_retrainTimeout_bond⟩
  case failed =>
    have hs : s.links[l].state ≠ 8 := fun h => absurd (h ▸ h5) (by decide)
    obtain ⟨x, hx, hk⟩ := failAttempt_bringUp hs hr hw hf ha
    rw [hk, ← countAttempt_attempts, ← hx]
    exact waitInDetect_link l x
  case retrain =>
    rw [failAttempt_retrain hs, sendPrbs_links, updLink_self, updLink_self]
    exact ⟨hs, rfl, rfl, rfl, rfl, rfl⟩
  case cap =>
    rw [exec_capReceived hd hb hp h0 h1]
    exact ⟨fun h => by rw [if_pos h], fun h => by rw [h, if_neg Bool.false_ne_true]⟩
  case option0 =>
    exact exec_linkRetrain h hu (retrainOption_of_payload hp) (retrainOp_pending (s := fresh s) hb h0 h7 hm)
  case option1 =>
    exact exec_linkRetrain h hu (retrainOption_of_payload hp) (retrainFullOp_pending (s := fresh s) hb h0 h7 hm)
  case option2None =>
    exact exec_linkRetrain h hu (retrainOption_of_payload hp) (retrainLanesOp_none (s := fresh s) hb hl)
  case option2 =>
    exact exec_linkRetrain h hu (retrainOption_of_payload hp) (retrainLanesOp_pending (s := fresh s) hb hl hm)

end Sys2Proof.Machine
end

section
/-! SUPPORT. Lanes lost, retried and restored, a saturated tap, and the end of a counter's window. -/
namespace Sys2Proof.Machine

variable {s : State} {l : LinkNo} {p : PairNo}

/-! ### Losses (R144) -/

theorem exec_laneLost (hd : dataOn s = true) (ha : s.links[l].state = 6) : exec (.laneLost l p false) s =
    .next (if s.links[l].restoring.getLsbD p.val then retryFails l p s else laneFails l p s) := by
  simp only [exec, execLaneLost, runCore_on hd, ha, bne_self_eq_false, Bool.false_and, Bool.false_eq_true, if_false]

theorem exec_laneDownReceived (a b d : BitVec 4) (hd : dataOn s = true) (ha : s.links[l].state = 6) :
    exec (.laneDownReceived l a b d) s = .next (allPairs.foldl (laneDown l a b d) s) := by
  simp only [exec, execLaneDownReceived, runCore_on hd, ha, if_true]

/-! ### Retries and restorations (R147, R542) -/

/-- A lane that is lost and not limited is retried while the link carries tunnels. -/
theorem exec_laneRestoreAttempt (hd : dataOn s = true) (hr : s.links[l].restoring.getLsbD p.val = false)
    (hl : s.links[l].lost.getLsbD p.val = true) (hn : s.links[l].noRestore.getLsbD p.val = false)
    (hc : carries s.links[l] = true) : exec (.laneRestoreAttempt l p) s = .next (tryLane l p s) := by
  simp only [exec, execLaneRestoreAttempt, runCore_on hd, hr, hl, hn, hc, Bool.not_false, Bool.and_self,
    Bool.false_eq_true, if_true, if_false]

/-- A retry marks the lane as being retried. -/
theorem tryLane_restoring (l : LinkNo) (p : PairNo) (s : State) :
    (tryLane l p s).links[l].restoring = setBit s.links[l].restoring p.val true := by
  have hm : SameLinks (updLink l (fun k => { k with restoring := setBit k.restoring p.val true }) s) (tryLane l p s) :=
    .ite (.sendSetOn (SameLinks.refl _).same) (.refl _)
  rw [hm.restoring, updLink_self]

/-- A cleared bit of a map reads as 0. -/
theorem getLsbD_setBit_false {w : Nat} (v : BitVec w) (k : Nat) : (setBit v k false).getLsbD k = false := by
  simp only [setBit, Bool.false_eq_true, if_false, BitVec.getLsbD_and, BitVec.getLsbD_not, BitVec.getLsbD_ofNat,
    Nat.testBit_two_pow_self, Bool.and_true, Bool.and_not_self, Bool.and_false]

/-- A restored lane is lost no longer. -/
theorem restoreLane_lost (l : LinkNo) (p : PairNo) (s : State) :
    (restoreLane l p s).links[l].lost.getLsbD p.val = false := by
  have hm : SameLinks (rejoinLane l p s) (restoreLane l p s) := (SameLinks.refl _).sendSet
  have hr : SameLinks (updLink l (fun k => { k with
      lost := setBit k.lost p.val false, restoring := setBit k.restoring p.val false
      neither := setBit k.neither p.val false, laneSeq := k.laneSeq.set p none }) s) (rejoinLane l p s) :=
    (SameLinks.refl _).linkCount.laneEvent
  rw [hm.lost, hr.lost, updLink_self, getLsbD_setBit_false]

/-- A retried lane that carries again is restored; LINK_RETRAIN option 2 completes with the last. -/
theorem exec_laneRestored (hd : dataOn s = true) (hl : s.links[l].lost.getLsbD p.val = true)
    (hr : s.links[l].restoring.getLsbD p.val = true) : exec (.laneRestored l p) s =
    .next (if (adaptFrom l p (restoreLane l p s)).links[l].restoring = 0
      then finish (.retrainLanes l) stOk [] (adaptFrom l p (restoreLane l p s))
      else adaptFrom l p (restoreLane l p s)) := by
  simp only [exec, execLaneRestored, runCore_on hd, hl, hr, Bool.and_self, if_true]

/-- A lane that is not being retried stays as it is. -/
theorem exec_laneRestored_idle (hd : dataOn s = true) (hr : s.links[l].restoring.getLsbD p.val = false) :
    exec (.laneRestored l p) s = .next s := by
  simp only [exec, execLaneRestored, runCore_on hd, hr, Bool.and_false, Bool.false_eq_true, if_false]

/-! ### Tap saturation and counter windows (R130, R148) -/

theorem exec_tapSaturationTimeout (k : Fin 12) (hd : dataOn s = true) (hu : receiverInUse l s.links[l] p = true) :
    exec (.tapSaturationTimeout l p k) s = .next (linkCount l 15 1 (updLink l (fun x => { x with
      eqHub := upd x.eqHub p (fun e => { e with satBits := setBit e.satBits k.val true }) }) s)) := by
  simp only [exec, execTapSaturationTimeout, runCore_on hd, hu, if_true]

theorem exec_linkCounterWindow (u : Up) (k : Fin 16) (hd : dataOn s = true) : exec (.linkCounterWindow u k) s =
    .next (updLink (linkOfUp u) (fun x => { x with
      thresholds := upd x.thresholds k (fun t => { t with count := 0, raised := false }) }) s) := runCore_on hd

/-- Settles O21: each clause by the lemma of its case. -/
theorem laneLossAndRestoration : Obligations.LaneLossAndRestoration := by
  unfold Obligations.LaneLossAndRestoration
  refine ⟨fun s l p hd ha hr => ?fails, fun s l p hd ha hr => ?retryFails, fun s l => exec_laneDownReceived,
    fun s l p => exec_laneRestoreAttempt, fun s l p => tryLane_restoring l p s, fun s l p => restoreLane_lost l p s,
    fun s l p hd hl hr hm => ?restored, fun s l p hd hl hr hm => ?lastRestored, fun s l p => exec_laneRestored_idle,
    fun s l p => exec_tapSaturationTimeout, fun s => exec_linkCounterWindow⟩
  case fails => rw [exec_laneLost hd ha, hr, if_neg Bool.false_ne_true]
  case retryFails => rw [exec_laneLost hd ha, hr, if_pos rfl]
  case restored => rw [exec_laneRestored hd hl hr, if_neg hm]
  case lastRestored => rw [exec_laneRestored hd hl hr, if_pos hm]

end Sys2Proof.Machine
end

section
/-! SUPPORT. How a lane falls asleep and wakes: the idle timer, EIOS and RESUME, the wake pattern and its answers. -/
namespace Sys2Proof.Machine

variable {s : State} {l : LinkNo} {p : PairNo} {u : Up}

/-! ### Falling asleep and resuming (R131 to R134) -/

theorem wakeLane_awake (h : s.links[l].txSleep[p] = none) : wakeLane l p s = s := by
  simp only [wakeLane, h]

theorem exec_laneIdleTimeout {x : Sleep} (hd : dataOn s = true) (hm : maySleep s l p x = true)
    (ht : s.links[l].txSleep[p] = none) : exec (.laneIdleTimeout l p x) s =
    .next (settleDeep l (linkCount l 11 1 (updLink l (fun k => { k with txSleep := k.txSleep.set p (some x) })
      (sendSetOn l p 0x30 [BitVec.ofNat 8 (sleepCode x)] (putFrame l p true false s.links[l].txSeq 63 0 [] s))))) := by
  simp only [exec, execLaneIdleTimeout, runCore_on hd, hm, wakeLane_awake ht, if_true]

/-- A received lane that EIOS has put to sleep. -/
def eiosSleeps (l : LinkNo) (p : PairNo) (x : Sleep) (s : State) : State :=
  updLink l (fun k => { k with rxSleep := k.rxSleep.set p (some x), laneSeq := k.laneSeq.set p none }) (adaptTo l s p)

/-- EIOS on a lane that the hub receives on; a sleep state that is not permitted is counted and answered with POLICY. -/
theorem exec_eiosReceived {b : Byte} {x : Sleep} (hd : dataOn s = true) (ha : s.links[l].state = 6)
    (hb : eiosTarget b = some x) (hp : p ∈ receiveLanes l s.links[l]) : exec (.eiosReceived l p b) s =
    .next (settleDeep l (if sleepAllowed (sleepPermitted (eiosSleeps l p x s) l) x then eiosSleeps l p x s
      else linkCount l 11 1 (announce l (eiosSleeps l p x s)))) := by
  simp only [exec, execEiosReceived, runCore_on hd, ha, hb, List.contains_iff_mem.2 hp, bne_self_eq_false,
    Bool.false_eq_true, if_false, if_true]
  rfl

theorem exec_laneWake (hd : dataOn s = true) (ha : s.links[l].state = 6) (hp : p ∈ sendLanes l s.links[l]) :
    exec (.laneWake l p) s = .next (wakeLane l p s) := by
  simp only [exec, execLaneWake, runCore_on hd, ha, List.contains_iff_mem.2 hp, decide_true, Bool.true_or,
    Bool.and_self, if_true]

theorem exec_resumeReceived (hd : dataOn s = true) (ha : s.links[l].state = 6)
    (hr : s.links[l].rxSleep[p] ≠ some .deep) : exec (.resumeReceived l p) s = .next (resumeLane l p s) := by
  simp only [exec, execResumeReceived, runCore_on hd, ha, bne_iff_ne.2 hr, decide_true, Bool.true_or, Bool.and_self,
    if_true]

/-- A resumed lane is awake. -/
theorem resumeLane_rxSleep (l : LinkNo) (p : PairNo) (s : State) : (resumeLane l p s).links[l].rxSleep[p] = none := by
  unfold resumeLane
  split
  case isTrue h => exact Option.isNone_iff_eq_none.1 h
  case isFalse =>
    exact (congrArg (fun k : Link => k.rxSleep[p]) (updLink_self _ _ _)).trans (Vector.getElem_set_self _)

/-! ### The wake pattern (R135 to R137) -/

theorem decide_activeOrDeep {k : Link} (h : k.state = 6 ∨ k.state = 9) :
    (decide (k.state = 6) || decide (k.state = 9)) = true := by
  simpa only [Bool.or_eq_true, decide_eq_true_eq] using h

section Burst
variable (hd : dataOn s = true) (ha : s.links[linkOfUp u].state = 6 ∨ s.links[linkOfUp u].state = 9)
  (hn : s.links[linkOfUp u].deepWake = false)
include hd ha hn

/-- A burst is counted, and answered with one. -/
theorem exec_wakeBurstReceived_answer (hw : s.links[linkOfUp u].waking = false)
    (hr : s.links[linkOfUp u].rxSleep[receivePrimary (linkOfUp u) s.links[linkOfUp u]] = some .deep) :
    exec (.wakeBurstReceived u) s =
      .next (leaveDeep (linkOfUp u) (repeatBursts (linkOfUp u) 1 (linkCount (linkOfUp u) 13 1 s))) := by
  simp only [exec, execWakeBurstReceived, runCore_on hd, decide_activeOrDeep ha, hn, hw, hr, beq_self_eq_true,
    Bool.true_or, Bool.not_false, Bool.and_self, Bool.false_eq_true, if_true, if_false]

/-- A burst ends the repetition of the hub's own pattern. -/
theorem exec_wakeBurstReceived_waking (hw : s.links[linkOfUp u].waking = true) : exec (.wakeBurstReceived u) s =
    .next (leaveDeep (linkOfUp u) (repeatBursts (linkOfUp u)
      (burstsSince s.links[linkOfUp u] (linkCount (linkOfUp u) 13 1 s)).1
      (burstsSince s.links[linkOfUp u] (linkCount (linkOfUp u) 13 1 s)).2)) := by
  simp only [exec, execWakeBurstReceived, runCore_on hd, decide_activeOrDeep ha, hn, hw, Bool.or_true,
    Bool.not_false, Bool.and_self, if_true]

end Burst

/-- A collision brings no further burst. -/
theorem burstsSince_collision {k : Link} (h : (s.clock.hubTime - k.wakeStart).toNat ≤ 1300) :
    burstsSince k s = (0, s) := if_pos h

/-- At most 31 bursts follow the first. -/
theorem burstsSince_le (k : Link) (s : State) : (burstsSince k s).1 ≤ 31 := by
  by_cases h : (s.clock.hubTime - k.wakeStart).toNat ≤ 1300
  · rw [burstsSince_collision h]
    exact Nat.zero_le _
  · rw [show burstsSince k s = _ from if_neg h]
    generalize (s.clock.hubTime - k.wakeStart).toNat = dt
    have hb : dt / 2100 ≤ dt / 1900 := Nat.div_le_div_left (by decide) (by decide)
    have hm := Nat.mod_lt (takeFree 5 s).1.toNat (show 0 < min 31 (dt / 1900) - min 31 (dt / 2100) + 1 by omega)
    show min 31 (dt / 2100) + (takeFree 5 s).1.toNat % (min 31 (dt / 1900) - min 31 (dt / 2100) + 1) ≤ 31
    omega

/-- A link whose lanes leave Deep goes to Bit lock. -/
theorem leaveDeep_link (l : LinkNo) (s : State) : (leaveDeep l s).links[l].deepWake = true ∧
    (leaveDeep l s).links[l].phase = 3 ∧ (leaveDeep l s).links[l].waking = false := by
  rw [leaveDeep, enterPhase_prbs (.inr rfl) (.inr (by rw [updLink_self])), sendPrbs_links, updLink_self, updLink_self]
  exact ⟨rfl, rfl, rfl⟩

theorem exec_wakePatternTimeout (hd : dataOn s = true) (hw : s.links[linkOfUp u].waking = true) :
    exec (.wakePatternTimeout u) s = .next (startRetrain (linkOfUp u) true (repeatBursts (linkOfUp u) 31 s)) := by
  simp only [exec, execWakePatternTimeout, runCore_on hd, hw, if_true]

/-- Settles O22: each clause by the lemma of its case. -/
theorem laneSleepAndWake : Obligations.LaneSleepAndWake := by
  unfold Obligations.LaneSleepAndWake
  refine ⟨fun s l p x => exec_laneIdleTimeout, fun s l p b x hd ha hb hp t ht hm => ?permitted,
    fun s l p b x hd ha hb hp t ht hm => ?counted, fun s l p => exec_laneWake,
    fun s l p hd ha hr => ⟨exec_resumeReceived hd ha hr, resumeLane_rxSleep l p s⟩,
    fun s u => exec_wakeBurstReceived_answer, fun s u t r hd ha hn hw ht hr => ?answered,
    fun k s => ⟨burstsSince_le k s, burstsSince_collision⟩, leaveDeep_link, fun l n s => rfl,
    fun s u => exec_wakePatternTimeout⟩
  case permitted => rw [exec_eiosReceived hd ha hb hp, show eiosSleeps l p x s = t from ht.symm, hm, if_pos rfl]
  case counted =>
    rw [exec_eiosReceived hd ha hb hp, show eiosSleeps l p x s = t from ht.symm, hm, if_neg Bool.false_ne_true]
  case answered =>
    subst hr ht
    exact exec_wakeBurstReceived_waking hd ha hn hw

end Sys2Proof.Machine
end

section
/-! SUPPORT. TUN_OPEN and TUN_CLOSE by what they find, and the end of a tunnel's drain. -/
namespace Sys2Proof.Machine

variable {s : State} {c : Cmd} {u : Up} {h : HostNo} {i : Byte} {v : Tunnel}

/-! ### Commands of the tunnels -/

/-- An accepted command whose body, as the command starts, does what `g` does. -/
theorem runCmd_carried {sp : OpSpec} {body : Cmd → State → State} {g : State → State} (h : accepted sp c s = true)
    (hg : body c (fresh s) = g (fresh s)) : (.next (runCmd sp body c s) : Answer) = carried sp c g s :=
  (runCmd_accepted _ h).trans (carried_congr hg)

/-- A command of a host of this chip acts on that host's uplink. -/
theorem onHost_own {op : Half} {f : Up → Cmd → State → State} (hu : upOfHost s (tgHost c) = some u) :
    onHost op f c s = f u c s := by
  simp only [onHost, hu]

/-! ### TUN_OPEN (R162) -/

/-- A tunnel that ends on this chip and passes every check opens, and its engine starts. -/
theorem openTunnel_opened (hv : v = { openedTunnel s c with standby := isNight s }) (hx : v.cross = none)
    (ho : openingTunnel s v = false) (hc : carries s.links[linkOfUp u] = true) (hf : findTunnel s v.host v.tid = none)
    (ht : engineTested s (enginePorts s v) = false)
    (hp : creditClass v.cls = true → poolUsed s v.host + v.hubBuf ≤ 1572864)
    (he : engineOut s (enginePorts s v) = false) (ha : admitTunnel s (s.tunnels ++ [v]) v s.perf.pl = true)
    (h1 : shaperAgrees (tunM v) v.shHost = true) (h2 : shaperAgrees (tunM v) v.shHub = true)
    (hk : endpointCheck s v = none) : openTunnel u c s =
      engineOpens v (noteTunnel v.host v.tid (ok 0x0301 c [] { s with tunnels := s.tunnels ++ [v] })) := by
  have hq : (creditClass v.cls && decide (1572864 < poolUsed s v.host + v.hubBuf)) = false := by
    rw [Bool.and_eq_false_imp, decide_eq_false_iff_not]
    exact fun hcr => Nat.not_lt.2 (hp hcr)
  unfold openTunnel
  rw [← hv]
  simp only [hx, hc, hf, ho, ht, hq, he, ha, h1, h2, hk, Option.isSome_none, Bool.not_true, Bool.and_false, Bool.or_self,
    Bool.false_eq_true, if_false]

/-- A TUN_OPEN of an own host with good fields, while no change of level runs, goes on to the checks from order 2 on. -/
theorem tunOpenBody_own (hu : upOfHost s (tgHost c) = some u) (hk : openFieldsOk s c = true) (hb : plBusy s = false)
    (hf : opensFar s c = false) : tunOpenBody c s = openTunnel u c s := by
  simp only [tunOpenBody, hf, openOwn, onHost_own hu, hk, hb, Bool.not_true, Bool.false_eq_true, if_false]

/-! ### TUN_CLOSE (R164) -/

/-- A TUN_CLOSE of a Closed TID answers OK. -/
theorem tunCloseBody_closed (hu : upOfHost s (tgHost c) = some u) (hi : tgTid c ≠ 0) (hf : farTunnel s c = none)
    (hn : findTunnel s (tgHost c) (tgTid c) = none) : tunCloseBody c s = ok 0x0302 c [] s := by
  simp only [tunCloseBody, hf, closeOwn, onHost_own hu, hi, hn, if_false]

/-- A TUN_CLOSE of an open tunnel posts PENDING, and the tunnel is closing. -/
theorem tunCloseBody_open (hu : upOfHost s (tgHost c) = some u) (hi : tgTid c ≠ 0) (hf : farTunnel s c = none)
    (hn : findTunnel s (tgHost c) (tgTid c) = some v) (hc : v.closing = false) (hm : mayPend s c = true) :
    tunCloseBody c s =
      (if carriesPort v then downVirtual (virtualPort (tgHost c) v.endpoint.toNat) else id)
        (noteTunnel (tgHost c) (tgTid c) (updTunnel (tgHost c) (tgTid c) (fun x => { x with closing := true })
          ((if isUsbTunnel v then cancelTunnel (tgHost c) (tgTid c) else id)
            (holdPending 0x0302 c (.tunClose (tgHost c) (tgTid c)) s)))) := by
  simp only [tunCloseBody, hf, closeOwn, onHost_own hu, hi, hn, hc, startPending_held hm, if_false, Bool.false_eq_true]
  cases carriesPort v <;> cases isUsbTunnel v <;> rfl

/-! ### The end of the drain (R164) -/

theorem exec_tunCloseDrained (hd : dataOn s = true) (hf : findTunnel s h i = some v) (hc : v.closing = true)
    (hq : v.queue = []) (hh : v.held = []) (hi : v.inbox = []) (hb : bridgeHolds s h i = false)
    (hr : s.usb.requests.any (fun r => r.host == h && r.tid == i) = false) :
    exec (.tunCloseDrained h i) s = .next (closeTunnel v s) := by
  simp only [exec, execTunCloseDrained, runCore_on hd, hf, hc, hq, hh, hi, hb, hr, List.isEmpty_nil, Bool.not_false,
    Bool.and_self, if_true]

/-- While the bridge holds a TLP of a tunnel, the tunnel stays. -/
theorem exec_tunCloseDrained_held (hd : dataOn s = true) (hf : findTunnel s h i = some v)
    (hb : bridgeHolds s h i = true) : exec (.tunCloseDrained h i) s = .next s := by
  simp only [exec, execTunCloseDrained, runCore_on hd, hf, hb, Bool.not_true, Bool.and_false, Bool.false_and,
    Bool.false_eq_true, if_false]

theorem exec_tunCloseTimeout (hd : dataOn s = true) (hf : findTunnel s h i = some v) (hc : v.closing = true) :
    exec (.tunCloseTimeout h i) s = .next (closeTunnel v (if v.cls = 3 then abandonStorage v s else s)) := by
  simp only [exec, execTunCloseTimeout, runCore_on hd, hf, hc, beq_iff_eq, if_true]

theorem tellClosed_own (hx : v.cross = none) : tellClosed s v = s := by
  simp only [tellClosed, hx, Option.isSome_none, Bool.false_and, Bool.false_eq_true, if_false]

/-- A tunnel that ends on no storage, USB or switch engine leaves nothing but its record. -/
theorem leaveEngine_plain (h3 : v.cls ≠ 3) (h5 : v.cls ≠ 5) (hn : isNetTunnel v = false) (hx : v.cross = none) :
    leaveEngine v s = dropTunnel v.host v.tid s := by
  simp only [leaveEngine, tellClosed_own hx, carriesPort, hn, beq_false_of_ne h3, beq_false_of_ne h5, Bool.false_and,
    Bool.false_eq_true, if_false]

/-- A tunnel accepts packets unless it is closing, Standby, or Suspended with the bond link (R156, R388). -/
theorem accepts_iff : accepts s v = true ↔
    v.closing = false ∧ v.standby = false ∧ (onBond v = false ∨ s.links[(2 : LinkNo)].state = 6) := by
  simp only [accepts, Bool.and_eq_true, Bool.not_eq_true', Bool.and_eq_false_iff, bne_eq_false_iff_eq, and_assoc]

/-- A dropped tunnel is Closed. -/
theorem findTunnel_dropTunnel (s : State) (h : HostNo) (i : Byte) : findTunnel (dropTunnel h i s) h i = none :=
  List.find?_eq_none.2 fun t ht => by simpa using (List.mem_filter.1 ht).2

/-- Settles O23: each clause by the lemma of its case. -/
theorem tunnelsOpenAndClose : Obligations.TunnelsOpenAndClose := by
  unfold Obligations.TunnelsOpenAndClose
  refine ⟨fun c s u v hc hu hk hb hf hv hx ho hl hn ht hp he ha h1 h2 hq => ?opened,
    fun s c => ⟨rfl, rfl, rfl, rfl, rfl, rfl, rfl, rfl⟩, fun c s u hc hu hi hf hn => ?closed,
    fun c s u v hc hu hi hf hn hv hm => ?closing, fun s h i v => exec_tunCloseDrained,
    fun s h i v => exec_tunCloseTimeout, fun s v h3 h5 hn hx => ?dropped,
    fun s h i v => exec_tunCloseDrained_held, fun s v => accepts_iff, findTunnel_dropTunnel⟩
  case opened =>
    exact runCmd_carried hc ((tunOpenBody_own (s := fresh s) hu hk hb hf).trans
      (openTunnel_opened (s := fresh s) hv hx ho hl hn ht hp he ha h1 h2 hq))
  case closed => exact runCmd_carried hc (tunCloseBody_closed (s := fresh s) hu hi hf hn)
  case closing => exact runCmd_carried hc (tunCloseBody_open (s := fresh s) hu hi hf hn hv hm)
  case dropped => rw [closeTunnel, leaveEngine_plain h3 h5 hn hx]

end Sys2Proof.Machine
end

section
/-! SUPPORT. TUN_SHAPE, TUN_POLICE and CLASS_SET as far as the refill, what the refill applies, and TUN_QUERY. -/
namespace Sys2Proof.Machine

variable {s : State} {c : Cmd} {u : Up} {h : HostNo} {i : Byte} {v : Tunnel}

/-! ### Sets that wait for the refill (R172 to R175) -/

/-- A set whose group no other waits to write waits for the refill, and its command with it. -/
theorem addCommit_free {op : Half} {k : CommitSet} (hg : groupBusy s k = false) : addCommit op c k s =
    { s with commits := s.commits ++ [⟨k, c.src, c.seq, c.tag, c.flags, op⟩] } := by
  simp only [addCommit, hg, Bool.false_eq_true, if_false]

/-- An admitted TUN_SHAPE of the direction toward the host waits for the refill. -/
theorem tunShapeBody_toHost (hu : upOfHost s (tgHost c) = some u) (hi : tgTid c ≠ 0) (hm : byteAt c.payload 0 = 1)
    (hz : zeroAt c.payload 1 3 = true) (hf : findTunnel s (tgHost c) (tgTid c) = some v) (h1 : v.cls ≠ 1)
    (hc : v.closing = false) (hr : shaperInRange (shaperAt c.payload 4) = true) (hb : plBusy s = false)
    (ha : admitShape s u v { v with shHost := shaperAt c.payload 4 } s.perf.pl = true)
    (hg : groupBusy s (.shape v.host v.tid (some (shaperAt c.payload 4)) none) = false) : tunShapeBody c s =
      { s with commits := s.commits ++
        [⟨.shape v.host v.tid (some (shaperAt c.payload 4)) none, c.src, c.seq, c.tag, c.flags, 0x0303⟩] } := by
  rw [hc] at ha
  have hb0 : Nat.testBit 1 0 = true := rfl
  have hb1 : Nat.testBit 1 1 = false := rfl
  simp only [tunShapeBody, onHost_own hu, hi, hm, hz, hf, beq_false_of_ne h1, hc, hr, hb, ha, hb0, hb1,
    addCommit_free hg, Nat.reduceLeDiff, Nat.one_ne_zero, decide_false, Bool.not_true, Bool.and_false, Bool.false_and, Bool.or_self,
    Bool.false_eq_true, if_true, if_false]

/-- An admitted TUN_POLICE waits for the refill. -/
theorem tunPoliceBody_admitted {p : Policer} (hu : upOfHost s (tgHost c) = some u) (hi : tgTid c ≠ 0)
    (hm : byteAt c.payload 0 ≤ 1) (hz : zeroAt c.payload 1 3 = true)
    (hf : findTunnel s (tgHost c) (tgTid c) = some v) (hk : creditClass v.cls = false) (hc : v.closing = false)
    (hp : p = ⟨byteAt c.payload 0 == 1, BitVec.ofNat 32 (fieldAt c.payload 4 4),
      BitVec.ofNat 32 (fieldAt c.payload 8 4)⟩)
    (hr : rateOk p.rate = true) (hb : burstOk p.burst = true)
    (ha : admitPolice s u v { v with police := p } s.perf.pl = true)
    (hg : groupBusy s (.police v.host v.tid p) = false) : tunPoliceBody c s = { s with commits := s.commits ++
      [⟨.police v.host v.tid p, c.src, c.seq, c.tag, c.flags, 0x0304⟩] } := by
  subst hp
  rw [hc] at ha
  simp only [tunPoliceBody, onHost_own hu, hi, Nat.not_lt.2 hm, hz, hf, hk, hc, hr, hb, ha, addCommit_free hg,
    decide_false, Bool.not_true, Bool.or_self, Bool.false_eq_true, if_false]

/-- What CLASS_SET does for a class that exists, by its length. -/
theorem classSetBody_class {k : Fin 8} (hu : upOfHost s (tgHost c) = some u) (hk : byteAt c.payload 0 = k.val)
    (h0 : k ≠ 0) : classSetBody c s =
    if c.payload.length = 1 then
      ok 0x0306 c (classBytes k.val (if c.target.getLsbD 16 then s.scheds[u].toHub[k] else s.scheds[u].toHost[k])) s
    else if !zeroAt c.payload 2 2 || !rateOk (BitVec.ofNat 32 (fieldAt c.payload 4 4)) ||
        !burstOk (BitVec.ofNat 32 (fieldAt c.payload 8 4)) then fail 0x0306 c stBadArg s
    else addCommit 0x0306 c (.cls u (c.target.getLsbD 16) k (BitVec.ofNat 8 (byteAt c.payload 1))
      (BitVec.ofNat 32 (fieldAt c.payload 4 4)) (BitVec.ofNat 32 (fieldAt c.payload 8 4))) s := by
  have hz : k.val ≠ 0 := fun e => h0 (Fin.ext e)
  simp only [classSetBody, onHost_own hu, hk, hz, Nat.not_le.2 k.isLt, Nat.mod_eq_of_lt k.isLt, Fin.eta,
    decide_false, Bool.or_self, Bool.false_eq_true, if_false]

/-- A CLASS_SET of 12 bytes waits for the refill. -/
theorem classSetBody_set {k : Fin 8} (hu : upOfHost s (tgHost c) = some u) (hk : byteAt c.payload 0 = k.val)
    (h0 : k ≠ 0) (hl : c.payload.length = 12) (hz : zeroAt c.payload 2 2 = true)
    (hr : rateOk (BitVec.ofNat 32 (fieldAt c.payload 4 4)) = true)
    (hb : burstOk (BitVec.ofNat 32 (fieldAt c.payload 8 4)) = true)
    (hg : groupBusy s (.cls u (c.target.getLsbD 16) k (BitVec.ofNat 8 (byteAt c.payload 1))
      (BitVec.ofNat 32 (fieldAt c.payload 4 4)) (BitVec.ofNat 32 (fieldAt c.payload 8 4))) = false) :
    classSetBody c s = { s with commits := s.commits ++
      [⟨.cls u (c.target.getLsbD 16) k (BitVec.ofNat 8 (byteAt c.payload 1)) (BitVec.ofNat 32 (fieldAt c.payload 4 4))
        (BitVec.ofNat 32 (fieldAt c.payload 8 4)), c.src, c.seq, c.tag, c.flags, 0x0306⟩] } := by
  rw [classSetBody_class hu hk h0, if_neg (by omega), hz, hr, hb, addCommit_free hg]
  rfl

/-! ### The refill (R174, R175, R177) -/

theorem exec_schedRefill (hd : dataOn s = true) : exec .schedRefill s =
    .next (refill (updNet (fun n => { n with ports := n.ports.map refillStorm }) s)) := by
  simp only [exec, execSchedRefill, runCore_on hd]

section Police
variable {k : Commit} {p : Policer} (hk : k.set = .police h i p) (hf : findTunnel s h i = some v)
  (hc : v.closing = false)
include hk hf hc

/-- A policer set whose burst is 0 or at least M is in force, and its command is answered. -/
theorem applyCommit_police (hb : p.burst = 0 ∨ tunM v ≤ p.burst.toNat) : applyCommit k s =
    noteTunnel h i (commitReply k stOk [] (updTunnel h i (fun t => { t with
      police := p
      polBits := if p.enabled then (if t.police.enabled then clipBucket t.polBits p.rate p.burst
        else if holds p.rate p.burst then 0 else 8 * p.burst.toNat) else 0 }) s)) := by
  have hm : (p.burst != 0 && decide (p.burst.toNat < tunM v)) = false := by
    rcases hb with hb | hb
    · rw [hb, bne_self_eq_false, Bool.false_and]
    · rw [decide_eq_false (Nat.not_lt.2 hb), Bool.and_false]
  simp only [applyCommit, hk, hf, hc, hm, Bool.not_eq_true', ← Bool.not_eq_true, ite_not, Bool.false_eq_true, if_false]

/-- A policer set whose burst is below M is refused with event 19. -/
theorem applyCommit_police_disagrees (h0 : p.burst ≠ 0) (hm : p.burst.toNat < tunM v) : applyCommit k s =
    commitReply k stGroupMismatch []
      (raise (.hosts (hostBit h)) 19 (2 ^ 16 * 0x10 + commitField 1 h true 0 i.toNat) s) := by
  simp only [applyCommit, hk, hf, hc, shaperReject, bne_iff_ne, ne_eq, h0, not_false_eq_true, decide_eq_true hm,
    Bool.and_true, Bool.false_eq_true, if_true, if_false]

end Police

/-! ### TUN_QUERY (R182, R547) -/

theorem queryReport_tunnel (u : Up) (hf : findTunnel s h i = some v) (hi : i ≠ 0) :
    queryReport s u h i = padTo 176 v.snap := by
  simp only [queryReport, hf, hi, if_false]

/-- The report of a Closed TID is 0. -/
theorem queryReport_closed (u : Up) (hf : findTunnel s h i = none) (hi : i ≠ 0) :
    queryReport s u h i = zeros 176 := by
  simp only [queryReport, hf, hi, if_false]

theorem tunQueryOp_own (hu : upOfHost s (tgHost c) = some u) :
    tunQueryOp c s = ok 0x0305 c (queryReport s u (tgHost c) (tgTid c)) s := onHost_own hu

theorem tunQueryClearOp_own (hu : upOfHost s (tgHost c) = some u) : tunQueryClearOp c s =
    ok 0x0305 c (queryReport s u (tgHost c) (tgTid c)) (clearQuery u (tgHost c) (tgTid c) s) := onHost_own hu

/-- Settles O24: each clause by the lemma of its case. -/
theorem shapingAndReports : Obligations.ShapingAndReports := by
  unfold Obligations.ShapingAndReports
  refine ⟨fun c s u v h hu hi hm hz hf h1 hc hr hb ha hg => ?shape,
    fun c s u v p h hu hi hm hz hf hk hc hp hr hb ha hg => ?police,
    fun c s u k h hu hk h0 hl hz hr hb hg => ?classSet, fun c s u k h hu hk h0 hl => ?classRead,
    fun s => exec_schedRefill, fun k s h i p v => applyCommit_police,
    fun k s h i p v => applyCommit_police_disagrees, fun c s u h hu hp => ?query, fun c s u h hu hp => ?queryClear,
    fun s u h i v => queryReport_tunnel u, fun s u h i => queryReport_closed u⟩
  case shape => exact runCmd_carried h (tunShapeBody_toHost (s := fresh s) hu hi hm hz hf h1 hc hr hb ha hg)
  case police => exact runCmd_carried h (tunPoliceBody_admitted (s := fresh s) hu hi hm hz hf hk hc hp hr hb ha hg)
  case classSet => exact runCmd_carried h (classSetBody_set (s := fresh s) hu hk h0 hl hz hr hb hg)
  case classRead => exact runCmd_carried h ((classSetBody_class (s := fresh s) hu hk h0).trans (if_pos hl))
  case query =>
    exact runCmd_carried h ((onlyWhen_named (by rw [hp]; rfl)).trans (tunQueryOp_own (s := fresh s) hu))
  case queryClear =>
    exact runCmd_carried h ((onlyWhen_named (by rw [isOne, hp]; rfl)).trans (tunQueryClearOp_own (s := fresh s) hu))

end Sys2Proof.Machine
end

section
/-! SUPPORT. Packets received, the tunnel timers, and SCHED_SAMPLE by its operation. -/
namespace Sys2Proof.Machine

variable {s : State} {c : Cmd} {u : Up} {i : Byte} {v : Tunnel}

/-! ### Packets (R156) -/

/-- The oldest packet of an uplink is received; Day replicates a whole one with a good header on a TID other than 0. -/
theorem exec_tunnelPacketReceive {p : RxPacket} {ps : List RxPacket} (hd : dataOn s = true)
    (hp : s.links[linkOfUp u].rxPackets = p :: ps) : exec (.tunnelPacketReceive u) s =
    .next (let r := receivePacket u p (updLink (linkOfUp u) (fun k => { k with rxPackets := ps }) s)
      let t := creditArrives (hostOnUp r u) (tpTid p.hdr.toNat) (carryAcross (hostOnUp r u) (tpTid p.hdr.toNat) r)
      if tpTid p.hdr.toNat = 0 || p.badHdr || !p.whole then t
      else replicate (.packet u p.hdr p.body) (8 + p.body.length) t) := by
  simp only [exec, execTunnelPacketReceive, runCore_on hd, hp]

/-- A packet with a bad header only counts as malformed. -/
theorem receivePacket_badHdr {p : RxPacket} (hb : p.badHdr = true) : receivePacket u p s = countMalformed u s := by
  simp only [receivePacket, hb, if_true]

/-- A whole packet of its tunnel's class is received on a tunnel that accepts it. -/
theorem receivePacket_accepted {p : RxPacket} (hb : p.badHdr = false) (hw : p.whole = true)
    (hf : findTunnel s (hostOnUp s u) (tpTid p.hdr.toNat) = some v) (ha : accepts s v = true)
    (hc : v.cls = tpClass p.hdr.toNat) :
    receivePacket u p s = noteTunnel (hostOnUp s u) v.tid (receiveOn (hostOnUp s u) v p s) := by
  simp only [receivePacket, hb, hw, hf, ha, hc, bne_self_eq_false, Bool.not_true, Bool.or_self, Bool.false_eq_true,
    if_false]

/-! ### The scheduler and the tunnel timers (R166, R167, R169, R177) -/

theorem exec_schedSelect (hd : dataOn s = true) (hl : s.links[linkOfUp u].state = 6) :
    exec (.schedSelect u) s = .next (selectNext u s) := by
  simp only [exec, execSchedSelect, runCore_on hd, hl, if_true]

section Timers
variable (hd : dataOn s = true) (hl : s.links[linkOfUp u].state = 6) (hf : findTunnel s (hostOnUp s u) i = some v)
include hd hl hf

/-- A timer of a tunnel acts while its uplink is Active. -/
theorem runCore_onTunnel (f : Tunnel → State → State) : runCore (onTunnel u i f) s = .next (f v s) := by
  simp only [runCore_on hd, onTunnel, hf, hl, if_true]

theorem exec_creditReturnTimeout (hr : 0 < v.release) : exec (.creditReturnTimeout u i) s = .next (owe v s) := by
  simp only [exec, execCreditReturnTimeout, runCore_onTunnel hd hl hf, hr, if_true]

theorem exec_keepaliveSendTimeout (hk : v.keepalive ≠ 0) : exec (.keepaliveSendTimeout u i) s = .next (owe v s) := by
  simp only [exec, execKeepaliveSendTimeout, runCore_onTunnel hd hl hf, hk, if_false]

theorem exec_tunnelSilentTimeout (hk : v.keepalive ≠ 0) : exec (.tunnelSilentTimeout u i) s =
    .next (noteTunnel v.host v.tid (updTunnel v.host v.tid (fun t => { t with silent := true }) s)) := by
  simp only [exec, execTunnelSilentTimeout, runCore_onTunnel hd hl hf, hk, if_false]

end Timers

/-- A head packet that waits too long for credit is reported once. -/
theorem exec_creditStallTimeout {p : TxPacket} {ps : List TxPacket} (hd : dataOn s = true)
    (hf : findTunnel s (hostOnUp s u) i = some v) (hq : v.queue = p :: ps) (hk : peerOk v p = false)
    (hs : v.stalled = false) : exec (.creditStallTimeout u i) s =
    .next (raise (.hosts (hostBit v.host)) 17 (tunArg v.host v.tid 0)
      (updTunnel v.host v.tid (fun t => { t with stalled := true }) s)) := by
  simp only [exec, execCreditStallTimeout, runCore_on hd, hf, hq, hk, hs, Bool.or_self, Bool.false_eq_true, if_false]

/-! ### SCHED_SAMPLE (R183, R184, R548, R558) -/

/-- A start whose selectors are good begins the session. -/
theorem schedStartOp_started {m : MbNo} (hc : c.src = .mailbox m) (h0 : 0 < byteAt c.payload 4)
    (h16 : byteAt c.payload 4 ≤ 16) (hi : fieldAt c.payload 2 2 ≠ 0)
    (hw : (smSelectors c).all (fun w =>
      w.toNat &&& 0xFCFCFF00 == 0 && (!w.getLsbD 17 || decide (w.toNat % 256 ≤ 7))) = true)
    (hv : s.variant = .qt9840) (hh : (smSelectors c).all (fun w => (upOfHost s (selHost w)).isSome) = true)
    (hr : s.sampling.running = false) : schedStartOp c s = ok 0x0307 c [] { s with sampling :=
      { running := true, issuer := requesterCode (cmdRequester s c), mailbox := m
        interval := BitVec.ofNat 16 (fieldAt c.payload 2 2)
        count := ⟨byteAt c.payload 4 % 17, Nat.mod_lt _ (by decide)⟩, elapsed := 0, selectors := smSelectors c
        buf0 := 1, buf1 := 0, cur := false, fill := 0, skipped := 0 } } := by
  have ha : (smSelectors c).any (fun w => (upOfHost s (selHost w)).isNone) = false := by
    simpa only [List.any_eq_false, List.all_eq_true, Option.isNone_iff_eq_none, Option.isSome_iff_ne_none] using hh
  simp only [schedStartOp, Nat.pos_iff_ne_zero.1 h0, Nat.not_lt.2 h16, hi, hw, hv, ha, hr, hc, bne_self_eq_false,
    decide_false, Bool.false_and, Bool.or_false, Bool.not_true, Bool.false_eq_true, if_false]

/-- A stop closes the buffer that fills. -/
theorem schedStopOp_filling (hr : s.sampling.running = true) (hb : bufState s.sampling s.sampling.cur = 1) :
    schedStopOp c s =
      ok 0x0307 c [] { s with sampling := { setBuf s.sampling s.sampling.cur 2 with running := false } } := by
  simp only [schedStopOp, hr, hb, beq_self_eq_true, Bool.not_true, Bool.false_eq_true, if_true, if_false]

theorem setBuf_running (m : Sampling) (b : Bool) (x : Fin 3) : (setBuf m b x).running = m.running := by
  cases b <;> rfl

/-- A release of a closed buffer after the session reports the skipped refills. -/
theorem schedReleaseOp_closed {b : Byte} (hp : c.payload = [2, b]) (hb : b.toNat ≤ 1)
    (hr : s.sampling.running = false) (hc : bufState s.sampling (b == 1) = 2) : schedReleaseOp c s =
      ok 0x0307 c (wordBytes s.sampling.skipped)
        { s with sampling := { setBuf s.sampling (b == 1) 0 with skipped := 0 } } := by
  have hv : byteAt [2, b] 1 = b.toNat := rfl
  have he : (b.toNat == 1) = (b == 1) := by
    rw [Bool.eq_iff_iff, beq_iff_eq, beq_iff_eq, ← BitVec.toNat_inj]
    rfl
  have hn : (setBuf s.sampling (b == 1) 0).running = false := (setBuf_running _ _ _).trans hr
  simp only [schedReleaseOp, hp, hv, he, hc, hn, Nat.not_lt.2 hb, Bool.false_and, Bool.false_eq_true, if_true, if_false]

/-- Settles O25: each clause by the lemma of its case. -/
theorem packetsTimersAndSampling : Obligations.PacketsTimersAndSampling := by
  unfold Obligations.PacketsTimersAndSampling
  refine ⟨fun s u p ps hd hp hn => ?kept, fun s u p ps hd hp hi hb hw => ?replicated,
    fun s u p => receivePacket_badHdr, fun s u p v => receivePacket_accepted, fun s u => exec_schedSelect,
    fun s u i v => exec_creditReturnTimeout, fun s u i v => exec_keepaliveSendTimeout,
    fun s u i v => exec_tunnelSilentTimeout, fun s u i v p ps => exec_creditStallTimeout,
    fun c s m h hc hm h0 h16 hi hw hv hh hr => ?start, fun c s h hp hr hb => ?stop,
    fun c s b h hp hb hr hc => ?release⟩
  case kept =>
    rw [exec_tunnelPacketReceive hd hp]
    refine congrArg _ (if_pos ?_)
    simpa only [Bool.or_eq_true, decide_eq_true_eq, Bool.not_eq_true', or_assoc] using hn
  case replicated =>
    rw [exec_tunnelPacketReceive hd hp]
    refine congrArg _ (if_neg ?_)
    simp only [decide_eq_false hi, hb, hw, Bool.not_true, Bool.or_self, Bool.false_eq_true, not_false_eq_true]
  case start =>
    exact runCmd_carried h ((onlyWhen_named hm).trans (schedStartOp_started (s := fresh s) hc h0 h16 hi hw hv hh hr))
  case stop =>
    exact runCmd_carried h ((onlyWhen_named (by rw [smStop, hp]; rfl)).trans (schedStopOp_filling (s := fresh s) hr hb))
  case release =>
    exact runCmd_carried h ((onlyWhen_named (by rw [smRelease, hp]; rfl)).trans
      (schedReleaseOp_closed (s := fresh s) hp hb hr hc))

end Sys2Proof.Machine
end

section
/-! SUPPORT. DISP_MODE_SET and the change it starts, vertical blanking, the sink of an output and what Night takes of Day's
timing, underruns, the hold timeout, and the check values of a frame. -/
namespace Sys2Proof.Machine

variable {s : State} {c : Cmd} {o : OutNo}

/-! ### DISP_MODE_SET (R214, R228) -/

section Checked
variable {m : Fin 21} (ha : modeArgsOk c = true) (hl : othersLayer s (tgOut c) (cmdRequester s c) = false)
  (hn : s.disp.outs[tgOut c].change = none) (hr : modeRefused s (tgOut c) m = false)
  (he : m = ⟨byteAt c.payload 0 % 21, Nat.mod_lt _ (by decide)⟩)
include ha hl hn hr he

/-- The mode in force at its depth is set already. -/
theorem dispModeSetBody_inForce (hm : s.disp.outs[tgOut c].mode = m)
    (hd : byteAt c.payload 0 = 0 ∨ s.disp.outs[tgOut c].bpc10 = (byteAt c.payload 1 == 10)) :
    dispModeSetBody c s = ok 0x0401 c [] s := by
  have hf : (m == 0 || s.disp.outs[tgOut c].bpc10 == (m != 0 && byteAt c.payload 1 == 10)) = true := by
    by_cases h0 : m = 0
    · rw [h0, beq_self_eq_true, Bool.true_or]
    · have hb := hd.resolve_left fun h => h0 (he.trans (Fin.ext (congrArg (· % 21) h)))
      rw [bne_iff_ne.2 h0, Bool.true_and, hb, beq_self_eq_true, Bool.or_true]
  unfold dispModeSetBody
  simp only [← he, ha, hl, hn, hr, hm, hf, Option.isSome_none, Bool.not_true, decide_true, Bool.and_self,
    Bool.false_eq_true, if_true, if_false]

/-- Another mode than 0, admitted on an output that is off, is set once its PLL has locked. -/
theorem dispModeSetBody_off (h0 : m ≠ 0) (hm : s.disp.outs[tgOut c].mode = 0) (hb : plBusy s = false)
    (hd : admitMode s (tgOut c) m (byteAt c.payload 1 == 10) s.perf.pl = true) (hp : mayPend s c = true) :
    dispModeSetBody c s = stopVideo (tgOut c)
      (updOut (tgOut c) (fun x => { x with change := some ⟨m, byteAt c.payload 1 == 10, .awaitBlank⟩ })
        (holdPending 0x0401 c (.displayMode (tgOut c)) s)) := by
  unfold dispModeSetBody
  simp only [← he, ha, hl, hn, hr, hm, hb, hd, bne_iff_ne.2 h0, decide_eq_false h0.symm, startPending_held hp,
    Option.isSome_none, Bool.not_true, Bool.true_and, Bool.false_and, Bool.false_eq_true, if_true, if_false]

end Checked

theorem stopVideo_toMode {k : ModeChange} (hk : s.disp.outs[o].change = some k) (h0 : k.mode ≠ 0) :
    stopVideo o s = updOut o (fun x => { x with change := some { k with phase := .awaitPll } }) s := by
  simp only [stopVideo, hk, if_neg h0]

theorem exec_dispPllLocked {k : ModeChange} (hd : dataOn s = true) (hk : s.disp.outs[o].change = some k)
    (hp : k.phase = .awaitPll) : exec (.dispPllLocked o) s = .next (updOut o (fun x => trainSink { x with
      mode := k.mode, bpc10 := k.bpc10, change := some { k with phase := .awaitFrame }
      blankAt := s.clock.hubTime - BitVec.ofNat 64 (blankLength k.mode) }) s) := by
  change execDispPllLocked o s = _
  simp only [execDispPllLocked, runCore_on hd, hk, hp, if_true]

/-! ### Vertical blanking (R202) -/

theorem exec_vblankStart (hd : dataOn s = true) (ht : timing s.disp.outs[o] = true) (hc : consumed s o = false) :
    exec (.vblankStart o) s = .next (
      let a := updOut o (fun x => showResults { x with frame := x.frame + 1, blankAt := s.clock.hubTime }) s
      let b := raise (.hosts (outputHosts (forgetLandings a) o)) (outEvent 20 o)
        (forgetLandings a).disp.outs[o].frame.toNat (forgetLandings a)
      sendTiming (blankMode o (noteHoldReads o (updOut o blankHold (leaveHold o (applyMirror o (safePoint o b)))))) o) := by
  change execVblankStart o s = _
  simp only [execVblankStart, runCore_on hd, ht, hc, Bool.not_false, Bool.and_self, if_true]

theorem updOut_self (f : Output → Output) : (updOut o f s).disp.outs[o] = f s.disp.outs[o] := upd_self _ _ _

theorem forgetLandings_outs : (forgetLandings s).disp.outs = s.disp.outs := rfl

/-! ### The sink and its link (R215, R393, R394) -/

theorem exec_dpHpdChange {e : HpdEvent} (hd : dataOn s = true) (hp : outPresent s o = true) :
    exec (.dpHpdChange o e) s = .next (updOut o (hpdChange e) s) := by
  change execDpHpdChange o e s = _
  simp only [execDpHpdChange, runCore_on hd, hp, if_true]

/-- On Night no training ends (R394; log entry 118). -/
theorem exec_dpLinkTrainingDone_night (b : Bool) (hd : dataOn s = true) (hn : isNight s = true) :
    exec (.dpLinkTrainingDone o b) s = .next s := by
  change execDpLinkTrainingDone o b s = _
  simp only [execDpLinkTrainingDone, runCore_on hd, hn, Bool.or_true, if_true]

/-- Off Night, a training link ends trained, with drive settings of its own, or fails. -/
theorem exec_dpLinkTrainingDone (b : Bool) (hd : dataOn s = true) (hl : s.disp.outs[o].link = 1) (hn : isNight s = false) :
    exec (.dpLinkTrainingDone o b) s = .next (if b then
      showLink (sendTiming (updOut o (fun x => { x with link := 2, drive := (takeFree 32 s).1 }) (takeFree 32 s).2) o) o
    else sendTiming (updOut o (fun x => { x with link := 3 }) s) o) := by
  change execDpLinkTrainingDone o b s = _
  simp only [execDpLinkTrainingDone, runCore_on hd, hl, hn, bne_self_eq_false, Bool.or_self, Bool.false_eq_true,
    if_false]

theorem exec_dpLinkRetryTimeout (hd : dataOn s = true) : exec (.dpLinkRetryTimeout o) s =
    .next (updOut o (fun x => if x.link = 3 then trainSink x else x) s) := runCore_on hd

theorem lockTiming_timing {t : OutTiming} (ht : timing s.disp.outs[o] = true) :
    lockTiming o t s = showLink (applyMirror o (updOut o (fun x => { x with
      frame := t.frame, blankAt := s.clock.hubTime - t.age, link := t.link, rate := t.rate, drive := t.drive }) s)) o := by
  simp only [lockTiming, ht, Bool.not_true, Bool.false_eq_true, if_false]

theorem drives_night (hn : isNight s = true) : drives s o = false := by
  simp only [drives, hn, Bool.not_true, Bool.and_false, Bool.false_and]

/-! ### Underruns and the hold timeout (R218, R223) -/

theorem exec_scanoutUnderrun (hd : dataOn s = true) (ht : timing s.disp.outs[o] = true)
    (hi : s.flt.isolated.getLsbD (composePort o) = false) : exec (.scanoutUnderrun o) s =
    .next (logFault 0x0A o.val { reaction := 1 } (updOut o (fun x => { x with underruns := satInc x.underruns }) s)) := by
  change execScanoutUnderrun o s = _
  simp only [execScanoutUnderrun, runCore_on hd, ht, hi, Bool.not_false, Bool.and_self, if_true]

theorem exec_holdTimeout (hd : dataOn s = true) : exec (.holdTimeout o) s =
    .next (updOut o (fun x => if x.hold && x.holdTimer then
      (let y := { x with holdTimer := false, holdExpired := true }
       if outOff y then { y with shown := holdShows y } else y) else x) s) := runCore_on hd

/-! ### Check values (R219 to R221) -/

@[simp] theorem frameComparisons_updOut (g : Output → Output) (f : CheckRegs) :
    frameComparisons (updOut o g s) f = frameComparisons s f := rfl

@[simp] theorem regionDiffers_updOut (g : Output → Output) (f : CheckRegs) (v : Nat) (d p : Bool) :
    regionDiffers (updOut o g s) f v d p = regionDiffers s f v d p := rfl

theorem exec_crcRegionFinal {r : Fin 8} {d : Bool} (hd : dataOn s = true) (ht : timing s.disp.outs[o] = true)
    (hc : consumed s o = false) (hi : s.flt.isolated.getLsbD 13 = false)
    (hr : comparedRegion s s.disp.outs[o].checks[r].force = true) :
    exec (.crcRegionFinal o (some r) d) s = .next (
      let f := s.disp.outs[o].checks[r].force
      let v := regionValue s o f
      let t := updOut o (fun x => { x with checks := upd x.checks r (fun y => { y with newest := BitVec.ofNat 64 v }) }) s
      (frameComparisons s f).foldl (fun u p => compareRegion o (some r) p (regionDiffers s f v d p) u) t) := by
  change execCrcRegionFinal o (some r) d s = _
  simp only [execCrcRegionFinal, runCore_on hd, ht, hc, hi, hr, frameComparisons_updOut,
    regionDiffers_updOut, Bool.not_true, Bool.or_self, Bool.false_eq_true, if_false]

/-- An enabled region makes its own comparison. -/
theorem ckPath_mem_frameComparisons {f : CheckRegs} (he : ckEnable f = true) : ckPath f ∈ frameComparisons s f := by
  simp only [frameComparisons, he, if_true, List.mem_append, List.mem_singleton, true_or]

/-- In Midnight a defined region makes the path comparison, as its own or beside it. -/
theorem path_mem_frameComparisons {f : CheckRegs} (hp : s.perf.profile = .midnight) (hw : ckW f ≠ 0) (hh : ckH f ≠ 0) :
    true ∈ frameComparisons s f := by
  cases hk : ckEnable f && ckPath f with
  | true =>
    rw [Bool.and_eq_true] at hk
    exact hk.2 ▸ ckPath_mem_frameComparisons hk.1
  | false =>
    simp only [frameComparisons, hp, bne_iff_ne.2 hw, bne_iff_ne.2 hh, hk, beq_self_eq_true, Bool.not_false, Bool.and_self,
      if_true, List.mem_append, List.mem_singleton, or_true]

/-- Settles O26: each clause by the lemma of its case. -/
theorem outputTiming : Obligations.OutputTiming := by
  unfold Obligations.OutputTiming
  refine ⟨fun c s h ha hl hn hr hm hd => ?inForce, fun c s m h ha hl hn hm h0 hr ho hb hd hp => ?off,
    fun s o k => stopVideo_toMode, fun s o k => exec_dispPllLocked, fun s o => exec_vblankStart, fun s o => ?frame,
    fun s o e => exec_dpHpdChange, fun s o hd hl hn => exec_dpLinkTrainingDone true hd hl hn,
    fun s o hd hl hn => exec_dpLinkTrainingDone false hd hl hn, fun s o b => exec_dpLinkTrainingDone_night b,
    fun s o t => lockTiming_timing, fun s o => drives_night, fun s o => exec_dpLinkRetryTimeout,
    fun s o => exec_scanoutUnderrun, fun s o hd _ _ _ => exec_holdTimeout hd, fun s o r d => exec_crcRegionFinal,
    fun s f => path_mem_frameComparisons, fun s f => ckPath_mem_frameComparisons⟩
  case inForce =>
    exact runCmd_carried h (dispModeSetBody_inForce (s := fresh s) ha (by rw [cmdRequester_fresh]; exact hl) hn hr rfl
      hm hd)
  case off =>
    have he : m = ⟨byteAt c.payload 0 % 21, Nat.mod_lt _ (by decide)⟩ :=
      Fin.ext ((Nat.mod_eq_of_lt m.isLt).symm.trans (congrArg (· % 21) hm.symm))
    exact runCmd_carried h (dispModeSetBody_off (s := fresh s) ha (by rw [cmdRequester_fresh]; exact hl) hn hr he
      h0 ho hb hd hp)
  case frame => rw [forgetLandings_outs, updOut_self]; rfl

end Sys2Proof.Machine
end

section
/-! SUPPORT. The commands of regions, layers and check-value regions, by their operation and by what they find. -/
namespace Sys2Proof.Machine

variable {s : State} {c : Cmd}

/-! ### One operation of a command -/

theorem opByte_of_eq {i n : Nat} (h : byteAt c.payload i = n) : opByte i n c = true := beq_iff_eq.2 h

/-- An accepted command whose payload names an operation has that operation's effect. -/
theorem runCmd_named {sp : OpSpec} {p : Cmd → Bool} {op : Half} {f : Cmd → State → State} {g : State → State}
    (h : accepted sp c s = true) (hp : p c = true) (hg : f c (fresh s) = g (fresh s)) :
    (.next (runCmd sp (onlyWhen p op f) c s) : Answer) = carried sp c g s :=
  runCmd_carried h ((onlyWhen_named hp).trans hg)

/-! ### What a command asks of the display does not depend on a noted status -/

@[simp] theorem cmdHost_fresh (s : State) (c : Cmd) : cmdHost (fresh s) c = cmdHost s c := by
  rw [cmdHost, cmdRequester_fresh, cmdHost]

@[simp] theorem quotaUsed_fresh (s : State) (h : HostNo) : quotaUsed (fresh s) h = quotaUsed s h := rfl
@[simp] theorem findRegion_fresh (s : State) (h : Half) : findRegion (fresh s) h = findRegion s h := rfl
@[simp] theorem leased_fresh (s : State) (h : Half) : leased (fresh s) h = leased s h := rfl
@[simp] theorem bindArgsOk_fresh (s : State) (c : Cmd) : bindArgsOk (fresh s) c = bindArgsOk s c := rfl
@[simp] theorem crcArgsOk_fresh (s : State) (c : Cmd) : crcArgsOk (fresh s) c = crcArgsOk s c := rfl

@[simp] theorem nextHandle_fresh (s : State) (n : Nat) (h : Half) : nextHandle (fresh s) n h = nextHandle s n h := by
  induction n generalizing h with
  | zero => rfl
  | succ n ih => simp only [nextHandle, findRegion_fresh, ih]

/-! ### DISP_REGION_ALLOC (R189, R208, R224, R229) -/

/-- A region of no area is not allocated. -/
theorem allocateOp_noArea (hf : byteAt c.payload 1 < 4) (hz : zeroAt c.payload 2 2 = true)
    (hw : fieldAt c.payload 4 2 = 0) (hh : fieldAt c.payload 6 2 ≤ 8192) :
    allocateOp c s = ok 0x0402 c (allocReply 0 0) s := by
  simp only [allocateOp, Nat.not_le.2 hf, hz, hw, Nat.not_lt.2 hh, Nat.not_lt_zero, decide_false, Bool.not_true,
    Bool.or_self, true_or, Bool.false_eq_true, if_true, if_false]

/-- A region within its host's quota for which there is space is allocated there, cleared (log entry 30). -/
theorem allocateOp_placed {n a : Nat} {r : Region} (hf : byteAt c.payload 1 < 4) (hz : zeroAt c.payload 2 2 = true)
    (hw0 : 0 < fieldAt c.payload 4 2) (hw : fieldAt c.payload 4 2 ≤ 8192)
    (hh0 : 0 < fieldAt c.payload 6 2) (hh : fieldAt c.payload 6 2 ≤ 8192)
    (hn : n = unitsFor (fieldAt c.payload 4 2) (fieldAt c.payload 6 2)) (ha : findSpace s n = some a)
    (hq : quotaUsed s (cmdHost s c) + 2 * n ≤ s.disp.quotas[cmdHost s c]) (hl : s.disp.regions.length < 1024)
    (hr : r = {
      handle := nextHandle s 65535 s.disp.nextHandle, width := fieldAt c.payload 4 2, height := fieldAt c.payload 6 2
      format := ⟨byteAt c.payload 1 % 4, Nat.mod_lt _ (by decide)⟩, offset := a, units := n, owner := cmdHost s c
      orphan := false, leaving := false }) :
    allocateOp c s = raise (.hosts (hostBit r.owner)) 31 r.handle.toNat (ok 0x0402 c (allocReply r.handle (2 * n))
      (clearPoison (fun x => decide (regionBase r ≤ 8 * x) && decide (8 * x < regionBase r + 2097152 * n))
        { s with disp := { s.disp with
          regions := s.disp.regions ++ [r], nextHandle := r.handle + 1
          mem := memClear s.disp.mem (regionBase r) (2097152 * n) } })) := by
  subst hr hn
  simp only [allocateOp, Nat.not_le.2 hf, hz, Nat.not_lt.2 hw, Nat.not_lt.2 hh, Nat.ne_of_gt hw0,
    Nat.ne_of_gt hh0, ha, Nat.not_lt.2 hq, Nat.not_le.2 hl, decide_false, Bool.not_true, Bool.or_self, or_self,
    Bool.false_eq_true, if_false]

section Adopt
variable {r : Region} (hz1 : zeroAt c.payload 1 3 = true) (hz6 : zeroAt c.payload 6 2 = true)
  (hf : findRegion s (BitVec.ofNat 16 (fieldAt c.payload 4 2)) = some r) (ho : r.orphan = true)
  (hw : r.owner = cmdHost s c)
include hz1 hz6 hf ho hw

/-- An orphaned region goes back to its host, and with it the orphaned layers that show it. -/
theorem adoptOp_adopted (hb : linkBack s (cmdHost s c) = true)
    (ha : adoptable s (BitVec.ofNat 16 (fieldAt c.payload 4 2)) = true) : adoptOp c s =
      let u := updRegion (BitVec.ofNat 16 (fieldAt c.payload 4 2)) (fun r => { r with orphan := false }) s
      ok 0x0402 c (allocReply (BitVec.ofNat 16 (fieldAt c.payload 4 2)) (2 * r.units))
        ((List.finRange 4).foldl (fun v o => settleOff o v) { u with disp := { u.disp with
          outs := u.disp.outs.map (fun (x : Output) => { x with layers := x.layers.map (fun (l : Layer) =>
            if l.orphan && lyrHandle l.force == BitVec.ofNat 16 (fieldAt c.payload 4 2) then
              { l with orphan := false, owner := hostCode r.owner } else l) }) } }) := by
  simp only [adoptOp, hz1, hz6, hf, ho, hw, hb, ha, bne_self_eq_false, Bool.not_true, Bool.or_self, Bool.false_eq_true,
    if_false]

/-- A region is not adopted before the host's link is Active again (R224; log entry 111). -/
theorem adoptOp_linkDown (hb : linkBack s (cmdHost s c) = false) : adoptOp c s = fail 0x0402 c stWorldDenied s := by
  simp only [adoptOp, hz1, hz6, hf, ho, hw, hb, bne_self_eq_false, Bool.not_true, Bool.not_false, Bool.true_or,
    Bool.or_self, Bool.false_eq_true, if_true, if_false]

end Adopt

theorem quotaOp_set {h : HostNo} (hh : byteAt c.payload 1 = h.val) (hz : zeroAt c.payload 2 2 = true) : quotaOp c s =
    ok 0x0402 c (allocReply 0 0) { s with disp := { s.disp with quotas := s.disp.quotas.set h (fieldAt c.payload 4 4) } } := by
  simp only [quotaOp, hh, hz, Nat.not_le.2 h.isLt, Nat.mod_eq_of_lt h.isLt, decide_false, Bool.not_true, Bool.or_self,
    Bool.false_eq_true, if_false]

/-! ### DISP_REGION_RELEASE (R208) -/

/-- A region that its requester may release goes with its last lease; at levels 1 and 2 a leased one stays. -/
theorem dispRegionReleaseBody_own {r : Region} (hz : zeroAt c.payload 2 2 = true)
    (hf : findRegion s (BitVec.ofNat 16 (fieldAt c.payload 0 2)) = some r)
    (hm : isHost (cmdRequester s c) = true → r.owner = cmdHost s c ∧ r.orphan = false) (hl : r.leaving = false) :
    dispRegionReleaseBody c s =
      if !leased s (BitVec.ofNat 16 (fieldAt c.payload 0 2)) then
        freeRegion (BitVec.ofNat 16 (fieldAt c.payload 0 2)) (ok 0x0403 c [] s)
      else if s.fw.level.toNat ≤ 2 then fail 0x0403 c stBusy s
      else respond 0x0403 c stDeferred []
        (updRegion (BitVec.ofNat 16 (fieldAt c.payload 0 2)) (fun r => { r with leaving := true }) s) := by
  have hd : (isHost (cmdRequester s c) && (r.owner != cmdHost s c || r.orphan)) = false := by
    rw [Bool.and_eq_false_imp, Bool.or_eq_false_iff, bne_eq_false_iff_eq]
    exact hm
  simp only [dispRegionReleaseBody, hz, hf, hd, hl, Bool.not_true, Bool.false_eq_true, if_false]

/-! ### Commits (R203, R204) -/

/-- A command that commits a group waits for its safe point, which is at once on an output that is off. -/
theorem commitFor_held {op : Half} {o : OutNo} {g : Fin 6} {w : Option (Fin 8)} {b : Bool} (hf : pendingFull s c = false)
    (hm : mayPend (requestCommit o g w b s) c = true) :
    commitFor op c o g w b s = settleOff o (holdPending op c (groupKind o g) (requestCommit o g w b s)) := by
  rw [commitFor, hf, if_neg Bool.false_ne_true, startPending_held hm]

/-! ### DISP_LAYER_BIND (R224, R231) -/

theorem layerClaimOp_claims (ha : bindArgsOk s c = true) (hf : pendingFull s c = false) : layerClaimOp c s =
    commitFor 0x0404 c (tgOut c) (layerGroup (bindLayer c)) (some (requesterCode (cmdRequester s c))) false
      (setShadow (tgOut c) (bindLayer c) (layerRegsAt c.payload 4) s) := by
  simp only [layerClaimOp, ha, hf, Bool.not_true, Bool.false_eq_true, if_false]

theorem layerShadowOp_writes (ha : bindArgsOk s c = true) :
    layerShadowOp c s = ok 0x0404 c [] (setShadow (tgOut c) (bindLayer c) (layerRegsAt c.payload 4) s) := by
  simp only [layerShadowOp, ha, Bool.not_true, Bool.false_eq_true, if_false]

theorem layerReleaseOp_releases (ha : bindArgsOk s c = true) :
    layerReleaseOp c s = commitFor 0x0404 c (tgOut c) (layerGroup (bindLayer c)) none true s := by
  simp only [layerReleaseOp, ha, Bool.not_true, Bool.false_eq_true, if_false]

/-! ### DISP_CRC_REGION (R232) -/

theorem crcWriteOp_writes (ha : crcArgsOk s c = true) (hz : zeroAt c.payload 2 1 = true) :
    crcWriteOp c s = ok 0x0405 c [] (crcShadow c s) := by
  simp only [crcWriteOp, ha, hz, Bool.and_self, if_true]

theorem crcCommitOp_commits (ha : crcArgsOk s c = true) (hz : zeroAt c.payload 2 1 = true) (hf : pendingFull s c = false) :
    crcCommitOp c s = commitFor 0x0405 c (tgOut c) 5 none false (crcShadow c s) := by
  simp only [crcCommitOp, ha, hz, hf, Bool.not_true, Bool.or_self, Bool.false_eq_true, if_false]

theorem crcGrantOp_sets {h : HostNo} (on : Bool) (hh : hostOfCode (byteAt c.payload 2) = some h)
    (ha : crcArgsOk s c = true) : crcGrantOp on c s = ok 0x0405 c [] (updOut (tgOut c) (fun x => { x with
      checks := upd x.checks (crcRegion c) (fun r => { r with grants := setBit r.grants h.val on }) }) s) := by
  simp only [crcGrantOp, hh, ha, if_true]

/-- Settles O27: each clause by the lemma of its case. -/
theorem regionsLayersAndChecks : Obligations.RegionsLayersAndChecks := by
  unfold Obligations.RegionsLayersAndChecks
  refine ⟨fun c s h hp hf hz hw hh => ?noArea, fun c s n a r h hp hf hz hw0 hw hh0 hh hn ha hq hl hr => ?placed,
    fun c s r h hp hz1 hz6 hf ho hw hb ha => ?adopted, fun c s k h hp hk hz => ?quota,
    fun c s r h hz hf hm hv hl => ?freed, fun c s r h hz hf hm hv hl h2 => ?deferred, fun c s h hp ha hf => ?claim,
    fun c s h hp ha => ?shadow, fun c s h hp ha => ?release, fun c s r h hp hz1 hz6 hf ho hw hb => ?linkDown,
    fun op c o g w b s => commitFor_held, fun c s h hp ha hz => ?crcWrite, fun c s h hp ha hz hf => ?crcCommit,
    fun c s k h hp hk ha => ?grant, fun c s k h hp hk ha => ?revoke⟩
  case noArea => exact runCmd_named h (opByte_of_eq hp) (allocateOp_noArea hf hz hw hh)
  case placed =>
    exact runCmd_named h (opByte_of_eq hp) (allocateOp_placed (s := fresh s) hf hz hw0 hw hh0 hh hn ha
      (by simp only [cmdHost_fresh, quotaUsed_fresh]; exact hq) hl
      (by simp only [cmdHost_fresh, nextHandle_fresh]; exact hr))
  case adopted =>
    exact runCmd_named h (opByte_of_eq hp) (adoptOp_adopted (s := fresh s) hz1 hz6 hf ho (by rw [cmdHost_fresh]; exact hw)
      (by rw [cmdHost_fresh]; exact hb) ha)
  case linkDown =>
    exact runCmd_named h (opByte_of_eq hp) (adoptOp_linkDown (s := fresh s) hz1 hz6 hf ho (by rw [cmdHost_fresh]; exact hw)
      (by rw [cmdHost_fresh]; exact hb))
  case quota => exact runCmd_named h (opByte_of_eq hp) (quotaOp_set (s := fresh s) hk hz)
  case freed =>
    exact runCmd_carried h ((dispRegionReleaseBody_own (s := fresh s) hz hf
      (by rw [cmdRequester_fresh, cmdHost_fresh]; exact hm) hv).trans
      (if_pos (by rw [leased_fresh, hl]; rfl)))
  case deferred =>
    exact runCmd_carried h ((dispRegionReleaseBody_own (s := fresh s) hz hf
      (by rw [cmdRequester_fresh, cmdHost_fresh]; exact hm) hv).trans
      ((if_neg (by rw [leased_fresh, hl]; decide)).trans (if_neg (Nat.not_le.2 h2))))
  case claim =>
    refine runCmd_named h hp ?_
    rw [layerClaimOp_claims (s := fresh s) ha hf, cmdRequester_fresh]
  case shadow => exact runCmd_named h hp (layerShadowOp_writes (s := fresh s) ha)
  case release => exact runCmd_named h hp (layerReleaseOp_releases (s := fresh s) ha)
  case crcWrite => exact runCmd_named h hp (crcWriteOp_writes (s := fresh s) ha hz)
  case crcCommit => exact runCmd_named h hp (crcCommitOp_commits (s := fresh s) ha hz hf)
  case grant => exact runCmd_named h hp (crcGrantOp_sets true hk ha)
  case revoke => exact runCmd_named h hp (crcGrantOp_sets false hk ha)

end Sys2Proof.Machine
end

section
/-! SUPPORT. DISP_HOLD_POLICY, DISP_OUTPUT_STATUS and DISP_HOLD_SCREEN by their forms, and the messages of class 1 tunnels. -/
namespace Sys2Proof.Machine

variable {s : State} {c : Cmd}

/-! ### DISP_HOLD_POLICY (R233) -/

theorem dispHoldPolicyBody_sets (ha : byteAt c.payload 0 < 4) (hf : byteAt c.payload 1 < 4)
    (h2 : zeroAt c.payload 2 2 = true) (h6 : zeroAt c.payload 6 2 = true) :
    dispHoldPolicyBody c s = ok 0x0406 c [] (updOut (tgOut c)
      (setPolicy ⟨⟨byteAt c.payload 0 % 4, Nat.mod_lt _ (by decide)⟩, (byteAt c.payload 1).testBit 0,
        (byteAt c.payload 1).testBit 1, BitVec.ofNat 16 (fieldAt c.payload 4 2)⟩) s) := by
  simp only [dispHoldPolicyBody, Nat.not_le.2 ha, Nat.not_le.2 hf, h2, h6, decide_false, Bool.not_true, Bool.or_self,
    Bool.false_eq_true, if_false]

/-! ### DISP_OUTPUT_STATUS (R235, R549) -/

theorem wordBytes_length (w : Word) : (wordBytes w).length = 4 := leBytes_length _ _

/-- An owner record of Table 15.6 takes 16 bytes. -/
theorem ownerRecord_length (s : State) (o : OutNo) (h : Option HostNo) : (ownerRecord s o h).length = 16 := by
  cases h with
  | none => rfl
  | some h => simp only [ownerRecord, List.length_append, leBytes_length, wordBytes_length, List.length_cons, List.length_nil]

theorem outputReport_length (s : State) (o : OutNo) : (outputReport s o).length = 88 := by
  simp only [outputReport, List.length_append, leBytes_length, wordBytes_length, List.length_map, Vector.length_toList,
    List.length_flatMap, ownerRecord_length, List.map_const', List.length_range, List.sum_replicate_nat]

/-- A whole block of the EDID that the sink gave is answered. -/
theorem outStatusEdidOp_block (hs : s.disp.outs[tgOut c].sink = true)
    (hl : 128 * (byteAt c.payload 1 + 1) ≤ s.disp.outs[tgOut c].edid.length) : outStatusEdidOp c s =
      ok 0x0407 c ((s.disp.outs[tgOut c].edid.drop (128 * byteAt c.payload 1)).take 128) s := by
  simp only [outStatusEdidOp, hs, hl, decide_true, Bool.and_self, if_true]

theorem outStatusClearOp_counts (c : Cmd) (s : State) : (outStatusClearOp c s).disp.outs[tgOut c].underruns = 0 ∧
    (outStatusClearOp c s).disp.outs[tgOut c].retrains = 0 := by
  unfold outStatusClearOp
  simp only [updOut_self, and_self]

/-! ### DISP_HOLD_SCREEN (R225, R226, R234) -/

/-- No accepted payload is longer than 496 bytes (Table 2.11). -/
theorem length_le_of_accepted {sp : OpSpec} (h : accepted sp c s = true) : c.payload.length ≤ 496 := by
  refine Nat.le_of_not_lt fun hn => ?_
  rw [accepted, checkCmd, if_pos (by rw [decide_eq_true hn]; rfl)] at h
  exact Bool.false_ne_true h

section Load
variable (hl : 12 ≤ c.payload.length) (ho : fieldAt c.payload 4 4 = 0) (hz : zeroAt c.payload 1 3 = true)
include hl ho hz

/-- A part at offset 0 that falls short of its message starts the assembly of one. -/
theorem holdLoadOp_started {n : Nat} (hn : n = fieldAt c.payload 8 4) (h16 : 16 ≤ n) (hm : n ≤ 16432)
    (hp : c.payload.length - 12 < n) :
    holdLoadOp c s = ok 0x0408 c [] (setAssembly (some ⟨n, c.payload.drop 12⟩) s) := by
  subst hn
  simp only [holdLoadOp, Nat.not_lt.2 hl, ho, hz, List.length_drop, Nat.zero_add, Nat.not_lt.2 h16, Nat.not_lt.2 hm, hp,
    Nat.not_lt.2 (Nat.le_of_lt hp), beq_self_eq_true, Bool.true_or, Bool.not_true, decide_false, Bool.or_self, List.nil_append,
    Bool.false_eq_true, if_true, if_false]

/-- A part that is a whole tile of the hold image lands. -/
theorem holdLoadOp_landed {m : Memory} (hn : fieldAt c.payload 8 4 = c.payload.length - 12)
    (h16 : 16 ≤ c.payload.length - 12) (hm : c.payload.length - 12 ≤ 16432)
    (ht : holdTile (c.payload.drop 12) s.disp.mem = some m) : holdLoadOp c s =
      ok 0x0408 c [] (landHold (cmdRequester s c) (c.payload.drop 12) m (setAssembly none s)) := by
  simp only [holdLoadOp, Nat.not_lt.2 hl, ho, hz, hn, ht, List.length_drop, Nat.zero_add, Nat.not_lt.2 h16,
    Nat.not_lt.2 hm, Nat.lt_irrefl, beq_self_eq_true, Bool.true_or, Bool.not_true, decide_false, Bool.or_self, List.nil_append,
    Bool.false_eq_true, if_true, if_false]

end Load

/-- A hold image that its DRAM entry refuses is dropped with event 6 (R502; log entry 141). -/
theorem landHold_refused {r : Requester} {b : List Byte} {m : Memory} (ha : holdAdmits s = false) :
    landHold r b m s = raise (.denied r) 6 (violationDram r true 4) s := by
  rw [landHold, ha, if_neg Bool.false_ne_true]

theorem holdPlaceOp_places {p : Placement} (hl : c.payload.length = 16) (hz : zeroAt c.payload 1 3 = true)
    (hp : p = Placement.mk (fieldAt c.payload 4 2) (fieldAt c.payload 6 2) (fieldAt c.payload 8 2)
      (fieldAt c.payload 10 2) (BitVec.ofNat 32 (fieldAt c.payload 12 4)))
    (hw : p.width ≤ 1024) (hh : p.height ≤ 512) (hb : bitsOf (fieldAt c.payload 12 4) 30 2 = 0)
    (ht : targetLow 2 c = true) : holdPlaceOp c s = ok 0x0408 c [] (updOut (tgOut c) (fun x =>
      if outOff x then { x with place := some p, newPlace := none } else { x with newPlace := some p }) s) := by
  subst hp
  simp only [holdPlaceOp, hl, hz, Nat.not_lt.2 hw, Nat.not_lt.2 hh, hb, ht, bne_self_eq_false, decide_false,
    Bool.not_true, Bool.or_self, Bool.false_eq_true, if_false]

section Outputs
variable (hl : c.payload.length = 4) (hz : zeroAt c.payload 1 3 = true) (ht : targetLow 4 c = true)
include hl hz ht

theorem holdEnterOp_enters : holdEnterOp c s =
    holdOutputs 2 (outMap (fun o => (holdMap c).getLsbD o.val && !s.disp.outs[o].hold)) (ok 0x0408 c []
      { s with disp := { s.disp with outs := s.disp.outs.mapFinIdx (fun i x _ =>
        if (holdMap c).getLsbD i then { x with ownerHold := true } else x) } }) := by
  simp only [holdEnterOp, hl, hz, ht, bne_self_eq_false, Bool.not_true, Bool.or_self, Bool.false_eq_true, if_false]

theorem holdLeaveOp_leaves : holdLeaveOp c s = (List.finRange 4).foldl (fun u o => settleOff o u) (ok 0x0408 c []
    { s with disp := { s.disp with outs := s.disp.outs.mapFinIdx (fun i x _ =>
      if (holdMap c).getLsbD i then { x with ownerHold := false } else x) } }) := by
  simp only [holdLeaveOp, hl, hz, ht, bne_self_eq_false, Bool.not_true, Bool.or_self, Bool.false_eq_true, if_false]

end Outputs

/-! ### Messages of class 1 tunnels (R194, R206) -/

section Messages
variable {h : HostNo} {i : Byte} {m : Message} {t : State} (hd : dataOn s = true) (hh : tileHead s h i = some m)
  (hm : takeMessage h i s = some (m, t))
include hd hh hm

/-- A message that is no FLIP is taken: a TILE runs, and anything else but an empty message counts as malformed. -/
theorem exec_tileMessage (hf : isFlip m = false) : exec (.tileMessage h i) s = .next (
    if m.broken || decide (16432 < m.bytes.length) then countTileBad h (heard h t)
    else if m.bytes.isEmpty then heard h t
    else if tileType m.bytes = 1 then runTile h m.bytes (heard h t)
    else countTileBad h (heard h t)) := by
  change execTileMessage h i s = _
  simp only [execTileMessage, runCore_on hd, hh, hf, hm, Bool.false_eq_true, if_false]

theorem exec_tileMessage_tile (hf : isFlip m = false) (hb : m.broken = false) (hn : m.bytes ≠ [])
    (hl : m.bytes.length ≤ 16432) (ht : tileType m.bytes = 1) :
    exec (.tileMessage h i) s = .next (runTile h m.bytes (heard h t)) := by
  rw [exec_tileMessage hd hh hm hf, hb, decide_eq_false (Nat.not_lt.2 hl), if_neg (by decide),
    if_neg (by rwa [List.isEmpty_iff]), if_pos ht]

theorem exec_tileMessage_malformed (hf : isFlip m = false) (hn : m.bytes ≠ []) (ht : tileType m.bytes ≠ 1) :
    exec (.tileMessage h i) s = .next (countTileBad h (heard h t)) := by
  rw [exec_tileMessage hd hh hm hf, if_neg (c := m.bytes.isEmpty = true) (by rwa [List.isEmpty_iff]), if_neg ht, ite_self]

theorem exec_flipMessage (hf : isFlip m = true) :
    exec (.flipMessage h i) s = .next (runFlip h m.bytes (heard h t)) := by
  change execFlipMessage h i s = _
  simp only [execFlipMessage, runCore_on hd, hh, hf, hm, if_true]

end Messages

/-- Settles O28: each clause by the lemma of its case. -/
theorem holdStatusAndMessages : Obligations.HoldStatusAndMessages := by
  unfold Obligations.HoldStatusAndMessages
  refine ⟨fun c s h ha hf h2 h6 => ?policy, fun c s h hp => ?read, outputReport_length, fun c s h hp hs hl => ?edid,
    fun c s h hp => ?clear, outStatusClearOp_counts, fun c s n h hp hz hl hn h16 hm ho hs => ?started,
    fun c s m h hp hz hl hn h16 ho ht => ?landed, fun r b m s => landHold_refused,
    fun c s p h ho hl hz hp hw hh hb ht => ?placed, fun c s h hp hl hz ht => ?entered, fun c s h hp hl hz ht => ?left,
    fun s h i m t hd hh hf hm hb hn hl => exec_tileMessage_tile hd hh hm hf hb hn hl,
    fun s h i m t hd hh hf hm _ hn => exec_tileMessage_malformed hd hh hm hf hn,
    fun s h i m t hd hh hf hm => exec_flipMessage hd hh hm hf⟩
  case policy => exact runCmd_carried h (dispHoldPolicyBody_sets ha hf h2 h6)
  case read => exact runCmd_named h hp rfl
  case edid => exact runCmd_named h hp (outStatusEdidOp_block (s := fresh s) hs hl)
  case clear => exact runCmd_named h hp rfl
  case started => exact runCmd_named h (opByte_of_eq hp) (holdLoadOp_started hl ho hz hn h16 hm hs)
  case landed =>
    refine runCmd_named h (opByte_of_eq hp) ?_
    have hm : c.payload.length - 12 ≤ 16432 := by have := length_le_of_accepted h; omega
    rw [holdLoadOp_landed (s := fresh s) hl ho hz hn h16 hm ht, cmdRequester_fresh]
  case placed => exact runCmd_named h (opByte_of_eq ho) (holdPlaceOp_places hl hz hp hw hh hb ht)
  case entered => exact runCmd_named h (opByte_of_eq hp) (holdEnterOp_enters (s := fresh s) hl hz ht)
  case left => exact runCmd_named h (opByte_of_eq hp) (holdLeaveOp_leaves (s := fresh s) hl hz ht)

end Sys2Proof.Machine
end

section
/-! SUPPORT. The USB commands by their form: owner and policy, a port's flags, the carve, the status report, charging. -/
namespace Sys2Proof.Machine

variable {s : State} {c : Cmd} {n : Fin 8}

@[simp] theorem usbTargetOk_fresh (s : State) (c : Cmd) : usbTargetOk (fresh s) c = usbTargetOk s c := rfl

/-- A target word names the port of its low four bits. -/
theorem tgUsb_of_target (h : c.target.toNat % 16 = n.val) : tgUsb c = n :=
  Fin.ext (show c.target.toNat % 8 = n.val by omega)

/-! ### USB_PORT_CFG (R280, R281, R312) -/

theorem usbPortCfgBody_reads (hp : c.payload = []) (ht : c.target.toNat % 16 = 0 ∨ usbTargetOk s c = true) :
    usbPortCfgBody c s = ok 0x0601 c (usbSetting s (tgUsb c)) s := by
  have hr : (c.target.toNat % 16 != 0 && !usbTargetOk s c) = false := by
    rcases ht with ht | ht <;> simp only [ht, bne_self_eq_false, Bool.false_and, Bool.not_true, Bool.and_false]
  simp only [usbPortCfgBody, hr, hp, List.isEmpty_nil, Bool.false_eq_true, if_false, if_true]

theorem usbPortCfgBody_owner (hp : c.payload ≠ []) (ht : c.target.toNat % 16 = 0) :
    usbPortCfgBody c s = usbOwnerOp c s := by
  simp only [usbPortCfgBody, ht, List.isEmpty_eq_false_iff.2 hp, bne_self_eq_false, Bool.false_and,
    Bool.false_eq_true, if_false, if_true]

theorem usbPortCfgBody_flags (hp : c.payload ≠ []) (ht : c.target.toNat % 16 ≠ 0) (hk : usbTargetOk s c = true) :
    usbPortCfgBody c s = usbFlagsOp c s := by
  simp only [usbPortCfgBody, hk, ht, List.isEmpty_eq_false_iff.2 hp, Bool.not_true, Bool.and_false, Bool.false_eq_true,
    if_false]

/-- The owner that a payload names, with its policy, is stored (R280). -/
def nameOwner (c : Cmd) (h : HostNo) (s : State) : State := storeUsb (updUsb (fun v =>
  { v with named := h, policy := ⟨byteAt c.payload 1 % 2, Nat.mod_lt _ (by decide)⟩ }) s)

section Owner
variable {h : HostNo} (hh : byteAt c.payload 0 = h.val) (h1 : byteAt c.payload 1 < 2)
  (hz : zeroAt c.payload 2 6 = true) (hu : (upOfHost s h).isSome = true)
include hh h1 hz hu

/-- A well-formed payload that names an uplink's host is decided by whether the owner stays. -/
theorem usbOwnerOp_named : usbOwnerOp c s =
    if ownerFor (nameOwner c h s) = s.usb.owner then ok 0x0601 c (usbSetting (nameOwner c h s) 0) (nameOwner c h s)
    else startPending 0x0601 c .usbOwner (fun t => moveUsb (ownerFor (nameOwner c h t)) (nameOwner c h t)) s := by
  have hn : (upOfHost s h).isNone = false := by rw [Option.isNone_eq_false_iff]; exact hu
  simp only [usbOwnerOp, hh, hz, hn, Nat.not_le.2 h.isLt, Nat.not_le.2 h1, Nat.mod_eq_of_lt h.isLt, decide_false,
    Bool.not_true, Bool.or_self, Bool.false_and, Bool.false_eq_true, if_false]
  rfl

theorem usbOwnerOp_stays (ho : ownerFor (nameOwner c h s) = s.usb.owner) :
    usbOwnerOp c s = ok 0x0601 c (usbSetting (nameOwner c h s) 0) (nameOwner c h s) := by
  rw [usbOwnerOp_named hh h1 hz hu, if_pos ho]

theorem usbOwnerOp_moves (ho : ownerFor (nameOwner c h s) ≠ s.usb.owner) (hm : mayPend s c = true) : usbOwnerOp c s =
    moveUsb (ownerFor (nameOwner c h (holdPending 0x0601 c .usbOwner s)))
      (nameOwner c h (holdPending 0x0601 c .usbOwner s)) := by
  rw [usbOwnerOp_named hh h1 hz hu, if_neg ho, startPending_held hm]

end Owner

/-- A port's flags are stored; a port that they disable is unplugged, and any other settles its VBUS unless it keeps its
supply while powered off (R312). -/
theorem usbFlagsOp_sets {f : BitVec 6} {off : Bool} (hn : tgUsb c = n) (h64 : byteAt c.payload 0 < 64)
    (hz : zeroAt c.payload 1 7 = true) (hf : f = BitVec.ofNat 6 (byteAt c.payload 0))
    (hs : f.getLsbD 1 = true → n.val ≤ usbPortsS s) (ho : off = (upEnabled s.usb.ports[n] && !f.getLsbD 0))
    (ha : off = true → admitUsb (updUsbPort n (fun x => { x with flags := f }) s) s.tunnels s.usb.owner = true) :
    usbFlagsOp c s =
      let v := storeUsb (updUsbPort n (fun x => { x with flags := f }) s)
      let kept := v.usb.ports[n].vbus && f.getLsbD 2
        && !(stPowered false (extHalf v false n) || stPowered true (extHalf v true n))
      let u := if off then unplugPort n v else if kept then v else settleVbus n v
      ok 0x0601 c (usbSetting u n) u := by
  have hp : (f.getLsbD 1 && decide (usbPortsS s < n.val)) = false := by
    rw [Bool.and_eq_false_imp, decide_eq_false_iff_not]
    exact fun h => Nat.not_lt.2 (hs h)
  have hd : (off && !admitUsb (updUsbPort n (fun x => { x with flags := f }) s) s.tunnels s.usb.owner) = false := by
    rw [Bool.and_eq_false_imp, Bool.not_eq_false']
    exact ha
  simp only [usbFlagsOp, hn, ← hf, ← ho, hz, hp, hd, Nat.not_le.2 h64, decide_false, Bool.not_true, Bool.or_self,
    Bool.false_eq_true, if_false]

/-! ### USB_EP_CARVE (R304, R313) -/

section Target
variable (ht : usbTargetOk s c = true)
include ht

theorem usbEpCarveBody_reads (hp : c.payload = []) :
    usbEpCarveBody c s = ok 0x0602 c (s.usb.carve ++ s.usb.carveNext) s := by
  simp only [usbEpCarveBody, ht, hp, List.isEmpty_nil, Bool.not_true, Bool.false_eq_true, if_false, if_true]

theorem usbEpCarveBody_stores (hp : c.payload ≠ []) (hc : carveOk c.payload = true) : usbEpCarveBody c s =
    let u := storeSetting 8 c.payload (updUsb (fun u => { u with carveNext := c.payload }) s)
    ok 0x0602 c (u.usb.carve ++ u.usb.carveNext) u := by
  simp only [usbEpCarveBody, ht, hc, List.isEmpty_eq_false_iff.2 hp, Bool.not_true, Bool.false_eq_true, if_false]

/-! ### USB_PORT_STATUS (R302, R314) -/

/-- The report is answered, the latched wake is cleared, and with `clear` the counters are. -/
theorem usbStatusOp_reports (clear : Bool) : usbStatusOp clear c s =
    updUsbPort (tgUsb c) (fun p => { p with
      wake := false, txErrors := if clear then 0 else p.txErrors, missed := if clear then 0 else p.missed })
      (ok 0x0603 c (usbReport s (tgUsb c)) s) := by
  simp only [usbStatusOp, ht, Bool.not_true, Bool.false_eq_true, if_false]

/-! ### USB_CHARGE_CFG (R308, R309, R315) -/

theorem usbChargeCfgBody_reads (hp : c.payload = []) :
    usbChargeCfgBody c s = ok 0x0604 c (chargeReport s (tgUsb c)) s := by
  simp only [usbChargeCfgBody, ht, hp, List.isEmpty_nil, Bool.not_true, Bool.false_eq_true, if_false, if_true]

/-- Mode and Rp request are stored, and the port's role and the channels follow them. -/
theorem usbChargeCfgBody_sets (hp : c.payload ≠ []) (h0 : byteAt c.payload 0 < 4) (h1 : byteAt c.payload 1 = 0)
    (hz : zeroAt c.payload 2 2 = true) : usbChargeCfgBody c s =
      let u := settleEfuses (settleRole (storeCharge (updUsbPort (tgUsb c) (fun x => { x with
        mode := ⟨byteAt c.payload 0 % 4, Nat.mod_lt _ (by decide)⟩
        rpReq := ⟨byteAt c.payload 1 % 3, Nat.mod_lt _ (by decide)⟩ }) s)) (tgUsb c))
      ok 0x0604 c (chargeReport u (tgUsb c)) u := by
  have hr : (decide (4 ≤ byteAt c.payload 0) || decide (3 ≤ byteAt c.payload 1) || !zeroAt c.payload 2 2
      || (byteAt c.payload 1 != 0 && !s.usb.ports[tgUsb c].flags.getLsbD 1)) = false := by
    simp only [h1, hz, Nat.not_le.2 h0, Nat.not_le.2 (by decide : 0 < 3), bne_self_eq_false, decide_false, Bool.not_true,
      Bool.false_and, Bool.or_self]
  simp only [usbChargeCfgBody, ht, hr, List.isEmpty_eq_false_iff.2 hp, Bool.not_true, Bool.false_eq_true, if_false]

end Target

/-- An accepted carve shares out at most 64 KiB and leaves EP0 its buffer (R304). -/
theorem carveOk_bounds {p : List Byte} (h : carveOk p = true) : (p.map (fun b => b.toNat)).sum ≤ 64 ∧ 1 ≤ byteAt p 0 := by
  simp only [carveOk, Bool.and_eq_true, decide_eq_true_eq] at h
  obtain ⟨⟨⟨hsum, h0⟩, -⟩, -⟩ := h
  exact ⟨hsum, h0⟩

theorem usbReport_length (s : State) (n : Fin 8) : (usbReport s n).length = 24 := by
  simp only [usbReport, List.length_append, leBytes_length, wordBytes_length, List.length_cons, List.length_nil]

/-- Settles O31: each clause by the lemma of its form. -/
theorem usbCommands : Obligations.UsbCommands := by
  unfold Obligations.UsbCommands
  refine ⟨fun c s h hp ht => ?read, fun c s k u h hp ht hh h1 hz hu he ho => ?owner,
    fun c s k f h hp ht hh h1 hz hu hf ho hm => ?move, fun c s n f off h hp hn h0 ht h64 hz hf hs ho ha => ?flags,
    fun c s h hp ht => ?carve, fun c s h hp ht hc => ?store, fun p => carveOk_bounds, fun c s h hp ht => ?status,
    usbReport_length, fun c s h hp ht => ?clear, fun c s h ht hp => ?charge, fun c s h ht hp h0 h1 hz => ?mode⟩
  case read => exact runCmd_carried h (usbPortCfgBody_reads (s := fresh s) hp ht)
  case owner =>
    subst he
    exact runCmd_carried h ((usbPortCfgBody_owner hp ht).trans (usbOwnerOp_stays (s := fresh s) hh h1 hz hu ho))
  case move =>
    subst hf
    exact runCmd_carried h ((usbPortCfgBody_owner hp ht).trans (usbOwnerOp_moves (s := fresh s) hh h1 hz hu ho hm))
  case flags =>
    have hz0 : c.target.toNat % 16 ≠ 0 := fun h => h0 (Fin.ext (hn.symm.trans h))
    exact runCmd_carried h ((usbPortCfgBody_flags (s := fresh s) hp hz0 ht).trans
      (usbFlagsOp_sets (s := fresh s) (tgUsb_of_target hn) h64 hz hf hs ho ha))
  case carve => exact runCmd_carried h (usbEpCarveBody_reads (s := fresh s) ht hp)
  case store => exact runCmd_carried h (usbEpCarveBody_stores (s := fresh s) ht hp hc)
  case status => exact runCmd_named h (by rw [statusLen0, hp]; rfl) (usbStatusOp_reports (s := fresh s) ht false)
  case clear => exact runCmd_named h (by rw [statusClears, opByte, hp]; rfl) (usbStatusOp_reports (s := fresh s) ht true)
  case charge => exact runCmd_carried h (usbChargeCfgBody_reads (s := fresh s) ht hp)
  case mode => exact runCmd_carried h (usbChargeCfgBody_sets (s := fresh s) ht hp h0 h1 hz)

end Sys2Proof.Machine
end

section
/-! SUPPORT. The USB block's traffic: messages of the tunnelled root, the microframe, port changes and wakes, charging,
and the management function. -/
namespace Sys2Proof.Machine

variable {s : State} {h : HostNo} {i : Byte} {n : Fin 8} {ss : Bool}

/-! ### What the block's own operations leave -/

@[simp] theorem egress_usb (e : Emit) (s : State) : (egress e s).usb = s.usb := by
  unfold egress
  split <;> rfl

@[simp] theorem noteReason_usb (h : HostNo) (code : Byte) (s : State) : (noteReason h code s).usb = s.usb :=
  (tells_noteReason h code s).usb

theorem tells_sendMessage (h : HostNo) (i : Byte) (b : List Byte) (s : State) : Tells s (sendMessage h i b s) := by
  unfold sendMessage queueMessage
  split
  · exact .refl s
  · exact .ite (.refl s) ((tells_updTunnel _ _ _ s).trans (tells_admitHeld _ _ _ _))

theorem updUsbPort_self (n : Fin 8) (f : UsbPort → UsbPort) (s : State) :
    (updUsbPort n f s).usb.ports[n] = f s.usb.ports[n] := upd_self _ _ _

theorem usbHalf_of_usb {t : State} (h : t.usb = s.usb) : usbHalf t ss n = usbHalf s ss n := by
  unfold usbHalf
  rw [h]

theorem usbHalf_updHalf (ss : Bool) (n : Fin 8) (f : UsbHalf → UsbHalf) (s : State) :
    usbHalf (updHalf ss n f s) ss n = f (usbHalf s ss n) := by
  cases ss <;> exact upd_self _ _ _

theorem updHalf_ports (ss : Bool) (n : Fin 8) (f : UsbHalf → UsbHalf) (s : State) :
    (updHalf ss n f s).usb.ports = s.usb.ports := by
  cases ss <;> rfl

/-! ### Messages of the tunnelled root (R286 to R291) -/

/-- The head message of a tunnel of the block, of the named kind, is taken and acted on. -/
theorem usbTake_head {k : UsbMessage} {f : Tunnel → List Byte → State → State} {v : Tunnel} {m n : Message}
    {ms : List Message} {t : State} (hf : findTunnel s h i = some v) (hi : v.inbox = m :: ms)
    (hu : isUsbTunnel v = true) (hx : v.cross = none)
    (hk : (if m.broken then UsbMessage.malformed else classifyUsb s v m.bytes) = k)
    (ht : takeMessage h i s = some (n, t)) (hn : n.bytes ≠ []) (hp : t.flt.isolated.getLsbD 8 = false)
    (hb : n.broken = true → v.cls ≠ 7) : usbTake h i k f s = f v n.bytes t := by
  have h7 : (n.broken && v.cls == 7) = false := by
    rw [Bool.and_eq_false_imp, beq_eq_false_iff_ne]
    exact hb
  simp only [usbTake, hf, hi, hu, hx, hk, ht, hp, h7, List.head?_cons, List.isEmpty_eq_false_iff.2 hn,
    bne_self_eq_false, Option.isSome_none, Bool.not_true, Bool.or_self, Bool.false_eq_true, if_false]

section Periodic
variable {i x : Nat} {r : UsbRequest} (hx : r.target = some x) (hn : isInternal s r = false)
  (hp : (i + 16384 - x) % 16384 < 8192) (hr : r ∈ s.usb.requests)
include hx hn hp hr

/-- A periodic request whose port has not resumed by its microframe has missed it (R299). -/
theorem stepPeriodic_resuming (h : r.phase = .resuming) : stepPeriodic i s r = finishUsb r 4 0 [] s := by
  simp only [stepPeriodic, hx, hn, h, decide_eq_false (Nat.not_le.2 hp), List.contains_iff_mem.2 hr, Bool.false_and,
    Bool.not_true, Bool.or_self, Bool.false_eq_true, if_false]

omit hp in
/-- The first request of its endpoint, for which its TT has room, is issued in its microframe (R295). -/
theorem stepPeriodic_issued (h : r.phase = .scheduled) (hi : i = x) (hh : isHead s r = true)
    (ht : ttRoom s r = true) : stepPeriodic i s r = issueUsb r s := by
  subst hi
  have hz : (i + 16384 - i) % 16384 = 0 := by omega
  simp only [stepPeriodic, hx, hn, h, hh, ht, hz, decide_eq_false (by decide : ¬ 8192 ≤ 0), List.contains_iff_mem.2 hr,
    beq_self_eq_true, Bool.false_and, Bool.or_true, Bool.and_self, Bool.not_true, Bool.or_self, Bool.false_eq_true,
    if_false, if_true]

/-- An isochronous request that waits past its microframe has missed it (R296). -/
theorem stepPeriodic_missed (h : r.phase = .scheduled) (ht : umType r.hdr = 1) (hi : i ≠ x) (hi' : i < 16384)
    (hx' : x < 16384) : stepPeriodic i s r = finishUsb r 4 0 [] s := by
  have hne : ((i + 16384 - x) % 16384 == 0) = false := by
    rw [beq_eq_false_iff_ne]
    omega
  have hi3 : ((1 : Nat) == 3) = false := rfl
  simp only [stepPeriodic, hx, hn, h, ht, hne, hi3, decide_eq_false (Nat.not_le.2 hp), List.contains_iff_mem.2 hr,
    Bool.false_and, Bool.and_false, Bool.or_self, Bool.not_true, Bool.false_eq_true, if_false]

end Periodic

/-- TIME is sent at the first microframe of a millisecond (R293). -/
theorem sendTime_sent {t : Tunnel} {i : Nat} (ht : usbTunnel s 2 = some t) (hi : i % 8 = 0) :
    sendTime i s = sendMessage t.host t.tid
      (usbHeader 6 false 0 i 0 ++ leBytes 8 (s.clock.hubTime.toNat / 125000 * 125000)) s := by
  simp only [sendTime, ht, hi, if_true]

/-! ### Port changes (R291) -/

/-- A half's new status and the over-current indication leave the port's role, and so what its bus shows. -/
theorem seenStatus_shown (f : UsbHalf → UsbHalf) (b : Bool) (w : Half) :
    seenStatus (updUsbPort n (fun p => { p with overCurrent := b }) (updHalf ss n f s)) n w = seenStatus s n w := by
  unfold seenStatus
  rw [updUsbPort_self, updHalf_ports]

/-- Reporting a change leaves of the block all but what a half has reported. -/
theorem reportChange_usb (ss : Bool) (n : Fin 8) (s : State) : (reportChange ss n s).usb = s.usb ∨
    (reportChange ss n s).usb = (updHalf ss n (fun x => { x with reported := x.change }) s).usb := by
  by_cases hc : (usbHalf s ss n).change &&& ~~~(usbHalf s ss n).reported = 0
  · exact .inl (by rw [reportChange, if_pos hc])
  · rw [reportChange, if_neg hc]
    refine .inr ((raise_usb _ _ _ _).trans ?_)
    split
    · exact (tells_sendMessage _ _ _ _).usb
    · rfl

theorem reportChange_status (ss : Bool) (n : Fin 8) (s : State) :
    (usbHalf (reportChange ss n s) ss n).status = (usbHalf s ss n).status := by
  rcases reportChange_usb ss n s with h | h
  · rw [usbHalf_of_usb h]
  · rw [usbHalf_of_usb h, usbHalf_updHalf]

theorem reportChange_ports (ss : Bool) (n : Fin 8) (s : State) : (reportChange ss n s).usb.ports = s.usb.ports := by
  rcases reportChange_usb ss n s with h | h
  · rw [h]
  · rw [h, updHalf_ports]

theorem setChange_status (ss : Bool) (n : Fin 8) (b : Half) (s : State) :
    (usbHalf (setChange ss n b s) ss n).status = (usbHalf s ss n).status := by
  rw [setChange, reportChange_status, usbHalf_updHalf]

theorem setChange_ports (ss : Bool) (n : Fin 8) (b : Half) (s : State) :
    (setChange ss n b s).usb.ports = s.usb.ports := by
  rw [setChange, reportChange_ports, updHalf_ports]

/-! ### Resuming (R299, R301, R302) -/

/-- The suspend and L1 bits, which the mask of a link state holds, are clear in state 0. -/
theorem withLinkState_awake {k : Nat} (w : Half) (hk : (0xFFDB : Half).getLsbD k = false) :
    (withLinkState false 0 w).getLsbD k = false := by
  have hw : withLinkState false 0 w = w &&& 0xFFDB ||| 0#16 := rfl
  rw [hw, BitVec.or_zero, BitVec.getLsbD_and, hk, Bool.and_false]

theorem usbPower_of_awake {x : UsbHalf} {w : Half} (h : x.status = withLinkState false 0 w) : usbPower false x = 0 := by
  have h2 : x.status.getLsbD 2 = false := by rw [h, withLinkState_awake w rfl]
  have h5 : x.status.getLsbD 5 = false := by rw [h, withLinkState_awake w rfl]
  simp only [usbPower, h2, h5, Bool.false_eq_true, if_false]

theorem resumeHalf_power (n : Fin 8) (s : State) : usbPower false (usbHalf (resumeHalf false n s) false n) = 0 :=
  usbPower_of_awake (w := (usbHalf s false n).status)
    (by rw [resumeHalf, setChange_status, setUsbPower, usbHalf_updHalf])

theorem resumeHalf_ports (ss : Bool) (n : Fin 8) (s : State) : (resumeHalf ss n s).usb.ports = s.usb.ports := by
  rw [resumeHalf, setChange_ports, setUsbPower, updHalf_ports]

/-- The first wake of a port of the USB 2.0 hub: latched and reported (R301, R302). -/
def latchWake (n : Fin 8) (s : State) : State :=
  let t := updUsbPort n (fun p => { p with wake := true, wakeChange2 := true }) s
  let u := noteReason t.usb.owner 0x31 t
  raise (.uplink u.usb.owner) 41 n.val u

theorem latchWake_wake (n : Fin 8) (s : State) : (latchWake n s).usb.ports[n].wake = true := by
  simp only [latchWake, raise_usb, noteReason_usb, updUsbPort_self]

/-- With no request that waits for a half to resume, nothing goes on. -/
theorem resumeWaiting_none (h : s.usb.requests.any (fun r => r.phase == .resuming && onHalf ss n r) = false) :
    resumeWaiting n s ss = s := by
  simp only [resumeWaiting, h, Bool.not_false, if_true]

section Resume
variable {r : UsbRequest} (hr : s.usb.requests = [r])
include hr

/-- The one request, waiting for a half that is awake, is scheduled. -/
theorem resumeWaiting_awake (hp : r.phase = .resuming) (ho : onHalf ss n r = true) (ha : halfAsleep s ss n = false) :
    resumeWaiting n s ss = updUsb (fun u => { u with requests := [{ r with phase := .scheduled }] }) s := by
  simp only [resumeWaiting, updUsb, hr, hp, ho, ha, List.any_cons, List.any_nil, List.map_cons, List.map_nil,
    beq_self_eq_true, Bool.and_self, Bool.or_false, Bool.not_true, Bool.false_eq_true, if_false, if_true]

/-- Of the two halves of its port, the one request that waits goes on with its own. -/
theorem resumeWaiting_port (hp : r.phase = .resuming) (hn : umPort r.hdr = n)
    (ha : halfAsleep s (umSs r.hdr) n = false) : resumeWaiting n (resumeWaiting n s false) true =
      updUsb (fun u => { u with requests := [{ r with phase := .scheduled }] }) s := by
  have own : onHalf (umSs r.hdr) n r = true := by simp only [onHalf, hn, beq_self_eq_true, Bool.and_self]
  cases hs : umSs r.hdr with
  | false =>
    rw [hs] at own ha
    rw [resumeWaiting_awake hr hp own ha, resumeWaiting_none]
    rfl
  | true =>
    rw [hs] at own ha
    rw [resumeWaiting_none (ss := false), resumeWaiting_awake hr hp own ha]
    simp only [hr, onHalf, hs, List.any_cons, List.any_nil, Bool.or_false, show (true == false) = false from rfl,
      Bool.false_and, Bool.and_false]

end Resume

theorem startReady_of_none (hr : s.usb.requests = []) : startReady s = s := by
  rw [startReady, hr, List.foldl_nil]

theorem serveInternal_of_none {b : Bool} (hr : s.usb.requests = []) : serveInternal b s = s := by
  rw [serveInternal, hr, List.foldl_nil]

/-! ### LPM (R300) -/

theorem mem_externals : n ∈ externals ↔ 1 ≤ n.val ∧ n.val ≤ 6 := by decide +revert

/-- Whether every enabled port of the USB 2.0 hub is suspended or in L1. -/
def lpmAck (s : State) : Bool :=
  externals.all (fun n => !usbExternal s n.val || !stEnabled s.usb.halves2[n] || halfAsleep s false n)

theorem lpmAck_iff : lpmAck s = true ↔ ∀ n : Fin 8, 1 ≤ n.val → n.val ≤ 6 → usbExternal s n.val = true →
    stEnabled s.usb.halves2[n] = true → halfAsleep s false n = true := by
  simp only [lpmAck, List.all_eq_true, mem_externals, and_imp, Bool.or_eq_true, Bool.not_eq_true', ← Bool.not_eq_true,
    or_assoc]
  simp only [← Decidable.imp_iff_not_or]

/-! ### The loopback interface (R305, R307) -/

theorem mgmtUplink_egress (e : Emit) (s : State) : mgmtUplink (egress e s) = mgmtUplink s := by
  unfold egress
  split <;> rfl

theorem mgmtUplink_drainLoop (n : Nat) (s : State) : mgmtUplink (drainLoop n s) = mgmtUplink s := by
  induction n generalizing s with
  | zero => rfl
  | succ n ih =>
    unfold drainLoop
    split
    · rfl
    · rw [ih, mgmtUplink_egress]
      rfl

theorem mgmtUplink_drainSome (s : State) : mgmtUplink (drainSome s) = mgmtUplink s := mgmtUplink_drainLoop _ _

/-- One packet enters the loopback where EP7 IN has room, and is given back where it has none. -/
theorem loopPackets_one (d : List Byte) (s : State) : loopPackets [d] s =
    if carveBytes s 13 < bufferBytes s 13 + d.length then (s, [d]) else (updWaiting 13 (fun q => q ++ [d]) s, []) := rfl

/-! ### What comes in while the data path runs -/

section Running
variable (hd : dataOn s = true)
include hd

/-- Data in that a transfer brought, at most as much as its request asked for, completes the request (R289). -/
theorem exec_usbTransferDone_in {x : Half} {st : Byte} {a : Nat} {d : List Byte} {r : UsbRequest}
    (hf : findRequest s h x.toNat = some r) (hi : r.tid = i) (hp : r.phase = .onBus) (ht : umType r.hdr ≠ 1)
    (hr : umIn r.hdr = true) : exec (.usbTransferDone h i x st a d) s =
      .next (finishUsb r st.toNat (min a (umLen r.hdr)) (padTo (min a (umLen r.hdr)) d) s) := by
  simp only [exec, execUsbTransferDone, runCore_on hd, hf, hi, hp, hr, beq_false_of_ne ht, bne_self_eq_false,
    Bool.false_and, Bool.or_self, Bool.false_eq_true, if_false, if_true]

theorem exec_usbMicroframeBoundary_onXansa (ho : ownerOnXansa s = true) (hp : s.usb.presented = true) :
    exec .usbMicroframeBoundary s =
      .next (sendTime (uframeNow s) (dropIsoDue (uframeNow s) (rootMicroframe (uframeNow s) s))) := by
  simp only [exec, execUsbMicroframeBoundary, runCore_on hd, ho, hp, if_true]

theorem exec_usbMicroframeBoundary_fallback (ho : ownerOnXansa s = false) (hf : ownerFallback s = true)
    (hp : s.usb.presented = true) :
    exec .usbMicroframeBoundary s = .next (dropIsoDue (uframeNow s) (loopFallback (uframeNow s) s)) := by
  simp only [exec, execUsbMicroframeBoundary, runCore_on hd, ho, hf, hp, Bool.and_self, Bool.false_eq_true, if_false,
    if_true]

/-- What a powered port's bus shows is taken over; a device that has gone ends its requests (R291). -/
theorem exec_usbPortChange {st ch : Half} (hn : usbPortOf s ss n = true) (hp : stPowered ss (usbHalf s ss n) = true)
    (he : upEnabled s.usb.ports[n] = true) (hi : s.flt.isolated.getLsbD 8 = false) (hg : isNight s = false) :
    exec (.usbPortChange ss n st ch) s = .next (
      let power : Half := BitVec.ofNat 16 (2 ^ powerBit ss)
      let a := updHalf ss n (fun y => { y with status := (seenStatus s n st &&& ~~~ power) ||| power }) s
      let b := updUsbPort n (fun p => { p with overCurrent := st.getLsbD 3 }) a
      let d := if stConnected (usbHalf s ss n) && !(seenStatus s n st).getLsbD 0 then endUsb (onHalf ss n) 5 b else b
      setChange ss n ch (settleVbus n d)) := by
  simp only [exec, execUsbPortChange, runCore_on hd, hn, hp, he, hi, hg, Bool.not_true, Bool.or_self,
    Bool.false_eq_true, if_false, seenStatus_shown]

/-- The first wake of a sleeping port latches and resumes its half; only what leaves the chip follows. -/
theorem exec_usbRemoteWake (hn : usbPortOf s false n = true) (he : stEnabled (usbHalf s false n) = true)
    (ha : halfAsleep s false n = true) (hw : s.usb.ports[n].wake = false) :
    ∃ t, exec (.usbRemoteWake false n) s = .next t ∧ t.usb = (resumeHalf false n (latchWake n s)).usb := by
  refine ⟨_, congrArg Host.Outcome.next (if_pos hd), ?_⟩
  simp only [hn, he, ha, hw, Bool.not_true, Bool.not_false, Bool.or_self, Bool.false_eq_true, if_false, if_true]
  split
  · split
    · exact egress_usb _ _
    · rfl
  · rfl

section Fallback
variable (hf : ownerFallback s = true) (hp : s.usb.presented = true)
include hf hp

theorem exec_usbUpstreamSuspend (b : Bool) : exec (.usbUpstreamSuspend b) s =
    .next (raise (.uplink s.usb.owner) 39 (bitNat b)
      (updUsb (fun u => { u with upSuspended := !b, upL1 := u.upL1 && !b }) s)) := by
  simp only [exec, execUsbUpstreamSuspend, runCore_on hd, hf, hp, Bool.and_self, if_true]

/-- An LPM token is acknowledged when every enabled port sleeps (R300). -/
theorem exec_usbLpmToken : exec .usbLpmToken s =
    .next (egress (.usbLpm (lpmAck s)) (updUsb (fun u => { u with upL1 := u.upL1 || lpmAck s }) s)) := by
  simp only [exec, execUsbLpmToken, runCore_on hd, hf, hp, Bool.and_self, if_true]
  rfl

theorem exec_hubClassRequest {x : Dword} {d : List Byte} (hl : d.length ≤ 49152)
    (hm : requestFunction s ss (leBytes 8 x.toNat) ≠ 2) (hc : suClass (leBytes 8 x.toNat) = 1) :
    exec (.hubClassRequest ss x d) s = .next (answerEp0 (mgmtUplink s) ((byteAt (leBytes 8 x.toNat) 0).testBit 7)
      (hubRequest ss (leBytes 8 x.toNat) s)) := by
  simp only [exec, execHubClassRequest, runCore_on hd, hf, hp, hm, hc, decide_eq_false (Nat.not_lt.2 hl), Bool.not_true,
    Bool.or_self, Bool.false_eq_true, if_false, if_true]

end Fallback

theorem exec_usbResumeDone (n : Fin 8) : exec (.usbResumeDone n) s =
    .next (serveInternal false (startReady (resumeWaiting n (resumeWaiting n s false) true))) :=
  congrArg Host.Outcome.next (if_pos hd)

theorem exec_usbResumeDone_idle (hr : s.usb.requests = []) : exec (.usbResumeDone n) s = .next s := by
  have hw (ss : Bool) : resumeWaiting n s ss = s := resumeWaiting_none (by rw [hr]; rfl)
  rw [exec_usbResumeDone hd, hw, hw, startReady_of_none hr, serveInternal_of_none hr]

theorem exec_bc12Detection {k : BitVec 4} (hn : usbExternal s n.val = true) (hk : k = 1 ∨ k = 2) :
    exec (.bc12Detection n k) s = .next (raise (.uplink s.usb.owner) 42 (16 * k.toNat + n.val)
      (updUsbPort n (fun p => { p with detected := k }) s)) := by
  have hk' : (k == 1 || k == 2) = true := by
    rcases hk with rfl | rfl <;> rfl
  simp only [exec, execBc12Detection, runCore_on hd, hn, hk', Bool.and_self, if_true]

theorem exec_chargeRoleChangeDone {r : Fin 3} (hr : s.usb.ports[n].swap = some r) :
    exec (.chargeRoleChangeDone n) s =
      .next (settleVbus n (updUsbPort n (fun p => { p with role := r, swap := none }) s)) := by
  simp only [exec, execChargeRoleChangeDone, runCore_on hd, hr]

theorem exec_typecRdAttach {b : Bool} (hn : usbPortOf s true n = true) (ht : s.usb.ports[n].typeC = true)
    (ha : s.usb.ports[n].attached = false) : exec (.typecRdAttach n b) s =
      .next (raise (.uplink s.usb.owner) 42 (48 + n.val) (settleVbus n
        (updUsbPort n (fun p => { p with attached := true, cc2 := b, detected := 3 }) s))) := by
  simp only [exec, execTypecRdAttach, runCore_on hd, hn, ht, ha, Bool.not_false, Bool.and_self, if_true]

theorem exec_typecRdAbsent (ha : s.usb.ports[n].attached = true) : exec (.typecRdAbsent n) s =
    .next (settleVbus n (updUsbPort n (fun p => { p with attached := false }) s)) := by
  simp only [exec, execTypecRdAbsent, runCore_on hd, ha, if_true]

section Presented
variable (hp : s.usb.presented = true)
include hp

section Storage
variable {p : PciePort} {l : Byte} {b d : List Byte}

/-- A storage command whose endpoints all have buffers is answered (R306). -/
theorem exec_usbStorageCommand_answered (hc : carveBytes s (storageEp s p).1 ≠ 0)
    (hr : ∀ i ∈ storageReplyEps s p, carveBytes s i ≠ 0) : exec (.usbStorageCommand p l b d) s = .next (
      let r := storageReply p l b d s
      egress (.usbStorage p r.2.1 r.2.2.1 r.2.2.2) r.1) := by
  have hr' : (storageReplyEps s p).any (fun i => carveBytes s i == 0) = false := by
    simpa only [List.any_eq_false, beq_iff_eq] using hr
  simp only [exec, execUsbStorageCommand, runCore_on hd, hp, hc, hr', Bool.not_true, Bool.false_eq_true, if_false]

/-- A command endpoint carved to 0 answers NAK (R305). -/
theorem exec_usbStorageCommand_nak (hc : carveBytes s (storageEp s p).1 = 0) :
    exec (.usbStorageCommand p l b d) s = .next (egress (.epNak (mgmtUplink s) (storageEp s p).2) s) := by
  simp only [exec, execUsbStorageCommand, runCore_on hd, hp, hc, Bool.not_true, Bool.false_eq_true, if_false, if_true]

end Storage

/-- A bulk loopback packet raises the endpoint error, is held for EP7 IN, or is NAKed (R307; log entry 117). -/
theorem exec_usbLoopbackPacket_bulk {d : List Byte} {t : State} (hl : d.length ≤ 1024) (hc : carveBytes s 12 ≠ 0)
    (ht : t = { s with freeCtr := s.freeCtr + 1 }) : exec (.usbLoopbackPacket false d) s = .next (
      if Config.freeBool s.freeCtr then endpointError 7 t
      else if carveBytes (drainSome t) 13 < bufferBytes (drainSome t) 13 + d.length then
        egress (.epNak (mgmtUplink (drainSome t)) 7) (drainSome t)
      else updWaiting 13 (fun q => q ++ [d]) (drainSome t)) := by
  simp only [exec, execUsbLoopbackPacket, runCore_on hd, hp, hc, ← ht, Nat.not_lt.2 hl, loopPackets_one,
    mgmtUplink_drainSome, Bool.not_true, Bool.false_eq_true, if_false]
  by_cases hw : Config.freeBool s.freeCtr = true
  · simp only [hw, if_true, List.isEmpty_nil]
  · by_cases hr : carveBytes (drainSome t) 13 < bufferBytes (drainSome t) 13 + d.length
    · simp only [hw, hr, if_true, if_false, List.isEmpty_cons, Bool.false_eq_true]
    · simp only [hw, hr, if_true, if_false, List.isEmpty_nil, Bool.false_eq_true]

end Presented

end Running

/-- The SCSI commands of ten bytes that become NVMe commands, by their operation codes (R306). -/
theorem nvmeCommand_ten (b : List Byte) :
    (byteAt b 0 = 0x28 → nvmeCommand b = some (.read, cdbField b 2 4, cdbField b 7 2)) ∧
    (byteAt b 0 = 0x2A → nvmeCommand b = some (.write, cdbField b 2 4, cdbField b 7 2)) ∧
    (byteAt b 0 = 0x35 → nvmeCommand b = some (.flush, cdbField b 2 4, cdbField b 7 2)) := by
  refine ⟨fun h => ?_, fun h => ?_, fun h => ?_⟩ <;> simp only [nvmeCommand, h]

/-- Settles O32: each clause by the lemma of its case. -/
theorem usbTraffic : Obligations.UsbTraffic := by
  unfold Obligations.UsbTraffic
  refine ⟨fun s h i hd => ⟨runCore_on hd, runCore_on hd, runCore_on hd, runCore_on hd⟩,
    fun s h i k f v m ms n t => usbTake_head, fun s h i x st a d r hd hf hi hp => exec_usbTransferDone_in hd hf hi hp,
    fun s => exec_usbMicroframeBoundary_onXansa, fun s => exec_usbMicroframeBoundary_fallback,
    fun i s t => sendTime_sent, fun i s r x hx hn hp hr => ⟨stepPeriodic_resuming hx hn hp hr,
      fun h hi _ => stepPeriodic_issued hx hn hr h hi, stepPeriodic_missed hx hn hp hr⟩,
    fun s ss n st ch hd => exec_usbPortChange hd, fun s n hd hn he ha hw => ?wake,
    fun s b hd hf hp => exec_usbUpstreamSuspend hd hf hp b,
    fun s hd hf hp => ⟨lpmAck s, exec_usbLpmToken hd hf hp, lpmAck_iff⟩, fun s n => exec_usbResumeDone_idle,
    fun s n r x hd hr hp hn ha _ => ?resumed, fun s n k hd => exec_bc12Detection hd,
    fun s n r hd => exec_chargeRoleChangeDone hd, fun s n b hd => exec_typecRdAttach hd, fun s n => exec_typecRdAbsent,
    fun s p l b d hd hp => exec_usbStorageCommand_answered hd hp,
    fun s p l b d hd hp => exec_usbStorageCommand_nak hd hp, nvmeCommand_ten,
    fun s t d hd hp => exec_usbLoopbackPacket_bulk hd hp, fun s ss x d hd hf hp => exec_hubClassRequest hd hf hp⟩
  case wake =>
    obtain ⟨t, ht, hu⟩ := exec_usbRemoteWake hd hn he ha hw
    refine ⟨t, ht, ?_, ?_⟩
    · rw [hu, resumeHalf_ports, latchWake_wake]
    · rw [hu]
      exact resumeHalf_power n _
  case resumed => rw [exec_usbResumeDone hd, resumeWaiting_port hr hp hn ha]

end Sys2Proof.Machine
end

section
/-! SUPPORT. The CAN commands by their operation and by what they find: a port's setting, the map, signals, legacy routes. -/
namespace Sys2Proof.Machine

variable {s : State} {c : Cmd}

/-! ### CAN_PORT_CFG (R354, R370) -/

theorem canPortCfgBody_reads (hp : c.payload = []) :
    canPortCfgBody c s = ok 0x0801 c (canPortReport s (tgCan c)) s := by
  simp only [canPortCfgBody, hp, List.isEmpty_nil, if_true]

/-- A setting in range is applied, stored and reported. -/
theorem canPortCfgBody_sets (hp : c.payload ≠ []) (hs : canSettingOk c.payload = true) : canPortCfgBody c s =
    let u := storeCan (tgCan c) c.payload (applyCanPort (tgCan c) c.payload s)
    ok 0x0801 c (canPortReport u (tgCan c)) u := by
  simp only [canPortCfgBody, List.isEmpty_eq_false_iff.2 hp, hs, Bool.not_true, Bool.false_eq_true, if_false]

/-! ### CAN_MAP_LOAD (R358, R371) -/

theorem canMapBeginOp_clears (hb : bare 1 c = true) : canMapBeginOp c s =
    ok 0x0802 c [] (updCan (fun x => { x with staging := ⟨[], []⟩ }) s) := by
  simp only [canMapBeginOp, hb, Bool.not_true, Bool.false_eq_true, if_false]

theorem canMapFramesOp_stages (hl : loadOk c 256 = true) : canMapFramesOp c s =
    ok 0x0802 c [] (updCan (fun x => { x with
      staging := { x.staging with frames := putEntries x.staging.frames (loadFirst c) (loadEntries c) } }) s) := by
  simp only [canMapFramesOp, hl, Bool.not_true, Bool.false_eq_true, if_false]

theorem canMapSignalsOp_stages (hl : loadOk c 1024 = true) : canMapSignalsOp c s =
    ok 0x0802 c [] (updCan (fun x => { x with
      staging := { x.staging with signals := putEntries x.staging.signals (loadFirst c) (loadEntries c) } }) s) := by
  simp only [canMapSignalsOp, hl, Bool.not_true, Bool.false_eq_true, if_false]

section Commit
variable (hb : bare 2 c = true)
include hb

/-- A map without a fault comes into force; one to be stored is, and its stored routes are dropped. -/
theorem canMapCommitOp_sound {keep : Bool} (h2 : byteAt c.payload 1 < 2) (hk : (byteAt c.payload 1 == 1) = keep)
    (hf : mapFault s s.can.staging = none) : canMapCommitOp c s =
      let u := updCan (fun x => { x with mapIsStored := keep }) (commitMap s.can.staging s)
      ok 0x0802 c [] (if keep then
        updCan (fun x => { x with stored := some s.can.staging, storedRoutes := [] }) u else u) := by
  simp only [canMapCommitOp, hb, hk, hf, Nat.not_le.2 h2, decide_false, Bool.not_true, Bool.or_self, Bool.false_eq_true,
    if_false]

theorem canMapCommitOp_commits (h0 : byteAt c.payload 1 = 0) (hf : mapFault s s.can.staging = none) :
    canMapCommitOp c s =
      ok 0x0802 c [] (updCan (fun x => { x with mapIsStored := false }) (commitMap s.can.staging s)) :=
  canMapCommitOp_sound (keep := false) hb (by omega) (by rw [h0]; rfl) hf

theorem canMapCommitOp_stores (h1 : byteAt c.payload 1 = 1) (hf : mapFault s s.can.staging = none) :
    canMapCommitOp c s = ok 0x0802 c [] (updCan (fun x => { x with stored := some s.can.staging, storedRoutes := [] })
      (updCan (fun x => { x with mapIsStored := true }) (commitMap s.can.staging s))) :=
  canMapCommitOp_sound (keep := true) hb (by omega) (by rw [h1]; rfl) hf

/-- A fault of the staging map is answered with its place. -/
theorem canMapCommitOp_fault {k : Nat} (h2 : byteAt c.payload 1 < 2) (hf : mapFault s s.can.staging = some k) :
    canMapCommitOp c s = respond 0x0802 c stBadArg (leBytes 4 k) s := by
  simp only [canMapCommitOp, hb, hf, Nat.not_le.2 h2, decide_false, Bool.not_true, Bool.or_self, Bool.false_eq_true,
    if_false]

end Commit

theorem canMapStatusOp_reports (hb : bare 1 c = true) : canMapStatusOp c s = ok 0x0802 c (canMapReport s) s := by
  simp only [canMapStatusOp, hb, Bool.not_true, Bool.false_eq_true, if_false]

/-! ### CAN_SIGNAL_READ and CAN_SIGNAL_WRITE (R372, R373) -/

theorem canSignalReadBody_reads (hn : readCount c ≤ 30) (hl : readFirst c + readCount c ≤ 1024) :
    canSignalReadBody c s = ok 0x0803 c (leBytes 4 s.can.generation.toNat ++ zeros 4
      ++ (List.range (readCount c)).flatMap (fun k => updateEntry s (readFirst c + k) false)) s := by
  simp only [canSignalReadBody, Nat.not_lt.2 hn, Nat.not_lt.2 hl, decide_false, Bool.or_self, Bool.false_eq_true, if_false]

/-- A well-formed write of the current generation applies all its entries or none. -/
theorem canSignalWriteBody_wellFormed {n : Nat} (hn : fieldAt c.payload 4 2 = n) (h30 : n ≤ 30)
    (hz : zeroAt c.payload 6 2 = true) (hl : c.payload.length = 8 + 16 * n)
    (hg : fieldAt c.payload 0 4 = s.can.generation.toNat) : canSignalWriteBody c s =
    if (entriesOf n (c.payload.drop 8)).all (fun e => zeroAt e 2 6 && writeOk s (hostOfRequester (cmdRequester s c)) e) then
      ok 0x0804 c [] (applyEntries (hostOfRequester (cmdRequester s c)) (entriesOf n (c.payload.drop 8)) s)
    else fail 0x0804 c stBadArg s := by
  simp only [canSignalWriteBody, hn, hz, hl, hg, Nat.not_lt.2 h30, decide_false, bne_self_eq_false, Bool.not_true,
    Bool.or_self, Bool.false_eq_true, if_false]
  simp only [Bool.not_eq_true', ← Bool.not_eq_true, ite_not]

@[simp] theorem writeOk_fresh (s : State) (h : Option HostNo) (e : List Byte) : writeOk (fresh s) h e = writeOk s h e := rfl

/-! ### CAN_LEGACY_ROUTE (R366, R374) -/

theorem canRouteClearOp_clears (hb : bare 1 c = true) : canRouteClearOp c s =
    ok 0x0805 c [] (updCan (fun x => { x with routes := [] }) s) := by
  simp only [canRouteClearOp, hb, Bool.not_true, Bool.false_eq_true, if_false]

/-- Routes that the map allows, and of which no two have one destination, come into force. -/
theorem canRouteLoadOp_loads (hl : loadOk c 128 = true) (hr : (loadEntries c).all (routeOk s.can.map) = true)
    (hd : routesDistinct (putEntries s.can.routes (loadFirst c) (loadEntries c)) = true) : canRouteLoadOp c s =
    ok 0x0805 c [] (updCan (fun x => { x with routes := putEntries s.can.routes (loadFirst c) (loadEntries c) }) s) := by
  simp only [canRouteLoadOp, hl, hr, hd, Bool.not_true, Bool.or_self, Bool.false_eq_true, if_false]

theorem canRouteStoreOp_stores (hb : bare 1 c = true) (hm : s.can.mapIsStored = true) : canRouteStoreOp c s =
    ok 0x0805 c [] (updCan (fun x => { x with storedRoutes := x.routes }) s) := by
  simp only [canRouteStoreOp, hb, hm, Bool.not_true, Bool.false_eq_true, if_false]

theorem canRouteReadOp_reads (h1 : zeroAt c.payload 1 1 = true) (h6 : zeroAt c.payload 6 10 = true)
    (hl : c.payload.length = 16) (hn : loadCount c ≤ 30) (hr : loadFirst c + loadCount c ≤ 128) : canRouteReadOp c s =
    ok 0x0805 c
      ((List.range (loadCount c)).flatMap (fun k => sparseGet (zeros 16) s.can.routes (loadFirst c + k))) s := by
  simp only [canRouteReadOp, h1, h6, hl, Nat.not_lt.2 hn, Nat.not_lt.2 hr, bne_self_eq_false, decide_false, Bool.not_true,
    Bool.or_self, Bool.false_eq_true, if_false]

/-- Settles O35: each clause by the lemma of its operation. -/
theorem canCommands : Obligations.CanCommands := by
  unfold Obligations.CanCommands
  refine ⟨fun c s h hp => ?report, fun c s h hp hs => ?set, fun c s h h0 hb => ?begin, fun c s h h0 hl => ?frames,
    fun c s h h0 hl => ?signals, fun c s h h0 hb h1 hf => ?commit, fun c s h h0 hb h1 hf => ?commitStored,
    fun c s k h h0 hb h2 hf => ?commitFault, fun c s h h0 hb => ?status, fun c s h hn hl => ?read,
    fun c s n h hn h30 hz hl hg ha => ?write, fun c s n h hn h30 hz hl hg ha => ?writeRefused,
    fun c s h h0 hb => ?routesClear, fun c s h h0 hl hr hd => ?routesLoad, fun c s h h0 hb hm => ?routesStore,
    fun c s h h0 h1 h6 hl hn hr => ?routesRead⟩
  case report => exact runCmd_carried h (canPortCfgBody_reads hp)
  case set => exact runCmd_carried h (canPortCfgBody_sets hp hs)
  case begin => exact runCmd_named h (opByte_of_eq h0) (canMapBeginOp_clears hb)
  case frames => exact runCmd_named h (opByte_of_eq h0) (canMapFramesOp_stages hl)
  case signals => exact runCmd_named h (opByte_of_eq h0) (canMapSignalsOp_stages hl)
  case commit => exact runCmd_named h (opByte_of_eq h0) (canMapCommitOp_commits (s := fresh s) hb h1 hf)
  case commitStored => exact runCmd_named h (opByte_of_eq h0) (canMapCommitOp_stores (s := fresh s) hb h1 hf)
  case commitFault => exact runCmd_named h (opByte_of_eq h0) (canMapCommitOp_fault (s := fresh s) hb h2 hf)
  case status => exact runCmd_named h (opByte_of_eq h0) (canMapStatusOp_reports (s := fresh s) hb)
  case read => exact runCmd_carried h (canSignalReadBody_reads (s := fresh s) hn hl)
  case write =>
    refine runCmd_carried h ((canSignalWriteBody_wellFormed (s := fresh s) hn h30 hz hl hg).trans ?_)
    simp only [cmdRequester_fresh, writeOk_fresh, ha, if_true]
  case writeRefused =>
    refine runCmd_carried h ((canSignalWriteBody_wellFormed (s := fresh s) hn h30 hz hl hg).trans ?_)
    simp only [cmdRequester_fresh, writeOk_fresh, ha, Bool.false_eq_true, if_false]
  case routesClear => exact runCmd_named h (opByte_of_eq h0) (canRouteClearOp_clears hb)
  case routesLoad => exact runCmd_named h (opByte_of_eq h0) (canRouteLoadOp_loads (s := fresh s) hl hr hd)
  case routesStore => exact runCmd_named h (opByte_of_eq h0) (canRouteStoreOp_stores (s := fresh s) hb hm)
  case routesRead => exact runCmd_named h (opByte_of_eq h0) (canRouteReadOp_reads (s := fresh s) h1 h6 hl hn hr)

end Sys2Proof.Machine
end

section
/-! SUPPORT. What a CAN bus and the bridge's timers do, a frame that leaves, and the messages of signal tunnels. -/
namespace Sys2Proof.Machine

variable {s : State} {p : CanPort}

/-! ### A frame that leaves (R362) -/

theorem frameSent_buffered {f : Fin 256} {d : List Byte} (hb : s.can.ports[p].buffer = some (f, d)) :
    frameSent p s = offerFrame p (putCan p f d (updCanPort p (fun x => { x with buffer := none }) s)) := by
  simp only [frameSent, hb]

/-- A frame that goes out is counted, its gap begins where its entry has one, and the transmit error count falls. -/
theorem putCan_eq (p : CanPort) (f : Fin 256) (d : List Byte) {e : List Byte} (he : e = frameAt s.can.map f.val) :
    putCan p f d s = sentWell p ((if feGap e = 0 then id else setTx f.val (fun t => { t with gap := true }))
      (canCount p 1 1 (egress (.canFrame p ⟨BitVec.ofNat 29 (feId e), feIde e, feFd e, feBrs e, false, d⟩) s))) := by
  rw [putCan, ← he]
  by_cases hg : feGap e = 0
  · rw [if_pos hg, if_pos hg, id]
  · rw [if_neg hg, if_neg hg]

/-! ### Staleness (R361) -/

theorem staleSig_recent {k : Nat}
    (ht : (s.clock.hubTime - lastSeen s k).toNat < 1000000 * seTimeout (signalAt s.can.map k)) : staleSig k s = s := by
  simp only [staleSig, ht, decide_true, Bool.or_true, if_true]

section Running
variable (hd : dataOn s = true)
include hd

/-! ### The bus (R353, R355, R359, R392) -/

section Mode
variable (hm : cpMode s.can.ports[p] = 1 ∨ cpMode s.can.ports[p] = 2)
include hm

theorem exec_canFrameReceive (f : CanFrame) (hb : canOnBus s = true) : exec (.canFrameReceive p f) s =
    .next (receiveCan p f (replicate (.can p f) (8 + f.data.length) s)) := by
  simp only [exec, execCanFrameReceive, runCore_on hd, hb, Bool.true_and, Bool.or_eq_true, beq_iff_eq, hm, if_true]

theorem exec_canBusStateChange (b : BusState) (x y : Byte) (hb : canOnBus s = true) (hp : canPresent s p = true)
    (ho : s.can.ports[p].bus ≠ .busOff) :
    exec (.canBusStateChange p b x y) s = .next (setBus p (busOf b x y) x y s) := by
  simp only [exec, execCanBusStateChange, runCore_on hd, hb, hp, bne_iff_ne.2 ho, Bool.true_and, Bool.and_true,
    Bool.or_eq_true, beq_iff_eq, hm, if_true]

/-- Automatic recovery ends bus-off (R355). -/
theorem exec_canBusOffRecovered (ho : s.can.ports[p].bus = .busOff) (hf : cpFlag s.can.ports[p] 1 = true) :
    exec (.canBusOffRecovered p) s = .next (setBus p .errorActive 0 0 s) := by
  simp only [exec, execCanBusOffRecovered, runCore_on hd, ho, hf, beq_self_eq_true, Bool.true_and, Bool.or_eq_true,
    beq_iff_eq, hm, if_true]

end Mode

/-- No report of the bus ends bus-off. -/
theorem exec_canBusStateChange_busOff (b : BusState) (x y : Byte) (ho : s.can.ports[p].bus = .busOff) :
    exec (.canBusStateChange p b x y) s = .next s := by
  simp only [exec, execCanBusStateChange, runCore_on hd, ho, bne_self_eq_false, Bool.and_false, Bool.false_eq_true,
    if_false]

/-! ### Schedules (R362) -/

theorem exec_canPeriodDue {f : Fin 256} (hp : (signalsOf s.can.map f.val).any (fun x => sePeriod x.2 != 0) = true) :
    exec (.canPeriodDue f) s = .next (queueFrame f s) := by
  simp only [exec, execCanPeriodDue, runCore_on hd, hp, if_true]

theorem exec_canGapExpiry {f : Fin 256} (hg : (txState s f.val).gap = true) : exec (.canGapExpiry f) s = .next (
    let t := setTx f.val (fun _ => ⟨false, false⟩) s
    offerFrame (fePort (frameAt t.can.map f.val)) (if (txState s f.val).held then queueFrame f t else t)) := by
  simp only [exec, execCanGapExpiry, runCore_on hd, hg, if_true]

theorem exec_canFrameSent (hm : cpMode s.can.ports[p] = 1) (hs : canStb s p = false) :
    exec (.canFrameSent p) s = .next (frameSent p s) := by
  simp only [exec, execCanFrameSent, runCore_on hd, hm, hs, beq_self_eq_true, Bool.not_false, Bool.and_self, if_true]

/-- No frame leaves a port that is not in mode 1, or is in standby. -/
theorem exec_canFrameSent_offBus (h : cpMode s.can.ports[p] ≠ 1 ∨ canStb s p = true) :
    exec (.canFrameSent p) s = .next s := by
  have hc : (cpMode s.can.ports[p] == 1 && !canStb s p) = false := by
    rwa [Bool.and_eq_false_iff, beq_eq_false_iff_ne, Bool.not_eq_false']
  simp only [exec, execCanFrameSent, runCore_on hd, hc, Bool.false_eq_true, if_false]

/-! ### Delivery and writes (R360, R365) -/

theorem exec_canDeliveryDue (h : HostNo) (k : Fin 1024) : exec (.canDeliveryDue h k) s =
    .next (if intervalOver s k.val (sigState s k.val).hosts[h] then deliverSigs h [k.val] s else s) := runCore_on hd

/-- The message at the head of a signal tunnel is applied, or counts as bad where a packet of it was lost. -/
theorem exec_canWriteMessage {h : HostNo} {i : Byte} {v : Tunnel} {m : Message} {t : State}
    (hf : findTunnel s h i = some v) (h6 : v.cls = 6) (hc : v.cross = none) (ht : takeMessage h i s = some (m, t))
    (hi : t.flt.isolated.getLsbD 11 = false) : exec (.canWriteMessage h i) s = .next (
      if m.broken then updCan (fun c => { c with badMessages := satInc c.badMessages }) t else runWrite h m.bytes t) := by
  simp only [exec, execCanWriteMessage, runCore_on hd, hf, h6, hc, ht, hi, beq_self_eq_true, Option.isNone_none,
    Bool.and_self, Bool.false_eq_true, if_true, if_false]

end Running

/-- Settles O36: each clause by the lemma of its case. -/
theorem canTraffic : Obligations.CanTraffic := by
  unfold Obligations.CanTraffic
  refine ⟨fun s p f hd hb hm => exec_canFrameReceive hd hm f hb,
    fun s p b x y hd hb hp hm ho => exec_canBusStateChange hd hm b x y hb hp ho,
    fun s p b x y hd => exec_canBusStateChange_busOff hd b x y,
    fun s p hd ho hf hm => exec_canBusOffRecovered hd hm ho hf,
    fun s f hd hp => exec_canPeriodDue hd hp, fun s f hd hg => exec_canGapExpiry hd hg, fun s p => exec_canFrameSent,
    fun s p => exec_canFrameSent_offBus, fun s p f d e hb he => ?sent, fun s h k hd hi => ?due, fun s h k hd hi => ?early,
    fun s k hd => runCore_on hd, fun s k => staleSig_recent, fun s h i v m t hd hf h6 hc ht hi hb => ?whole,
    fun s h i v m t hd hf h6 hc ht hi hb => ?broken⟩
  case sent => rw [frameSent_buffered hb, putCan_eq p f d (s := updCanPort p _ s) he]
  case due => rw [exec_canDeliveryDue hd, if_pos hi]
  case early => rw [exec_canDeliveryDue hd, hi, if_neg Bool.false_ne_true]
  case whole => rw [exec_canWriteMessage hd hf h6 hc ht hi, hb, if_neg Bool.false_ne_true]
  case broken => rw [exec_canWriteMessage hd hf h6 hc ht hi, if_pos hb]

end Sys2Proof.Machine
end

section
/-! SUPPORT. Joining a pair and leaving it, the pairing commands by their form, and the loss of the partner in each pair state. -/
namespace Sys2Proof.Machine

variable {s : State} {c : Cmd} {j : PartnerJoin} {q : JoinReq} {st : Half}

/-! ### PAIR_JOIN (R381, R408) -/

@[simp] theorem joinAllowed_fresh (s : State) (c : Cmd) : joinAllowed (fresh s) c = joinAllowed s c := rfl

theorem joinAllowed_iff : joinAllowed s c = true ↔
    bondActive s = true ∧ (s.pair.state = 0 ∨ (s.pair.state = 9 ∧ joinMode c = 2 ∧ joinDay c = true)) := by
  simp only [joinAllowed, Bool.and_eq_true, Bool.or_eq_true, beq_iff_eq, and_assoc]

/-- A join goes on in state 1, and in state 9 (R381, R384). -/
theorem joinable_iff : (s.pair.state == 1 || s.pair.state == 9) = true ↔ s.pair.state = 1 ∨ s.pair.state = 9 := by
  rw [Bool.or_eq_true, beq_iff_eq, beq_iff_eq]

/-- A PAIR_JOIN that is free of the checks is held, stored and told to the partner. -/
theorem pairJoinBody_joins (hf : joinFieldsOk c = true) (hp : s.pm.setting[(2 : Fin 12)] ≠ 1)
    (hw : waitsFor s .pairJoin = false) (ha : joinAllowed s c = true) (hm : mayPend s c = true) : pairJoinBody c s =
    emit (.pairControl 2 (BitVec.ofNat 64 ((joinMode c).val + 4 * bitNat (joinDay c))))
      (let u := storePairing (updPair (fun p => { p with
          join := some ⟨joinMode c, joinDay c⟩, autoRejoin := byteAt c.payload 2 == 1 }) (holdPending 0x0901 c .pairJoin s))
        if u.pair.state = 0 then setPairState 1 u else u) := by
  simp only [pairJoinBody, hf, hw, ha, beq_eq_false_iff_ne.2 hp, Bool.not_true, Bool.false_eq_true, if_false,
    startPending_held hm]

/-! ### PAIR_LEAVE (R383) -/

theorem pairLeaveBody_unpaired (h : s.pair.state = 0) : pairLeaveBody c s = ok 0x0902 c [] s := by
  rw [pairLeaveBody, if_pos h]

theorem pairLeaveBody_busy (h : s.pair.state = 1 ∨ s.pair.state = 11) :
    pairLeaveBody c s = fail 0x0902 c stBusy s := by
  rcases h with h | h <;> rw [pairLeaveBody, h] <;> rfl

/-- In any other state the chip is Leaving: it tells a partner that is there, and leaves at once where none is. -/
theorem pairLeaveBody_leaves (h0 : s.pair.state ≠ 0) (h1 : s.pair.state ≠ 1) (h11 : s.pair.state ≠ 11)
    (hj : waitsFor s .pairJoin = false) (hh : waitsFor s .handover = false) (hm : mayPend s c = true) :
    pairLeaveBody c s =
      let u := setPairState 11 (updPair (fun p => { p with leftFrom := s.pair.state }) (holdPending 0x0902 c .pairLeave s))
      if s.pair.state = 4 || partnerGone u then leaveDone u else emit (.pairControl 3 0) u := by
  simp only [pairLeaveBody, h0, h1, h11, hj, hh, decide_false, Bool.or_self, Bool.false_eq_true, if_false,
    startPending_held hm]

/-- Only a chip that is Leaving, or in a pair whose partner can tell it to, leaves. -/
theorem leaveDone_unpaired (h : s.pair.state = 0 ∨ s.pair.state = 1 ∨ s.pair.state = 9) : leaveDone s = s := by
  rcases h with h | h | h <;> simp only [leaveDone, h] <;> rfl

/-! ### PAIR_HANDOVER and PAIR_COMPARE_CFG (R403, R410) -/

theorem isDay_of_syncDone (h : s.pair.state = 7) : isDay s = true := by
  rw [isDay, pairMode, h]
  rfl

/-- Day in Mirror holds a handover; a planned one waits while an output is in a mode, and any other yields. -/
theorem handoverOp_held (b : Bool) (hs : s.pair.state = 7) (hw : waitsFor s .handover = false)
    (hm : mayPend s c = true) : handoverOp b c s =
      if b && s.disp.outs.toList.any (fun x => x.mode != 0) then holdPending 0x0904 c .handover s
      else yieldDay b (holdPending 0x0904 c .handover s) := by
  simp only [handoverOp, isDay_of_syncDone hs, hw, hs, bne_self_eq_false, Bool.not_true, Bool.false_eq_true, if_false,
    startPending_held hm, holdPending_disp]

theorem pairCompareBody_reads (hp : c.payload = []) : pairCompareBody c s = ok 0x0905 c s.pair.compareCfg s := by
  simp only [pairCompareBody, hp, List.isEmpty_nil, if_true]

theorem pairCompareBody_stores (hl : c.payload.length = 8) (h0 : byteAt c.payload 0 < 16) (h1 : byteAt c.payload 1 < 16)
    (h2 : byteAt c.payload 2 < 16) (h3 : zeroAt c.payload 3 1 = true) (h4 : fieldAt c.payload 4 2 < 64)
    (h7 : zeroAt c.payload 7 1 = true) : pairCompareBody c s =
      let u := storePairing (updPair (fun x => { x with compareCfg := c.payload }) s)
      ok 0x0905 c u.pair.compareCfg u := by
  have hn : c.payload ≠ [] := List.ne_nil_of_length_eq_add_one hl
  simp only [pairCompareBody, List.isEmpty_eq_false_iff.2 hn, h3, h7, Nat.not_le.2 h0, Nat.not_le.2 h1, Nat.not_le.2 h2,
    Nat.not_le.2 h4, decide_false, Bool.not_true, Bool.or_self, Bool.false_eq_true, if_false]

/-! ### The loss of the partner (R380, R390, R397) -/

theorem losePartner_span (h : s.pair.state = 2 ∨ s.pair.state = 3) :
    losePartner s = movePair 4 (losePartnerHosts (dropForwarded s)) := by
  rcases h with h | h <;>
    simp only [losePartner, h, Fin.reduceEq, decide_true, decide_false, Bool.or_true, Bool.or_false, if_false, if_true]

theorem losePartner_day (h : s.pair.state = 5 ∨ s.pair.state = 7) : losePartner s =
    setPairState 9 (finish .handover stNoResource [] (finish .pairJoin stNoResource []
      (updPair (fun p => { p with join := none }) s))) := by
  rcases h with h | h <;>
    simp only [losePartner, h, Fin.reduceEq, decide_true, decide_false, Bool.or_true, Bool.or_false, Bool.false_eq_true,
      if_false, if_true]

theorem losePartner_copying (h : s.pair.state = 6) : losePartner s =
    setPairState 10 (finish .pairJoin stNoResource [] (updPair (fun p => { p with join := none }) s)) := by
  simp only [losePartner, h, Fin.reduceEq, decide_false, Bool.or_false, Bool.false_eq_true, if_false, if_true]

theorem seeIlk_low (h : s.pair.ilkLow = true) : seeIlk s = s := by
  simp only [seeIlk, h, Bool.or_true, Bool.true_or, if_true]

/-- Night that sees the interlock line held stays Night, without a Day. -/
theorem losePartner_night (h : s.pair.state = 8) (hl : s.pair.ilkLow = true) : losePartner s = setPairState 10 s := by
  simp only [losePartner, h, seeIlk_low hl, hl, Fin.reduceEq, decide_true, decide_false, Bool.or_false, Bool.and_true,
    Bool.false_eq_true, if_false, if_true]

section Running
variable (hd : dataOn s = true)
include hd

/-! ### Joining goes on (R381, R382, R384) -/

section Joining
variable (hj : s.pair.join = some q) (hs : s.pair.state = 1 ∨ s.pair.state = 9)
include hj hs

theorem exec_pairJoinTimeout : exec .pairJoinTimeout s = .next (joinFails stNoResource s) := by
  simp only [exec, execPairJoinTimeout, runCore_on hd, hj, joinable_iff.2 hs, Option.isSome_some, Bool.and_self,
    if_true]

section Matched
variable (hb : bondActive s = true)
include hb

theorem exec_pairJoinMatched_forms
    (hc : joinChecks (updPair (fun p => { p with partnerPl := j.pl }) s) q.mode q.day j = none) :
    exec (.pairJoinMatched j) s = .next (
      if q.mode = 2 then startMirror q.day j (updPair (fun p => { p with partnerPl := j.pl }) s)
      else enterSpan (updPair (fun p => { p with partnerPl := j.pl }) s)) := by
  simp only [exec, execPairJoinMatched, runCore_on hd, hj, hb, joinable_iff.2 hs, hc, Bool.not_true, Bool.or_self,
    Bool.false_eq_true, if_false]

theorem exec_pairJoinMatched_refused
    (hc : joinChecks (updPair (fun p => { p with partnerPl := j.pl }) s) q.mode q.day j = some st) :
    exec (.pairJoinMatched j) s = .next (joinFails st (updPair (fun p => { p with partnerPl := j.pl }) s)) := by
  simp only [exec, execPairJoinMatched, runCore_on hd, hj, hb, joinable_iff.2 hs, hc, Bool.not_true, Bool.or_self,
    Bool.false_eq_true, if_false]

end Matched

end Joining

section Rejoin
variable (hb : bondActive s = true) (hn : s.pair.join = none)
include hb hn

theorem exec_autoRejoin_day (hs : s.pair.state = 9) (ha : s.pair.autoRejoin = true)
    (hc : joinChecks s 2 true { j with mode := 2, wantsDay := false } = none) :
    exec (.autoRejoin j) s = .next (startMirror true j s) := by
  simp only [exec, execAutoRejoin, runCore_on hd, hb, hn, hs, ha, hc, Bool.not_true, Option.isSome_none, Option.isNone_none,
    Bool.or_self, Bool.and_self, Bool.false_eq_true, if_false, if_true]

/-- The newcomer is Joining while it is checked, and Unpaired again where a check fails. -/
theorem exec_autoRejoin_newcomer (hs : s.pair.state = 0) : exec (.autoRejoin j) s = .next (
    if (joinChecks (setPairState 1 s) 2 false { j with mode := 2, wantsDay := true }).isNone
    then startMirror false j (setPairState 1 s) else setPairState 0 (setPairState 1 s)) := by
  simp only [exec, execAutoRejoin, runCore_on hd, hb, hn, hs, Fin.reduceEq, Bool.not_true, Option.isSome_none, Bool.or_self,
    Bool.false_eq_true, if_false, if_true]

end Rejoin

theorem exec_mirrorSyncDone_day (hs : s.pair.state = 5) : exec .mirrorSyncDone s = .next (
    finish .pairJoin stOk [] (persistPair [2, 3] (setPairState 7 (updPair (fun p => { p with join := none })
      ((List.finRange 4).foldl sendTiming s))))) := by
  simp only [exec, execMirrorSyncDone, runCore_on hd, syncDone, hs, if_true]

theorem exec_mirrorSyncDone_night (hs : s.pair.state = 6) : exec .mirrorSyncDone s = .next (
    finish .pairJoin stOk [] (persistPair [2]
      (setPairState 8 (updPair (fun p => { p with join := none, ilkLow := true }) s)))) := by
  simp only [exec, execMirrorSyncDone, runCore_on hd, syncDone, hs, Fin.reduceEq, if_false, if_true]

/-! ### The partner comes and goes (R375, R380) -/

theorem exec_bndPresLow (hv : s.variant = .qt9840) (hp : s.pm.phase = .run) (hi : s.pm.setting[(2 : Fin 12)] ≠ 1)
    (hl : s.links[(2 : LinkNo)].state = 0) :
    exec .bndPresLow s = .next (startBringUp 2 (updPair (fun p => { p with bndPres := true }) s)) := by
  have hc : (s.pm.setting[(2 : Fin 12)] != 1) = true := bne_iff_ne.2 hi
  simp only [exec, execBndPresLow, runCore_on hd, startBond, updPair_variant, updPair_pm, updPair_links, updPair_pair, hv, hp,
    hc, hl, beq_self_eq_true, Bool.and_self, if_true]

/-- BND_PRES_N high ends the bond link. -/
theorem exec_partnerLost_absent : exec (.partnerLost true) s = .next (losePartner (endLink 2 0
    (updPair (fun p => { p with bndPres := false }) s))) := by
  simp only [exec, execPartnerLost, runCore_on hd, if_true]

theorem exec_partnerLost_bondActive (hb : bondActive s = true) : exec (.partnerLost false) s = .next s := by
  simp only [exec, execPartnerLost, runCore_on hd, hb, Bool.false_eq_true, if_false, if_true]

theorem exec_partnerLost_bondDown (hb : bondActive s = false) (h8 : s.links[(2 : LinkNo)].state ≠ 8) :
    exec (.partnerLost false) s = .next (losePartner s) := by
  simp only [exec, execPartnerLost, runCore_on hd, hb, h8, Bool.false_eq_true, if_false]

end Running

/-- Settles O37: each clause by the lemma of its case. -/
theorem pairingCommands : Obligations.PairingCommands := by
  unfold Obligations.PairingCommands
  refine ⟨fun c s h hf hp hw ha hm => ?join, fun s c => joinAllowed_iff, fun s q => exec_pairJoinTimeout,
    fun st s => rfl, fun s q j hd hj hb hs => exec_pairJoinMatched_forms hd hj hs hb,
    fun s q j st hd hj hb hs => exec_pairJoinMatched_refused hd hj hs hb,
    fun s j => exec_autoRejoin_day, fun s j t hd hb hn hs ht => ⟨fun hc => ?newcomer, fun st hc => ?unpaired⟩,
    fun s => exec_mirrorSyncDone_day, fun s => exec_mirrorSyncDone_night, fun c s h h0 => ?leftAlready,
    fun c s h hs => ?leaveBusy, fun c s h h0 h1 h11 hj hh hm => ?leaves, fun s => runCore_on, fun s => leaveDone_unpaired,
    fun c s h hp => ?status, fun c s h hp => ?clear,
    fun c s h h0 hs hw hm => ⟨fun ho => ?waits, fun ho => ?planned⟩, fun c s h h1 hs hw hm => ?atOnce,
    fun c s h hp => ?compare, fun c s h hl h0 h1 h2 h3 h4 h7 => ?store, fun s => exec_bndPresLow,
    fun s => exec_partnerLost_absent, fun s => exec_partnerLost_bondActive, fun s => exec_partnerLost_bondDown,
    fun s => losePartner_span, fun s => losePartner_day, fun s => losePartner_copying, fun s => losePartner_night⟩
  case join => exact runCmd_carried h (pairJoinBody_joins (s := fresh s) hf hp hw ha hm)
  case newcomer => rw [exec_autoRejoin_newcomer hd hb hn hs, ← ht, hc]; rfl
  case unpaired => rw [exec_autoRejoin_newcomer hd hb hn hs, ← ht, hc]; rfl
  case leftAlready => exact runCmd_carried h (pairLeaveBody_unpaired (s := fresh s) h0)
  case leaveBusy => exact runCmd_carried h (pairLeaveBody_busy (s := fresh s) hs)
  case leaves => exact runCmd_carried h (pairLeaveBody_leaves (s := fresh s) h0 h1 h11 hj hh hm)
  case status => exact runCmd_named h (by rw [pairReads, hp]; rfl) rfl
  case clear => exact runCmd_named h (by rw [pairClears, hp]; rfl) rfl
  case waits => exact runCmd_named h (beq_iff_eq.2 h0) ((handoverOp_held (s := fresh s) true hs hw hm).trans (if_pos ho))
  case planned =>
    exact runCmd_named h (beq_iff_eq.2 h0) ((handoverOp_held (s := fresh s) true hs hw hm).trans
      (if_neg (Bool.eq_false_iff.1 ho)))
  case atOnce =>
    exact runCmd_named h (beq_iff_eq.2 h1) ((handoverOp_held (s := fresh s) false hs hw hm).trans
      (if_neg Bool.false_ne_true))
  case compare => exact runCmd_carried h (pairCompareBody_reads (s := fresh s) hp)
  case store => exact runCmd_carried h (pairCompareBody_stores hl h0 h1 h2 h3 h4 h7)

end Sys2Proof.Machine
end

section
/-! SUPPORT. What the operations of the power path leave of the feeds, and what the rows of the shell do by what they find. -/
namespace Sys2Proof.Machine

set_option Elab.async false

variable {s : State} {f : Feed} {u : Up} {v : BitVec 16}

/-! ### What leaves the feeds as they are (R422) -/

/-- The feed in use, the feed a change leads to, and both feeds' window and qualification. -/
def feedsOf (s : State) : Option Feed × Option Feed × FeedState × FeedState :=
  (s.power.inUse, s.power.toFeed, s.power.feedA, s.power.feedB)

theorem feedsOf_of_power {t : State} (h : t.power = s.power) : feedsOf t = feedsOf s := by
  rw [feedsOf, h, feedsOf]

@[simp] theorem raise_feeds (sc : Scope) (e : Fin 64) (a : Nat) (s : State) : feedsOf (raise sc e a s) = feedsOf s :=
  feedsOf_of_power (raise_power s sc e a)

@[simp] theorem updPd_feeds (u : Up) (g : PdSource → PdSource) (s : State) : feedsOf (updPd u g s) = feedsOf s := rfl

@[simp] theorem storeRetry_feeds (s : State) : feedsOf (storeRetry s) = feedsOf s := rfl

@[simp] theorem settleEfuses_feeds (s : State) : feedsOf (settleEfuses s) = feedsOf s := rfl

@[simp] theorem powerFault_feeds (cls : Fin 24) (n : Nat) (b : Byte) (w : Half) (s : State) :
    feedsOf (powerFault cls n b w s) = feedsOf s := by
  have h := feedsOf_of_power (logFault_power s cls n { detail := w.setWidth 32 })
  unfold powerFault
  dsimp only
  split
  · exact h
  · exact h

@[simp] theorem refreshOffer_feeds (u : Up) (s : State) : feedsOf (refreshOffer u s) = feedsOf s := by
  unfold refreshOffer
  split <;> rfl

@[simp] theorem dropContract_feeds (u : Up) (s : State) : feedsOf (dropContract u s) = feedsOf s := by
  unfold dropContract
  dsimp only
  split
  · rw [refreshOffer_feeds, raise_feeds, updPd_feeds]
  · rfl

@[simp] theorem cutVbus_feeds (u : Up) (s : State) : feedsOf (cutVbus u s) = feedsOf s := dropContract_feeds _ _

@[simp] theorem pgFall_feeds (s : State) : feedsOf (pgFall s) = feedsOf s := by
  unfold pgFall
  split
  · rfl
  · simp only [settleEfuses_feeds, cutVbus_feeds]
    rfl

@[simp] theorem gateOff_feeds (st : Fin 7) (s : State) : feedsOf (gateOff st s) = feedsOf s := pgFall_feeds _

@[simp] theorem settleHsw_feeds (s : State) : feedsOf (settleHsw s) = feedsOf s := by
  unfold settleHsw
  split
  · rfl
  · split <;> rfl

@[simp] theorem hswFault_feeds (n : Nat) (w : Half) (s : State) : feedsOf (hswFault n w s) = feedsOf s := by
  simp only [hswFault, raise_feeds, powerFault_feeds, storeRetry_feeds]
  exact gateOff_feeds 5 s

theorem runShell_feeds {g : State → State} (h : feedsOf (g s) = feedsOf s) :
    ∃ t, runShell g s = .next t ∧ feedsOf t = feedsOf s := by
  refine ⟨_, rfl, ?_⟩
  split
  · exact h
  · rfl

theorem exec_fastTrip_feeds : ∃ t, exec (.fastTrip v) s = .next t ∧ feedsOf t = feedsOf s := by
  refine runShell_feeds ?_
  split
  · exact hswFault_feeds 1 v s
  · rfl

theorem exec_rampTimerExpiry_feeds : ∃ t, exec (.rampTimerExpiry v) s = .next t ∧ feedsOf t = feedsOf s := by
  refine runShell_feeds ?_
  split
  · exact hswFault_feeds 2 v s
  · rfl

theorem feedsOf_eq_iff {t : State} : feedsOf t = feedsOf s ↔ t.power.inUse = s.power.inUse ∧ t.power.toFeed = s.power.toFeed ∧
    t.power.feedA = s.power.feedA ∧ t.power.feedB = s.power.feedB := by
  simp only [feedsOf, Prod.mk.injEq]

/-- Settles O57: neither row changes the feeds, since nothing of a hot-swap fault does. -/
theorem payloadFaultsKeepTheFeeds : Obligations.PayloadFaultsKeepTheFeeds := by
  unfold Obligations.PayloadFaultsKeepTheFeeds
  intro s v
  obtain ⟨t, ht, kt⟩ := exec_fastTrip_feeds (s := s) (v := v)
  obtain ⟨w, hw, kw⟩ := exec_rampTimerExpiry_feeds (s := s) (v := v)
  obtain ⟨hu, hto, ha, hb⟩ := feedsOf_eq_iff.1 kt
  exact ⟨t, w, ht, hw, hu, hto, ha, hb, feedsOf_eq_iff.1 kw⟩

end Sys2Proof.Machine
end

section
/-! SUPPORT. The rows of the power-path shell, each by what it finds: its start, feeds, hot swap and its retry, eFuse channels. -/
namespace Sys2Proof.Machine

set_option Elab.async false

variable {s : State} {f : Feed} {v : BitVec 16}

/-! ### The shell's start (R413) -/

theorem shellRecord_clock {n : Nat} {g : List Byte → State → State} (h : ∀ b t, (g b t).clock = t.clock) :
    (shellRecord n g s).clock = s.clock := by
  unfold shellRecord
  split
  · exact h _ s
  · rfl
  · rfl

theorem loadShell_clock : (loadShell s).clock = s.clock := by
  unfold loadShell
  dsimp only
  split <;>
  · rw [updPower_clock]
    iterate 4 rw [shellRecord_clock fun _ _ => by rfl]

theorem settleHsw_clock : (settleHsw s).clock = s.clock := by
  unfold settleHsw
  split
  · rfl
  · split <;> rfl

theorem exec_shellStart_running (hs : s.power.shell = true) : exec .shellStart s = .next s := by
  change execShellStart s = _
  rw [execShellStart, if_pos hs]

theorem exec_shellStart (hs : s.power.shell = false) :
    ∃ t, exec .shellStart s = .next t ∧ t.clock.powered = true ∧ t.clock.inReset = true := by
  refine ⟨_, rfl, ?_⟩
  rw [if_neg (by rw [hs]; exact Bool.false_ne_true)]
  have h (es : List Emit) (t : State) : (settleHsw (emits es (loadShell t))).clock = t.clock :=
    by rw [settleHsw_clock, emits_clock, loadShell_clock]
  rw [h]
  exact ⟨rfl, rfl⟩

/-! ### Feeds (R414 to R417) -/

/-- Out of its over-voltage state a feed is in its window from UV on, or from 0.98 of UV on where it was in it (R414). -/
theorem senseFeed_inWindow {p : Power} {m : Nat} {x : FeedState} (hx : x.high = false) :
    (senseFeed p m x).inWindow = true ↔
      m < feedOv p ∧ if x.inWindow then 98 * feedUv p ≤ 100 * m else feedUv p ≤ m := by
  cases hw : x.inWindow <;>
    simp only [senseFeed, hx, hw, Bool.or_false, Bool.false_eq_true, if_true, if_false, Bool.and_eq_true,
      Bool.not_eq_true', decide_eq_false_iff_not, Nat.not_le, Nat.not_lt]

theorem useFeed_inUse {o : Option Feed} : (useFeed o s).power.inUse = o := by
  unfold useFeed
  split
  · assumption
  · exact congrArg Prod.fst ((settleHsw_feeds _).trans (raise_feeds _ _ _ _))

theorem feedOf_setFeed {g : FeedState → FeedState} {p : Power} : feedOf (setFeed f g p) f = g (feedOf p f) := by
  cases f <;> rfl

theorem feedOf_setFeed_other {g : FeedState → FeedState} {p : Power} :
    feedOf (setFeed f g p) (otherFeed f) = feedOf p (otherFeed f) := by
  cases f <;> rfl

theorem setFeed_inUse {g : FeedState → FeedState} {p : Power} : (setFeed f g p).inUse = p.inUse := by cases f <;> rfl

theorem setFeed_toFeed {g : FeedState → FeedState} {p : Power} : (setFeed f g p).toFeed = p.toFeed := by cases f <;> rfl

theorem pwPreferred_setFeed {g : FeedState → FeedState} {p : Power} : pwPreferred (setFeed f g p) = pwPreferred p := by
  cases f <;> rfl

/-- The feed in use is lost while the other is in its window: the other follows after the gap. -/
theorem feedLost_follows (hu : s.power.inUse = some f) (ht : s.power.toFeed = none)
    (ho : (feedOf s.power (otherFeed f)).inWindow = true) :
    feedLost f s = updPower (fun p => { p with toFeed := some (otherFeed f) }) (powerFault 0x10 0 1 0 s) := by
  unfold feedLost
  simp only [hu, ht, ho, decide_true, Option.isNone_none, Bool.and_self, if_true]

/-- The preferred feed, qualified, is turned on where none is in use. -/
theorem feedPick_preferred (hu : s.power.inUse = none) (ht : s.power.toFeed = none)
    (hq : (feedOf s.power (pwPreferred s.power)).qualified = true) :
    feedPick s = useFeed (some (pwPreferred s.power)) s := by
  unfold feedPick
  simp only [hu, ht, hq, Option.isSome_none, Bool.or_self, Bool.false_eq_true, if_false, if_true]

section Running
variable (hs : s.power.shell = true)
include hs

theorem runFeed_same {g : State → State} (h : (g s).power.inUse = s.power.inUse) : runFeed g s = .next (g s) := by
  rw [runFeed, runShell_on hs, noteFeed, if_pos h]

theorem runFeed_changed {g : State → State} (h : (g s).power.inUse ≠ s.power.inUse) :
    runFeed g s = .next (recogniseToo 0x20 (g s)) := by
  rw [runFeed, runShell_on hs, noteFeed, if_neg h]

theorem exec_feedWindowEnter (ho : (feedOf s.power f).inWindow = false)
    (hi : (senseFeed s.power v.toNat (feedOf s.power f)).inWindow = true) :
    exec (.feedWindowEnter f v) s = .next (updPower (fun p => setFeed f (senseFeed p v.toNat) p) s) := by
  change execFeedWindowEnter f v s = _
  simp only [execFeedWindowEnter, runShell_on hs, ho, hi, Bool.not_true, Bool.or_self, Bool.false_eq_true, if_false]

theorem exec_feedQualified (hw : (feedOf s.power f).inWindow = true) (hu : s.power.inUse = none)
    (ht : s.power.toFeed = none) (hp : pwPreferred s.power = f) : exec (.feedQualified f) s =
    .next (recogniseToo 0x20 (useFeed (some f) (updPower (setFeed f (fun x => { x with qualified := true })) s))) := by
  have hk : feedPick (updPower (setFeed f (fun x => { x with qualified := true })) s) =
      useFeed (some f) (updPower (setFeed f (fun x => { x with qualified := true })) s) := by
    have hf : pwPreferred (updPower (setFeed f (fun x => { x with qualified := true })) s).power = f :=
      pwPreferred_setFeed.trans hp
    rw [feedPick_preferred (setFeed_inUse.trans hu) (setFeed_toFeed.trans ht), hf]
    rw [hf]
    exact congrArg FeedState.qualified feedOf_setFeed
  refine (runFeed_changed hs ?_).trans ?_
  · rw [if_pos hw, hk, useFeed_inUse, hu]
    exact Option.some_ne_none f
  · rw [if_pos hw, hk]

/-- The feed in use leaves its window while the other is in its own. -/
theorem exec_feedWindowLeave_follows (hw : (feedOf s.power f).inWindow = true)
    (hb : (feedOf s.power (otherFeed f)).inWindow = true) (hu : s.power.inUse = some f) (ht : s.power.toFeed = none)
    (ho : (senseFeed s.power v.toNat (feedOf s.power f)).inWindow = false) :
    exec (.feedWindowLeave f v) s = .next (updPower (fun p => { p with toFeed := some (otherFeed f) })
      (powerFault 0x10 0 1 0 (updPower (fun p => setFeed f (senseFeed p v.toNat) p) s))) := by
  have hl : feedLeave f v.toNat s = updPower (fun p => { p with toFeed := some (otherFeed f) })
      (powerFault 0x10 0 1 0 (updPower (fun p => setFeed f (senseFeed p v.toNat) p) s)) :=
    feedLost_follows (setFeed_inUse.trans hu) (setFeed_toFeed.trans ht)
      ((congrArg FeedState.inWindow feedOf_setFeed_other).trans hb)
  change execFeedWindowLeave f v s = _
  rw [execFeedWindowLeave, runFeed_same hs] <;> simp only [ho, hw, hl, Bool.false_eq_true, if_true, if_false]
  exact (congrArg Prod.fst (powerFault_feeds 0x10 0 1 0 _)).trans setFeed_inUse

theorem exec_feedReturnDelayExpiry (hr : pwRevertive s.power = true) (hp : pwPreferred s.power = .a)
    (hu : s.power.inUse = some .b) (hq : s.power.feedA.qualified = true) (ht : s.power.toFeed = none) :
    exec .feedReturnDelayExpiry s = .next (updPower (fun p => { p with toFeed := some .a }) s) := by
  change execFeedReturnDelayExpiry s = _
  simp only [execFeedReturnDelayExpiry, runShell_on hs, hr, hp, hu, hq, ht, feedOf, otherFeed, beq_self_eq_true,
    Option.isNone_none, Bool.and_self, if_true]

theorem exec_feedGapExpiry_changed (ht : s.power.toFeed = some f) (hu : s.power.inUse ≠ some f) : exec .feedGapExpiry s =
    .next (recogniseToo 0x20 (useFeed (some f) (updPower (fun p => { p with toFeed := none }) s))) := by
  change execFeedGapExpiry s = _
  rw [execFeedGapExpiry, runFeed_changed hs] <;> simp only [ht]
  rw [useFeed_inUse]
  exact Ne.symm hu

theorem exec_feedGapExpiry_same (ht : s.power.toFeed = some f) (hu : s.power.inUse = some f) :
    exec .feedGapExpiry s = .next (updPower (fun p => { p with toFeed := none }) s) := by
  have hk : useFeed (some f) (updPower (fun p => { p with toFeed := none }) s) =
      updPower (fun p => { p with toFeed := none }) s := if_pos hu
  change execFeedGapExpiry s = _
  rw [execFeedGapExpiry, runFeed_same hs] <;> simp only [ht, hk]
  rfl

theorem exec_noFeedTimeout (hu : s.power.inUse = none) :
    exec .noFeedTimeout s = .next (gateOff 0 (updPower (fun p => { p with inserted := false }) s)) := by
  change execNoFeedTimeout s = _
  simp only [execNoFeedTimeout, runShell_on hs, hu, Option.isSome_none, Bool.false_eq_true, if_false]

/-! ### Hot swap (R418 to R425) -/

theorem exec_insertionDelayExpiry (hp : s.power.seated = true) (hu : s.power.inUse ≠ none) (hr : s.power.retryMs = 0)
    (hl : s.power.latched = false) (hg : s.power.gate = false) :
    exec .insertionDelayExpiry s = .next (startRamp (updPower (fun p => { p with inserted := true }) s)) := by
  have hi := Option.isSome_iff_ne_none.2 hu
  change execInsertionDelayExpiry s = _
  simp only [execInsertionDelayExpiry, runShell_on hs, settleHsw, mayRamp, updPower_power, hp, hi, hr, hl, hg,
    beq_self_eq_true, Bool.not_false, Bool.and_self, Bool.false_eq_true, if_true, if_false]

theorem exec_powerGood (hg : s.power.gate = true) (hp : s.power.pg = false) : exec .powerGood s = .next (pgRise s) := by
  change execPowerGood s = _
  simp only [execPowerGood, runShell_on hs, hg, hp, Bool.not_false, Bool.and_self, if_true]

theorem exec_vbusGateDelayExpiry (hp : s.power.pg = true) :
    exec .vbusGateDelayExpiry s = .next (updPower (fun p => { p with vbusGate := true }) s) := by
  change execVbusGateDelayExpiry s = _
  simp only [execVbusGateDelayExpiry, runShell_on hs, hp, if_true]

theorem exec_powerFail (hp : s.power.pg = true) :
    exec .powerFail s = .next (updPower (fun p => { p with hsw := if p.hsw = 3 then 2 else p.hsw }) (pgFall s)) := by
  change execPowerFail s = _
  simp only [execPowerFail, runShell_on hs, hp, if_true]

theorem exec_fastTrip (hg : s.power.gate = true) : exec (.fastTrip v) s = .next (hswFault 1 v s) := by
  change execFastTrip v s = _
  simp only [execFastTrip, runShell_on hs, hg, if_true]

theorem exec_rampTimerExpiry (hg : s.power.gate = true) (hr : s.power.ramping = true) :
    exec (.rampTimerExpiry v) s = .next (hswFault 2 v s) := by
  change execRampTimerExpiry v s = _
  simp only [execRampTimerExpiry, runShell_on hs, hg, hr, Bool.and_self, if_true]

/-- After the insertion, current regulation starts the ramp timer. -/
theorem exec_hotswapRegulation_enters (hg : s.power.gate = true) (hi : s.power.inserting = false) :
    exec (.hotswapRegulation true v) s = .next (updPower (fun p => { p with ramping := true, hsw := 4 }) s) := by
  change execHotswapRegulation true v s = _
  simp only [execHotswapRegulation, runShell_on hs, hg, Bool.not_true, Bool.false_eq_true, if_true, if_false, updPower, hi]

/-- Its end with VDS below 100 mV stops the timer. -/
theorem exec_hotswapRegulation_ends (hg : s.power.gate = true) (hi : s.power.inserting = false) (hv : v.toNat < 10) :
    exec (.hotswapRegulation false v) s =
      .next (updPower (fun p => { p with ramping := false, hsw := if p.pg then 3 else 2 }) s) := by
  change execHotswapRegulation false v s = _
  simp only [execHotswapRegulation, runShell_on hs, hg, hi, hv, Bool.not_true, Bool.false_eq_true, if_true, if_false]

theorem exec_retryTimerExpiry (hr : s.power.retryMs ≠ 0) :
    exec .retryTimerExpiry s = .next (settleHsw (storeRetry (updPower (fun p => { p with retryMs := 0 }) s))) := by
  change execRetryTimerExpiry s = _
  simp only [execRetryTimerExpiry, runShell_on hs, hr, if_false]

theorem exec_retryStateCheckpoint (hr : s.power.retryMs ≠ 0) : exec .retryStateCheckpoint s =
    .next (storeRetry (updPower (fun p => { p with retryMs := max 1 (p.retryMs - 1) }) s)) := by
  change execRetryStateCheckpoint s = _
  simp only [execRetryStateCheckpoint, runShell_on hs, hr, if_false]

theorem exec_retryCountReset (hp : s.power.pg = true) :
    exec .retryCountReset s = .next (storeRetry (updPower (fun p => { p with count := 0 }) s)) := by
  change execRetryCountReset s = _
  simp only [execRetryCountReset, runShell_on hs, hp, if_true]

theorem exec_prsntRemoved : exec .prsntRemoved s =
    .next (gateOff 0 (updPower (fun p => { p with seated := false, inserted := false }) s)) := by
  change execPrsntRemoved s = _
  rw [execPrsntRemoved, runShell_on hs]

theorem exec_prsntInserted (hp : s.power.seated = false) : exec .prsntInserted s =
    .next (settleHsw (updPower (fun p => { p with seated := true, inserted := false }) s)) := by
  change execPrsntInserted s = _
  simp only [execPrsntInserted, runShell_on hs, hp, Bool.false_eq_true, if_false]

/-! ### eFuse channels (R429) -/

theorem exec_efuseOverloadTrip (ch : Fin 6) (ma : Half) :
    exec (.efuseOverloadTrip ch ma) s = .next (efuseTrip ch 1 ma s) := by
  change execEfuseOverloadTrip ch ma s = _
  rw [execEfuseOverloadTrip, runShell_on hs]

theorem exec_efuseSevereTrip (ch : Fin 6) (ma : Half) :
    exec (.efuseSevereTrip ch ma) s = .next (efuseTrip ch 2 ma s) := by
  change execEfuseSevereTrip ch ma s = _
  rw [execEfuseSevereTrip, runShell_on hs]

theorem exec_efuseOffTimeExpiry (ch : Fin 6) : exec (.efuseOffTimeExpiry ch) s =
    .next (updPower (fun p => { p with efuses := upd p.efuses ch (fun e => { e with offTime := false }) }) s) := by
  change execEfuseOffTimeExpiry ch s = _
  rw [execEfuseOffTimeExpiry, runShell_on hs]

end Running

theorem efuseTrip_conducting {ch : Fin 6} (cause : Byte) (ma : Half) (ho : s.power.efuses[ch].on = true) :
    efuseTrip ch cause ma s =
      let t := powerFault 0x12 (2 + ch.val) cause ma (raise .all 60 ch.val (updPower (fun p => { p with
        efuses := upd p.efuses ch (fun e => { e with on := false, tripped := true, held := true, offTime := true, trips := satInc e.trips })
        trip := setBit p.trip ch.val true }) s))
      if usbExternal t (ch.val + 1) then portOverCurrent ⟨ch.val + 1, by omega⟩ t else t := by
  simp only [efuseTrip, ho, Bool.not_true, Bool.false_eq_true, if_false]

/-- Settles O40: each clause by the lemma of its row. -/
theorem powerShell : Obligations.PowerShell := by
  unfold Obligations.PowerShell
  refine ⟨fun s => exec_shellStart_running, fun s => exec_shellStart, fun s f v hs => exec_feedWindowEnter hs,
    fun p m x => senseFeed_inWindow, fun s f hs => exec_feedQualified hs, fun s f hu => ?changed,
    fun s v hs => exec_feedWindowLeave_follows (f := .a) hs, fun s hs => exec_feedReturnDelayExpiry hs,
    fun s f hs => exec_feedGapExpiry_changed hs, fun s f hs => exec_feedGapExpiry_same hs,
    fun s hs => exec_noFeedTimeout hs, fun s hs => exec_insertionDelayExpiry hs, fun s hs => exec_powerGood hs,
    fun s hs => exec_vbusGateDelayExpiry hs, fun s hs => exec_powerFail hs, fun s v hs => exec_fastTrip hs,
    fun s v hs => exec_rampTimerExpiry hs,
    fun s v hs hg hi => ⟨exec_hotswapRegulation_enters hs hg hi, exec_hotswapRegulation_ends hs hg hi⟩,
    fun s hs hr => ⟨exec_retryTimerExpiry hs hr, exec_retryStateCheckpoint hs hr⟩,
    fun s hs => exec_retryCountReset hs, fun s hs => exec_prsntRemoved hs, fun s hs => exec_prsntInserted hs,
    fun s ch ma hs _ => ⟨exec_efuseOverloadTrip hs ch ma, exec_efuseSevereTrip hs ch ma⟩, fun s ch cause ma => efuseTrip_conducting cause ma,
    fun s ch hs => exec_efuseOffTimeExpiry hs ch⟩
  case changed =>
    unfold useFeed
    rw [if_neg hu]
    cases f <;> rfl

end Sys2Proof.Machine
end

section
/-! SUPPORT. Fields of payloads laid out byte by byte, and of payloads put together from fields. -/
namespace Sys2Proof.Machine

set_option Elab.async false

variable {a b r : List Byte} {x : Byte} {i n v : Nat}

@[simp] theorem fieldAt_cons_succ : fieldAt (x :: r) (i + 1) n = fieldAt r i n := rfl

@[simp] theorem byteAt_cons_zero : byteAt (x :: r) 0 = x.toNat := by
  simp only [byteAt, fieldAt, List.drop_zero, List.take_succ_cons, List.take_zero, leNat, Nat.mul_zero, Nat.add_zero]

@[simp] theorem byteAt_cons_succ : byteAt (x :: r) (i + 1) = byteAt r i := rfl

@[simp] theorem zeroAt_cons_succ : zeroAt (x :: r) (i + 1) n = zeroAt r i n := rfl

theorem fieldAt_append_left (h : i + n ≤ a.length) : fieldAt (a ++ b) i n = fieldAt a i n := by
  rw [fieldAt, List.drop_append_of_le_length (by omega), List.take_append_of_le_length (by rw [List.length_drop]; omega),
    fieldAt]

theorem fieldAt_append_right (h : a.length ≤ i) : fieldAt (a ++ b) i n = fieldAt b (i - a.length) n := by
  rw [fieldAt, List.drop_append, List.drop_eq_nil_of_le h, List.nil_append, fieldAt]

theorem zeroAt_append_left (h : i + n ≤ a.length) : zeroAt (a ++ b) i n = zeroAt a i n := by
  rw [zeroAt, List.drop_append_of_le_length (by omega), List.take_append_of_le_length (by rw [List.length_drop]; omega),
    zeroAt]

theorem zeroAt_append_right (h : a.length ≤ i) : zeroAt (a ++ b) i n = zeroAt b (i - a.length) n := by
  rw [zeroAt, List.drop_append, List.drop_eq_nil_of_le h, List.nil_append, zeroAt]

/-- A field laid out at the head of a payload reads back modulo its width (R15). -/
@[simp] theorem fieldAt_leBytes : fieldAt (leBytes n v ++ r) 0 n = v % 256 ^ n := by
  rw [fieldAt, List.drop_zero, List.take_left' (leBytes_length n v), leNat_leBytes]

@[simp] theorem fieldAt_leBytes_last : fieldAt (leBytes n v) 0 n = v % 256 ^ n := by
  rw [fieldAt, List.drop_zero, List.take_of_length_le (Nat.le_of_eq (leBytes_length n v)), leNat_leBytes]

/-- What follows a field at the head of a payload. -/
@[simp] theorem fieldAt_past_leBytes {m : Nat} : fieldAt (leBytes m v ++ r) (m + i) n = fieldAt r i n := by
  rw [fieldAt_append_right (by rw [leBytes_length]; omega), leBytes_length, Nat.add_sub_cancel_left]

@[simp] theorem zeroAt_zeros : zeroAt (zeros n ++ r) 0 n = true := by
  rw [zeroAt, List.drop_zero, List.take_left' (zeros_length n), List.all_eq_true]
  intro y hy
  rw [List.eq_of_mem_replicate hy]
  rfl

theorem byteAt_lt : byteAt a i < 256 := by
  unfold byteAt fieldAt
  have h := leNat_lt ((a.drop i).take 1)
  exact Nat.lt_of_lt_of_le h (Nat.pow_le_pow_right (by decide) (List.length_take_le 1 _))

end Sys2Proof.Machine
end

section
/-! SUPPORT. The commands of the power path by their form: reads, settings within and out of range, and the clearing of faults. -/
namespace Sys2Proof.Machine

set_option Elab.async false

variable {s : State} {c : Cmd} {ch : Fin 6}

theorem payload_ne_nil {n : Nat} (hl : c.payload.length = n + 1) : c.payload ≠ [] := List.ne_nil_of_length_eq_add_one hl

/-! ### PWR_FEED_CFG and PWR_HOTSWAP_CFG (R440, R441) -/

theorem pwrFeedCfgBody_reads (hp : c.payload = []) : pwrFeedCfgBody c s = ok 0x0A01 c s.power.feedCfg s := by
  simp only [pwrFeedCfgBody, hp, List.isEmpty_nil, if_true]

theorem pwrFeedCfgBody_sets (hp : c.payload ≠ []) (hk : feedCfgOk c.payload = true) :
    pwrFeedCfgBody c s = ok 0x0A01 c c.payload (newFeedCfg c.payload s) := by
  simp only [pwrFeedCfgBody, List.isEmpty_eq_false_iff.2 hp, hk, Bool.not_true, Bool.false_eq_true, if_false]

theorem pwrFeedCfgBody_badArg (hp : c.payload ≠ []) (hk : feedCfgOk c.payload = false) :
    pwrFeedCfgBody c s = fail 0x0A01 c stBadArg s := by
  simp only [pwrFeedCfgBody, List.isEmpty_eq_false_iff.2 hp, hk, Bool.not_false, Bool.false_eq_true, if_true, if_false]

theorem pwrHotswapCfgBody_reads (hp : c.payload = []) : pwrHotswapCfgBody c s = ok 0x0A02 c s.power.hswCfg s := by
  simp only [pwrHotswapCfgBody, hp, List.isEmpty_nil, if_true]

theorem pwrHotswapCfgBody_sets (hp : c.payload ≠ []) (hk : hswCfgOk c.payload = true) : pwrHotswapCfgBody c s =
    ok 0x0A02 c c.payload (storeSetting 17 c.payload (updPower (fun p => { p with hswCfg := c.payload }) s)) := by
  simp only [pwrHotswapCfgBody, List.isEmpty_eq_false_iff.2 hp, hk, Bool.not_true, Bool.false_eq_true, if_false]

theorem pwrHotswapCfgBody_badArg (hp : c.payload ≠ []) (hk : hswCfgOk c.payload = false) :
    pwrHotswapCfgBody c s = fail 0x0A02 c stBadArg s := by
  simp only [pwrHotswapCfgBody, List.isEmpty_eq_false_iff.2 hp, hk, Bool.not_false, Bool.false_eq_true, if_true, if_false]

/-! ### PWR_EFUSE_CFG (R429, R442) -/

section Channel
variable (hc : c.target.toNat % 8 = ch.val)
include hc

theorem pwrEfuseCfgBody_reads (hp : c.payload = []) :
    pwrEfuseCfgBody c s = ok 0x0A03 c (efuseReport ch s).1 (efuseReport ch s).2 := by
  have hlt : c.target.toNat % 8 < 6 := hc ▸ ch.isLt
  obtain rfl : ch = ⟨c.target.toNat % 8, hlt⟩ := Fin.ext hc.symm
  rw [pwrEfuseCfgBody, dif_pos hlt]
  simp only [hp, List.isEmpty_nil, if_true]

/-- A setting arms a channel that may conduct again, and one of 0 turns off the port that the channel feeds. -/
theorem pwrEfuseCfgBody_sets (hp : c.payload ≠ []) (hk : efuseCfgOk c.payload = true) : pwrEfuseCfgBody c s =
    let u := updPower (fun p => { p with efuses := upd p.efuses ch (fun e => { e with setting := c.payload }) }) s
    let v := resumeEfuse ch (storeSetting 18 (u.power.efuses.toList.flatMap (fun e => e.setting)) u)
    let w := settlePorts7 (if fieldAt c.payload 0 2 = 0 && usbExternal v (ch.val + 1) then portOff ⟨ch.val + 1, by omega⟩ v else v)
    ok 0x0A03 c (efuseReport ch w).1 (efuseReport ch w).2 := by
  have hlt : c.target.toNat % 8 < 6 := hc ▸ ch.isLt
  obtain rfl : ch = ⟨c.target.toNat % 8, hlt⟩ := Fin.ext hc.symm
  rw [pwrEfuseCfgBody, dif_pos hlt]
  simp only [List.isEmpty_eq_false_iff.2 hp, hk, Bool.not_true, Bool.false_eq_true, if_false]

theorem pwrEfuseCfgBody_badArg (hp : c.payload ≠ []) (hk : efuseCfgOk c.payload = false) :
    pwrEfuseCfgBody c s = fail 0x0A03 c stBadArg s := by
  rw [pwrEfuseCfgBody, dif_pos (hc ▸ ch.isLt)]
  simp only [List.isEmpty_eq_false_iff.2 hp, hk, Bool.not_false, Bool.false_eq_true, if_true, if_false]

end Channel

theorem pwrEfuseCfgBody_noChannel (hc : 6 ≤ c.target.toNat % 8) : pwrEfuseCfgBody c s = fail 0x0A03 c stBadArg s := by
  rw [pwrEfuseCfgBody, dif_neg (Nat.not_lt.2 hc)]

/-! ### PWR_PD_POLICY (R443) -/

theorem pwrPdPolicyBody_reads (hp : c.payload = []) :
    pwrPdPolicyBody c s = ok 0x0A05 c (pdPolicyReport s (tgUp c)) s := by
  simp only [pwrPdPolicyBody, hp, List.isEmpty_nil, if_true]

theorem pwrPdPolicyBody_sets (hp : c.payload ≠ []) (hk : pdPolicyOk c.payload = true) : pwrPdPolicyBody c s =
    let u := setPdPolicy (tgUp c) c.payload s
    ok 0x0A05 c (pdPolicyReport u (tgUp c)) u := by
  simp only [pwrPdPolicyBody, List.isEmpty_eq_false_iff.2 hp, hk, Bool.not_true, Bool.false_eq_true, if_false]

theorem pwrPdPolicyBody_badArg (hp : c.payload ≠ []) (hk : pdPolicyOk c.payload = false) :
    pwrPdPolicyBody c s = fail 0x0A05 c stBadArg s := by
  simp only [pwrPdPolicyBody, List.isEmpty_eq_false_iff.2 hp, hk, Bool.not_false, Bool.false_eq_true, if_true, if_false]

/-! ### PWR_FAULT_CLEAR (R426, R445) -/

/-- The bits of the two bytes clear the hot swap, the channels and the converters' lockouts. -/
theorem pwrFaultClearBody_clears (ha : byteAt c.payload 0 < 128) (hb : byteAt c.payload 1 < 4) : pwrFaultClearBody c s =
    let t := if (byteAt c.payload 0).testBit 0 then clearHsw s else s
    let t := ((List.finRange 6).filter (fun ch => (byteAt c.payload 0).testBit (ch.val + 1))).foldl clearEfuse t
    let t := if (byteAt c.payload 1).testBit 0 then clearLockout 0 t else t
    ok 0x0A06 c [] (if (byteAt c.payload 1).testBit 1 then clearLockout 1 t else t) := by
  simp only [pwrFaultClearBody, Nat.not_le.2 ha, Nat.not_le.2 hb, decide_false, Bool.or_self, Bool.false_eq_true, if_false]

/-- Bit 0 of the first byte alone clears the hot swap alone. -/
theorem pwrFaultClearBody_hsw (hp : c.payload = [1, 0]) : pwrFaultClearBody c s = ok 0x0A06 c [] (clearHsw s) := by
  rw [pwrFaultClearBody_clears (by rw [hp]; decide) (by rw [hp]; decide), hp]
  rfl

theorem pwrFaultClearBody_badArg (h : 128 ≤ byteAt c.payload 0 ∨ 4 ≤ byteAt c.payload 1) :
    pwrFaultClearBody c s = fail 0x0A06 c stBadArg s := by
  simp only [pwrFaultClearBody, Bool.or_eq_true, decide_eq_true_eq, h, if_true]

theorem clearHsw_stopped (h : s.power.latched = true ∨ s.power.retryMs ≠ 0) : clearHsw s =
    settleHsw (storeRetry (updPower (fun p => { p with latched := false, retryMs := 0, count := 0 }) s)) := by
  simp only [clearHsw, Bool.or_eq_true, bne_iff_ne, h, if_true]

/-- Where nothing is latched and no retry time runs, the count stays too (log entry 80). -/
theorem clearHsw_running (hl : s.power.latched = false) (hr : s.power.retryMs = 0) : clearHsw s = s := by
  simp only [clearHsw, hl, hr, bne_self_eq_false, Bool.or_self, Bool.false_eq_true, if_false]

/-- Settles O39: each clause by the lemma of its form. -/
theorem powerCommands : Obligations.PowerCommands := by
  unfold Obligations.PowerCommands
  refine ⟨fun c s h hp => ?feed, fun c s h hl hk => ?feedSet, fun b s => rfl, fun c s h hl hk => ?feedBad,
    fun c s h hp => ?hsw, fun c s h hl hk => ?hswSet, fun c s h hl hk => ?hswBad, fun c s ch h hc hp => ?efuse,
    fun c s ch h hc hl hk => ?efuseSet, fun c s ch h hc hl hk => ?efuseBad, fun c s h hc => ?noChannel,
    fun c s h hp => ?status, fun c s h hp => ?statusClear, fun c s h hp => ?policy, fun c s h hl hk => ?policySet,
    fun c s h hl hk => ?policyBad, fun c s a b h hp ha hb => ?clear, fun s ch => rfl,
    fun u s => ⟨fun hl => ?notLocked, fun hl => ?locked⟩, fun c s h hp hs => ?hswStopped,
    fun c s h hp hl hr => ?hswRunning, fun c s h hx => ?clearBad⟩
  case feed => exact runCmd_carried h (pwrFeedCfgBody_reads hp)
  case feedSet => exact runCmd_carried h (pwrFeedCfgBody_sets (payload_ne_nil hl) hk)
  case feedBad => exact runCmd_carried h (pwrFeedCfgBody_badArg (payload_ne_nil hl) hk)
  case hsw => exact runCmd_carried h (pwrHotswapCfgBody_reads hp)
  case hswSet => exact runCmd_carried h (pwrHotswapCfgBody_sets (payload_ne_nil hl) hk)
  case hswBad => exact runCmd_carried h (pwrHotswapCfgBody_badArg (payload_ne_nil hl) hk)
  case efuse => exact runCmd_carried h (pwrEfuseCfgBody_reads hc hp)
  case efuseSet => exact runCmd_carried h (pwrEfuseCfgBody_sets hc (payload_ne_nil hl) hk)
  case efuseBad => exact runCmd_carried h (pwrEfuseCfgBody_badArg hc (payload_ne_nil hl) hk)
  case noChannel => exact runCmd_carried h (pwrEfuseCfgBody_noChannel hc)
  case status => exact runCmd_named h (List.isEmpty_iff.2 hp) rfl
  case statusClear => exact runCmd_named h (by rw [pwrClears, hp]; rfl) rfl
  case policy => exact runCmd_carried h (pwrPdPolicyBody_reads hp)
  case policySet => exact runCmd_carried h (pwrPdPolicyBody_sets (payload_ne_nil hl) hk)
  case policyBad => exact runCmd_carried h (pwrPdPolicyBody_badArg (payload_ne_nil hl) hk)
  case clear =>
    have h0 : byteAt c.payload 0 = a.toNat := by rw [hp]; exact byteAt_cons_zero
    have h1 : byteAt c.payload 1 = b.toNat := by rw [hp]; exact byteAt_cons_zero
    refine runCmd_carried h ((pwrFaultClearBody_clears (h0 ▸ ha) (h1 ▸ hb)).trans ?_)
    rw [h0, h1]
  case notLocked => rw [clearLockout, if_neg (ne_true_of_eq_false hl)]
  case locked => rw [clearLockout, if_pos hl]
  case hswStopped =>
    refine runCmd_carried h ((pwrFaultClearBody_hsw hp).trans ?_)
    rw [clearHsw_stopped (s := fresh s) hs]
  case hswRunning =>
    refine runCmd_carried h ((pwrFaultClearBody_hsw hp).trans ?_)
    rw [clearHsw_running (s := fresh s) hl hr]
  case clearBad => exact runCmd_carried h (pwrFaultClearBody_badArg hx)

end Sys2Proof.Machine
end

section
/-! SUPPORT. The Telemetry group by its forms, a telemetry sample, and a thermal sample below and above the thresholds. -/
namespace Sys2Proof.Machine

set_option Elab.async false

variable {s : State} {c : Cmd}

/-! ### TEL_SAMPLE_CFG, TEL_READ and TEL_THERMAL (R551 to R553) -/

theorem telSampleCfgBody_reads (hp : c.payload = []) : telSampleCfgBody c s = ok 0x0E01 c (telSampleReport s) s := by
  simp only [telSampleCfgBody, hp, List.isEmpty_nil, if_true]

section SampleCfg
variable {sel ms : Nat} (hp : c.payload = leBytes 2 sel ++ [0, 0] ++ leBytes 4 ms)
include hp

/-- The interval of the payload decides whether it is in range. -/
theorem telSampleCfgBody_named (hm : ms < 4294967296) : telSampleCfgBody c s =
    if ms < 1 || 60000 < ms then fail 0x0E01 c stBadArg s
    else
      let u := updTel (fun t => { t with select := BitVec.ofNat 16 (sel % 65536), interval := BitVec.ofNat 16 ms }) s
      ok 0x0E01 c (telSampleReport u) u := by
  have he : c.payload.isEmpty = false := by rw [hp]; rfl
  have hz : zeroAt c.payload 2 2 = true := by rw [hp]; rfl
  have hs : fieldAt c.payload 0 2 = sel % 65536 := by
    rw [hp, List.append_assoc]
    exact fieldAt_leBytes
  have hi : fieldAt c.payload 4 4 = ms := by
    rw [hp]
    exact fieldAt_leBytes_last.trans (Nat.mod_eq_of_lt hm)
  simp only [telSampleCfgBody, he, hz, hs, hi, Bool.not_true, Bool.false_or, Bool.false_eq_true, if_false]

theorem telSampleCfgBody_sets (hs : sel < 65536) (h1 : 1 ≤ ms) (h2 : ms ≤ 60000) : telSampleCfgBody c s =
    let u := updTel (fun t => { t with select := BitVec.ofNat 16 sel, interval := BitVec.ofNat 16 ms }) s
    ok 0x0E01 c (telSampleReport u) u := by
  rw [telSampleCfgBody_named hp (by omega), Nat.mod_eq_of_lt hs]
  simp only [Nat.not_lt.2 h1, Nat.not_lt.2 h2, decide_false, Bool.or_self, Bool.false_eq_true, if_false]

theorem telSampleCfgBody_badArg (hm : ms < 4294967296) (h : ms = 0 ∨ 60000 < ms) :
    telSampleCfgBody c s = fail 0x0E01 c stBadArg s := by
  rw [telSampleCfgBody_named hp hm, if_pos]
  simpa only [Bool.or_eq_true, decide_eq_true_eq, Nat.lt_one_iff] using h

end SampleCfg

/-- Where a sample was taken since they restarted, the extremes are known. -/
theorem telReadExtremesOp_sampled (h : s.tel.sampled = true) : telReadExtremesOp c s =
    ok 0x0E02 c (leBytes 8 s.tel.time.toNat
        ++ ((List.finRange 16).flatMap (fun i => [s.tel.minima[i], s.tel.maxima[i]])).flatMap wordBytes)
      (updTel (fun x => { x with sampled := false }) s) := by
  simp only [telReadExtremesOp, h, if_true]

theorem telThermalBody_reads (hp : c.payload = []) : telThermalBody c s = ok 0x0E03 c (telThermalReport s) s := by
  simp only [telThermalBody, hp, List.isEmpty_nil, if_true]

section Thermal
variable {w h : Byte} (hp : c.payload = [w, h, 0, 0])
include hp

/-- The thresholds of the payload decide whether they are in range. -/
theorem telThermalBody_named : telThermalBody c s =
    if 125 < w.toNat || 125 < h.toNat || h.toNat < w.toNat then fail 0x0E03 c stBadArg s
    else
      let u := updTel (fun t => { t with warnC := w, highC := h }) s
      ok 0x0E03 c (telThermalReport u) u := by
  have he : c.payload.isEmpty = false := by rw [hp]; rfl
  have hz : zeroAt c.payload 2 2 = true := by rw [hp]; rfl
  have hw : byteAt c.payload 0 = w.toNat := by rw [hp]; exact byteAt_cons_zero
  have hh : byteAt c.payload 1 = h.toNat := by rw [hp]; exact byteAt_cons_zero
  simp only [telThermalBody, he, hz, hw, hh, Bool.not_true, Bool.or_false, Bool.false_eq_true, if_false,
    BitVec.ofNat_toNat, BitVec.setWidth_eq]

theorem telThermalBody_sets (hl : w.toNat ≤ h.toNat) (hm : h.toNat ≤ 125) : telThermalBody c s =
    let u := updTel (fun t => { t with warnC := w, highC := h }) s
    ok 0x0E03 c (telThermalReport u) u := by
  rw [telThermalBody_named hp]
  simp only [Nat.not_lt.2 (Nat.le_trans hl hm), Nat.not_lt.2 hm, Nat.not_lt.2 hl, decide_false, Bool.or_self,
    Bool.false_eq_true, if_false]

theorem telThermalBody_badArg (hb : 125 < h.toNat ∨ h.toNat < w.toNat) :
    telThermalBody c s = fail 0x0E03 c stBadArg s := by
  rw [telThermalBody_named hp, if_pos]
  simp only [Bool.or_eq_true, decide_eq_true_eq, or_assoc]
  exact .inr hb

end Thermal

/-! ### Samples (R550, R551) -/

/-- The telemetry after a sample: TEL_SEQ twice advanced, the selected quantities shown, the extremes kept (R557). -/
def sampled (s : State) (q : Vector Word 16) : Telemetry :=
  { s.tel with
    seq := s.tel.seq + 2, time := s.clock.hubTime, latest := quantities s q, sampled := true
    shown := Vector.ofFn (fun i : Fin 16 => if s.tel.select.getLsbD i.val then (quantities s q)[i] else 0)
    minima := Vector.ofFn (fun i : Fin 16 =>
      if s.tel.sampled then lesser s.tel.minima[i] (quantities s q)[i] else (quantities s q)[i])
    maxima := Vector.ofFn (fun i : Fin 16 =>
      if s.tel.sampled then greater s.tel.maxima[i] (quantities s q)[i] else (quantities s q)[i]) }

theorem exec_telemetrySample {q : Vector Word 16} (hb : bridgeOff s = false) :
    exec (.telemetrySample q) s = .next { s with tel := sampled s q } := by
  change execTelemetrySample q s = _
  rw [execTelemetrySample, if_neg (ne_true_of_eq_false hb)]
  rfl

theorem ofFn_at {α : Type} {n : Nat} (g : Fin n → α) (i : Fin n) : (Vector.ofFn g)[i] = g i := Vector.getElem_ofFn _

theorem sampled_shown (s : State) (q : Vector Word 16) (i : Fin 16) :
    (sampled s q).shown[i] = if s.tel.select.getLsbD i.val then (quantities s q)[i] else 0 := ofFn_at _ i

theorem sampled_minima (s : State) (q : Vector Word 16) (i : Fin 16) : (sampled s q).minima[i] =
    if s.tel.sampled then lesser s.tel.minima[i] (quantities s q)[i] else (quantities s q)[i] := ofFn_at _ i

theorem sampled_maxima (s : State) (q : Vector Word 16) (i : Fin 16) : (sampled s q).maxima[i] =
    if s.tel.sampled then greater s.tel.maxima[i] (quantities s q)[i] else (quantities s q)[i] := ofFn_at _ i

/-! ### Temperature (R462) -/

/-- The junction temperature and its maximum after a sample of the sensors. -/
def withTemperature (v : Vector Half 4) (s : State) : State :=
  updTel (fun x => { x with
    tj := highest v, tjSeen := true
    tjMax := if x.tjSeen && decide ((highest v).toInt < x.tjMax.toInt) then x.tjMax else highest v }) s

theorem exec_thermalSample {v : Vector Half 4} (hc : coreOn s = true) :
    exec (.thermalSample v) s = .next (thermalCross (withTemperature v s)) := by
  change execThermalSample v s = _
  rw [execThermalSample, hc]
  rfl

theorem overNow_below {tj : Int} {limit : Nat} (h : tj < 8 * (limit : Int)) : overNow tj limit false = false := by
  simp only [overNow, Bool.false_eq_true, if_false, decide_eq_false_iff_not, Int.not_le, h]

/-- Above 130 °C every threshold of at most 125 °C is crossed, whether it was before or not. -/
theorem overNow_hot {tj : Int} {limit : Nat} {was : Bool} (hl : limit ≤ 125) (h : 1040 ≤ tj) :
    overNow tj limit was = true := by
  cases was <;> simp only [overNow, Bool.false_eq_true, if_true, if_false, decide_eq_true_eq] <;> omega

/-- A sample below every threshold, none of which was crossed, raises nothing. -/
theorem thermalCross_below (hw : s.tel.overWarn = false) (hh : s.tel.overHigh = false) (hc : s.tel.overCrit = false)
    (lw : s.tel.tj.toInt < 8 * (s.tel.warnC.toNat : Int)) (lh : s.tel.tj.toInt < 8 * (s.tel.highC.toNat : Int))
    (lc : s.tel.tj.toInt < 1040) :
    thermalCross s = updTel (fun t => { t with overWarn := false, overHigh := false, overCrit := false }) s := by
  have l130 : tempOf s.tel.tj < 8 * ((130 : Nat) : Int) := lc
  simp only [thermalCross, hw, hh, hc, overNow_below (tj := tempOf s.tel.tj) lw,
    overNow_below (tj := tempOf s.tel.tj) lh, overNow_below l130, Bool.not_false, Bool.and_true,
    Bool.and_false, Bool.false_eq_true, if_false]

theorem thermalEvent_tel (n : Nat) (s : State) : (thermalEvent n s).tel = s.tel := raise_tel _ _ _ _

theorem thermalEvent_if_tel {p : Prop} [Decidable p] (n : Nat) (s : State) :
    (if p then thermalEvent n s else s).tel = s.tel := by
  split
  · exact thermalEvent_tel n s
  · rfl

/-- The crossing of 130 °C is the last thing a sample brings: the thresholds below it are crossed too. -/
theorem thermalCross_critical (hw : s.tel.warnC.toNat ≤ 125) (hh : s.tel.highC.toNat ≤ 125) (hc : s.tel.overCrit = false)
    (h : 1040 ≤ s.tel.tj.toInt) :
    ∃ u, thermalCross s = criticalTemp u ∧ u.tel.tj = s.tel.tj ∧ u.tel.overCrit = true := by
  have kw : overNow (tempOf s.tel.tj) s.tel.warnC.toNat s.tel.overWarn = true := overNow_hot hw h
  have kh : overNow (tempOf s.tel.tj) s.tel.highC.toNat s.tel.overHigh = true := overNow_hot hh h
  have kc : overNow (tempOf s.tel.tj) 130 false = true :=
    decide_eq_true (p := 8 * ((130 : Nat) : Int) ≤ tempOf s.tel.tj) h
  simp only [thermalCross, kw, kh, kc, hc, Bool.not_true, Bool.not_false, Bool.true_and, Bool.false_and,
    Bool.false_eq_true, if_true, if_false]
  refine ⟨_, rfl, ?_, ?_⟩
  · rw [thermalEvent_if_tel, thermalEvent_if_tel]
    rfl
  · rw [thermalEvent_if_tel, thermalEvent_if_tel]
    rfl

/-- Settles O46: each clause by the lemma of its form or of its sample. -/
theorem telemetryAndHeat : Obligations.TelemetryAndHeat := by
  unfold Obligations.TelemetryAndHeat
  refine ⟨fun c s h hp => ?cfg, fun c s sel ms h hp hs h1 h2 => ?cfgSet, fun c s sel ms h hp hm hb => ?cfgBad,
    fun c s h hp => ?read, fun c s h hp hs => ?extremes, fun c s h hp => ?thermal, fun c s w k h hp hl hm => ?thermalSet,
    fun c s w k h hp hb => ?thermalBad, fun s q hb => ⟨_, exec_telemetrySample hb, rfl, rfl, fun i => ⟨rfl,
      sampled_shown s q i, fun hs => ⟨?first, ?firstMax⟩, fun hs => ⟨?min, ?max⟩⟩, rfl⟩,
    fun s v hc hw hh ho lw lh lc => ?below, fun s v hc hw hh ho hl => ?critical⟩
  case cfg => exact runCmd_carried h (telSampleCfgBody_reads hp)
  case cfgSet => exact runCmd_carried h (telSampleCfgBody_sets hp hs h1 h2)
  case cfgBad => exact runCmd_carried h (telSampleCfgBody_badArg hp hm hb)
  case read => exact runCmd_named h (List.isEmpty_iff.2 hp) rfl
  case extremes => exact runCmd_named h (by rw [telReads, hp]; rfl) (telReadExtremesOp_sampled (s := fresh s) hs)
  case thermal => exact runCmd_carried h (telThermalBody_reads hp)
  case thermalSet => exact runCmd_carried h (telThermalBody_sets hp hl hm)
  case thermalBad => exact runCmd_carried h (telThermalBody_badArg hp hb)
  case first => exact (sampled_minima s q i).trans (if_neg (ne_true_of_eq_false hs))
  case firstMax => exact (sampled_maxima s q i).trans (if_neg (ne_true_of_eq_false hs))
  case min => exact (sampled_minima s q i).trans (if_pos hs)
  case max => exact (sampled_maxima s q i).trans (if_pos hs)
  case below =>
    rw [exec_thermalSample hc, thermalCross_below (s := withTemperature v s) hw hh ho lw lh lc]
    rfl
  case critical =>
    obtain ⟨u, ht, hj, hu⟩ := thermalCross_critical (s := withTemperature v s) hw hh ho hl
    exact ⟨_, u, exec_thermalSample hc, ht, hj, hu⟩

end Sys2Proof.Machine
end

section
/-! SUPPORT. FLT_STATUS, FLT_LOG_READ, FLT_INJECT, CRC_CHANNEL_CFG, SCRUB_CFG and REPAIR_STATUS by their forms. -/
namespace Sys2Proof.Machine

set_option Elab.async false

variable {s : State} {c : Cmd}

/-! ### FLT_STATUS and FLT_LOG_READ (R490, R491) -/

section Disable
variable {m : Nat} (hp : c.payload = [2, 0, 0, 0] ++ leBytes 4 m)
include hp

theorem fltDisables_of_payload : fltDisables c = true := by
  rw [fltDisables, hp]
  rfl

/-- The set of classes is taken where every one of them is maskable. -/
theorem fltStatusDisableOp_named (hm : m < 4294967296) : fltStatusDisableOp c s =
    if m &&& 0x0D86 != m then fail 0x0C01 c stBadArg s
    else
      let u := updFlt (fun f => { f with disabled := BitVec.ofNat 24 m }) s
      ok 0x0C01 c (fltReport u) u := by
  have hz : zeroAt c.payload 1 3 = true := by rw [hp]; rfl
  have hf : fieldAt c.payload 4 4 = m := by
    rw [hp]
    exact fieldAt_leBytes_last.trans (Nat.mod_eq_of_lt hm)
  simp only [fltStatusDisableOp, hz, hf, maskable, Bool.not_true, Bool.false_or]

theorem fltStatusDisableOp_takes (hm : m < 4294967296) (hk : m &&& 0x0D86 = m) : fltStatusDisableOp c s =
    let u := updFlt (fun f => { f with disabled := BitVec.ofNat 24 m }) s
    ok 0x0C01 c (fltReport u) u := by
  rw [fltStatusDisableOp_named hp hm, if_neg]
  rw [hk, bne_self_eq_false]
  exact Bool.false_ne_true

theorem fltStatusDisableOp_badArg (hm : m < 4294967296) (hk : m &&& 0x0D86 ≠ m) :
    fltStatusDisableOp c s = fail 0x0C01 c stBadArg s := by
  rw [fltStatusDisableOp_named hp hm, if_pos (bne_iff_ne.2 hk)]

end Disable

theorem fltLogReadBody_reads (hn : byteAt c.payload 2 ≤ 15) (hz : zeroAt c.payload 3 1 = true) : fltLogReadBody c s =
    let es := (List.range (byteAt c.payload 2)).filterMap (fun i => s.flt.log.find? (fun e =>
      e.index.toNat == (fieldAt c.payload 0 2 + i) % 65536 && shownTo (cmdRequester s c) e))
    ok 0x0C02 c (leBytes 2 (newestIndex s) ++ [BitVec.ofNat 8 es.length, 0]
      ++ wordBytes (if s.flt.log.isEmpty then 0 else s.flt.written) ++ zeros 8 ++ es.flatMap entryBytes) s := by
  simp only [fltLogReadBody, Nat.not_lt.2 hn, hz, decide_false, Bool.not_true, Bool.or_self, Bool.false_eq_true, if_false]

theorem fltLogReadBody_tooMany (hn : 15 < byteAt c.payload 2) : fltLogReadBody c s = fail 0x0C02 c stBadArg s := by
  simp only [fltLogReadBody, hn, decide_true, Bool.true_or, if_true]

/-! ### FLT_INJECT (R488, R492) -/

@[simp] theorem locationExists_fresh (s : State) (cls loc x : Nat) :
    locationExists (fresh s) cls loc x = locationExists s cls loc x := rfl

section Inject
variable (hz : zeroAt c.payload 2 2 = true)
include hz

/-- A location that exists is answered with OK before its fault comes. -/
theorem fltInjectOp_causes (h15 : byteAt c.payload 0 ≠ 0x15 ∨ isDay s = true ∨ isNight s = true)
    (hl : locationExists s (byteAt c.payload 0) (fieldAt c.payload 4 4) (fieldAt c.payload 8 8) = true) :
    fltInjectOp c s = causeFault (byteAt c.payload 0) (fieldAt c.payload 4 4) (fieldAt c.payload 8 8)
      (byteAt c.payload 1 == 1) (ok 0x0C03 c [] s) := by
  have hr : (byteAt c.payload 0 = 0x15 && !isDay s && !isNight s) = false := by
    rcases h15 with h | h | h <;> simp only [h, decide_false, Bool.not_true, Bool.and_false, Bool.false_and]
  simp only [fltInjectOp, hz, hr, hl, Bool.not_true, Bool.false_eq_true, if_false]

theorem fltInjectOp_noLocation (h15 : byteAt c.payload 0 ≠ 0x15)
    (hl : locationExists s (byteAt c.payload 0) (fieldAt c.payload 4 4) (fieldAt c.payload 8 8) = false) :
    fltInjectOp c s = fail 0x0C03 c stBadArg s := by
  simp only [fltInjectOp, hz, h15, hl, decide_false, Bool.false_and, Bool.not_true, Bool.not_false, Bool.false_eq_true,
    if_true, if_false]

theorem fltInjectOp_notMirror (h15 : byteAt c.payload 0 = 0x15) (hd : isDay s = false) (hn : isNight s = false) :
    fltInjectOp c s = fail 0x0C03 c stPairRole s := by
  simp only [fltInjectOp, hz, h15, hd, hn, decide_true, Bool.not_true, Bool.not_false, Bool.and_self, Bool.false_eq_true,
    if_true, if_false]

theorem fltInjectClearOp_ends : fltInjectClearOp c s = ok 0x0C03 c [] (updFlt (fun f => { f with injections := [] }) s) := by
  simp only [fltInjectClearOp, hz, Bool.not_true, Bool.false_eq_true, if_false]

end Inject

/-! ### CRC_CHANNEL_CFG (R487, R493) -/

/-- A channel that no tunnel and no region uses is configured as its bytes say. -/
theorem crcConfigureOp_sets {w : Nat} (hb : byteAt c.payload 1 = w) (hw : w = 8 ∨ w = 16 ∨ w = 24 ∨ w = 32 ∨ w = 64)
    (hf : byteAt c.payload 2 ≤ 7) (hz : zeroAt c.payload 3 1 = true) (hp : fieldAt c.payload 4 8 < 2 ^ w)
    (hi : fieldAt c.payload 12 8 < 2 ^ w) (hz' : zeroAt c.payload 20 4 = true) (ht : channelTunnels s (tgChannel c) = 0)
    (hr : channelRegions s (tgChannel c) = 0) : crcConfigureOp c s =
      let u := updChannel c (fun x => { x with
        width := BitVec.ofNat 8 w, poly := BitVec.ofNat 64 (fieldAt c.payload 4 8), init := BitVec.ofNat 64 (fieldAt c.payload 12 8)
        refIn := (byteAt c.payload 2).testBit 0, refOut := (byteAt c.payload 2).testBit 1, finalInv := (byteAt c.payload 2).testBit 2 }) s
      ok 0x0C04 c (channelReport u c) u := by
  have hk : (w == 8 || w == 16 || w == 24 || w == 32 || w == 64) = true := by
    simpa only [Bool.or_eq_true, beq_iff_eq, or_assoc] using hw
  simp only [crcConfigureOp, hb, hk, hz, hz', ht, hr, Nat.not_lt.2 hf, Nat.not_le.2 hp, Nat.not_le.2 hi, decide_false,
    Bool.not_true, bne_self_eq_false, Bool.or_self, Bool.false_eq_true, if_false]

/-- A host, or none, is assigned. -/
theorem crcAssignOp_assigns {a : Fin 8} (hz : zeroAt c.payload 1 2 = true) (hb : byteAt c.payload 3 = a.val)
    (hz' : zeroAt c.payload 4 20 = true) (ha : a = 7 ∨ hostOfCode a.val ≠ none) : crcAssignOp c s =
      let u := updChannel c (fun x => { x with assign := a }) s
      ok 0x0C04 c (channelReport u c) u := by
  have hk : (a.val == 7 || (hostOfCode a.val).isSome) = true := by
    rw [Bool.or_eq_true, beq_iff_eq, Option.isSome_iff_ne_none]
    exact ha.imp_left (congrArg Fin.val)
  have hm : (⟨a.val % 8, Nat.mod_lt _ (by decide)⟩ : Fin 8) = a := Fin.ext (Nat.mod_eq_of_lt a.isLt)
  simp only [crcAssignOp, hb, hk, hm, hz, hz', Bool.not_true, Bool.or_self, Bool.false_eq_true, if_false]

theorem crcReadOp_reads (hz : zeroAt c.payload 1 23 = true) : crcReadOp c s = ok 0x0C04 c (channelReport s c) s := by
  simp only [crcReadOp, hz, Bool.not_true, Bool.false_eq_true, if_false]

/-! ### SCRUB_CFG and REPAIR_STATUS (R494, R495) -/

theorem scrubCfgBody_reads (hp : c.payload = []) : scrubCfgBody c s = ok 0x0C05 c (scrubReport s) s := by
  simp only [scrubCfgBody, hp, List.isEmpty_nil, if_true]

/-- Periods in range are taken and stored in their word. -/
theorem scrubCfgBody_sets {ms dh : Nat} (hp : c.payload = leBytes 2 ms ++ leBytes 2 dh) (m1 : 1 ≤ ms) (m2 : ms ≤ 10)
    (d1 : 10 ≤ dh) (d2 : dh ≤ 240) : scrubCfgBody c s =
      let u := updFlt (fun f => { f with scrub := { f.scrub with sramMs := BitVec.ofNat 8 ms, dramDeciH := BitVec.ofNat 16 dh } }) s
      ok 0x0C05 c (scrubReport u) (storeWord 24 (BitVec.ofNat 32 (ms + 65536 * dh)) u) := by
  have he : c.payload.isEmpty = false := by rw [hp]; rfl
  have hm : byteAt c.payload 0 = ms := by
    rw [hp]
    exact byteAt_cons_zero.trans (Nat.mod_eq_of_lt (by omega))
  have hz : zeroAt c.payload 1 1 = true := by
    have h0 : BitVec.ofNat 8 (ms / 256) = 0 := by rw [Nat.div_eq_of_lt (by omega)]; rfl
    rw [hp, zeroAt, leBytes, leBytes, h0]
    rfl
  have hd : fieldAt c.payload 2 2 = dh := by
    rw [hp]
    exact fieldAt_leBytes_last.trans (Nat.mod_eq_of_lt (by omega))
  simp only [scrubCfgBody, he, hm, hz, hd, Nat.not_lt.2 m1, Nat.not_lt.2 m2, Nat.not_lt.2 d1, Nat.not_lt.2 d2, decide_false,
    Bool.not_true, Bool.or_self, Bool.false_eq_true, if_false]

theorem repairStatusBody_counts (hp : c.payload = []) : repairStatusBody c s =
    ok 0x0C06 c (leBytes 2 s.ident.rows.length ++ leBytes 2 (fullMacros s) ++ leBytes 2 s.ident.retired.length
      ++ leBytes 2 (128 - s.ident.retired.length) ++ leBytes 4 (sparesLeft s) ++ zeros 4) s := by
  simp only [repairStatusBody, hp, List.isEmpty_nil, if_true]

/-- Settles O43: each clause by the lemma of its form. -/
theorem integrityCommands : Obligations.IntegrityCommands := by
  unfold Obligations.IntegrityCommands
  refine ⟨fun c s h hp => ?status, fun c s h hp => ?clear, fun c s m h hp hm hk => ?disable,
    fun c s m h hp hm hk => ?disableBad, fun c s h hn hz => ?log, fun c s h hn => ?logTooMany,
    fun c s b h h1 hz h15 hl => ?inject, fun c s h h1 hz h15 hl => ?noLocation, fun c s h h1 hz h15 hd hn => ?notMirror,
    fun c s h h1 hz => ?injectClear, fun c s w h h0 hb hw hf hz hp hi hz' ht hr => ?configure,
    fun c s a h h0 hz hb hz' ha => ?assign, fun c s h h0 hz => ?channel, fun c s h hp => ?scrub,
    fun c s ms dh h hp m1 m2 d1 d2 => ?scrubSet, fun c s h hp => ?repair⟩
  case status => exact runCmd_named h (List.isEmpty_iff.2 hp) rfl
  case clear => exact runCmd_named h (by rw [fltClears, hp]; rfl) rfl
  case disable => exact runCmd_named h (fltDisables_of_payload hp) (fltStatusDisableOp_takes hp hm hk)
  case disableBad => exact runCmd_named h (fltDisables_of_payload hp) (fltStatusDisableOp_badArg hp hm hk)
  case log => exact runCmd_carried h (fltLogReadBody_reads hn hz)
  case logTooMany => exact runCmd_carried h (fltLogReadBody_tooMany hn)
  case inject =>
    have hc := fltInjectOp_causes (s := fresh s) hz h15 hl
    rw [h1] at hc
    cases b with
    | false => exact runCmd_named h (beq_iff_eq.2 h1) hc
    | true => exact runCmd_named h (beq_iff_eq.2 h1) hc
  case noLocation => exact runCmd_named h (beq_iff_eq.2 h1) (fltInjectOp_noLocation (s := fresh s) hz h15 hl)
  case notMirror => exact runCmd_named h (beq_iff_eq.2 h1) (fltInjectOp_notMirror (s := fresh s) hz h15 hd hn)
  case injectClear => exact runCmd_named h (beq_iff_eq.2 h1) (fltInjectClearOp_ends hz)
  case configure => exact runCmd_named h (beq_iff_eq.2 h0) (crcConfigureOp_sets (s := fresh s) hb hw hf hz hp hi hz' ht hr)
  case assign => exact runCmd_named h (beq_iff_eq.2 h0) (crcAssignOp_assigns hz hb hz' ha)
  case channel => exact runCmd_named h (beq_iff_eq.2 h0) (crcReadOp_reads (s := fresh s) hz)
  case scrub => exact runCmd_carried h (scrubCfgBody_reads (s := fresh s) hp)
  case scrubSet => exact runCmd_carried h (scrubCfgBody_sets hp m1 m2 d1 d2)
  case repair => exact runCmd_carried h (repairStatusBody_counts (s := fresh s) hp)

end Sys2Proof.Machine
end

section
/-! SUPPORT. An occurrence of a fault that coalesces, and one that makes an entry and may raise event 4. -/
namespace Sys2Proof.Machine

set_option Elab.async false

variable {s : State} {cls : Fin 24} {loc : Nat} {i : FaultInfo} {n : Half}

/-- The entry that an occurrence makes (R472), with reaction 9 where its class is disabled (R490). -/
def newEntry (cls : Fin 24) (loc : Nat) (i : FaultInfo) (s : State) : FaultEntry :=
  { index := s.flt.next, cls := BitVec.ofNat 8 cls.val
    reaction := if s.flt.disabled.getLsbD cls.val then 9 else i.reaction
    boot := i.boot, scrub := i.scrub, injected := i.injected, untimed := s.clock.untimed, loc := BitVec.ofNat 32 loc
    time := s.clock.hubTime, since := s.clock.hubTime, count := 1, detail := i.detail, addr := i.addr }

/-- The state in which an occurrence has been counted and has its entry, event 4 apart. -/
def entered (cls : Fin 24) (loc : Nat) (i : FaultInfo) (s : State) : State :=
  updFlt (fun f => { f with
    counts := upd f.counts cls satInc, log := (newEntry cls loc i s :: f.log).take 256, next := f.next + 1
    written := satInc f.written }) s

/-- A fault that coalesces changes entries in place and the class counter, and nothing else. -/
theorem logFault_coalesced (h : coalesces s cls (BitVec.ofNat 32 loc) = true) : ∃ g : FaultEntry → FaultEntry,
    logFault cls loc i s =
      updFlt (fun f => { f with counts := upd f.counts cls satInc, log := f.log.map g }) s := by
  have hc : coalesces (updFlt (fun f => { f with counts := upd f.counts cls satInc }) s) cls (BitVec.ofNat 32 loc) = true := h
  cases hn : newestOf s cls with
  | none => simp only [coalesces, hn, Bool.false_eq_true] at h
  | some e =>
    have hn' : newestOf (updFlt (fun f => { f with counts := upd f.counts cls satInc }) s) cls = some e := hn
    refine ⟨fun x => if x.index == e.index then { x with count := satInc x.count } else x, ?_⟩
    unfold logFault
    dsimp only
    rw [if_pos hc, hn']
    rfl

theorem logFault_entered (h : coalesces s cls (BitVec.ofNat 32 loc) = false) :
    logFault cls loc i s = faultEvent cls s.flt.next (entered cls loc i s) :=
  if_neg (ne_true_of_eq_false h)

/-- Event 4 of a class leaves of the fault log all but when it was raised. -/
theorem faultEvent_flt : ∃ v, (faultEvent cls n s).flt = { s.flt with lastEvent := v } := by
  unfold faultEvent
  split
  · exact ⟨_, raise_flt _ _ _ _⟩
  · exact ⟨s.flt.lastEvent, rfl⟩

theorem faultEvent_silent (h : classRaises cls = false ∨ s.flt.disabled.getLsbD cls.val = true ∨ recentEvent s cls = true) :
    faultEvent cls n s = s := by
  unfold faultEvent
  rw [if_neg]
  rcases h with h | h | h <;> simp only [h, Bool.not_true, Bool.false_and, Bool.and_false, Bool.false_eq_true,
    not_false_eq_true]

theorem faultEvent_raised (hc : classRaises cls = true) (hd : s.flt.disabled.getLsbD cls.val = false)
    (hr : recentEvent s cls = false) : faultEvent cls n s = raise .all 4 (65536 * n.toNat + cls.val)
      (updFlt (fun f => { f with lastEvent := f.lastEvent.set cls (some s.clock.hubTime) }) s) := by
  unfold faultEvent
  rw [if_pos]
  simp only [hc, hd, hr, Bool.not_false, Bool.and_self]

/-- Settles O56: a fault coalesces or makes an entry, and its entry raises event 4 or does not. -/
theorem faultLogEntries : Obligations.FaultLogEntries := by
  unfold Obligations.FaultLogEntries
  refine ⟨fun cls loc i s h => ?coalesced, fun cls loc i s h => ?entered, fun cls loc i s h hs => ?silent,
    fun cls loc i s h hc hd hr => ?raised⟩
  case coalesced =>
    obtain ⟨g, hg⟩ := logFault_coalesced (i := i) h
    rw [hg]
    exact ⟨List.length_map _, rfl, rfl, upd_self _ _ _, rfl⟩
  case entered =>
    obtain ⟨v, hv⟩ := faultEvent_flt (cls := cls) (n := s.flt.next) (s := entered cls loc i s)
    rw [logFault_entered h]
    dsimp only
    rw [hv]
    exact ⟨rfl, rfl, rfl, upd_self _ _ _⟩
  case silent =>
    rw [logFault_entered h, faultEvent_silent (s := entered cls loc i s) hs]
    rfl
  case raised =>
    refine ⟨_, (logFault_entered h).trans (faultEvent_raised hc hd hr), ?_⟩
    exact Vector.getElem_set_self _

end Sys2Proof.Machine
end

section
/-! SUPPORT. An abandoned PMBus transaction that counts, and a third one in a row of each converter. -/
namespace Sys2Proof.Machine

set_option Elab.async false

variable {s : State} {cv : Converter} {u : Up} {n : Nat}

/-- The place of a converter among the counts of abandoned transactions. -/
def convIndex : Converter → Fin 3
  | .vddFab => 0
  | .vbus u => ⟨u.val + 1, by omega⟩

/-- A transaction of a converter has been abandoned, the `n`th in a row. -/
def abandoned (cv : Converter) (n : Nat) (s : State) : State :=
  updPerf (fun p => { p with abandoned := p.abandoned.set (convIndex cv) n }) s

section Powered
variable (hp : s.clock.powered = true)
include hp

theorem exec_pmbusTransactionTimeout_counts (h : s.perf.abandoned[convIndex cv] < 2) :
    exec (.pmbusTransactionTimeout cv) s = .next (abandoned cv (s.perf.abandoned[convIndex cv] + 1) s) := by
  change execPmbusTransactionTimeout cv s = _
  unfold execPmbusTransactionTimeout
  rw [if_neg (by rw [hp]; exact Bool.false_ne_true)]
  cases cv <;> exact congrArg Host.Outcome.next (if_pos (Nat.succ_lt_succ h))

theorem exec_pmbusTransactionTimeout_vddFab (h : s.perf.abandoned[(0 : Fin 3)] = 2) (hv : hasConv s = true)
    (hc : coreOn s = true) : exec (.pmbusTransactionTimeout .vddFab) s = .next (loseFab (abandoned .vddFab 3 s)) := by
  change execPmbusTransactionTimeout .vddFab s = _
  unfold execPmbusTransactionTimeout
  have hk : (hasConv (abandoned .vddFab 3 s) && coreOn (abandoned .vddFab 3 s)) = true := Bool.and_eq_true_iff.2 ⟨hv, hc⟩
  rw [if_neg (by rw [hp]; exact Bool.false_ne_true)]
  dsimp only
  rw [h, if_neg (by decide)]
  exact congrArg Host.Outcome.next (if_pos hk)

theorem exec_pmbusTransactionTimeout_vbus (h : s.perf.abandoned[(⟨u.val + 1, by omega⟩ : Fin 3)] = 2)
    (hu : u.val < uplinks s) (hs : s.power.shell = true) (ha : s.power.pd[u].convAbsent = false) :
    exec (.pmbusTransactionTimeout (.vbus u)) s = .next (loseVbus u (abandoned (.vbus u) 3 s)) := by
  change execPmbusTransactionTimeout (.vbus u) s = _
  unfold execPmbusTransactionTimeout
  have hk : (decide (u.val < uplinks (abandoned (.vbus u) 3 s)) && (abandoned (.vbus u) 3 s).power.shell
      && !(abandoned (.vbus u) 3 s).power.pd[u].convAbsent) = true := by
    rw [Bool.and_eq_true, Bool.and_eq_true, decide_eq_true_eq, Bool.not_eq_true']
    exact ⟨⟨hu, hs⟩, ha⟩
  rw [if_neg (by rw [hp]; exact Bool.false_ne_true)]
  dsimp only
  rw [h, if_neg (by decide)]
  exact congrArg Host.Outcome.next (if_pos hk)

end Powered

theorem loseFab_idle (h : s.perf.change = none) : loseFab s =
    updPerf (fun p => { p with convAbsent := true }) (logFault 0x0F s.perf.fabAddr.toNat {} s) := by
  simp only [loseFab, updPerf_perf, logFault_perf, h]

/-- A change in progress fails, and the guarantees of the lower of its two levels stay. -/
theorem loseFab_changing {k : PlChange} (h : s.perf.change = some k) : loseFab s = (
    let v := updPerf (fun p => { p with convAbsent := true }) (logFault 0x0F s.perf.fabAddr.toNat {} s)
    failRequests k.cause (updPerf (fun p => { p with
      change := none, pl := if k.fromPl.val < k.toPl.val then k.toPl else k.fromPl })
      (if k.cause = .restore then v else logFault 0x0C k.toPl.val {} v))) := by
  simp only [loseFab, updPerf_perf, logFault_perf, h]

/-- Settles O8: the first clauses by the count, the others by what the loss of each converter is. -/
theorem pmbusConverterAbsent : Obligations.PmbusConverterAbsent := by
  unfold Obligations.PmbusConverterAbsent
  refine ⟨fun s hp => exec_pmbusTransactionTimeout_counts (cv := .vddFab) hp,
    fun u s hp => exec_pmbusTransactionTimeout_counts (cv := .vbus u) hp, fun s k hp h hv hc hk => ?changing,
    fun s hp h hv hc hk => ?idle, fun u s hp h hu hs => exec_pmbusTransactionTimeout_vbus hp h hu hs⟩
  case changing =>
    rw [exec_pmbusTransactionTimeout_vddFab hp h hv hc, loseFab_changing (s := abandoned .vddFab 3 s) hk]
    rfl
  case idle =>
    rw [exec_pmbusTransactionTimeout_vddFab hp h hv hc, loseFab_idle (s := abandoned .vddFab 3 s) hk]
    rfl

end Sys2Proof.Machine
end

section
/-! SUPPORT. The reports of the System group: SYS_NOP, SYS_INFO, SYS_TIME_GET and SYS_EVENT_MASK (R535 to R539). -/
namespace Sys2Proof.Machine

set_option Elab.async false

variable {s : State} {c : Cmd} {r : Requester}

/-! ### SYS_NOP (R535) -/

/-- A command that changes nothing shared ends with the responses that waited for it to be decided. -/
theorem forwardChange_unshared {sp : OpSpec} (h : sharedOpcode sp.op = false) : forwardChange sp c s =
    releaseDeferred (updPair (fun p => { p with running := false }) s) := by
  simp only [forwardChange, h, Bool.and_false, Bool.false_and, Bool.false_eq_true, if_false]

/-- Settles O49: an accepted SYS_NOP is one response, and its opcode is not shared with Night. -/
theorem sysNopCopiesItsPayload : Obligations.SysNopCopiesItsPayload := by
  unfold Obligations.SysNopCopiesItsPayload
  refine ⟨fun n => decide_eq_true_iff, fun c s h => ?_⟩
  exact (runCmd_accepted _ h).trans (congrArg Host.Outcome.next (forwardChange_unshared rfl))

/-! ### SYS_INFO (R536, Table 15.4) -/

@[simp] theorem ethAddrBytes_length (s : State) (e : EthPort) : (ethAddrBytes s e).length = 6 := by
  unfold ethAddrBytes
  split
  · rfl
  · exact zeros_length 6

@[simp] theorem serialBytes_length : serialBytes.length = 16 := by
  rw [serialBytes, List.length_map, List.length_range]

theorem infoReport_length (s : State) (r : Requester) : (infoReport s r).length = 64 := by
  simp only [infoReport, List.length_append, List.length_cons, List.length_nil, wordBytes_length, serialBytes_length,
    ethAddrBytes_length, zeros_length, leBytes_length]

theorem variantCode_lt (s : State) : variantCode s < 256 := by
  unfold variantCode
  split <;> decide

theorem profileCode_lt (p : Profile) : profileCode p < 256 := by cases p <;> decide

theorem lcCode_lt (l : Lc) : lcCode l < 256 := by cases l <;> decide

theorem capacityMiB_lt (s : State) : capacityMiB s < 256 ^ 4 := by
  unfold capacityMiB
  split <;> decide

theorem infoReport_capacity (s : State) (r : Requester) : fieldAt (infoReport s r) 48 4 = capacityMiB s := by
  rw [infoReport, fieldAt_append_left, fieldAt_append_left, fieldAt_append_right]
  · simp only [List.length_append, List.length_cons, List.length_nil, wordBytes_length, serialBytes_length,
      ethAddrBytes_length, zeros_length]
    exact fieldAt_leBytes_last.trans (Nat.mod_eq_of_lt (capacityMiB_lt s))
  · simp [wordBytes_length]
  · simp [wordBytes_length]
  · simp [wordBytes_length]

/-! ### SYS_EVENT_MASK (R539) -/

section Mask
variable {m : MbNo} (hm : ownMailbox s c = some m)
include hm

theorem sysEventMaskBody_reads (hp : c.payload = []) :
    sysEventMaskBody c s = ok 0x0108 c (leBytes 8 (s.mb[m].mask &&& eventsPresent s).toNat) s := by
  simp only [sysEventMaskBody, hm, hp, List.isEmpty_nil, if_true]

theorem sysEventMaskBody_sets (hl : c.payload.length = 8) : sysEventMaskBody c s =
    let w : Dword := BitVec.ofNat 64 (leNat c.payload) &&& eventsPresent s
    let v : Dword := if m = 2 then w ||| 0x30 else w
    ok 0x0108 c (leBytes 8 (v &&& eventsPresent s).toNat) (updMb m (fun mb => { mb with mask := v }) s) := by
  have hf : fieldAt c.payload 0 8 = leNat c.payload := by
    rw [fieldAt, List.drop_zero, List.take_of_length_le (Nat.le_of_eq hl)]
  have hu (g : Mailbox → Mailbox) : (updMb m g s).mb[m] = g s.mb[m] := upd_self s.mb m g
  simp only [sysEventMaskBody, hm, List.isEmpty_eq_false_iff.2 (payload_ne_nil hl), hf, hu, Bool.false_eq_true, if_false]
  rfl

end Mask

/-- Settles O1: the bytes of SYS_INFO, and each command's body. -/
theorem systemReportsAnswer : Obligations.SystemReportsAnswer := by
  unfold Obligations.SystemReportsAnswer
  refine ⟨fun c s h => runCmd_accepted _ h, fun c s h => ?info, fun s r => ⟨infoReport_length s r, ?variant, ?profile,
    ?level, ?lc, ?requester, infoReport_capacity s r⟩, fun c s h => runCmd_carried h rfl, fun c s m h hm hp => ?mask,
    fun c s m h hm hl => ?maskSet⟩
  case info =>
    refine runCmd_carried h ?_
    rw [sysInfoBody, cmdRequester_fresh]
  case variant => exact byteAt_cons_zero.trans (Nat.mod_eq_of_lt (variantCode_lt s))
  case profile => exact byteAt_cons_zero.trans (Nat.mod_eq_of_lt (profileCode_lt _))
  case level => exact byteAt_cons_zero.trans (Nat.mod_eq_of_lt (by omega))
  case lc => exact byteAt_cons_zero.trans (Nat.mod_eq_of_lt (lcCode_lt _))
  case requester => exact byteAt_cons_zero.trans (Nat.mod_eq_of_lt (by omega))
  case mask => exact runCmd_carried h (sysEventMaskBody_reads ((ownMailbox_fresh s c).trans hm) hp)
  case maskSet => exact runCmd_carried h (sysEventMaskBody_sets ((ownMailbox_fresh s c).trans hm) hl)

end Sys2Proof.Machine
end

section
/-! SUPPORT. The canonical state at reset, the behaviour pin and the report of the slots, and what starts a reset or holds the hub in one. -/
namespace Sys2Proof.Machine

set_option Elab.async false

variable {s : State} {c : Cmd}

/-! ### The state at reset -/

/-- Settles O58, by evaluation: every sparse store of the state at reset lists nothing. -/
theorem resetIsCanonical : Obligations.ResetIsCanonical := by
  unfold Obligations.ResetIsCanonical
  decide

/-! ### SYS_BEHAVIOUR_PIN and the Status of SYS_FW_STAGE (R521, R512) -/

/-- A command whose requester may not issue it is not accepted (R530). -/
theorem accepted_of_not_permitted {sp : OpSpec} (h : permitted sp s c (cmdRequester s c) = false) :
    accepted sp c s = false := by
  have hn : (checkCmd sp s c).isNone = false := by
    simp only [checkCmd, h, Bool.not_false, if_true]
    split
    · rfl
    split
    · rfl
    split
    · rfl
    · rfl
  rw [accepted, hn, Bool.false_and]

/-- A host is neither the owner nor the partner. -/
theorem not_owner_partner_of_isHost {r : Requester} (h : isHost r = true) : r ≠ .owner ∧ r ≠ .partner :=
  ⟨fun e => by rw [e] at h; exact absurd h (by decide), fun e => by rw [e] at h; exact absurd h (by decide)⟩

/-- A host's set of the pin is refused while the pin is locked and where it would lock it (R521, R523). -/
theorem pinSet_refused (hr : isHost (cmdRequester s c) = true) (hp : c.payload ≠ [])
    (hl : pinLocked s = true ∨ byteAt c.payload 1 % 2 = 1) :
    permitted sysBehaviourPinSpec s c (cmdRequester s c) = false := by
  obtain ⟨ho, hq⟩ := not_owner_partner_of_isHost hr
  have hpins : hostPins s c = false := by
    rw [hostPins, List.isEmpty_eq_false_iff.2 hp, Bool.false_or]
    rcases hl with h | h <;> simp [h]
  simp [permitted, sysBehaviourPinSpec, permO, permP, beq_false_of_ne ho, beq_false_of_ne hq, hpins]

/-- A pin in the running image's range is stored and read back (R521). -/
theorem pinBody_stores {level lock : Byte} (hp : c.payload = [level, lock, 0, 0]) (hv : level.toNat ≤ 4)
    (hk : lock.toNat ≤ 1)
    (hr : level = 0 ∨ (s.fw.running.lowest.toNat ≤ level.toNat ∧ level.toNat ≤ s.fw.running.highest.toNat))
    (h0 : s.pair.state = 0) :
    sysBehaviourPinBody c s = (fun t => ok 0x0104 c (pinReport t) t)
      (storeWord 1 (BitVec.ofNat 32 (level.toNat + 256 * lock.toNat)) s) := by
  have hin : (level.toNat != 0 && (decide (level.toNat < s.fw.running.lowest.toNat)
      || decide (s.fw.running.highest.toNat < level.toNat))) = false := by
    rcases hr with h | ⟨hlo, hhi⟩
    · rw [h]; rfl
    · rw [decide_eq_false (by omega), decide_eq_false (by omega), Bool.or_false, Bool.and_false]
  have hb0 : byteAt c.payload 0 = level.toNat := by rw [hp]; rfl
  have hb1 : byteAt c.payload 1 = lock.toNat := by rw [hp]; rfl
  have hz : zeroAt c.payload 2 2 = true := by rw [hp]; rfl
  have he : c.payload.isEmpty = false := by rw [hp]; rfl
  simp only [sysBehaviourPinBody, hb0, hb1, hz, he, hin, h0, decide_eq_false (show ¬ 4 < level.toNat by omega),
    decide_eq_false (show ¬ 1 < lock.toNat by omega), Bool.not_true, Bool.or_false, Bool.false_eq_true, if_false,
    bne_self_eq_false]

/-- Settles O4, by the form of the command. -/
theorem behaviourPinAndSlotReport : Obligations.BehaviourPinAndSlotReport := by
  unfold Obligations.BehaviourPinAndSlotReport
  refine ⟨fun c s h hp => ?reads, fun c s level lock h hp hv hk hr h0 => ?sets, fun c s hr hp hl => ?host,
    fun c s h hp hf => ?slots⟩
  case reads =>
    have he : c.payload.isEmpty = true := by rw [hp]; rfl
    exact runCmd_carried h (by simp only [sysBehaviourPinBody, he, if_true])
  case sets => exact runCmd_carried h (pinBody_stores (s := fresh s) hp hv hk hr h0)
  case host => exact accepted_of_not_permitted (pinSet_refused hr hp hl)
  case slots =>
    have hz : zeroAt c.payload 1 3 = true := by rw [hp]; rfl
    have hf : (fresh s).flt.failed.getLsbD 15 = false := hf
    refine runCmd_named h (by rw [stageReads, hp]; rfl) ?_
    simp only [stageStatusOp, hf, hz, Bool.not_true, Bool.false_eq_true, if_false]

/-! ### The starts of a reset, and what holds the hub in one (R508, R575, R576, R586, R413) -/

theorem sysReset_starts {cold : Bool} (h : s.flt.safeStays = false) : sysReset cold c s = restart cold none s := by
  rw [sysReset, h, if_neg Bool.false_ne_true]

theorem sysReset_stays {cold : Bool} (h : s.flt.safeStays = true) : sysReset cold c s = fail 0x0103 c stBusy s := by
  rw [sysReset, if_pos h]

theorem resetPin_powered {n : Nat} (h : s.clock.powered = true) : exec (.resetPin n) s =
    .next (if (pulseResets n s).1 then holdReset (pulseResets n s).2 else (pulseResets n s).2) := by
  change execResetPin n s = _
  rw [execResetPin, if_pos h]

/-- Settles O2: each cause of a reset, by whether the hub is powered and in reset. -/
theorem resetsStartAndHold : Obligations.ResetsStartAndHold := by
  unfold Obligations.ResetsStartAndHold
  refine ⟨fun c s h hb hs => ?warm, fun c s h hb hs => ?cold, fun c s h hb hs => ?warmHeld,
    fun c s h hb hs => ?coldHeld, fun n s hp hn => ?long, fun n s hn => ?short, fun n s hp hl hh => ?between,
    fun s hp hr => ?release, fun s hs => ?held, fun r s hp hm => ?rail, fun s hp => ?loss⟩
  case warm => exact runCmd_named h (opByte_of_eq hb) (sysReset_starts (s := fresh s) hs)
  case cold => exact runCmd_named h (opByte_of_eq hb) (sysReset_starts (s := fresh s) hs)
  case warmHeld => exact runCmd_named h (opByte_of_eq hb) (sysReset_stays (s := fresh s) hs)
  case coldHeld => exact runCmd_named h (opByte_of_eq hb) (sysReset_stays (s := fresh s) hs)
  case long =>
    rw [resetPin_powered hp, pulseResets, if_pos hn]
    exact ⟨_, rfl, rfl, rfl, rfl, rfl, rfl, rfl, rfl⟩
  case short =>
    have hpulse : pulseResets n s = (false, s) := by rw [pulseResets, if_neg (by omega), if_pos hn]
    change execResetPin n s = _
    rw [execResetPin, hpulse]
    exact congrArg _ (ite_self s)
  case between => rw [resetPin_powered hp, pulseResets, if_neg (show ¬ 1000 ≤ n by omega), if_neg (show ¬ n < 100 by omega)]
  case release =>
    change execResetRelease s = _
    rw [execResetRelease, hp, hr, Bool.and_true, if_pos rfl]
  case held =>
    change execResetRelease s = _
    rw [execResetRelease, if_neg]
    rcases hs with h | h <;> simp [h]
  case rail =>
    change ∃ t, execRailUndervoltage r s = .next t ∧ _
    rw [execRailUndervoltage, hp, hm, Bool.and_true, if_pos rfl]
    exact ⟨_, rfl, rfl, rfl, rfl, rfl, rfl, rfl, rfl⟩
  case loss =>
    change ∃ t, execPowerLoss s = .next t ∧ _
    rw [execPowerLoss, if_pos hp]
    exact ⟨_, rfl, rfl, rfl, rfl, rfl, rfl, rfl, rfl, rfl, rfl⟩

end Sys2Proof.Machine
end

section
/-! SUPPORT. Firmware: what is staged and checked (R511, R512), and how an activation is taken, starts and ends (R513, R514). -/
namespace Sys2Proof.Machine

set_option Elab.async false

variable {s : State} {c : Cmd} {i : Image}

/-! ### The operations of SYS_FW_STAGE (R512) -/

section Stage
variable (ha : s.activating = false) (hw : waitsFor s .fwActivate = false) (hf : s.flt.failed.getLsbD 15 = false)
include ha hw hf

/-- With no activation waiting or running and port 15 not failed, a stage operation is decided on its own bytes. -/
theorem stageOp_open {f : Cmd → State → State} (hz : zeroAt c.payload 1 3 = true) : stageOp f c s = f c s := by
  simp only [stageOp, ha, hw, hf, hz, Bool.or_self, Bool.not_true, Bool.false_eq_true, if_false]

/-- Begin waits for the erase, ends a check in progress, and discards what was staged. -/
theorem stageBeginOp_starts {n : Nat} (hp : c.payload = [0, 0, 0, 0] ++ leBytes 4 n) (hn : n ≤ 8388608)
    (hm : mayPend s c = true) : stageBeginOp c s = (fun t =>
      updSlot (otherSlot t) (fun _ => ⟨1, none⟩)
        (updFw (fun w => { w with staging := true, stageLen := n, stageData := [] }) t))
      (finish .fwCheck stBadArg [1] (holdPending 0x0106 c .fwErase s)) := by
  have hz : zeroAt c.payload 1 3 = true := by rw [hp]; rfl
  have hlen : fieldAt c.payload 4 4 = n := by
    rw [hp]
    exact fieldAt_leBytes_last.trans (Nat.mod_eq_of_lt (by omega))
  rw [stageBeginOp, stageOp_open ha hw hf hz, hlen, if_neg (by omega), startPending_held hm]

/-- Data at the next offset, within the announced length, is appended. -/
theorem stageDataOp_appends {b : List Byte}
    (hp : c.payload = [1, 0, 0, 0] ++ leBytes 4 s.fw.stageData.length ++ zeros 8 ++ b)
    (hb : s.fw.stageData.length + b.length ≤ s.fw.stageLen) (hl : s.fw.stageLen ≤ 8388608) (hs : s.fw.staging = true)
    (hq : slotBusy s = false) :
    stageDataOp c s = ok 0x0106 c [] (updFw (fun w => { w with stageData := w.stageData ++ b }) s) := by
  have hz : zeroAt c.payload 1 3 = true := by rw [hp]; rfl
  have hz8 : zeroAt c.payload 8 8 = true := by
    rw [hp, List.append_assoc]
    exact zeroAt_zeros
  have hoff : fieldAt c.payload 4 4 = s.fw.stageData.length := by
    rw [hp, List.append_assoc, List.append_assoc]
    exact fieldAt_leBytes.trans (Nat.mod_eq_of_lt (by omega))
  have hdrop : c.payload.drop 16 = b := by rw [hp]; rfl
  rw [stageDataOp, stageOp_open ha hw hf hz]
  simp only [hz8, hoff, hdrop, hs, hq, bne_self_eq_false, decide_eq_false (Nat.not_lt.2 hb), Bool.not_true, Bool.or_self,
    Bool.false_eq_true, if_false]

/-- Finish waits for the check while an image is being staged. -/
theorem stageFinishOp_starts (hp : c.payload = [2, 0, 0, 0]) (hs : s.fw.staging = true) (hq : slotBusy s = false)
    (hm : mayPend s c = true) : stageFinishOp c s = holdPending 0x0106 c .fwCheck s := by
  rw [stageFinishOp, stageOp_open ha hw hf (by rw [hp]; rfl)]
  simp only [hq, hs, startPending_held hm, Bool.not_true, Bool.false_eq_true, if_false, id_eq]

/-- Finish is refused while the slot is being erased or checked. -/
theorem stageFinishOp_busy (hp : c.payload = [2, 0, 0, 0]) (hq : slotBusy s = true) :
    stageFinishOp c s = fail 0x0106 c stBusy s := by
  rw [stageFinishOp, stageOp_open ha hw hf (by rw [hp]; rfl), if_pos hq]

end Stage

/-- Settles O5, by the operation of the command and by the ends of the erase and of the check. -/
theorem firmwareStaging : Obligations.FirmwareStaging := by
  unfold Obligations.FirmwareStaging
  refine ⟨fun c s n h hp hn ha hw hf hm => ?begins, fun c s b h hp hb hl hs ha hw hf hq => ?sends,
    fun c s h hp hs hq ha hw hf hm => ?finishes, fun c s h hp hq ha hw hf => ?busy, fun s hk => ?erased,
    fun s hk hw hi hr => ?sound, fun s k hk hw hi hr => ?faulty⟩
  case begins =>
    exact runCmd_named h (by rw [stageBegins, hp]; rfl)
      (stageBeginOp_starts (s := fresh s) ha hw hf hp hn ((mayPend_fresh s c).trans hm))
  case sends =>
    have hlen : 16 ≤ c.payload.length := by
      rw [hp]
      simp only [List.length_append, leBytes_length, zeros_length, List.length_cons, List.length_nil]
      omega
    have hop : stageSends c = true := by
      rw [stageSends, decide_eq_true hlen, hp]
      rfl
    exact runCmd_named h hop (stageDataOp_appends (s := fresh s) ha hw hf hp hb hl hs hq)
  case finishes =>
    exact runCmd_named h (by rw [stageFinishes, hp]; rfl)
      (stageFinishOp_starts (s := fresh s) ha hw hf hp hs hq ((mayPend_fresh s c).trans hm))
  case busy =>
    exact runCmd_named h (by rw [stageFinishes, hp]; rfl) (stageFinishOp_busy (s := fresh s) ha hw hf hp hq)
  case erased =>
    change execFwSlotEraseDone s = _
    rw [execFwSlotEraseDone, if_pos hk]
  case sound =>
    change execFwStageCheckDone s = _
    simp only [execFwStageCheckDone, hk, hw, hi, hr, Bool.not_true, Bool.or_self, Bool.false_eq_true, if_false]
  case faulty =>
    change execFwStageCheckDone s = _
    simp only [execFwStageCheckDone, hk, hw, hi, hr, Bool.not_true, Bool.or_self, Bool.false_eq_true, if_false]

/-! ### Activation (R513, R514) -/

theorem otherSlot_ne_active (s : State) : otherSlot s ≠ s.fw.active := by
  unfold otherSlot
  split
  case isTrue h => rw [h]; decide
  case isFalse h => exact fun e => h e.symm

theorem upd_other {α : Type} {n : Nat} (v : Vector α n) {j k : Fin n} (f : α → α) (h : j ≠ k) : (upd v j f)[k] = v[k] :=
  Vector.getElem_set_ne _ _ (fun e => h (Fin.ext e))

/-- The running image is the one of the other slot, which is active from now on; the slot that was active holds `code`. -/
def activated (i : Image) (code : Fin 5) (s : State) : State :=
  let t := updFw (fun w => { w with active := otherSlot s, running := i })
    (updSlot s.fw.active (fun x => { x with state := code }) (updSlot (otherSlot s) (fun x => { x with state := 3 }) s))
  { t with ident := { t.ident with secVersion := i.secVersion }, ready := true, activating := false }

theorem exec_fwActivationDone (ha : s.activating = true) (hc : coreOn s = true)
    (hi : s.fw.slots[otherSlot s].image = some i) : exec .fwActivationDone s = .next (finish .fwActivate stOk
      (wordBytes i.version) (activated i (formerSlot s).1 (formerSlot s).2)) := by
  change execFwActivationDone s = _
  simp only [execFwActivationDone, ha, hc, hi, Bool.not_true, Bool.or_self, Bool.false_eq_true, if_false]
  rfl

theorem activated_slot (i : Image) (code : Fin 5) (s : State) :
    (activated i code s).fw.slots[otherSlot s].state = 3 := by
  simp only [activated, updFw_fw, updSlot_fw]
  rw [upd_other _ _ (otherSlot_ne_active s).symm, upd_self]

theorem exec_fwActivationFail (ha : s.activating = true) (hc : coreOn s = true) :
    exec .fwActivationFail s = .next (finish .fwActivate stNoResource []
      (updSlot (otherSlot s) (fun x => { x with state := 4 }) { s with ready := true, activating := false })) := by
  change execFwActivationFail s = _
  rw [execFwActivationFail, ha, hc, if_neg (by decide)]

/-- A command other than the activation that has posted PENDING is still owed its final response. -/
theorem owedAnother {p : Pending} (hp : p ∈ s.pend) (hk : p.kind ≠ .fwActivate) (hq : p.posted = true) :
    s.pend.any (fun p => p.kind != .fwActivate && p.posted) = true :=
  List.any_eq_true.2 ⟨p, hp, by rw [bne_iff_ne.2 hk, hq, Bool.and_self]⟩

/-- Settles O6: taking, start and time-out by their guards, and the two ends by what they leave. -/
theorem firmwareActivation : Obligations.FirmwareActivation := by
  unfold Obligations.FirmwareActivation
  refine ⟨fun c s h h2 hl hh ha hw hm => ?taken, fun s hk hw ho => ?starts, fun s p hk hp hne hq => ?late,
    fun s i ha hc hi => ?done, fun s ha hc => ?fails⟩
  case taken =>
    have h2 : ((fresh s).fw.slots[otherSlot (fresh s)].state != 2) = false := bne_eq_false_iff_eq.2 h2
    have ha : (fresh s).activating = false := ha
    refine runCmd_carried h ?_
    rw [activateBody, h2, waitsFor_fresh, waitsFor_fresh, waitsFor_fresh, hl, hh, ha, hw, if_neg Bool.false_ne_true,
      if_neg (by decide), startPending_held ((mayPend_fresh s c).trans hm), id_eq]
  case starts =>
    change execFwActivationStart s = _
    rw [execFwActivationStart, hk, hw, ho, if_pos (by decide)]
  case late =>
    change execFwActivateWaitTimeout s = _
    rw [execFwActivateWaitTimeout, hk, owedAnother hp hne hq, if_pos (by decide)]
  case done =>
    refine ⟨_, exec_fwActivationDone ha hc hi, ?_⟩
    simp only [finish_fw, finish_ident, finish_ready, finish_activating, finish_persist, finish_disp, finish_net,
      finish_flt, waitsFor_finish]
    exact ⟨rfl, rfl, activated_slot _ _ _, rfl, rfl, rfl, by simp, rfl, rfl, rfl, rfl⟩
  case fails =>
    refine ⟨_, exec_fwActivationFail ha hc, ?_⟩
    simp only [finish_fw, finish_ready, finish_activating, waitsFor_finish]
    exact ⟨rfl, rfl, congrArg Slot.state (upd_self _ _ _), rfl, rfl, by simp⟩

end Sys2Proof.Machine
end

section
/-! SUPPORT. The world tables set entry by entry, the life cycle, the wear counts and the security engine's commands. -/
namespace Sys2Proof.Machine

set_option Elab.async false

variable {s : State} {c : Cmd} {h : HostNo}

/-! ### SEC_BLOCK_WORLD of one entry (R500, R524) -/

/-- An entry that stays as it is takes no right. -/
theorem takesRight_self (w : Word) (h : HostNo) : takesRight w w h = false := by
  simp only [takesRight, Bool.and_not_self, Bool.not_and_self, Bool.false_and, Bool.or_self]

/-- Where one entry is set, a right is taken by that entry alone. -/
theorem takesRight_set (old : Vector Word 32) (b : Fin 16) (w : Word) (i : Fin 32) (h : HostNo) :
    takesRight old[i] (old.set b.val w)[i] h = (decide (i.val = b.val) && takesRight old[b.val] w h) := by
  obtain ⟨k, hk⟩ := i
  by_cases e : k = b.val
  · subst e
    have hw : (old.set b.val w)[(⟨b.val, hk⟩ : Fin 32)] = w := Vector.getElem_set_self _
    rw [hw, decide_eq_true rfl, Bool.true_and]
    rfl
  · have hw : (old.set b.val w)[(⟨k, hk⟩ : Fin 32)] = old[(⟨k, hk⟩ : Fin 32)] := Vector.getElem_set_ne _ _ (fun h => e h.symm)
    rw [hw, decide_eq_false e, Bool.false_and, takesRight_self]

section Block
variable {b : Fin 16} {v : Nat} (hp : c.payload = [BitVec.ofNat 8 b.val, 1, 0, 0] ++ leBytes 4 v)
include hp

theorem blockSet_first : byteAt c.payload 0 = b.val := by
  rw [hp]
  exact byteAt_cons_zero.trans ((BitVec.toNat_ofNat _ _).trans (Nat.mod_eq_of_lt (by omega)))

theorem blockSet_count : byteAt c.payload 1 = 1 := by rw [hp]; rfl

theorem blockSet_length : c.payload.length = 8 := by rw [hp]; rfl

theorem blockSet_entry (hv : v < 4294967296) : fieldAt c.payload 4 4 = v := by
  rw [hp]
  exact fieldAt_leBytes_last.trans (Nat.mod_eq_of_lt hv)

theorem newBlock_named (hv : v < 4294967296) (old : Vector Word 32) {i : Fin 32} (hi : i.val = b.val) :
    newBlock c old i = BitVec.ofNat 32 v := by
  have hin : (decide (b.val ≤ b.val) && decide (b.val < b.val + 1)) = true := by simp
  simp only [newBlock, blockSet_first hp, blockSet_count hp, hi, Nat.sub_self, Nat.mul_zero, Nat.add_zero,
    blockSet_entry hp hv, hin, if_true]

theorem newBlock_unnamed (old : Vector Word 32) {i : Fin 32} (hi : i.val ≠ b.val) : newBlock c old i = old[i] := by
  simp only [newBlock, blockSet_first hp, blockSet_count hp]
  exact if_neg (by simp; omega)

theorem newBlock_set (hv : v < 4294967296) (old : Vector Word 32) :
    Vector.ofFn (newBlock c old) = old.set b.val (BitVec.ofNat 32 v) := by
  refine Vector.ext fun k hk => ?_
  rw [Vector.getElem_ofFn, Vector.getElem_set]
  split
  case isTrue h => exact newBlock_named hp hv old h.symm
  case isFalse h => exact newBlock_unnamed hp old fun e => h e.symm

/-- The set of one well-formed entry is taken, or refused where it takes a right from a host with a live resource. -/
theorem blockSet_decided (hv : v < 4294967296) (hr : v / 2 ^ 17 % 2 ^ 14 = 0) (hl : v % 256 = 0) :
    secBlockWorldBody c s = if ([0, 1, 2, 3] : List HostNo).any (fun h =>
        takesRight s.worlds.block[b.val] (BitVec.ofNat 32 v) h && liveIn s (Fin.castLE (by omega) b) h)
      then fail 0x0D01 c stBusy s
      else (fun new => ok 0x0D01 c []
          (storeSetting 4 (new.toList.flatMap wordBytes) { s with worlds := { s.worlds with block := new } }))
        (s.worlds.block.set b.val (BitVec.ofNat 32 v)) := by
  have hbad : (List.range 1).any (fun k => badEntry (b.val + k) (fieldAt c.payload (4 + 4 * k) 4)) = false := by
    have h16 : decide (16 ≤ b.val) = false := decide_eq_false (by omega)
    have hr : v / 131072 % 16384 = 0 := hr
    simp [badEntry, blockSet_entry hp hv, hr, hl, h16]
  have hz : zeroAt c.payload 2 2 = true := by rw [hp]; rfl
  have he : c.payload.isEmpty = false := by rw [hp]; rfl
  have hany : (List.finRange 32).any (fun i => ([0, 1, 2, 3] : List HostNo).any (fun h =>
        takesRight s.worlds.block[i] (s.worlds.block.set b.val (BitVec.ofNat 32 v))[i] h && liveIn s i h)) =
      ([0, 1, 2, 3] : List HostNo).any (fun h =>
        takesRight s.worlds.block[b.val] (BitVec.ofNat 32 v) h && liveIn s (Fin.castLE (by omega) b) h) := by
    rw [Bool.eq_iff_iff]
    simp only [List.any_eq_true, takesRight_set, Bool.and_eq_true, decide_eq_true_eq]
    constructor
    · rintro ⟨i, -, h, hh, ⟨hi, ht⟩, hlive⟩
      have hib : i = Fin.castLE (by omega) b := Fin.ext hi
      exact ⟨h, hh, ht, hib ▸ hlive⟩
    · rintro ⟨h, hh, ht, hlive⟩
      exact ⟨Fin.castLE (by omega) b, List.mem_finRange _, h, hh, ⟨rfl, ht⟩, hlive⟩
  have hrange : decide (32 < b.val + 1) = false := decide_eq_false (by omega)
  simp only [secBlockWorldBody, blockSet_first hp, blockSet_count hp, blockSet_length hp, he, hz, hbad, hany, hrange,
    newBlock_set hp hv, Nat.lt_irrefl, decide_false, Nat.reduceLT, Nat.reduceMul, Nat.reduceAdd, bne_self_eq_false,
    Bool.not_true, Bool.or_self, Bool.false_eq_true, if_false]

end Block

/-! ### SEC_REGION_WORLD of one entry (R503, R525) -/

section Region
variable {i : Fin 128} {v : Byte} (hp : c.payload = [BitVec.ofNat 8 i.val, 1, 0, 0, v])
include hp

theorem regionSet_first : byteAt c.payload 0 = i.val := by
  rw [hp]
  exact byteAt_cons_zero.trans ((BitVec.toNat_ofNat _ _).trans (Nat.mod_eq_of_lt (by omega)))

theorem regionSet_count : byteAt c.payload 1 = 1 := by rw [hp]; rfl

theorem regionSet_byte : byteAt c.payload 4 = v.toNat := by rw [hp]; rfl

theorem newRegion_set (old : Vector RegionEntry 128) : Vector.ofFn (newRegion c old) =
    old.set i.val { old[i.val] with secure := decide (128 ≤ v.toNat), assignee := ⟨v.toNat % 8, Nat.mod_lt _ (by decide)⟩ } := by
  refine Vector.ext fun k hk => ?_
  rw [Vector.getElem_ofFn, Vector.getElem_set]
  split
  case isTrue h =>
    subst h
    have hin : (decide (i.val ≤ i.val) && decide (i.val < i.val + 1)) = true := by simp
    simp only [newRegion, regionSet_first hp, regionSet_count hp, hin, if_true, Nat.sub_self, Nat.add_zero,
      regionSet_byte hp]
    rfl
  case isFalse h =>
    simp only [newRegion, regionSet_first hp, regionSet_count hp]
    exact if_neg (by simp; omega)

/-- The byte for an entry that may not be set is refused. -/
theorem regionSet_refused (hb : regionByteOk s i.val 0 v.toNat = false) :
    secRegionWorldBody c s = fail 0x0D02 c stBadArg s := by
  have hbad : (List.range 1).any (fun k => !regionByteOk s i.val k (byteAt c.payload (4 + k))) = true := by
    simp [regionSet_byte hp, hb]
  have he : c.payload.isEmpty = false := by rw [hp]; rfl
  simp only [secRegionWorldBody, regionSet_first hp, regionSet_count hp, he, hbad, Bool.or_true, Bool.false_eq_true,
    if_false, if_true]

/-- The byte for an entry in no use is taken. -/
theorem regionSet_taken (hb : regionByteOk s i.val 0 v.toNat = true) (hu : sparesUsed s i.val = []) :
    secRegionWorldBody c s = (fun new => ok 0x0D02 c []
        (storeSetting 5 (regionNibbles new) { s with worlds := { s.worlds with region := new } }))
      (s.worlds.region.set i.val { s.worlds.region[i.val] with
        secure := decide (128 ≤ v.toNat), assignee := ⟨v.toNat % 8, Nat.mod_lt _ (by decide)⟩ }) := by
  have hgood : (List.range 1).any (fun k => !regionByteOk s i.val k (byteAt c.payload (4 + k))) = false := by
    simp [regionSet_byte hp, hb]
  have hz : zeroAt c.payload 2 2 = true := by rw [hp]; rfl
  have he : c.payload.isEmpty = false := by rw [hp]; rfl
  have hlen : c.payload.length = 5 := by rw [hp]; rfl
  have hrange : decide (128 < i.val + 1) = false := decide_eq_false (by omega)
  have hidle : (List.finRange 128).any (fun k => ((Vector.ofFn (newRegion c s.worlds.region))[k].secure
      || (Vector.ofFn (newRegion c s.worlds.region))[k].assignee != 7) && !(sparesUsed s k.val).isEmpty
      && (Vector.ofFn (newRegion c s.worlds.region))[k] != s.worlds.region[k]) = false := by
    refine List.any_eq_false.2 fun k _ => ?_
    by_cases e : i.val = k.val
    · simp [← e, hu]
    · have hsame : (Vector.ofFn (newRegion c s.worlds.region))[k] = s.worlds.region[k] := by
        rw [newRegion_set hp]
        exact Vector.getElem_set_ne _ _ e
      simp [hsame]
  simp only [secRegionWorldBody, regionSet_first hp, regionSet_count hp, hlen, he, hz, hgood, hidle, hrange, Nat.lt_irrefl,
    decide_false, Nat.reduceLT, Nat.reduceAdd, bne_self_eq_false, Bool.not_true, Bool.or_self, Bool.false_eq_true,
    if_false]
  rw [newRegion_set hp]

end Region

/-! ### NV_WEAR_READ (R527) -/

section Wear
variable {first : Nat} {n : Byte} (hp : c.payload = leBytes 2 first ++ [n, 0]) (hf : first < 1024)
include hp hf

/-- The words named are read where they lie in the bank, and refused else. -/
theorem wearRead_decided : nvWearReadBody c s = if 60 < n.toNat ∨ 1024 < first + n.toNat then fail 0x0D05 c stBadArg s
    else ok 0x0D05 c (leBytes 2 first ++ leBytes 2 n.toNat ++ zeros 4
      ++ (List.range n.toNat).flatMap (fun k => leBytes 8 (sparseGet 0 s.persist.wear (first + k)).toNat)) s := by
  have h0 : fieldAt c.payload 0 2 = first := by
    rw [hp]
    exact fieldAt_leBytes.trans (Nat.mod_eq_of_lt (by omega))
  have h2 : byteAt c.payload 2 = n.toNat := by rw [hp]; rfl
  have hz : zeroAt c.payload 3 1 = true := by rw [hp]; rfl
  have hlast : decide (1023 < first) = false := decide_eq_false (by omega)
  simp only [nvWearReadBody, h0, h2, hz, hlast, Bool.not_true, Bool.or_false, Bool.or_eq_true, decide_eq_true_eq]

end Wear

/-! ### The security engine (Table 13.4) -/

theorem withSecurity_ready {op : Half} {f : Cmd → State → State} (hi : s.flt.isolated.getLsbD 15 = false)
    (hf : s.flt.failed.getLsbD 15 = false) : withSecurity op f c s = f c s := by
  simp only [withSecurity, hi, hf, Bool.false_eq_true, if_false]

theorem withSecurity_failed {op : Half} {f : Cmd → State → State} (hf : s.flt.failed.getLsbD 15 = true) :
    withSecurity op f c s = fail op c stNoResource s := by
  rw [withSecurity, if_pos hf]

/-- A report is signed over what it says and the nonce given (R515). -/
theorem attestReportOp_answers {nonce : List Byte} (hp : c.payload = [0, 0, 0, 0] ++ nonce) (hn : nonce.length = 32) :
    secAttestReportOp c s =
      ok 0x0D06 c (attestBody s nonce ++ (List.range 96).map (Config.attestSigByte (attestBody s nonce))) s := by
  have hz : zeroAt c.payload 1 3 = true := by rw [hp]; rfl
  have hnonce : (c.payload.drop 4).take 32 = nonce := by
    rw [hp]
    exact List.take_of_length_le (Nat.le_of_eq hn)
  simp only [secAttestReportOp, hz, hnonce, Bool.not_true, Bool.false_eq_true, if_false]

theorem attestCertificateOp_answers {off : Nat} (hp : c.payload = [1, 0, 0, 0] ++ leBytes 4 off) (ho : off < 4294967296) :
    secAttestCertificateOp c s = ok 0x0D06 c (leBytes 4 Config.certLength
      ++ (List.range (min 480 (Config.certLength - off))).map (fun k => Config.certByte (off + k))) s := by
  have hz : zeroAt c.payload 1 3 = true := by rw [hp]; rfl
  have hoff : fieldAt c.payload 4 4 = off := by
    rw [hp]
    exact fieldAt_leBytes_last.trans (Nat.mod_eq_of_lt ho)
  simp only [secAttestCertificateOp, hz, hoff, Bool.not_true, Bool.false_eq_true, if_false]

/-! ### LC_TRANSITION (R505, R506) -/

theorem lcTransitionRun_paired (h : s.pair.state ≠ 0) : lcTransitionRun c s = fail 0x0D03 c stPairRole s := by
  rw [lcTransitionRun, if_pos (bne_iff_ne.2 h)]

section Unpaired
variable (h0 : s.pair.state = 0) (hb : fwBusy s = false) (hw : waitsFor s .lcTransition = false)
include h0 hb hw

/-- A transition that the table has with the signer named runs where it is signed. -/
theorem lcTransitionRun_named {new : Lc} (hn : lcOfCode (byteAt c.payload 0) = some new)
    (ha : lcAllowed s.ident.lc new (byteAt c.payload 1) = true) (hm : mayPend s c = true) :
    lcTransitionRun c s = if lcSigned s new c.payload then changeLc new c.payload (holdPending 0x0D03 c .lcTransition s)
      else fail 0x0D03 c stBadArg s := by
  simp only [lcTransitionRun, h0, hb, hw, hn, ha, startPending_held hm, bne_self_eq_false, Bool.or_self, Bool.not_true,
    Bool.false_eq_true, if_false]
  cases lcSigned s new c.payload <;> rfl

theorem lcTransitionRun_unnamed
    (hn : ∀ new, lcOfCode (byteAt c.payload 0) = some new → lcAllowed s.ident.lc new (byteAt c.payload 1) = false) :
    lcTransitionRun c s = fail 0x0D03 c stLifecycle s := by
  simp only [lcTransitionRun, h0, hb, hw, bne_self_eq_false, Bool.or_self, Bool.false_eq_true, if_false]
  cases e : lcOfCode (byteAt c.payload 0) with
  | none => rfl
  | some new => exact if_pos (by rw [hn new e]; rfl)

end Unpaired

/-- Settles O45, command by command. -/
theorem worldCommands : Obligations.WorldCommands := by
  unfold Obligations.WorldCommands
  refine ⟨fun c s h hp => ?blocks, fun c s b v h hp hv hr hl hd => ?blockSet, fun c s b v k h hp hv hr hl ht hk => ?blockBusy,
    fun c s h hp => ?regions, fun c s i v h hp hb hu => ?regionSet, fun c s i v h hp hb => ?regionBad,
    fun c s h hr => ?status, fun c s h hr => ?nonce, fun c s first n h hp hf hn hl => ?wear,
    fun c s first n h hp hf hl => ?wearPast, fun c s nonce h hi hf hp hn => ?report,
    fun c s off h hi hf hp ho => ?certificate, fun c s h hi hf => ?engineFailed,
    fun c s new h hi hf h0 hb hw hn ha hm => ?runs, fun c s h hi hf => ⟨fun h0 => ?paired, fun h0 hb hw hn => ?unnamed⟩,
    fun new p s => ?changes⟩
  case blocks =>
    have he : c.payload.isEmpty = true := by rw [hp]; rfl
    exact runCmd_carried h (by simp only [secBlockWorldBody, he, if_true]; rfl)
  case blockSet =>
    refine runCmd_carried h ((blockSet_decided (s := fresh s) hp hv hr hl).trans (if_neg ?_))
    rw [Bool.not_eq_true, List.any_eq_false]
    intro k _
    rw [show liveIn (fresh s) (Fin.castLE (by omega) b) k = false from hd k, Bool.and_false]
    exact Bool.false_ne_true
  case blockBusy =>
    refine runCmd_carried h ((blockSet_decided (s := fresh s) hp hv hr hl).trans (if_pos ?_))
    have hmem : k ∈ ([0, 1, 2, 3] : List HostNo) := List.mem_finRange k
    exact List.any_eq_true.2 ⟨k, hmem, Bool.and_eq_true_iff.2 ⟨ht, hk⟩⟩
  case regions =>
    have he : c.payload.isEmpty = true := by rw [hp]; rfl
    exact runCmd_carried h (by simp only [secRegionWorldBody, he, if_true]; rfl)
  case regionSet => exact runCmd_carried h (regionSet_taken (s := fresh s) hp hb hu)
  case regionBad => exact runCmd_carried h (regionSet_refused (s := fresh s) hp hb)
  case status =>
    refine runCmd_carried h ?_
    rw [lcStatusBody, cmdRequester_fresh, if_neg hr]
    rfl
  case nonce =>
    refine runCmd_carried h ?_
    rw [lcStatusBody, cmdRequester_fresh, if_pos hr]
    rfl
  case wear => exact runCmd_carried h ((wearRead_decided (s := fresh s) hp hf).trans (if_neg (by omega)))
  case wearPast => exact runCmd_carried h ((wearRead_decided (s := fresh s) hp hf).trans (if_pos (.inr hl)))
  case report =>
    have hop : attestReports c = true := by
      rw [attestReports, hp, List.length_append, hn]
      rfl
    refine runCmd_carried h ?_
    rw [withSecurity_ready (s := fresh s) hi hf, onlyWhen_named hop, attestReportOp_answers hp hn]
    rfl
  case certificate =>
    have hop : attestCertifies c = true := by rw [attestCertifies, hp]; rfl
    refine runCmd_carried h ?_
    rw [withSecurity_ready (s := fresh s) hi hf, onlyWhen_named hop, attestCertificateOp_answers hp ho]
  case engineFailed => exact runCmd_carried h (withSecurity_failed (s := fresh s) hf)
  case runs =>
    refine runCmd_carried h ((withSecurity_ready (s := fresh s) hi hf).trans ?_)
    exact lcTransitionRun_named (s := fresh s) h0 hb hw hn ha ((mayPend_fresh s c).trans hm)
  case paired => exact runCmd_carried h ((withSecurity_ready (s := fresh s) hi hf).trans (lcTransitionRun_paired h0))
  case unnamed =>
    exact runCmd_carried h ((withSecurity_ready (s := fresh s) hi hf).trans
      (lcTransitionRun_unnamed (s := fresh s) h0 hb hw hn))
  case changes => exact ⟨rfl, rfl, rfl, rfl, rfl, by cases new <;> rfl⟩

end Sys2Proof.Machine
end

section
/-! SUPPORT. The persistent bank read after a write, and the settings of several words: where their records lie, and what a reset reads of one that was stored. -/
namespace Sys2Proof.Machine

set_option Elab.async false

variable {s t : State} {n k w i : Nat} {v : Word} {b : List Byte} {l : List Word}

/-! ### One word (R516, R517) -/

theorem pbWord_pbWrite_same (h : sparseWf 0 s.persist.words = true) : pbWord (pbWrite s w v) w = v :=
  sparseGet_put_same 0 _ w v h

theorem pbWord_pbWrite_other (h : k ≠ w) : pbWord (pbWrite s w v) k = pbWord s k :=
  sparseGet_put_other 0 _ w k v h

theorem pbWrite_wf (h : sparseWf 0 s.persist.words = true) : sparseWf 0 (pbWrite s w v).persist.words = true :=
  sparsePut_wf 0 _ w v h

/-! ### Words in a row -/

theorem pbWord_pbWriteAll_outside (h : k < w ∨ w + l.length ≤ k) : pbWord (pbWriteAll s w l) k = pbWord s k := by
  induction l generalizing s w with
  | nil => rfl
  | cons x r ih =>
    rw [List.length_cons] at h
    exact (ih (by omega)).trans (pbWord_pbWrite_other (by omega))

theorem pbWord_pbWriteAll_inside (hs : sparseWf 0 s.persist.words = true) (hi : i < l.length) :
    pbWord (pbWriteAll s w l) (w + i) = l[i] := by
  induction l generalizing s w i with
  | nil => exact absurd hi (Nat.not_lt_zero i)
  | cons x r ih =>
    cases i with
    | zero =>
      exact (pbWord_pbWriteAll_outside (s := pbWrite s w x) (.inl (Nat.lt_succ_self w))).trans
        (pbWord_pbWrite_same hs)
    | succ i =>
      rw [show w + (i + 1) = w + 1 + i by omega]
      exact ih (pbWrite_wf hs) (Nat.lt_of_succ_lt_succ hi)

/-! ### Bytes packed into words and read back (R519) -/

theorem bytesToWords_length : (bytesToWords n b).length = n := by
  induction n generalizing b with
  | zero => rfl
  | succ n ih => exact congrArg (· + 1) ih

theorem bytesToWords_getElem (hi : i < (bytesToWords n b).length) :
    (bytesToWords n b)[i] = BitVec.ofNat 32 (leNat ((b.drop (4 * i)).take 4)) := by
  induction n generalizing b i with
  | zero => exact absurd hi (Nat.not_lt_zero i)
  | succ n ih =>
    cases i with
    | zero => rfl
    | succ i =>
      refine (ih (Nat.lt_of_succ_lt_succ hi)).trans ?_
      rw [List.drop_drop, Nat.mul_succ, Nat.add_comm]

/-- Byte `i` of a little-endian number. -/
theorem byte_of_leNat (hi : i < b.length) : BitVec.ofNat 8 (leNat b / 256 ^ i) = b[i] := by
  induction b generalizing i with
  | nil => exact absurd hi (Nat.not_lt_zero i)
  | cons x r ih =>
    have hx : x.toNat < 256 := x.isLt
    cases i with
    | zero =>
      refine BitVec.eq_of_toNat_eq ?_
      rw [Nat.pow_zero, Nat.div_one, BitVec.toNat_ofNat, leNat, List.getElem_cons_zero]
      omega
    | succ i =>
      have hd : leNat (x :: r) / 256 = leNat r := by
        rw [leNat]
        omega
      rw [Nat.pow_succ', ← Nat.div_div_eq_div_mul, hd]
      exact ih (Nat.lt_of_succ_lt_succ hi)

theorem padTo_of_length (h : b.length = n) : padTo n b = b := by
  rw [padTo, h, Nat.sub_self, List.take_of_length_le (Nat.le_of_eq h)]
  exact List.append_nil b

/-! ### Where the settings lie (Table 14.14) -/

/-- The settings of several words, which end with a check word. -/
def longSettings : List Nat := [4, 5, 6, 7, 8, 9, 10, 11, 12, 13, 14, 15, 16, 17, 18, 19, 21, 22, 23]

theorem longSettings_size : ∀ n ∈ longSettings, 2 ≤ (settingPlace n).2 ∧ 1 ≤ n ∧ n ≤ 23 := by decide

theorem longSettings_apart : ∀ n ∈ longSettings, ∀ k ∈ longSettings, k ≠ n →
    (settingPlace k).1 + (settingPlace k).2 ≤ (settingPlace n).1 ∨
    (settingPlace n).1 + (settingPlace n).2 ≤ (settingPlace k).1 := by decide

theorem wordSettings_apart : ∀ n ∈ longSettings, ∀ k ∈ [1, 20, 24],
    (settingPlace k).1 < (settingPlace n).1 ∨ (settingPlace n).1 + (settingPlace n).2 ≤ (settingPlace k).1 := by decide

/-! ### A record stored and loaded (R519) -/

/-- The words a setting is stored as: its bytes, then its check word. -/
def recordWords (n : Nat) (b : List Byte) : List Word :=
  bytesToWords ((settingPlace n).2 - 1) (padTo (4 * ((settingPlace n).2 - 1)) b)
    ++ [checkWord n (padTo (4 * ((settingPlace n).2 - 1)) b)]

theorem storeSetting_words : storeSetting n b s = pbWriteAll s (settingPlace n).1 (recordWords n b) := rfl

theorem recordWords_length (hn : n ∈ longSettings) : (recordWords n b).length = (settingPlace n).2 := by
  have hc := (longSettings_size n hn).1
  rw [recordWords, List.length_append, bytesToWords_length, List.length_singleton]
  omega

/-- Words outside a setting's place stay. -/
theorem pbWord_storeSetting_outside (hn : n ∈ longSettings)
    (h : w < (settingPlace n).1 ∨ (settingPlace n).1 + (settingPlace n).2 ≤ w) :
    pbWord (storeSetting n b s) w = pbWord s w := by
  rw [storeSetting_words]
  exact pbWord_pbWriteAll_outside (by rwa [recordWords_length hn])

/-- What a reset finds of a setting is in its place alone. -/
theorem loadSetting_congr (hk : k ∈ longSettings)
    (h : ∀ w, (settingPlace k).1 ≤ w → w < (settingPlace k).1 + (settingPlace k).2 → pbWord s w = pbWord t w) :
    loadSetting s k = loadSetting t k := by
  have hc := (longSettings_size k hk).1
  have hb : recordBytes s k = recordBytes t k := by
    refine List.map_congr_left fun i hi => ?_
    have hi := List.mem_range.1 hi
    rw [h _ (by omega) (by omega)]
  simp only [loadSetting, hb, h ((settingPlace k).1 + (settingPlace k).2 - 1) (by omega) (by omega)]

/-- A check word names its setting, so that it is never 0. -/
theorem checkWord_ne_zero (hn : n ∈ longSettings) : checkWord n b ≠ 0 := by
  obtain ⟨-, h1, h23⟩ := longSettings_size n hn
  intro h
  have ht : (2 ^ 24 * n + 2 ^ 16 * 0xA5 + crc32 b % 65536) % 2 ^ 32 = 0 :=
    (BitVec.toNat_ofNat _ 32).symm.trans (congrArg BitVec.toNat h)
  generalize crc32 b = x at ht
  omega

section Stored
variable (hn : n ∈ longSettings) (hb : b.length = 4 * ((settingPlace n).2 - 1))
  (hs : sparseWf 0 s.persist.words = true)
include hn hb hs

theorem pbWord_storeSetting_check :
    pbWord (storeSetting n b s) ((settingPlace n).1 + (settingPlace n).2 - 1) = checkWord n b := by
  have hc := (longSettings_size n hn).1
  have hlen : (settingPlace n).2 - 1 < (recordWords n b).length := by rw [recordWords_length hn]; omega
  rw [Nat.add_sub_assoc (by omega), storeSetting_words, pbWord_pbWriteAll_inside hs hlen]
  simp only [recordWords, padTo_of_length hb]
  rw [List.getElem_append_right (Nat.le_of_eq bytesToWords_length)]
  simp

theorem pbWord_storeSetting_body (hi : i < (settingPlace n).2 - 1) :
    pbWord (storeSetting n b s) ((settingPlace n).1 + i) = BitVec.ofNat 32 (leNat ((b.drop (4 * i)).take 4)) := by
  have hlen : i < (recordWords n b).length := by rw [recordWords_length hn]; omega
  have hin : i < (bytesToWords ((settingPlace n).2 - 1) b).length := by rwa [bytesToWords_length]
  rw [storeSetting_words, pbWord_pbWriteAll_inside hs hlen]
  simp only [recordWords, padTo_of_length hb]
  rw [List.getElem_append_left hin, bytesToWords_getElem hin]

theorem recordBytes_storeSetting : recordBytes (storeSetting n b s) n = b := by
  refine List.ext_getElem (by rw [recordBytes, List.length_map, List.length_range, hb]) fun i hi hib => ?_
  have hword : ((b.drop (4 * (i / 4))).take 4).length = 4 := by
    rw [List.length_take, List.length_drop]
    omega
  have hlt : leNat ((b.drop (4 * (i / 4))).take 4) < 2 ^ 32 := by
    have h := leNat_lt ((b.drop (4 * (i / 4))).take 4)
    rwa [hword] at h
  have hmod : i % 4 < ((b.drop (4 * (i / 4))).take 4).length := by omega
  have hat : 4 * (i / 4) + i % 4 = i := Nat.div_add_mod i 4
  simp only [recordBytes, List.getElem_map, List.getElem_range]
  rw [pbWord_storeSetting_body hn hb hs (by omega), BitVec.toNat_ofNat, Nat.mod_eq_of_lt hlt, byte_of_leNat hmod]
  simp only [List.getElem_take, List.getElem_drop, hat]

theorem loadSetting_storeSetting : loadSetting (storeSetting n b s) n = .bytes b := by
  simp only [loadSetting, pbWord_storeSetting_check hn hb hs, recordBytes_storeSetting hn hb hs,
    if_neg (checkWord_ne_zero hn), if_true]

end Stored

/-- Settles O55: a word by the sparse store's laws, and the settings by the places of their records. -/
theorem persistentWordsAndSettings : Obligations.PersistentWordsAndSettings := by
  unfold Obligations.PersistentWordsAndSettings
  refine ⟨fun s w v h => ?word, fun s w v k h => ?others, fun s w v h => ?wear, fun s w v => ?frame,
    fun n hn b s hb hs => ?stored, fun n hn k hk hne b s => ?kept, fun n hn k hk b s => ?keptWords, fun s n h => ?unset⟩
  case word => exact pbWord_pbWrite_same h
  case others => exact ⟨pbWord_pbWrite_other h, sparseGet_put_other 0 _ w k _ h⟩
  case wear => exact sparseGet_put_same 0 _ w _ h
  case frame => rfl
  case stored => exact loadSetting_storeSetting hn hb hs
  case kept =>
    have hap := longSettings_apart n hn k hk hne
    exact loadSetting_congr hk fun w hlo hhi => pbWord_storeSetting_outside hn (by omega)
  case keptWords => exact pbWord_storeSetting_outside hn (wordSettings_apart n hn k hk)
  case unset => exact if_pos h

end Sys2Proof.Machine
end

section
/-! SUPPORT. The reports and policies of the Link group: LINK_STATUS, LINK_EQ_REPORT, LINK_SLEEP_POLICY, LINK_LANE_SPARE and LINK_COUNTERS (R540, R543 to R546). -/
namespace Sys2Proof.Machine

set_option Elab.async false

variable {s : State} {c : Cmd} {u : Up} {l : LinkNo}

/-! ### LINK_STATUS and LINK_EQ_REPORT (R540, R543) -/

theorem linkStatusBody_named (hl : linkOfCode (linkCode c) = some l) :
    linkStatusBody c s = ok 0x0201 c (linkReport s l) s := by
  simp only [linkStatusBody, hl]

theorem linkReport_length (s : State) (l : LinkNo) : (linkReport s l).length = 16 := rfl

theorem linkReport_state (s : State) (l : LinkNo) : byteAt (linkReport s l) 0 = s.links[l].state.val := by
  refine byteAt_cons_zero.trans ((BitVec.toNat_ofNat _ _).trans (Nat.mod_eq_of_lt ?_))
  omega

theorem eqReportOp_named (hl : linkOfCode (linkCode c) = some l) :
    eqReportOp c s = ok 0x0204 c (eqReport (adaptAll l s) l) (adaptAll l s) := by
  simp only [eqReportOp, hl]

theorem eqStoredOp_named (hl : linkOfCode (linkCode c) = some l) : eqStoredOp c s = ok 0x0204 c (eqStored s l) s := by
  simp only [eqStoredOp, hl]

/-! ### LINK_SLEEP_POLICY (R544) -/

theorem linkSleepBody_reads (hc : linkCode c = u.val) (hp : c.payload = []) :
    linkSleepBody c s = ok 0x0205 c (policyBytes s (linkOfUp u)) s := by
  rw [linkSleepBody, onUplink_of_code hc]
  exact if_pos (List.isEmpty_iff.2 hp)

theorem fieldAt_half {r : List Byte} (q : Half) : fieldAt (leBytes 2 q.toNat ++ r) 0 2 = q.toNat :=
  fieldAt_leBytes.trans (Nat.mod_eq_of_lt q.isLt)

theorem fieldAt_past_half {r : List Byte} (q : Half) (i n : Nat) :
    fieldAt (leBytes 2 q.toNat ++ r) (i + 2) n = fieldAt r i n := by
  rw [Nat.add_comm, fieldAt_past_leBytes]

/-- A policy in range is kept, announced and answered. -/
theorem linkSleepBody_sets {m : Byte} {q d e : Half} (hc : linkCode c = u.val)
    (hp : c.payload = [m, 0] ++ leBytes 2 q.toNat ++ leBytes 2 d.toNat ++ leBytes 2 e.toNat) (hm : m.toNat < 8)
    (hq1 : 1 ≤ q.toNat) (hq : q.toNat ≤ 1000) (hd1 : 10 ≤ d.toNat) (hd : d.toNat ≤ 60000) (he1 : 1 ≤ e.toNat)
    (he : e.toNat ≤ 60000) : linkSleepBody c s = (fun t => ok 0x0205 c (policyBytes t (linkOfUp u)) t)
      (announce (linkOfUp u) (updLink (linkOfUp u) (fun k => { k with policy := ⟨m.setWidth 3, q, d, e⟩ }) s)) := by
  have hp : c.payload = m :: 0 :: (leBytes 2 q.toNat ++ (leBytes 2 d.toNat ++ (leBytes 2 e.toNat ++ []))) := by
    rw [hp, List.append_nil, List.append_assoc, List.append_assoc]
    rfl
  have h0 : byteAt c.payload 0 = m.toNat := by rw [hp, byteAt_cons_zero]
  have h1 : byteAt c.payload 1 = 0 := by rw [hp]; rfl
  have h2 : fieldAt c.payload 2 2 = q.toNat := by
    rw [hp, fieldAt_cons_succ, fieldAt_cons_succ, fieldAt_half]
  have h4 : fieldAt c.payload 4 2 = d.toNat := by
    rw [hp, fieldAt_cons_succ, fieldAt_cons_succ, fieldAt_past_half, fieldAt_half]
  have h6 : fieldAt c.payload 6 2 = e.toNat := by
    rw [hp, fieldAt_cons_succ, fieldAt_cons_succ, fieldAt_past_half, fieldAt_past_half, fieldAt_half]
  have hmode : BitVec.ofNat 3 m.toNat = m.setWidth 3 := BitVec.ofNat_toNat 3 m
  have hemp : c.payload.isEmpty = false := by rw [hp]; rfl
  rw [linkSleepBody, onUplink_of_code hc]
  simp only [hemp, h0, h1, h2, h4, h6, hm, hq1, hq, hd1, hd, he1, he, hmode, BitVec.ofNat_toNat, BitVec.setWidth_eq,
    decide_true, Bool.and_self, Bool.false_eq_true, if_true, if_false]

/-! ### LINK_LANE_SPARE (R545) -/

theorem linkSpareBody_reads (hc : linkCode c = u.val) (hp : c.payload = []) : linkSpareBody c s =
    ok 0x0206 c [BitVec.ofNat 8 (bitNat s.links[linkOfUp u].sparing), 0, 0, 0] s := by
  rw [linkSpareBody, onUplink_of_code hc]
  exact if_pos (List.isEmpty_iff.2 hp)

theorem linkSpareBody_sets {on : Bool} (hc : linkCode c = u.val)
    (hp : c.payload = [BitVec.ofNat 8 (bitNat on), 0, 0, 0]) : linkSpareBody c s =
    ok 0x0206 c [BitVec.ofNat 8 (bitNat on), 0, 0, 0]
      (announce (linkOfUp u) (updLink (linkOfUp u) (fun k => { k with sparing := on }) s)) := by
  have h0 : byteAt c.payload 0 = bitNat on := by
    rw [hp, byteAt_cons_zero]
    cases on <;> rfl
  have hz : zeroAt c.payload 1 3 = true := by rw [hp]; rfl
  have hemp : c.payload.isEmpty = false := by rw [hp]; rfl
  have hon : (bitNat on == 1) = on := by cases on <;> rfl
  have hlt : bitNat on < 2 := by cases on <;> decide
  rw [linkSpareBody, onUplink_of_code hc]
  simp only [hemp, h0, hz, hon, hlt, decide_true, Bool.and_self, Bool.false_eq_true, if_true, if_false]

/-! ### LINK_COUNTERS (R546) -/

theorem countersOp_reads {clear : Bool} (hc : linkCode c = u.val) : countersOp clear c s =
    ok 0x0207 c (counterReport s.links[linkOfUp u]) (updLink (linkOfUp u) (fun k => { k with
      fired := 0, counters := if clear then Vector.replicate 16 0 else k.counters }) s) := by
  rw [countersOp, onUplink_of_code hc]

/-- A threshold in range is set, and its window begins anew. -/
theorem countersSetOp_sets {k : Fin 16} {n w : Word} (hc : linkCode c = u.val)
    (hp : c.payload = [2, BitVec.ofNat 8 k.val, 0, 0] ++ leBytes 4 n.toNat ++ leBytes 4 w.toNat) (hw1 : 1 ≤ w.toNat)
    (hw : w.toNat ≤ 3600000) : countersSetOp c s = ok 0x0207 c []
      (updLink (linkOfUp u) (fun x => { x with thresholds := upd x.thresholds k (fun _ => ⟨n, w, 0, false⟩) }) s) := by
  have hp : c.payload = 2 :: BitVec.ofNat 8 k.val :: 0 :: 0 :: (leBytes 4 n.toNat ++ leBytes 4 w.toNat) := by
    rw [hp, List.append_assoc]
    rfl
  have h1 : byteAt c.payload 1 = k.val := by
    rw [hp, byteAt_cons_succ, byteAt_cons_zero, BitVec.toNat_ofNat]
    omega
  have hz : zeroAt c.payload 2 2 = true := by rw [hp]; rfl
  have h4 : fieldAt c.payload 4 4 = n.toNat := by
    rw [hp]
    exact fieldAt_leBytes.trans (Nat.mod_eq_of_lt n.isLt)
  have h8 : fieldAt c.payload 8 4 = w.toNat := by
    rw [hp]
    exact (fieldAt_past_leBytes (m := 4) (v := n.toNat) (i := 0)).trans (fieldAt_leBytes_last.trans (Nat.mod_eq_of_lt w.isLt))
  have hk : (⟨k.val % 16, Nat.mod_lt _ (by decide)⟩ : Fin 16) = k := Fin.ext (Nat.mod_eq_of_lt k.isLt)
  rw [countersSetOp, onUplink_of_code hc]
  simp only [h1, hz, h4, h8, hk, hw1, hw, k.isLt, BitVec.ofNat_toNat, BitVec.setWidth_eq, decide_true, Bool.and_self,
    if_true]

/-- Settles O15, command by command. -/
theorem linkReportsAndPolicies : Obligations.LinkReportsAndPolicies := by
  unfold Obligations.LinkReportsAndPolicies
  refine ⟨fun c s l h hl => ?status, fun s l => ⟨linkReport_length s l, linkReport_state s l⟩, fun c s l h hp hl => ?eq,
    fun c s l h hp hl => ?eqStored, fun c s u h hc hp => ?sleep,
    fun c s u m q d e h hc hp hm hq1 hq hd1 hd he1 he => ?sleepSet, fun c s u h hc hp => ?spare,
    fun c s u on h hc hp => ?spareSet, fun c s u h hc hp => ?counters, fun c s u h hc hp => ?cleared,
    fun c s u k n w h hc hp hw1 hw => ?threshold⟩
  case status => exact runCmd_carried h (linkStatusBody_named hl)
  case eq => exact runCmd_named h (List.isEmpty_iff.2 hp) (eqReportOp_named hl)
  case eqStored => exact runCmd_named h (beq_iff_eq.2 hp) (eqStoredOp_named hl)
  case sleep => exact runCmd_carried h (linkSleepBody_reads hc hp)
  case sleepSet => exact runCmd_carried h (linkSleepBody_sets hc hp hm hq1 hq hd1 hd he1 he)
  case spare => exact runCmd_carried h (linkSpareBody_reads hc hp)
  case spareSet => exact runCmd_carried h (linkSpareBody_sets hc hp)
  case counters => exact runCmd_named h (List.isEmpty_iff.2 hp) (countersOp_reads hc)
  case cleared => exact runCmd_named h (beq_iff_eq.2 hp) (countersOp_reads hc)
  case threshold =>
    have hop : setsThreshold c = true := by rw [setsThreshold, hp]; rfl
    exact runCmd_named h hop (countersSetOp_sets hc hp hw1 hw)

end Sys2Proof.Machine
end

section
/-! SUPPORT. What a reset does to the eFuse channels: it judges every one of them anew, with the ports it gives their roles (R428). -/
namespace Sys2Proof.Machine

set_option Elab.async false

/-- A part without an image or a stored setting, whose eFuse channels, with a limit of 500 mA, conduct while PG_OUT is low, as
POWER_LOSS leaves channels that conducted (R413). -/
def conductingChannels : State :=
  { State.reset with
    fw := { State.reset.fw with slots := Vector.replicate 2 ⟨0, none⟩ }
    power := { State.reset.power with
      pg := false, efuses := Vector.replicate 6 ⟨[0xF4, 1, 100, 0, 5, 0, 0, 0], true, false, false, false, 0⟩ } }

/-- The reset judges the channels as any change of a port does, and without PG_OUT they have no supply. -/
theorem restart_opens_channel : (restart false none conductingChannels).power.efuses[0].on = false := by decide +kernel

/-- Refutes O3: its last clause fails. The loading of the USB settings ends with `settleEfuses`, which gives every channel its
gate anew from its limit, its supply and its port, so that a channel that conducted may not conduct after a reset. -/
theorem not_resetLeaves : ¬ Obligations.ResetLeaves := by
  unfold Obligations.ResetLeaves
  intro h
  obtain ⟨-, -, -, -, -, -, -, -, -, -, -, -, -, -, -, hkept⟩ := h false conductingChannels
  have hon : (restart false none conductingChannels).power.efuses[0].on = true := by
    rw [hkept]
    rfl
  exact Bool.false_ne_true (restart_opens_channel.symm.trans hon)

end Sys2Proof.Machine
end

section
/-! SUPPORT. The canonical form is kept by every step, and the commands that wait are answered together, in order. -/
namespace Sys2Proof.Machine

set_option Elab.async false

variable {s : State} {c : Cmd} {op st : Half} {k : PendKind} {p : List Byte} {f : State → State}

/-- Settles O59, from the step lemma of `Stays`, through every command. -/
theorem stepKeepsCanonical : Obligations.StepKeepsCanonical := by
  unfold Obligations.StepKeepsCanonical
  intro s t hs h
  obtain ⟨u, hu, k⟩ := (Stays.refl s).step
  cases hu.symm.trans h
  exact k.canon hs

/-! ### Commands that wait (R80, R81) -/

theorem waitsFor_eq_false : waitsFor s k = false ↔ ∀ x ∈ s.pend, x.kind ≠ k := by
  simp [waitsFor]

/-- Where no command waits for it, there is nothing to answer. -/
theorem finish_of_none (h : waitsFor s k = false) : finish k st p s = s := by
  rw [waitsFor_eq_false] at h
  have hnone : s.pend.filter (fun x => x.kind == k) = [] :=
    List.filter_eq_nil_iff.2 fun x hx => by simpa using h x hx
  have hall : s.pend.filter (fun x => x.kind != k) = s.pend :=
    List.filter_eq_self.2 fun x hx => by simpa using h x hx
  simp only [finish, hnone, hall, List.foldl_nil]

theorem finish_of_single {x : Pending} (hx : s.pend = [x]) (hk : x.kind = k) :
    finish k st p s = finishOne st p { s with pend := [] } x := by
  simp [finish, hx, hk]

/-- A command for which no place is left is refused with BUSY. -/
theorem startPending_full (hb : heldBefore s c = false) (hf : pendingFull s c = true) :
    startPending op c k f s = fail op c stBusy s := by
  simp only [startPending, hb, hf, Bool.false_eq_true, if_true, if_false]

theorem pendingFull_of_mailbox {m : MbNo} (hc : c.src = .mailbox m) : pendingFull s c = decide (4 ≤ holding s m) := by
  simp only [pendingFull, hc]

/-- Settles O54, by what `finish` takes from the queue and by whether a place is left among the four. -/
theorem waitingCommandsAreAnswered : Obligations.WaitingCommandsAreAnswered := by
  unfold Obligations.WaitingCommandsAreAnswered
  refine ⟨fun k st p s => ⟨?_, finish_pend s k st p⟩, fun k st p s h => finish_of_none h,
    fun k st p s x hx hk => finish_of_single hx hk, fun op c k f s hb hf => startPending_full hb hf,
    fun op c k f s m hc hb hn => startPending_held ?_⟩
  · rw [waitsFor_finish, bne_self_eq_false, Bool.and_false]
  · rw [mayPend, hb, pendingFull_of_mailbox hc, decide_eq_false (Nat.not_le.2 hn)]
    rfl

end Sys2Proof.Machine
end

section
/-! SUPPORT. Every command row runs its body behind the shared checks, so that a check that fails refuses it alike. -/
namespace Sys2Proof.Machine

set_option Elab.async false

variable {s : State} {c : Cmd} {sp : OpSpec} {body : Cmd → State → State}

/-- A row that is carried out behind the shared checks of its opcode. -/
def RunsChecked (e : CommandRow) : Prop := ∃ body, ∀ c s, exec (e.2 c) s = .next (runCmd e.1 body c s)

/-- Each of the 140 arms of `exec` is `runCmd` with its row's opcode and a body. -/
theorem commandRows_runsChecked : ∀ e ∈ commandRows, RunsChecked e := by
  simp only [commandRows, systemRows, linkRows, tunnelRows, displayRows, portRows, networkRows, chipRows, integrityRows,
    List.forall_mem_append, List.forall_mem_cons, List.not_mem_nil, false_imp_iff, implies_true, and_true]
  and_intros <;> exact ⟨_, fun _ _ => rfl⟩

/-! ### The ways of a command that is not carried out here (R82, R385, R499) -/

theorem runCmd_forPartner (hp : forPartner s c = true) : runCmd sp body c s = forwardCmd sp.op c s := by
  simp only [runCmd, hp, if_true]

/-- A refusal by the command's block raises event 6 before the command completes. -/
theorem runCmd_blockDenied (hp : forPartner s c = false) (h : checkCmd sp s c = some stWorldDenied)
    (hb : blockDenied sp s c = true) : runCmd sp body c s = fail sp.op c stWorldDenied
      (raise (.denied (cmdRequester s c)) 6 (violationCommand (cmdRequester s c) (sp.write c) sp.op.toNat) s) := by
  simp [runCmd, hp, h, hb]

theorem runCmd_pairRole (hp : forPartner s c = false) (h : checkCmd sp s c = none) (ht : c.target.getLsbD 31 = true) :
    runCmd sp body c s = fail sp.op c stPairRole s := by
  simp only [runCmd, hp, h, ht, Bool.false_eq_true, if_true, if_false]

theorem forPartner_iff : forPartner s c = true ↔
    c.target.getLsbD 31 = true ∧ inSpan s = true ∧ stopAccepted s = false ∧ c.payload.length ≤ 496 := by
  simp only [forPartner, Bool.and_eq_true, Bool.not_eq_true', decide_eq_true_eq, and_assoc]

/-- The length is checked before anything else. -/
theorem checkCmd_badLength (h : 496 < c.payload.length ∨ sp.lens c.payload.length = false) :
    checkCmd sp s c = some stBadLength := by
  unfold checkCmd
  exact if_pos (by rcases h with h | h <;> simp [h])

/-- Settles O48: every row runs its body behind `runCmd`, whose ways are those of the checks. -/
theorem checksRefuseAlike : Obligations.ChecksRefuseAlike := by
  unfold Obligations.ChecksRefuseAlike
  refine ⟨fun e he c s hp => ?forward, fun s c => forPartner_iff, fun e he c s st hp hc hb => ?refused,
    fun e he c s hp hc hb => ?denied, fun e he c s hp hc ht => ?pairRole, fun sp s c h => checkCmd_badLength h⟩
  all_goals obtain ⟨body, hx⟩ := commandRows_runsChecked e he
  case forward => rw [hx, runCmd_forPartner hp]
  case refused => rw [hx, runCmd_refused body hp hc hb]
  case denied => rw [hx, runCmd_blockDenied hp hc hb]
  case pairRole => rw [hx, runCmd_pairRole hp hc ht]

end Sys2Proof.Machine
end

section
/-! SUPPORT. What delivering an event does to its mailbox, its bank and the window, and what it leaves of every other part of
the mailboxes: the ring's indices and marks are an event's own, everything else of a mailbox stays. -/
namespace Sys2Proof.Machine

set_option Elab.async false

variable {s t s₀ : State} {m k : MbNo} {e : Fin 64} {f p : Bool} {w : Dword} {a : Word}

/-! ### Bits -/

/-- A bit that `setBit` does not name is as it was. -/
theorem getLsbD_setBit_other {n : Nat} (v : BitVec n) {i j : Nat} (b : Bool) (h : j ≠ i) :
    (setBit v i b).getLsbD j = v.getLsbD j := by
  have hj : (2 ^ i).testBit j = false := by rw [Nat.testBit_two_pow]; simpa using h.symm
  rcases Nat.lt_or_ge j n with hn | hn
  · cases b
    · simp only [setBit, Bool.false_eq_true, if_false, BitVec.getLsbD_and, BitVec.getLsbD_not, BitVec.getLsbD_ofNat, hj, hn,
        decide_true, Bool.and_false, Bool.not_false, Bool.and_true]
    · simp only [setBit, if_true, BitVec.getLsbD_or, BitVec.getLsbD_ofNat, hj, Bool.and_false, Bool.or_false]
  · rw [BitVec.getLsbD_of_ge _ _ hn, BitVec.getLsbD_of_ge _ _ hn]

/-- The bit that `setBit` sets. -/
theorem getLsbD_setBit_same {n : Nat} (v : BitVec n) {i : Nat} (h : i < n) : (setBit v i true).getLsbD i = true := by
  simp only [setBit, if_true, BitVec.getLsbD_or, BitVec.getLsbD_ofNat, Nat.testBit_two_pow, h, decide_true, Bool.and_true,
    Bool.or_true]

/-! ### Packets and INT_N leave mailboxes and window -/

/-- A link without its wake reason. -/
def wakeless (k : Link) : Link := { k with wakeReason := none }

/-- Of every link, all but the wake reason is as it was. -/
def SameButWake (s t : State) : Prop := ∀ l : LinkNo, wakeless t.links[l] = wakeless s.links[l]

theorem SameButWake.refl (s : State) : SameButWake s s := fun _ => rfl

theorem SameButWake.trans {u : State} (h : SameButWake s t) (k : SameButWake t u) : SameButWake s u :=
  fun l => (k l).trans (h l)

/-- Nothing of mailboxes and window has changed, nor a pending bit, and of the links at most a wake reason. -/
structure Packets (s t : State) : Prop where
  mb : t.mb = s.mb
  window : t.window = s.window
  pend : t.ev.pend = s.ev.pend
  links : SameButWake s t

theorem Packets.refl (s : State) : Packets s s := ⟨rfl, rfl, rfl, .refl s⟩

theorem Packets.trans {u : State} (h : Packets s t) (k : Packets t u) : Packets s u :=
  ⟨k.mb.trans h.mb, k.window.trans h.window, k.pend.trans h.pend, h.links.trans k.links⟩

theorem packets_updTunnel (h : HostNo) (tid : Byte) (g : Tunnel → Tunnel) (s : State) :
    Packets s (updTunnel h tid g s) := ⟨rfl, rfl, rfl, fun _ => rfl⟩

theorem packets_noteReason (h : HostNo) (code : Byte) (s : State) : Packets s (noteReason h code s) := by
  unfold noteReason
  split
  · exact ⟨rfl, rfl, rfl, fun l => upd_keeps s.links _ (fun k =>
      if k.state = 9 && !k.deepWake && k.wakeReason.isNone && s.pm.phase == .run then { k with wakeReason := some code } else k)
      wakeless (fun k => by split <;> rfl) l⟩
  · exact .refl s

theorem packets_queuePacket (h : HostNo) (tid : Byte) (last : Bool) (b : List Byte) (s : State) :
    Packets s (queuePacket h tid last b s) := (packets_updTunnel _ _ _ _).trans (packets_noteReason _ _ _)

theorem packets_admitHeld (h : HostNo) (tid : Byte) (n : Nat) (s : State) : Packets s (admitHeld h tid n s) := by
  induction n generalizing s with
  | zero => exact .refl s
  | succ n ih =>
    unfold admitHeld
    split
    · exact .refl s
    · split
      · exact .refl s
      · split
        · exact ((packets_updTunnel _ _ _ s).trans (packets_queuePacket _ _ _ _ _)).trans (ih _)
        · exact .refl s

theorem packets_sendZero (h : HostNo) (b : List Byte) (s : State) : Packets s (sendZero h b s) := by
  unfold sendZero
  split
  · exact .refl s
  · exact (packets_updTunnel _ _ _ s).trans (packets_admitHeld _ _ _ _)

theorem packets_updateInt (s : State) : Packets s (updateInt s) := by
  have h (x : Events) (hx : x.pend = s.ev.pend) : Packets s { s with ev := x } := ⟨rfl, rfl, hx, fun _ => rfl⟩
  unfold updateInt
  dsimp only
  split
  · exact h _ rfl
  · split
    · split
      · exact .refl s
      · exact h _ rfl
    · split
      · exact h _ rfl
      · exact .refl s

/-! ### An index that advances (R95) -/

/-- A mailbox with the hold-off's marks changed. -/
def withInt (running owed : Bool) (b : Mailbox) : Mailbox := { b with intRunning := running, intOwed := owed }

theorem upd_of_fixed {α : Type} {n : Nat} {v : Vector α n} {i : Fin n} {g : α → α} (h : g v[i] = v[i]) : upd v i g = v := by
  rw [upd, h]
  exact Vector.set_getElem_self _

theorem upd_upd {α : Type} {n : Nat} (v : Vector α n) (i : Fin n) (g h : α → α) :
    upd (upd v i g) i h = upd v i (fun x => h (g x)) := by
  simp [upd]

/-- An index that advances changes of its mailbox the marks of the hold-off, and nothing of the window or of a bank. -/
theorem noteAdvance_eq (m : MbNo) (s : State) : ∃ running owed, (noteAdvance m s).mb = upd s.mb m (withInt running owed) ∧
    (noteAdvance m s).window = s.window ∧ (noteAdvance m s).ev.pend = s.ev.pend ∧ SameButWake s (noteAdvance m s) := by
  have same : s.mb = upd s.mb m (withInt s.mb[m].intRunning s.mb[m].intOwed) := (upd_of_fixed rfl).symm
  unfold noteAdvance
  split
  · exact ⟨_, _, same, rfl, rfl, .refl s⟩
  · split
    · exact ⟨s.mb[m].intRunning, true, rfl, rfl, rfl, fun _ => rfl⟩
    · split
      · unfold sendInterrupt
        split
        next hm =>
          obtain ⟨hmb, hw, hp, hl⟩ := (packets_noteReason (hostOnUp s ⟨m.val, hm⟩) 0x32 s).trans
            (packets_sendZero (hostOnUp s ⟨m.val, hm⟩) (interruptPacket s m) _)
          refine ⟨s.mb[m].holdoff != 0, false, ?_, hw, hp, hl⟩
          rw [updMb_mb, hmb]
          rfl
        · exact ⟨_, _, same, rfl, rfl, .refl s⟩
      · exact ⟨_, _, same, rfl, rfl, .refl s⟩

theorem noteAdvance_links (m : MbNo) (s : State) : SameButWake s (noteAdvance m s) := by
  obtain ⟨_, _, -, -, -, hl⟩ := noteAdvance_eq m s
  exact hl

/-! ### One event delivered (R90, R91, R92) -/

/-- The place in the window of the entry that a mailbox's event ring takes next. -/
def entryAt (s : State) (m : MbNo) : Nat := mbBase m + 0x2000 + 16 * (s.mb[m].evtPi.toNat % 64)

/-- A mailbox whose event ring has taken an entry. -/
def withEntry (b : Mailbox) : Mailbox := { b with evtPi := b.evtPi + 1, lostMark := false }

/-- A mailbox whose full event ring has lost an entry. -/
def withLoss (b : Mailbox) : Mailbox := { b with evtLost := satInc b.evtLost, evtOvf := true, lostMark := true }

theorem eventEntry_length (lost untimed partner : Bool) (e : Fin 64) (w : Dword) (a : Word) :
    (eventEntry lost untimed partner e w a).length = 16 := rfl

/-- Bit 16 of an entry says that events were lost before it (Table 2.13). -/
theorem eventEntry_lost (untimed partner : Bool) (e : Fin 64) (w : Dword) (a : Word) :
    ((eventEntry true untimed partner e w a).getD 2 0).getLsbD 0 = true := by
  have hb : (eventEntry true untimed partner e w a).getD 2 0 =
    BitVec.ofNat 8 ((e.val + 2 ^ 16 * 1 + 2 ^ 17 * bitNat untimed + 2 ^ 18 * bitNat partner) / 256 / 256) := rfl
  rw [hb, BitVec.getLsbD_ofNat, Nat.testBit_zero]
  have he := e.isLt
  simp only [Nat.zero_lt_succ, decide_true, Bool.true_and, decide_eq_true_eq]
  omega

theorem ringEvent_pend : (ringEvent m e p w a s).ev.pend = s.ev.pend := by
  unfold ringEvent
  split
  · obtain ⟨_, _, -, -, hp, -⟩ := noteAdvance_eq m (updMb m withEntry
      { s with window := memWrite s.window (entryAt s m) (eventEntry s.mb[m].lostMark s.clock.untimed p e w a) })
    exact hp
  · rfl

theorem ringEvent_links : SameButWake s (ringEvent m e p w a s) := by
  unfold ringEvent
  split
  · exact noteAdvance_links _ (updMb m withEntry { s with window := _ })
  · exact fun _ => rfl

/-- A ring with room takes the entry. -/
theorem ringEvent_room (hr : (s.mb[m].evtPi - s.mb[m].evtCi).toNat < 64) :
    (ringEvent m e p w a s).window =
      memWrite s.window (entryAt s m) (eventEntry s.mb[m].lostMark s.clock.untimed p e w a) ∧
    ∃ running owed, (ringEvent m e p w a s).mb = upd s.mb m (fun b => withInt running owed (withEntry b)) := by
  obtain ⟨r, o, hmb, hw, -, -⟩ := noteAdvance_eq m (updMb m withEntry
    { s with window := memWrite s.window (entryAt s m) (eventEntry s.mb[m].lostMark s.clock.untimed p e w a) })
  rw [ringEvent, if_pos hr]
  exact ⟨hw, r, o, hmb.trans (upd_upd _ _ _ _)⟩

/-- A full ring loses the entry. -/
theorem ringEvent_full (hr : 64 ≤ (s.mb[m].evtPi - s.mb[m].evtCi).toNat) : ringEvent m e p w a s = updMb m withLoss s := by
  rw [ringEvent, if_neg (Nat.not_lt.2 hr)]
  rfl

/-- The state in which an event's pending bit has been set in the bank of a mailbox's requester. -/
def withPending (e : Fin 64) (m : MbNo) (s : State) : State :=
  { s with ev := { s.ev with pend := upd s.ev.pend (bankOf s m) (fun x => setBit x e.val true) } }

theorem deliver_eq : deliver e f p w a s m = updateInt (if f || s.mb[m].mask.getLsbD e.val then
    ringEvent m e p w a (withPending e m s) else withPending e m s) := rfl

/-- Whatever the mask, the event's bit is set in the bank, and no other. -/
theorem deliver_pend : (deliver e f p w a s m).ev.pend =
    upd s.ev.pend (bankOf s m) (fun x => setBit x e.val true) := by
  rw [deliver_eq, (packets_updateInt _).pend]
  split
  · exact ringEvent_pend
  · rfl

theorem deliver_links : SameButWake s (deliver e f p w a s m) := by
  have hp : SameButWake s (withPending e m s) := fun _ => rfl
  rw [deliver_eq]
  split
  · exact (hp.trans ringEvent_links).trans (packets_updateInt _).links
  · exact hp.trans (packets_updateInt _).links

theorem deliver_enabled (h : (f || s.mb[m].mask.getLsbD e.val) = true) :
    Packets (ringEvent m e p w a (withPending e m s)) (deliver e f p w a s m) := by
  rw [deliver_eq, if_pos h]
  exact packets_updateInt _

theorem deliver_masked (h : (f || s.mb[m].mask.getLsbD e.val) = false) :
    (deliver e f p w a s m).window = s.window ∧ (deliver e f p w a s m).mb = s.mb := by
  rw [deliver_eq, h]
  exact ⟨(packets_updateInt _).window, (packets_updateInt _).mb⟩

theorem deliver_room (h : (f || s.mb[m].mask.getLsbD e.val) = true) (hr : (s.mb[m].evtPi - s.mb[m].evtCi).toNat < 64) :
    (deliver e f p w a s m).window =
      memWrite s.window (entryAt s m) (eventEntry s.mb[m].lostMark s.clock.untimed p e w a) ∧
    ∃ running owed, (deliver e f p w a s m).mb = upd s.mb m (fun b => withInt running owed (withEntry b)) := by
  obtain ⟨hw, r, o, hmb⟩ := ringEvent_room (s := withPending e m s) (e := e) (p := p) (w := w) (a := a) hr
  exact ⟨(deliver_enabled h).window.trans hw, r, o, (deliver_enabled h).mb.trans hmb⟩

theorem deliver_full (h : (f || s.mb[m].mask.getLsbD e.val) = true) (hr : 64 ≤ (s.mb[m].evtPi - s.mb[m].evtCi).toNat) :
    (deliver e f p w a s m).window = s.window ∧ (deliver e f p w a s m).mb = upd s.mb m withLoss := by
  have hf : ringEvent m e p w a (withPending e m s) = updMb m withLoss (withPending e m s) := ringEvent_full hr
  exact ⟨(deliver_enabled h).window.trans (by rw [hf]; rfl), (deliver_enabled h).mb.trans (by rw [hf]; rfl)⟩

/-! ### The whole of an event, byte by byte -/

/-- A byte of stored bytes reads back, by its place or 0 past them. -/
theorem memByte_memWrite {mem : Memory} {x i : Nat} {b : List Byte} (h : memWf mem = true) (hi : i < b.length) :
    memByte (memWrite mem x b) (x + i) = b.getD i 0 := by
  rw [memWrite_same _ _ _ _ h hi, List.getD_eq_getElem _ _ hi]

/-- A byte of the window outside the entry that an event may write. -/
theorem deliver_window_outside {b : Nat} (hb : b < entryAt s m ∨ entryAt s m + 16 ≤ b) :
    memByte (deliver e f p w a s m).window b = memByte s.window b := by
  rcases hm : f || s.mb[m].mask.getLsbD e.val with _ | _
  · rw [(deliver_masked hm).1]
  · rcases Nat.lt_or_ge (s.mb[m].evtPi - s.mb[m].evtCi).toNat 64 with hr | hr
    · rw [(deliver_room hm hr).1]
      exact memWrite_frame _ _ _ _ hb
    · rw [(deliver_full hm hr).1]

/-- Settles O51, by whether the mask enables the event and the ring has room. -/
theorem eventsReachTheirRings : Obligations.EventsReachTheirRings := by
  unfold Obligations.EventsReachTheirRings
  refine ⟨fun e f p w a s m => ?bit, fun e f p w a s m g hg => ?others, fun e f p w a s m h hr hwf => ?entered,
    fun e p w a s m h => ?masked⟩
  case bit => rw [deliver_pend, upd_self, getLsbD_setBit_same _ e.isLt]
  case others => rw [deliver_pend, upd_self, getLsbD_setBit_other _ _ (fun hv => hg (Fin.ext hv))]
  case entered =>
    obtain ⟨hw, r, o, hmb⟩ := deliver_room (p := p) (w := w) (a := a) h hr
    refine ⟨?_, ?_, ?_, fun i hi => ?_, fun b hb => deliver_window_outside hb, fun k hk => ?_⟩
    · rw [hmb, upd_self]; rfl
    · rw [hmb, upd_self]; rfl
    · rw [hmb, upd_self]; rfl
    · rw [hw]; exact memByte_memWrite hwf hi
    · rw [hmb]; exact upd_other _ _ hk.symm
  case masked => exact deliver_masked h

/-- Settles O52, by what a full ring leaves and what the entry after a loss holds. -/
theorem fullEventRingLosesTheEvent : Obligations.FullEventRingLosesTheEvent := by
  unfold Obligations.FullEventRingLosesTheEvent
  refine ⟨fun e f p w a s m h hr => ?lost, fun e f p w a s m h hr hl hwf => ?marked⟩
  case lost =>
    obtain ⟨hw, hmb⟩ := deliver_full (p := p) (w := w) (a := a) h hr
    refine ⟨hw, ?_, ?_, ?_, ?_, ?_, ?_⟩
    · rw [hmb, upd_self]; rfl
    · rw [hmb, upd_self]; rfl
    · rw [hmb, upd_self]; rfl
    · rw [hmb, upd_self]; rfl
    · rw [hmb, upd_self]; rfl
    · rw [deliver_pend, upd_self, getLsbD_setBit_same _ e.isLt]
  case marked =>
    rw [(deliver_room h hr).1, hl]
    refine Eq.trans (congrArg (fun x : Byte => x.getLsbD 0) ?_) (eventEntry_lost s.clock.untimed p e w a)
    exact memByte_memWrite hwf (by rw [eventEntry_length]; decide)

end Sys2Proof.Machine
end

section
/-! SUPPORT. A response in the slot at MB_RSP_PI, and what reports leave of mailboxes, links and everything else. -/
namespace Sys2Proof.Machine

set_option Elab.async false

variable {s t s₀ : State} {m : MbNo} {e : Fin 64} {f p : Bool} {w : Dword} {a : Word}

/-! ### What is left of a mailbox -/

/-- A mailbox without what an event changes: the event ring's producer and its losses, and the hold-off's marks. -/
def eventless (b : Mailbox) : Mailbox :=
  { b with evtPi := 0, evtLost := 0, evtOvf := false, lostMark := false, intRunning := false, intOwed := false }

/-- A mailbox without what an answer changes: what an event changes, the responses and the marks of reset commands. -/
def answerless (b : Mailbox) : Mailbox := { eventless b with rspPi := 0, waiting := [], flag17 := [] }

theorem noteAdvance_eventless (k : MbNo) : eventless (noteAdvance m s).mb[k] = eventless s.mb[k] := by
  obtain ⟨r, o, hmb, -⟩ := noteAdvance_eq m s
  rw [hmb]
  exact upd_keeps _ _ (withInt r o) eventless (fun _ => rfl) k

theorem deliver_eventless (k : MbNo) : eventless (deliver e f p w a s m).mb[k] = eventless s.mb[k] := by
  rcases hm : f || s.mb[m].mask.getLsbD e.val with _ | _
  · rw [(deliver_masked hm).2]
  · rcases Nat.lt_or_ge (s.mb[m].evtPi - s.mb[m].evtCi).toNat 64 with hr | hr
    · obtain ⟨-, r, o, hmb⟩ := deliver_room (p := p) (w := w) (a := a) hm hr
      rw [hmb]
      exact upd_keeps _ _ (fun b => withInt r o (withEntry b)) eventless (fun _ => rfl) k
    · rw [(deliver_full hm hr).2]
      exact upd_keeps _ _ withLoss eventless (fun _ => rfl) k

/-- What no event changes of a mailbox. -/
theorem fields_of_eventless {b c : Mailbox} (h : eventless b = eventless c) : b.cmdPi = c.cmdPi ∧ b.cmdCi = c.cmdCi ∧
    b.rspPi = c.rspPi ∧ b.rspCi = c.rspCi ∧ b.mask = c.mask ∧ b.evtCi = c.evtCi :=
  ⟨(congrArg Mailbox.cmdPi h :), (congrArg Mailbox.cmdCi h :), (congrArg Mailbox.rspPi h :), (congrArg Mailbox.rspCi h :),
    (congrArg Mailbox.mask h :), (congrArg Mailbox.evtCi h :)⟩

/-- What no answer changes of a mailbox. -/
theorem fields_of_answerless {b c : Mailbox} (h : answerless b = answerless c) : b.cmdPi = c.cmdPi ∧ b.cmdCi = c.cmdCi ∧
    b.rspCi = c.rspCi ∧ b.mask = c.mask :=
  ⟨(congrArg Mailbox.cmdPi h :), (congrArg Mailbox.cmdCi h :), (congrArg Mailbox.rspCi h :), (congrArg Mailbox.mask h :)⟩

theorem answerless_of_eventless {b c : Mailbox} (h : eventless b = eventless c) : answerless b = answerless c := by
  rw [answerless, answerless, h]

/-! ### The slot of a response (R77, Table 2.10) -/

/-- The place in the window of the slot that a mailbox's response ring takes next. -/
def slotAt (s : State) (m : MbNo) : Nat := mbBase m + 0x1000 + 512 * (s.mb[m].rspPi.toNat % 8)

theorem responseBytes_length (r : Response) (w : Dword) : (responseBytes r w).length = 16 + r.payload.length := by
  simp only [responseBytes, List.length_append, leBytes_length, List.length_singleton]

/-- The state in which a response stands in its slot. -/
def slotWritten (m : MbNo) (r : Response) (s : State) : State :=
  updMb m (fun b => { b with rspPi := b.rspPi + 1 })
    { s with window := memWrite s.window (slotAt s m) (responseBytes r s.clock.hubTime) }

/-- The state in which a response has its slot, before its event. -/
def withResponse (m : MbNo) (r : Response) (s : State) : State := noteAdvance m (slotWritten m r s)

theorem postSlot_eq (m : MbNo) (r : Response) (s : State) : postSlot m r s =
    deliver ⟨m.val, by omega⟩ r.ring false (withResponse m r s).clock.hubTime
      (BitVec.ofNat 32 (r.seq.toNat + 65536 * r.tag.toNat)) (withResponse m r s) m := rfl

theorem withResponse_eventless {r : Response} :
    eventless (withResponse m r s).mb[m] = eventless { s.mb[m] with rspPi := s.mb[m].rspPi + 1 } := by
  rw [withResponse, noteAdvance_eventless, slotWritten, updMb_mb, upd_self]

theorem withResponse_window (m : MbNo) (r : Response) (s : State) : (withResponse m r s).window =
    memWrite s.window (slotAt s m) (responseBytes r s.clock.hubTime) := by
  obtain ⟨_, _, -, hw, -, -⟩ := noteAdvance_eq m (slotWritten m r s)
  rw [withResponse, hw, slotWritten, updMb_window]

theorem withResponse_evtPi (m : MbNo) (r : Response) (s : State) : (withResponse m r s).mb[m].evtPi = s.mb[m].evtPi := by
  obtain ⟨_, _, hmb, -⟩ := noteAdvance_eq m (slotWritten m r s)
  rw [withResponse, hmb, upd_self, slotWritten, updMb_mb, upd_self]
  rfl

theorem withResponse_entryAt (m : MbNo) (r : Response) (s : State) : entryAt (withResponse m r s) m = entryAt s m := by
  rw [entryAt, withResponse_evtPi, entryAt]

theorem bankOf_withResponse (m : MbNo) (r : Response) (s : State) : bankOf (withResponse m r s) m = bankOf s m := by
  have hp : (withResponse m r s).pair = s.pair := (notes_noteAdvance m (slotWritten m r s)).pair
  unfold bankOf paired
  rw [hp]

theorem postSlot_eventless {r : Response} :
    eventless (postSlot m r s).mb[m] = eventless { s.mb[m] with rspPi := s.mb[m].rspPi + 1 } := by
  rw [postSlot_eq, deliver_eventless, withResponse_eventless]

/-- A byte of the window outside the entry that the response's event may write is as the slot's writing left it. -/
theorem postSlot_window_outside {r : Response} {b : Nat} (hb : b < entryAt s m ∨ entryAt s m + 16 ≤ b) :
    memByte (postSlot m r s).window b =
      memByte (memWrite s.window (slotAt s m) (responseBytes r s.clock.hubTime)) b := by
  rw [postSlot_eq, deliver_window_outside (by rwa [withResponse_entryAt]), withResponse_window]

theorem postSlot_pend (m : MbNo) (r : Response) (s : State) :
    (postSlot m r s).ev.pend[bankOf s m].getLsbD m.val = true := by
  have h : (postSlot m r s).ev.pend[bankOf (withResponse m r s) m].getLsbD m.val = true := by
    rw [postSlot_eq, deliver_pend, upd_self]
    exact getLsbD_setBit_same _ (by omega)
  simpa only [bankOf_withResponse] using h

theorem postResponse_free {r : Response} (hw : s.mb[m].waiting = []) (hf : 0 < freeSlots s.mb[m]) :
    postResponse m r s = postSlot m r s := by
  simp only [postResponse, hw, hf, List.isEmpty_nil, decide_true, Bool.and_self, if_true]

theorem postResponse_waits {r : Response} (h : s.mb[m].waiting ≠ [] ∨ freeSlots s.mb[m] = 0) :
    postResponse m r s = updMb m (fun b => { b with waiting := b.waiting ++ [r] }) s := by
  have hn : (s.mb[m].waiting.isEmpty && decide (0 < freeSlots s.mb[m])) = false := by
    rcases h with h | h
    · rw [List.isEmpty_eq_false_iff.2 h, Bool.false_and]
    · rw [h, decide_eq_false (Nat.lt_irrefl 0), Bool.and_false]
  simp only [postResponse, hn, Bool.false_eq_true, if_false]

/-- Settles O50: the slot's writing first, then the event, whose entry lies beyond every slot. -/
theorem responsesTakeTheirSlots : Obligations.ResponsesTakeTheirSlots := by
  unfold Obligations.ResponsesTakeTheirSlots
  refine ⟨fun m r s hq hf hl hwf => ?taken, fun m r s h => postResponse_waits h⟩
  have hbox : eventless (postSlot m r s).mb[m] = _ := postSlot_eventless
  have hslot : slotAt s m + 512 ≤ mbBase m + 0x2000 := by
    unfold slotAt
    omega
  have hentry : mbBase m + 0x2000 ≤ entryAt s m := Nat.le_add_right _ _
  rw [postResponse_free hq hf]
  refine ⟨(congrArg Mailbox.rspPi hbox :), (congrArg Mailbox.cmdPi hbox :), (congrArg Mailbox.cmdCi hbox :),
    (congrArg Mailbox.waiting hbox :).trans hq, fun i hi => ?_, postSlot_pend m r s, fun b hs he => ?_⟩
  · refine (postSlot_window_outside ?_).trans (memByte_memWrite hwf ?_)
    · exact .inl (Nat.lt_of_lt_of_le (by unfold slotAt at hslot; omega) hentry)
    · rwa [responseBytes_length]
  · refine (postSlot_window_outside he).trans (memWrite_frame _ _ _ _ ?_)
    rwa [responseBytes_length, ← Nat.add_assoc]

/-! ### What reports leave (R528) -/

/-- From one state to another, of every mailbox what `core` shows is as it was, and of every link all but its wake
reason. -/
structure Reports (core : Mailbox → Mailbox) (s t : State) : Prop where
  box : ∀ m : MbNo, core t.mb[m] = core s.mb[m]
  links : SameButWake s t

namespace Reports

variable {core : Mailbox → Mailbox} {u : State}

theorem refl (s : State) : Reports core s s := ⟨fun _ => rfl, .refl s⟩

theorem trans (h : Reports core s t) (k : Reports core t u) : Reports core s u :=
  ⟨fun m => (k.box m).trans (h.box m), h.links.trans k.links⟩

/-- An update that touches neither a mailbox nor a link. -/
theorem same (hm : t.mb = s.mb := by rfl) (hl : t.links = s.links := by rfl) : Reports core s t :=
  ⟨fun m => by rw [hm], fun l => by rw [hl]⟩

theorem updMb {g : Mailbox → Mailbox} (h : ∀ b, core (g b) = core b) : Reports core s (updMb m g s) :=
  ⟨upd_keeps s.mb m g core h, fun _ => rfl⟩

theorem ite {q : Prop} [Decidable q] (h : Reports core s t) (k : Reports core s u) :
    Reports core s (if q then t else u) := by
  split
  · exact h
  · exact k

theorem foldl {α : Type} {g : State → α → State} (h : ∀ s x, Reports core s (g s x)) (xs : List α) (s : State) :
    Reports core s (xs.foldl g s) := by
  induction xs generalizing s with
  | nil => exact .refl s
  | cons x r ih => exact (h s x).trans (ih (g s x))

/-- What leaves more of the mailboxes leaves less of them too. -/
theorem answerless (h : Reports eventless s t) : Reports answerless s t :=
  ⟨fun m => answerless_of_eventless (h.box m), h.links⟩

theorem wakeReason (h : Reports core s t) (l : LinkNo) :
    { t.links[l] with wakeReason := s.links[l].wakeReason } = s.links[l] :=
  congrArg (fun k : Link => { k with wakeReason := s.links[l].wakeReason }) (h.links l)

end Reports

theorem reports_deliver (e : Fin 64) (f p : Bool) (w : Dword) (a : Word) (s : State) (m : MbNo) :
    Reports eventless s (deliver e f p w a s m) := ⟨deliver_eventless, deliver_links⟩

theorem reports_relayEvent (sc : Scope) (e : Fin 64) (a : Word) (s : State) :
    Reports eventless s (relayEvent sc e a s) := .ite (.ite .same (.ite .same (.refl s))) (.refl s)

theorem reports_raise (sc : Scope) (e : Fin 64) (a : Nat) (s : State) : Reports eventless s (raise sc e a s) :=
  (Reports.foldl (fun s m => reports_deliver _ _ _ _ _ s m) _ s).trans (reports_relayEvent _ _ _ _)

theorem reports_slotWritten (m : MbNo) (r : Response) (s : State) : Reports answerless s (slotWritten m r s) :=
  ⟨upd_keeps s.mb m _ answerless (fun _ => rfl), fun _ => rfl⟩

theorem reports_noteAdvance (m : MbNo) (s : State) : Reports eventless s (noteAdvance m s) :=
  ⟨noteAdvance_eventless, noteAdvance_links m s⟩

theorem reports_postSlot (m : MbNo) (r : Response) (s : State) : Reports answerless s (postSlot m r s) := by
  have ha : Reports eventless (slotWritten m r s) (withResponse m r s) := reports_noteAdvance m (slotWritten m r s)
  rw [postSlot_eq]
  exact ((reports_slotWritten m r s).trans ha.answerless).trans (reports_deliver _ _ _ _ _ (withResponse m r s) m).answerless

theorem reports_postResponse (m : MbNo) (r : Response) (s : State) : Reports answerless s (postResponse m r s) :=
  .ite (reports_postSlot m r s) (.updMb fun _ => rfl)

theorem reports_noteStatus (st : Half) (s : State) : Reports answerless s (noteStatus st s) := .ite .same (.refl s)

theorem reports_respondTo (src : CmdSrc) (seq tag : Half) (fl : BitVec 8) (op st : Half) (i : Bool) (b : List Byte)
    (s : State) : Reports answerless s (respondTo src seq tag fl op st i b s) := by
  unfold respondTo
  refine (reports_noteStatus st s).trans ?_
  cases src with
  | mailbox m =>
    exact .ite (reports_postResponse _ _ _)
      ((Reports.updMb (m := m) (g := fun b => { b with flag17 := b.flag17.filter (· != seq) }) fun _ => rfl).trans (.ite .same (reports_postResponse _ _ _)))
  | forwarded r id => exact .same
  | mirror r => exact .refl _

theorem reports_respond (op : Half) (c : Cmd) (st : Half) (b : List Byte) (s : State) :
    Reports answerless s (respond op c st b s) := reports_respondTo _ _ _ _ _ _ _ _ s

theorem reports_releaseDeferred (s : State) : Reports answerless s (releaseDeferred s) :=
  Reports.trans (t := updPair _ s) .same (Reports.foldl (fun s (d : MbNo × Response) => reports_postResponse d.1 d.2 s) _ _)

/-- The pair's notes of a command whose forwarding is decided: it runs no longer, and where Day forwards it, it is sent and
awaits Night. -/
def forwardNoted (sp : OpSpec) (c : Cmd) (s : State) : State :=
  let s := updPair (fun p => { p with running := false }) s
  let st := s.pair.lastStatus.getD stOk
  let id := s.pair.nextId
  if isDay s && s.pair.state != 9 && !ofDay c && sharedOpcode sp.op && sp.write c && (st == stOk || st == stPending) then
    updPair (fun p => { p with
      nextId := id + 1
      awaiting := match c.src with | .mailbox m => p.awaiting ++ [⟨id, m, c.seq⟩] | .forwarded _ _ => p.awaiting | .mirror _ => p.awaiting })
      (emit (.mirrorChange (.command id sp.op { c with src := .mirror (cmdRequester s c) } st)) s)
  else s

theorem forwardChange_eq (sp : OpSpec) (c : Cmd) (s : State) :
    forwardChange sp c s = releaseDeferred (forwardNoted sp c s) := rfl

theorem reports_forwardChange (sp : OpSpec) (c : Cmd) (s : State) : Reports answerless s (forwardChange sp c s) := by
  have h : Reports answerless s (forwardNoted sp c s) := by
    unfold forwardNoted
    exact .ite .same .same
  exact h.trans (reports_releaseDeferred _)

/-! ### The other fields -/

theorem tells_releaseDeferred (s : State) : Tells s (releaseDeferred s) :=
  (tells_updPair _ s).trans (Tells.foldl (fun s (d : MbNo × Response) => tells_postResponse d.1 d.2 s) _ _)

theorem tells_forwardChange (sp : OpSpec) (c : Cmd) (s : State) : Tells s (forwardChange sp c s) := by
  have h : Tells s (forwardNoted sp c s) := by
    unfold forwardNoted
    exact (tells_updPair _ s).trans (.ite ((tells_emit _ _).trans (tells_updPair _ _)) (.refl _))
  exact h.trans (tells_releaseDeferred _)

/-- Of the pair, the end of a command changes its own notes, what awaits Night and what is held back. -/
structure Ends (s t : State) : Prop where
  pend : t.pend = s.pend
  flt : t.flt = s.flt
  pair : { t.pair with running := s.pair.running, nextId := s.pair.nextId, awaiting := s.pair.awaiting,
                       deferred := s.pair.deferred } = s.pair

theorem ends_forwardNoted (sp : OpSpec) (c : Cmd) (s : State) : Ends s (forwardNoted sp c s) := by
  unfold forwardNoted
  dsimp only
  split <;> exact ⟨rfl, rfl, rfl⟩

/-- What is held back and waits for nothing more is posted, and is held back no longer. -/
theorem releaseDeferred_notes (s : State) : (releaseDeferred s).pend = s.pend ∧ (releaseDeferred s).flt = s.flt ∧
    ∃ l, (releaseDeferred s).pair = { s.pair with deferred := l } := by
  obtain ⟨hp, hf, hr⟩ := Notes.foldl (fun s (d : MbNo × Response) => notes_postResponse d.1 d.2 s)
    (s.pair.deferred.filter fun d => !s.pair.awaiting.any (fun a => a.mb == d.1 && a.seq == d.2.seq))
    (updPair (fun p => { p with
      deferred := p.deferred.filter (fun d => s.pair.awaiting.any (fun a => a.mb == d.1 && a.seq == d.2.seq)) }) s)
  exact ⟨hp, hf, _, hr⟩

theorem ends_forwardChange (sp : OpSpec) (c : Cmd) (s : State) : Ends s (forwardChange sp c s) := by
  obtain ⟨hp, hf, hr⟩ := ends_forwardNoted sp c s
  obtain ⟨kp, kf, l, kr⟩ := releaseDeferred_notes (forwardNoted sp c s)
  rw [← forwardChange_eq] at kp kf kr
  exact ⟨kp.trans hp, kf.trans hf, by rw [kr]; exact hr⟩

/-- A state that differs in what tells the outside only, by its fields. -/
theorem eq_of_tells (h : Tells s t) (hp : t.pend = s.pend) (hf : t.flt = s.flt) :
    t = { s with mb := t.mb, window := t.window, ev := t.ev, tunnels := t.tunnels, links := t.links, out := t.out,
                 pair := t.pair } := by
  cases t
  simp only [State.mk.injEq, true_and]
  exact ⟨h.variant, h.ident, h.fw, h.persist, h.worlds, h.perf, h.clock, h.ready, h.activating, h.init, h.scratch, h.nextMb,
    hp, h.spi, h.tel, hf, h.scheds, h.commits, h.sampling, h.disp, h.pcie, h.usb, h.net, h.can, h.power, h.pm, h.freeCtr,
    h.pending⟩

/-- Settles O53: each report by the fields it leaves, and by what it leaves of mailboxes and links. -/
theorem reportsLeaveTheRest : Obligations.ReportsLeaveTheRest := by
  unfold Obligations.ReportsLeaveTheRest
  refine ⟨fun sc e a s => ⟨?raised, fun m => fields_of_eventless ((reports_raise sc e a s).box m),
      (reports_raise sc e a s).wakeReason⟩,
    fun op c st p s => ⟨?answered, (answers_respondTo _ _ _ _ _ _ _ _ s).pair,
      fun m => fields_of_answerless ((reports_respond op c st p s).box m), (reports_respond op c st p s).wakeReason⟩,
    fun sp c s => ⟨?ended, (ends_forwardChange sp c s).pair,
      fun m => fields_of_answerless ((reports_forwardChange sp c s).box m), (reports_forwardChange sp c s).wakeReason⟩⟩
  case raised =>
    have h := eq_of_tells (tells_raise sc e a s) (raise_pend _ _ _ _) (raise_flt _ _ _ _)
    rwa [raise_pair] at h
  case answered => exact eq_of_tells (tells_respond op c st p s) (respond_pend _ _ _ _ _) (respond_flt _ _ _ _ _)
  case ended =>
    obtain ⟨hp, hf, -⟩ := ends_forwardChange sp c s
    exact eq_of_tells (tells_forwardChange sp c s) hp hf

end Sys2Proof.Machine
end

section
/-! SUPPORT. Writes to the mailbox registers, the event registers and the persistent words, each by the register it reaches. -/
namespace Sys2Proof.Machine

set_option Elab.async false

variable {s : State} {r : Requester} {m : MbNo} {off : Nat} {v : Word}

/-! ### The control blocks of the mailboxes (R75, R92) -/

/-- A write to a mailbox's register, by the register's place in the control block. -/
theorem writeReg_mailbox {rel : Nat} (ho : off = 0x1000 + 0x40 * m.val + rel) (hr : rel < 0x40) :
    writeReg r off v s = writeMailbox m rel v s := by
  have hm : mbOf ((off - 0x1000) / 0x40) = m := Fin.ext (show (off - 0x1000) / 0x40 % 4 = m.val by omega)
  rw [writeReg, if_neg (by omega), if_pos (by omega), hm, show off % 0x40 = rel by omega]

/-- A mailbox's register that the requester reaches, by its place in the control block. -/
theorem accessWrite_mailbox {rel : Nat} (hb : bridgeOff s = false) (hc : classify s r true off = .reaches)
    (ho : off = 0x1000 + 0x40 * m.val + rel) (hr : rel < 0x40) :
    accessWrite r off v s = writeMailbox m rel v s :=
  (accessWrite_reaches hb hc).trans (writeReg_mailbox ho hr)

theorem writeCmdPi_exists {x : Half} (h : mailboxExists s m = true) : writeCmdPi m x s =
    if piOk s.mb[m].cmdPi s.mb[m].cmdCi x 8 then updMb m (fun b => { b with cmdPi := x }) s
    else updMb m (fun b => { b with idxErr := true }) s := by
  simp only [writeCmdPi, h, Bool.not_true, Bool.false_eq_true, if_false]
  rfl

theorem writeRspCi_notDrained {x : Half} (h : epDrains s m = false) : writeRspCi m x s =
    if ciOk s.mb[m].rspPi s.mb[m].rspCi x then postWaiting m 8 (updMb m (fun b => { b with rspCi := x }) s)
    else updMb m (fun b => { b with idxErr := true }) s := by
  simp only [writeRspCi, h, Bool.false_eq_true, if_false]
  rfl

theorem writeEvtCi_notDrained {x : Half} (h : epDrains s m = false) : writeEvtCi m x s =
    if ciOk s.mb[m].evtPi s.mb[m].evtCi x then updMb m (fun b => { b with evtCi := x }) s
    else updMb m (fun b => { b with idxErr := true }) s := by
  simp only [writeEvtCi, h, Bool.false_eq_true, if_false]
  rfl

/-! ### The event registers (R94) and the persistent words (R517) -/

theorem writeReg_events (hl : 0x2000 ≤ off) (hh : off < 0x3000) : writeReg r off v s = writeEvents r off v s := by
  rw [writeReg, if_neg (by omega), if_neg (by omega), if_neg (by omega), if_pos hh]

theorem writeEvents_pend (hi : Bool) : writeEvents r (0x2000 + 4 * bitNat hi) v s = clearPend r hi v s := by
  unfold writeEvents
  cases hi
  · exact if_pos rfl
  · rw [show 0x2000 + 4 * bitNat true = 0x2004 from rfl, if_neg (by decide), if_pos rfl]

theorem writeEvents_intEn (hi : Bool) : writeEvents r (0x2010 + 4 * bitNat hi) v s = writeIntEn hi v s := by
  unfold writeEvents
  cases hi
  · rw [show 0x2010 + 4 * bitNat false = 0x2010 from rfl, if_neg (by decide), if_neg (by decide), if_pos rfl]
  · rw [show 0x2010 + 4 * bitNat true = 0x2014 from rfl, if_neg (by decide), if_neg (by decide), if_neg (by decide),
      if_pos rfl]

theorem clearPend_bank {hi : Bool} {b : Fin 4} (h : bankOfRequester s r = some b) : clearPend r hi v s =
    updateInt { s with ev := { s.ev with pend := upd s.ev.pend b (fun w => w &&& ~~~ asHalf hi v) } } := by
  simp only [clearPend, h]

theorem bitNat_le (b : Bool) : bitNat b ≤ 1 := by cases b <;> decide

/-- A persistent word, all of whose bits are kept. -/
theorem writeReg_persistent {w : Fin 1024} (h256 : w ≠ 256) (h257 : w ≠ 257) :
    writeReg r (0x3000 + 4 * w.val) v s = pbWrite s w.val v := by
  have hw : (0x3000 + 4 * w.val - 0x3000) / 4 = w.val := by omega
  have n256 : w.val ≠ 256 := fun h => h256 (Fin.ext h)
  have n257 : w.val ≠ 257 := fun h => h257 (Fin.ext h)
  rw [writeReg, if_neg (by omega), if_neg (by omega), if_neg (by omega), if_neg (by omega), if_pos (by omega), hw,
    writePersistent, if_neg n256, if_neg n257]

/-- Settles O9, register by register. -/
theorem indexAndEventRegisterWrites : Obligations.IndexAndEventRegisterWrites := by
  unfold Obligations.IndexAndEventRegisterWrites
  refine ⟨fun r m v s hb hc he => ?cmdPi, fun r m v s hb hc hd => ?rspCi, fun r m v s hb hc hd => ?evtCi,
    fun r m v s hb hc => ?ctrl, fun r hi v s b hb hc hr => ?pend, fun r hi v s hb hc => ?intEn,
    fun r w v s hb hc h256 h257 => ?persistent⟩
  case cmdPi =>
    exact congrArg Host.Outcome.next
      ((accessWrite_mailbox (rel := 0x00) hb hc rfl (by decide)).trans (writeCmdPi_exists he))
  case rspCi =>
    exact congrArg Host.Outcome.next
      ((accessWrite_mailbox (rel := 0x0C) hb hc (by omega) (by decide)).trans (writeRspCi_notDrained hd))
  case evtCi =>
    exact congrArg Host.Outcome.next
      ((accessWrite_mailbox (rel := 0x14) hb hc (by omega) (by decide)).trans (writeEvtCi_notDrained hd))
  case ctrl =>
    exact congrArg Host.Outcome.next (accessWrite_mailbox (rel := 0x1C) hb hc (by omega) (by decide))
  case pend =>
    refine congrArg Host.Outcome.next ((accessWrite_reaches hb hc).trans ?_)
    have := bitNat_le hi
    rw [writeReg_events (by omega) (by omega), writeEvents_pend, clearPend_bank hr]
  case intEn =>
    refine congrArg Host.Outcome.next ((accessWrite_reaches hb hc).trans ?_)
    have := bitNat_le hi
    rw [writeReg_events (by omega) (by omega), writeEvents_intEn, writeIntEn]
  case persistent =>
    exact congrArg Host.Outcome.next ((accessWrite_reaches hb hc).trans (writeReg_persistent h256 h257))

end Sys2Proof.Machine
end

section
/-! SUPPORT. Management requests of a host, by what is found at the head of its tunnel 0, and the end of the interrupt hold-off. -/
namespace Sys2Proof.Machine

set_option Elab.async false

variable {s t : State} {u : Up} {m : Message} {named : Nat → Bool} {b : List Byte}

/-! ### The request at the head of tunnel 0 (R62, R179, R564) -/

theorem takeMgmt_held (hz : zeroHeld s u = true) : takeMgmt u named s = s := by
  simp only [takeMgmt, hz, if_true]

/-- A type that MGMT_OTHER_TYPE names. -/
theorem otherType {n : Nat} (h1 : n ≠ 1) (h2 : n ≠ 2) : (n != 1 && n != 2) = true := by
  rw [bne_iff_ne.2 h1, bne_iff_ne.2 h2]
  rfl

section Head
variable (hz : zeroHeld s u = false) (ht : takeMessage (hostOnUp s u) 0 s = some (m, t))
include hz ht

/-- A request of the type that is named is taken; while the bridge is off it is discarded. -/
theorem takeMgmt_taken (hn : named (mgType m.bytes) = true) :
    takeMgmt u named s = if bridgeOff s then t else runMgmt u m.bytes t := by
  simp only [takeMgmt, hz, ht, hn, Bool.not_true, Bool.false_eq_true, if_false]

theorem exec_readReq (h1 : mgType m.bytes = 1) :
    exec (.readReq u) s = .next (if bridgeOff s then t else runMgmt u m.bytes t) :=
  congrArg Host.Outcome.next (takeMgmt_taken (named := (· == 1)) hz ht (beq_iff_eq.2 h1))

theorem exec_writeReq (h2 : mgType m.bytes = 2) :
    exec (.writeReq u) s = .next (if bridgeOff s then t else runMgmt u m.bytes t) :=
  congrArg Host.Outcome.next (takeMgmt_taken (named := (· == 2)) hz ht (beq_iff_eq.2 h2))

theorem exec_mgmtOtherType (h1 : mgType m.bytes ≠ 1) (h2 : mgType m.bytes ≠ 2) :
    exec (.mgmtOtherType u) s = .next (if bridgeOff s then t else runMgmt u m.bytes t) :=
  congrArg Host.Outcome.next (takeMgmt_taken (named := fun n => n != 1 && n != 2) hz ht (otherType h1 h2))

end Head

/-! ### One request (R61, R62, R385) -/

/-- The completion of a malformed request. -/
theorem runMgmt_malformed (h : mgMalformed t b = true) : runMgmt u b t = sendZero (hostOnUp t u)
    (mgmtHeader 1 0 (mgId b) (mgType b ||| 0x80) false (mgOff b)) t := by
  simp only [runMgmt, h, if_true, mgBad, sendMgmt]

theorem runMgmt_forwarded (h : mgMalformed t b = false) (hp : mgPartner b = true) :
    runMgmt u b t = mgForward u b t := by
  simp only [runMgmt, h, hp, Bool.false_eq_true, if_true, if_false]

theorem runMgmt_read (h : mgMalformed t b = false) (hp : mgPartner b = false) (h1 : mgType b = 1) : runMgmt u b t =
    (fun ws : List Word × State => sendZero (hostOnUp t u)
      (mgmtHeader 0 (mgCount b) (mgId b) 0x81 false (mgOff b) ++ ws.1.flatMap wordBytes) ws.2)
      (windowReads (hostRequester (hostOnUp t u)) (mgOff b) (mgCount b) t) := by
  simp only [runMgmt, h, hp, h1, Bool.false_eq_true, if_true, if_false, sendMgmt]

theorem runMgmt_write (h : mgMalformed t b = false) (hp : mgPartner b = false) (h2 : mgType b = 2) : runMgmt u b t =
    sendZero (hostOnUp t u) (mgmtHeader 0 (mgCount b) (mgId b) 0x82 false (mgOff b))
      (windowWrites (hostRequester (hostOnUp t u)) (mgOff b) (mgWords b) t) := by
  simp only [runMgmt, h, hp, h2, Bool.false_eq_true, if_false, show ¬(2 = 1) by decide, sendMgmt]

/-- A type that is neither READ_REQ nor WRITE_REQ is malformed. -/
theorem mgMalformed_of_type (h1 : mgType b ≠ 1) (h2 : mgType b ≠ 2) : mgMalformed t b = true := by
  have h : (mgType b != 1 && mgType b != 2) = true := by
    rw [bne_iff_ne.2 h1, bne_iff_ne.2 h2]
    rfl
  simp only [mgMalformed, h, Bool.or_true, Bool.true_or]

/-! ### The hold-off of INTERRUPT packets (R95) -/

/-- The end of the hold-off, of the mailbox of an uplink's host. -/
theorem exec_tunIntHoldoffExpiry {k : MbNo} (hk : k.val = u.val) : exec (.tunIntHoldoffExpiry u) s = .next (
    if s.mb[k].intOwed && s.mb[k].tunIntEn then sendInterrupt k (updMb k (fun b => { b with intRunning := false }) s)
    else updMb k (fun b => { b with intRunning := false }) s) := by
  have hm : (⟨u.val, by omega⟩ : MbNo) = k := Fin.ext hk.symm
  have hx : exec (.tunIntHoldoffExpiry u) s = execTunIntHoldoffExpiry u s := rfl
  rw [hx, execTunIntHoldoffExpiry]
  simp only [hm, updMb_mb, upd_self]

/-- Settles O11: the request at the head is taken, and then by its type and what it asks. -/
theorem managementRequests : Obligations.ManagementRequests := by
  unfold Obligations.ManagementRequests
  refine ⟨fun u s m t hz ht h1 hb hm hp => ?read, fun u s m t hz ht h2 hb hm hp => ?write,
    fun u s m t hz ht h1 h2 hb => ?other, fun u s m t hz ht hb hm => ⟨fun h1 => ?badRead, fun h2 => ?badWrite⟩,
    fun u s m t hz ht hb hm hp => ⟨fun h1 => ?farRead, fun h2 => ?farWrite⟩,
    fun u s m t hz ht hb => ⟨fun h1 => ?offRead, fun h2 => ?offWrite, fun h1 h2 => ?offOther⟩,
    fun u s hz => ⟨?heldRead, ?heldWrite, ?heldOther⟩, fun u s m hm ho he => ?owed, fun u s m hm h => ?notOwed⟩
  case read => rw [exec_readReq hz ht h1, hb, runMgmt_read hm hp h1]; rfl
  case write => rw [exec_writeReq hz ht h2, hb, runMgmt_write hm hp h2]; rfl
  case other => rw [exec_mgmtOtherType hz ht h1 h2, hb, runMgmt_malformed (mgMalformed_of_type h1 h2)]; rfl
  case badRead => rw [exec_readReq hz ht h1, hb, runMgmt_malformed hm]; rfl
  case badWrite => rw [exec_writeReq hz ht h2, hb, runMgmt_malformed hm]; rfl
  case farRead => rw [exec_readReq hz ht h1, hb, runMgmt_forwarded hm hp]; rfl
  case farWrite => rw [exec_writeReq hz ht h2, hb, runMgmt_forwarded hm hp]; rfl
  case offRead => rw [exec_readReq hz ht h1, hb]; rfl
  case offWrite => rw [exec_writeReq hz ht h2, hb]; rfl
  case offOther => rw [exec_mgmtOtherType hz ht h1 h2, hb]; rfl
  case heldRead => exact congrArg Host.Outcome.next (takeMgmt_held hz)
  case heldWrite => exact congrArg Host.Outcome.next (takeMgmt_held hz)
  case heldOther => exact congrArg Host.Outcome.next (takeMgmt_held hz)
  case owed => rw [exec_tunIntHoldoffExpiry hm, ho, he]; rfl
  case notOwed =>
    have hn : (s.mb[m].intOwed && s.mb[m].tunIntEn) = false := by rcases h with h | h <;> rw [h] <;> simp
    rw [exec_tunIntHoldoffExpiry hm, hn]
    rfl

end Sys2Proof.Machine
end

section
/-! SUPPORT. The window endpoints of the management function: vendor requests, slot images, and responses and event entries
that the host acknowledges. -/
namespace Sys2Proof.Machine

set_option Elab.async false

variable {s : State} {u : Up} {m : MbNo} {a b l : Half} {d : List Byte} {off n : Nat}

theorem mgmtBox_of_val (h : m.val = u.val) : mgmtBox u = m := Fin.ext h.symm

theorem mgmtServes_on (hc : s.usb.mgmtConfig = true) (hb : bridgeOff s = false) : mgmtServes s = true := by
  rw [mgmtServes, hc, hb]
  rfl

/-! ### Vendor requests (R65) -/

theorem vendorRead_serves (hv : vendorOffset a b l = some off) (hs : mgmtServes s = true) : vendorRead a b l s =
    (fun ws : List Word × State => (ws.2, some (ws.1.flatMap wordBytes)))
      (windowReads (hostRequester s.usb.owner) off (l.toNat / 4) s) := by
  simp only [vendorRead, hv, hs, if_true]

theorem vendorRead_bad (hv : vendorOffset a b l = none) : vendorRead a b l s = (s, none) := by
  simp only [vendorRead, hv]

theorem vendorWrite_serves (hv : vendorOffset a b l = some off) (hs : mgmtServes s = true) : vendorWrite u a b l d s =
    (noteVia (mgmtBox u) s.mb[mgmtBox u].cmdPi
      (windowWrites (hostRequester s.usb.owner) off (bytesToWords (l.toNat / 4) d) s), some []) := by
  simp only [vendorWrite, hv, hs, if_true]

theorem vendorWrite_bad (hv : vendorOffset a b l = none) : vendorWrite u a b l d s = (s, none) := by
  simp only [vendorWrite, hv]

theorem exec_ep0VendorRead (hu : mgmtUp s = some u) :
    exec (.ep0VendorRead a b l) s = .next (answerEp0 u true (vendorRead a b l s)) := by
  have hx : exec (.ep0VendorRead a b l) s = execEp0VendorRead a b l s := rfl
  simp only [hx, execEp0VendorRead, hu]

theorem exec_ep0VendorWrite (hu : mgmtUp s = some u) :
    exec (.ep0VendorWrite a b l d) s = .next (answerEp0 u false (vendorWrite u a b l d s)) := by
  have hx : exec (.ep0VendorWrite a b l d) s = execEp0VendorWrite a b l d s := rfl
  simp only [hx, execEp0VendorWrite, hu]

/-- The three fields of a vendor request's setup packet, after its type and its request. -/
def vendorFields (a b l : Half) : List Byte := leBytes 2 a.toNat ++ leBytes 2 b.toNat ++ leBytes 2 l.toNat

theorem setup_fields (x y : Byte) (a b l : Half) :
    fieldAt ([x, y] ++ vendorFields a b l) 2 2 = a.toNat ∧ fieldAt ([x, y] ++ vendorFields a b l) 4 2 = b.toNat ∧
    fieldAt ([x, y] ++ vendorFields a b l) 6 2 = l.toNat := by
  have hl : fieldAt (leBytes 2 l.toNat) 0 2 = l.toNat := fieldAt_leBytes_last.trans (Nat.mod_eq_of_lt l.isLt)
  refine ⟨?_, ?_, ?_⟩ <;>
    simp only [vendorFields, List.append_assoc, List.cons_append, List.nil_append, fieldAt_cons_succ,
      fieldAt_half, fieldAt_past_half (i := 0), fieldAt_past_half (i := 2), hl]

theorem mgmtControl_read (ss : Bool) :
    mgmtControl ss u ([0xC0, 1] ++ vendorFields a b l) d s = vendorRead a b l s := by
  obtain ⟨ha, hb, hl⟩ := setup_fields 0xC0 1 a b l
  have ht : suType ([0xC0, 1] ++ vendorFields a b l) = 0xC0 := rfl
  have hr : suReq ([0xC0, 1] ++ vendorFields a b l) = 1 := rfl
  simp only [mgmtControl, ht, hr, ha, hb, hl, BitVec.ofNat_toNat, BitVec.setWidth_eq]

theorem mgmtControl_write (ss : Bool) :
    mgmtControl ss u ([0x40, 2] ++ vendorFields a b l) d s = vendorWrite u a b l d s := by
  obtain ⟨ha, hb, hl⟩ := setup_fields 0x40 2 a b l
  have ht : suType ([0x40, 2] ++ vendorFields a b l) = 0x40 := rfl
  have hr : suReq ([0x40, 2] ++ vendorFields a b l) = 2 := rfl
  simp only [mgmtControl, ht, hr, ha, hb, hl, BitVec.ofNat_toNat, BitVec.setWidth_eq]

/-! ### Slot images (R66) -/

section Images
variable (hm : m.val = u.val) (hd : d ≠ [])
include hm hd

theorem takeImages_full (hf : 8 ≤ (s.mb[m].cmdPi - s.mb[m].cmdCi).toNat) : takeImages u (n + 1) d s = (s, d) := by
  simp only [takeImages, mgmtBox_of_val hm, List.isEmpty_eq_false_iff.2 hd, hf, Bool.false_eq_true, if_true, if_false]

variable (hf : (s.mb[m].cmdPi - s.mb[m].cmdCi).toNat < 8)
include hf

theorem takeImages_partial (hl : d.length < 512) :
    takeImages u (n + 1) d s = (updMb m (fun b => { b with fmtErr := true }) s, []) := by
  simp only [takeImages, mgmtBox_of_val hm, List.isEmpty_eq_false_iff.2 hd, Nat.not_le.2 hf, hl, Bool.false_eq_true, if_true,
    if_false]

theorem takeImages_whole (hl : 512 ≤ d.length) : takeImages u (n + 1) d s = takeImages u n (d.drop 512)
    (updMb m (fun b => { b with cmdPi := b.cmdPi + 1, viaMgmt := b.viaMgmt ++ [b.cmdPi] })
      { s with window := memWrite s.window (mbBase m + 512 * (s.mb[m].cmdPi.toNat % 8)) (d.take 512) }) := by
  simp only [takeImages, mgmtBox_of_val hm, List.isEmpty_eq_false_iff.2 hd, Nat.not_le.2 hf, Nat.not_lt.2 hl,
    Bool.false_eq_true, if_false]

end Images

theorem exec_ep1OutTransfer (hu : mgmtUp s = some u) (hs : mgmtServes s = true) :
    exec (.ep1OutTransfer d) s = .next (if carveBytes s 1 = 0 then egress (.epNak u 1) s else slotImages u d s) := by
  have hx : exec (.ep1OutTransfer d) s = execEp1OutTransfer d s := rfl
  simp only [hx, execEp1OutTransfer, hu, hs, Bool.not_true, Bool.false_eq_true, if_false]

/-! ### Responses and event entries taken by the host (R67, R68) -/

theorem exec_ep1InAcknowledged (hu : mgmtUp s = some u) (hm : m.val = u.val) : exec .ep1InAcknowledged s = .next (
    if epDrains s m && s.mb[m].rspPi != s.mb[m].rspCi && carveBytes s 2 != 0 then
      (fun a => postWaiting m 8 (updMb m (fun b => { b with rspCi := b.rspCi + 1 })
        (egress (.epIn u 1 (memRead s.window a (16 + leNat (memRead s.window (a + 4) 2)))) s)))
        (mbBase m + 0x1000 + 512 * (s.mb[m].rspCi.toNat % 8))
    else egress (.epNak u 1) s) := by
  have hx : exec .ep1InAcknowledged s = execEp1InAcknowledged s := rfl
  simp only [hx, execEp1InAcknowledged, hu, mgmtBox_of_val hm]
  split <;> rfl

theorem exec_ep2InAcknowledged (hu : mgmtUp s = some u) (hm : m.val = u.val) : exec .ep2InAcknowledged s = .next (
    if epDrains s m && s.mb[m].evtPi != s.mb[m].evtCi && carveBytes s 3 != 0 then
      updMb m (fun b => { b with evtCi := b.evtCi + 1 })
        (egress (.epIn u 2 (memRead s.window (mbBase m + 0x2000 + 16 * (s.mb[m].evtCi.toNat % 64)) 16)) s)
    else egress (.epNak u 2) s) := by
  have hx : exec .ep2InAcknowledged s = execEp2InAcknowledged s := rfl
  simp only [hx, execEp2InAcknowledged, hu, mgmtBox_of_val hm]
  split <;> rfl

/-- Nothing waits in a ring whose indices agree, and an endpoint carved to 0 returns nothing. -/
theorem returns_nothing {drains : Bool} {pi ci : Half} {k : Nat} (h : pi = ci ∨ k = 0) :
    (drains && pi != ci && k != 0) = false := by
  rcases h with h | h <;> simp [h]

/-- Settles O12, endpoint by endpoint. -/
theorem windowEndpoints : Obligations.WindowEndpoints := by
  unfold Obligations.WindowEndpoints
  refine ⟨fun a b l s u off hu hv hc hb => ?read, fun a b l s u hu hv => ?readStalled,
    fun a b l d s u m off hu hm hv hc hb => ?write, fun a b l d s u hu hv => ?writeStalled,
    fun ss u s a b l d => ⟨mgmtControl_read ss, mgmtControl_write ss⟩, fun d s u hu hc hb hk => ?images,
    fun d s u hu hc hb hk => ?carved, fun n d s u m hm hf hd => takeImages_full hm hd hf,
    fun n d s u m hm hf hd hl => takeImages_partial hm hd hf hl,
    fun n d s u m hm hf hl => takeImages_whole hm (List.ne_nil_of_length_pos (by omega)) hf hl,
    fun s u m hu hm hd hr hk => ?response, fun s u m hu hm hd hr hk => ?entry, fun s u m hu hm h => ?noResponse,
    fun s u m hu hm h => ?noEntry, fun p s hp => ?reset⟩
  case read => rw [exec_ep0VendorRead hu, vendorRead_serves hv (mgmtServes_on hc hb)]; rfl
  case readStalled => rw [exec_ep0VendorRead hu, vendorRead_bad hv]; rfl
  case write =>
    rw [exec_ep0VendorWrite hu, vendorWrite_serves hv (mgmtServes_on hc hb)]
    simp only [mgmtBox_of_val hm]
    rfl
  case writeStalled => rw [exec_ep0VendorWrite hu, vendorWrite_bad hv]; rfl
  case images =>
    rw [exec_ep1OutTransfer hu (mgmtServes_on hc hb), if_neg hk]
    simp only [slotImages, List.isEmpty_iff]
  case carved => rw [exec_ep1OutTransfer hu (mgmtServes_on hc hb), if_pos hk]
  case response =>
    rw [exec_ep1InAcknowledged hu hm, if_pos]
    simp only [hd, bne_iff_ne.2 hr, bne_iff_ne.2 hk, Bool.and_self]
  case entry =>
    rw [exec_ep2InAcknowledged hu hm, if_pos]
    simp only [hd, bne_iff_ne.2 hr, bne_iff_ne.2 hk, Bool.and_self]
  case noResponse =>
    rw [exec_ep1InAcknowledged hu hm, returns_nothing h]
    rfl
  case noEntry =>
    rw [exec_ep2InAcknowledged hu hm, returns_nothing h]
    rfl
  case reset =>
    have hx : exec (.upstreamBusReset p) s = execUpstreamBusReset p s := rfl
    rw [hx, execUpstreamBusReset, hp, if_pos rfl]

end Sys2Proof.Machine
end

section
/-! SUPPORT. A write to the window leaves the SPI target's registers: `SameSpi s₀ s` is stated from a fixed earlier state, and the
lemma of each function says how it extends such a chain. -/
namespace Sys2Proof.Machine

set_option Elab.async false

variable {s₀ s t : State} {o : OutNo} {g : Fin 6} {m : MbNo} {r : Requester} {off rel : Nat} {v : Word}

/-- The SPI target's status bits and its write buffer are as they were. -/
def SameSpi (s t : State) : Prop := t.spi = s.spi

namespace SameSpi

theorem tells (h : SameSpi s₀ s) (k : Tells s t) : SameSpi s₀ t := k.spi.trans h

/-- An update of other parts. -/
theorem same (h : SameSpi s₀ s) (k : t.spi = s.spi := by rfl) : SameSpi s₀ t := k.trans h

theorem updOut {f : Output → Output} (h : SameSpi s₀ s) : SameSpi s₀ (updOut o f s) := h

theorem updMb {f : Mailbox → Mailbox} (h : SameSpi s₀ s) : SameSpi s₀ (updMb m f s) := h

theorem raise {sc : Scope} {e : Fin 64} {a : Nat} (h : SameSpi s₀ s) : SameSpi s₀ (raise sc e a s) :=
  h.tells (tells_raise _ _ _ _)

theorem ite {p : Prop} [Decidable p] {a b : State} (h : SameSpi s₀ a) (k : SameSpi s₀ b) :
    SameSpi s₀ (if p then a else b) := by
  split
  · exact h
  · exact k

theorem foldl {α : Type} {f : State → α → State} {l : List α} (h : SameSpi s₀ s)
    (hf : ∀ x u, SameSpi s₀ u → SameSpi s₀ (f u x)) : SameSpi s₀ (l.foldl f s) := by
  induction l generalizing s with
  | nil => exact h
  | cons x r ih => exact ih (hf x _ h)

/-! ### Commits of an output -/

theorem finishGroup {st : Half} (h : SameSpi s₀ s) : SameSpi s₀ (finishGroup o g st s) :=
  .ite h (h.tells (tells_finish _ _ _ _))

theorem requestCommit {claim : Option (Fin 8)} {release : Bool} (h : SameSpi s₀ s) :
    SameSpi s₀ (requestCommit o g claim release s) := (SameSpi.ite h.updOut.finishGroup h).updOut

theorem applyGroup (h : SameSpi s₀ s) : SameSpi s₀ (applyGroup o s g) := by
  unfold Machine.applyGroup
  split
  · exact h
  · exact .ite h (.ite (.finishGroup (.ite h.same h.same)) h.updOut.updOut.raise.finishGroup)

theorem freeRegion {q : Half} (h : SameSpi s₀ s) : SameSpi s₀ (freeRegion q s) := by
  unfold Machine.freeRegion
  split
  · exact h
  · exact SameSpi.raise h.same

theorem endLease {q : Region} (h : SameSpi s₀ s) : SameSpi s₀ (endLease s q) :=
  .ite h.raise.freeRegion h

theorem safePoint (h : SameSpi s₀ s) : SameSpi s₀ (safePoint o s) :=
  .foldl (.updOut (h.foldl fun _ _ k => k.applyGroup)) fun _ _ k => k.endLease

theorem leaveHold (h : SameSpi s₀ s) : SameSpi s₀ (leaveHold o s) := .ite h.updOut.raise h

theorem settleOff (h : SameSpi s₀ s) : SameSpi s₀ (settleOff o s) := .ite h.safePoint.leaveHold h

/-! ### Registers -/

theorem postWaiting {n : Nat} (h : SameSpi s₀ s) : SameSpi s₀ (postWaiting m n s) := by
  induction n generalizing s with
  | zero => exact h
  | succ n ih =>
    unfold Machine.postWaiting
    split
    · exact h
    · exact .ite (ih (h.updMb.tells (tells_postSlot _ _ _))) h

theorem updateInt (h : SameSpi s₀ s) : SameSpi s₀ (updateInt s) := h.tells (tells_updateInt s)

theorem writeMailbox (h : SameSpi s₀ s) : SameSpi s₀ (writeMailbox m rel v s) :=
  .ite (.ite h (.ite h.updMb h.updMb)) (.ite (.ite h (.ite h.updMb.postWaiting h.updMb))
    (.ite (.ite h (.ite h.updMb h.updMb)) (.ite h.updMb (.ite h.updMb h))))

theorem clearPend {hi : Bool} (h : SameSpi s₀ s) : SameSpi s₀ (clearPend r hi v s) := by
  unfold Machine.clearPend
  split
  · exact SameSpi.updateInt h.same
  · exact h

theorem writeIntEn {hi : Bool} (h : SameSpi s₀ s) : SameSpi s₀ (writeIntEn hi v s) := SameSpi.updateInt h.same

theorem writeEvents (h : SameSpi s₀ s) : SameSpi s₀ (writeEvents r off v s) :=
  .ite h.clearPend (.ite h.clearPend (.ite h.writeIntEn (.ite h.writeIntEn (.ite h.same h))))

theorem commitBit (h : SameSpi s₀ s) : SameSpi s₀ (commitBit r o v s g) := .ite h (.ite h.requestCommit h.raise)

theorem writeCommit (h : SameSpi s₀ s) : SameSpi s₀ (writeCommit r o v s) :=
  .settleOff (h.foldl fun _ _ k => k.commitBit)

theorem writeDisplay (h : SameSpi s₀ s) : SameSpi s₀ (writeDisplay r o rel v s) :=
  .ite h.updOut (.ite h.writeCommit (.ite h.updOut (.ite h.updOut (.ite
    (.ite h.updOut (.ite h.updOut (.ite h.updOut (.ite h.updOut h))))
    (.ite (.ite h.updOut (.ite h.updOut (.ite h.updOut (.ite h.updOut (.ite h.updOut h))))) (.ite h.updOut h))))))

theorem writeReg (h : SameSpi s₀ s) : SameSpi s₀ (writeReg r off v s) :=
  .ite (.ite h.same h) (.ite h.writeMailbox (.ite h (.ite h.writeEvents (.ite h.same
    (.ite h.writeDisplay (.ite h (.ite h.same h)))))))

theorem windowWrite (h : SameSpi s₀ s) : SameSpi s₀ (windowWrite r off v s) := by
  unfold Machine.windowWrite
  split
  · exact h
  · exact h.raise
  · exact h.writeReg

end SameSpi

/-! ### The write buffer (R72) -/

/-- A word that leaves the buffer has its effect on the window, and on the target at most the DENIED bit. -/
theorem spiCarry_buffer (off : Nat) (w : Word) (s : State) : (spiCarry off w s).spi.buffer = s.spi.buffer := by
  unfold spiCarry
  split
  · have h : SameSpi _ (windowWrite .owner off w
        { s with spi := { s.spi with denied := s.spi.denied || classify s .owner true off == .refused } }) :=
      SameSpi.windowWrite rfl
    rw [h]
  · rfl

/-- As many words leave the buffer as are let go. -/
theorem spiDrain_buffer (n : Nat) (s : State) : (spiDrain n s).spi.buffer = s.spi.buffer.drop n := by
  induction n generalizing s with
  | zero => rfl
  | succ n ih =>
    unfold spiDrain
    split
    next h => rw [h, List.drop_nil]
    next off w r h => rw [ih, spiCarry_buffer, h, List.drop_succ_cons]

/-- A word within the window, whose access is not refused, is a write of the owner. -/
theorem spiDrain_carries {w : Word} {q : List (Nat × Word)} {n : Nat} (hq : s.spi.buffer = (off, w) :: q)
    (ho : off < 0x40000) (hc : classify s .owner true off ≠ .refused) :
    spiDrain (n + 1) s = spiDrain n (windowWrite .owner off w { s with spi := { s.spi with buffer := q } }) := by
  have hd : (classify { s with spi := { s.spi with buffer := q } } .owner true off == .refused) = false :=
    beq_false_of_ne hc
  simp only [spiDrain, hq, spiCarry, ho, hd, Bool.or_false, if_true]

end Sys2Proof.Machine
end

section
/-! SUPPORT. The transactions of the owner's SPI protocol, given by their fields or byte by byte. -/
namespace Sys2Proof.Machine

set_option Elab.async false

variable {s : State} {off : BitVec 24} {a b c x : Byte} {ws : List Word} {tail : List Byte}

/-! ### Transactions by their fields (R70, R71) -/

theorem exec_spiWrite (cut : Bool) (hb : bridgeOff s = false) :
    exec (.spiWrite off ws cut) s = .next (spiWrite off ws cut s) := by
  have hx : exec (.spiWrite off ws cut) s = execSpiWrite off ws cut s := rfl
  simp only [hx, execSpiWrite, hb, Bool.false_eq_true, if_false]

theorem exec_spiRead (n : Nat) (hb : bridgeOff s = false) :
    exec (.spiRead off n) s = .next (spiRead off (4 * n) s) := by
  have hx : exec (.spiRead off n) s = execSpiRead off n s := rfl
  simp only [hx, execSpiRead, hb, Bool.false_eq_true, if_false]

theorem exec_spiStatus (hb : bridgeOff s = false) : exec .spiStatus s = .next (spiStatus s) := by
  have hx : exec .spiStatus s = execSpiStatus s := rfl
  simp only [hx, execSpiStatus, hb, Bool.false_eq_true, if_false]

theorem exec_spiBadTransaction (raw : List Byte) (hb : bridgeOff s = false) :
    exec (.spiBadTransaction raw) s = .next (spiTransaction raw s) := by
  have hx : exec (.spiBadTransaction raw) s = execSpiBadTransaction raw s := rfl
  simp only [hx, execSpiBadTransaction, hb, Bool.false_eq_true, if_false]

theorem spiWrite_bad (cut : Bool) (ho : spiOffsetOk off = false) : spiWrite off ws cut s = spiFormat s := by
  simp only [spiWrite, ho, Bool.not_false, if_true]

theorem spiWrite_good (cut : Bool) (ho : spiOffsetOk off = true) : spiWrite off ws cut s =
    (fun t : State => { t with spi := { t.spi with format := t.spi.format || cut } }) (spiWords off.toNat ws s) := by
  simp only [spiWrite, ho, Bool.not_true, Bool.false_eq_true, if_false]

theorem spiRead_bad (n : Nat) (ho : spiOffsetOk off = false) : spiRead off n s = spiFormat s := by
  simp only [spiRead, ho, Bool.not_false, if_true]

theorem flatMap_wordBytes_length (ws : List Word) : (ws.flatMap wordBytes).length = 4 * ws.length := by
  simp only [List.length_flatMap, wordBytes_length, List.map_const', List.sum_replicate, smul_eq_mul, Nat.mul_comm]

theorem spiReads_length (i n : Nat) (s : State) : (spiReads i n s).1.length = n := by
  induction n generalizing i s with
  | zero => rfl
  | succ n ih => exact congrArg Nat.succ (ih _ _)

/-- A READ of whole words gives each word it reads whole. -/
theorem spiRead_good (n : Nat) (ho : spiOffsetOk off = true) : spiRead off (4 * n) s =
    (fun r : List Word × State => emit (.spiData (r.1.flatMap wordBytes)) r.2)
      (spiReads off.toNat n (spiDrainAll s)) := by
  have hn : (4 * n + 3) / 4 = n := by omega
  have hl : ((spiReads off.toNat n (spiDrainAll s)).1.flatMap wordBytes).length ≤ 4 * n := by
    rw [flatMap_wordBytes_length, spiReads_length]
  simp only [spiRead, ho, hn, Bool.not_true, Bool.false_eq_true, if_false, List.take_of_length_le hl]

/-! ### Transactions by their bytes (R70, Table 2.6) -/

/-- The offset's bytes come most significant first. -/
theorem spiOffset_bytes (a b c : Byte) (r : List Byte) : spiOffset (a :: b :: c :: r) = a ++ b ++ c := by
  apply BitVec.eq_of_toNat_eq
  have ha := a.isLt
  have hb := b.isLt
  have hc := c.isLt
  have h1 : byteAt (a :: b :: c :: r) 1 = b.toNat := by rw [byteAt_cons_succ, byteAt_cons_zero]
  have h2 : byteAt (a :: b :: c :: r) 2 = c.toNat := by rw [byteAt_cons_succ, byteAt_cons_succ, byteAt_cons_zero]
  rw [BitVec.toNat_append, BitVec.toNat_append, ← Nat.shiftLeft_add_eq_or_of_lt hb, ← Nat.shiftLeft_add_eq_or_of_lt hc]
  simp only [spiOffset, byteAt_cons_zero, h1, h2, BitVec.toNat_ofNat, Nat.shiftLeft_eq]
  omega

/-- Words laid out as bytes read back as the words, whatever follows them. -/
theorem bytesToWords_flatMap (ws : List Word) (r : List Byte) :
    bytesToWords ws.length (ws.flatMap wordBytes ++ r) = ws := by
  induction ws with
  | nil => rfl
  | cons w ws ih =>
    have ht : ((w :: ws).flatMap wordBytes ++ r).take 4 = wordBytes w := by
      rw [List.flatMap_cons, List.append_assoc]
      exact List.take_left' (wordBytes_length w)
    have hd : ((w :: ws).flatMap wordBytes ++ r).drop 4 = ws.flatMap wordBytes ++ r := by
      rw [List.flatMap_cons, List.append_assoc]
      exact List.drop_left' (wordBytes_length w)
    have hw : BitVec.ofNat 32 (leNat (wordBytes w)) = w := by
      rw [wordBytes, leNat_leBytes, Nat.mod_eq_of_lt (show w.toNat < 256 ^ 4 from w.isLt), BitVec.ofNat_toNat,
        BitVec.setWidth_eq]
    rw [List.length_cons, bytesToWords, ht, hd, hw, ih]

/-- A WRITE by its bytes: the words that came whole, and whether a last one was cut short. -/
theorem spiTransaction_write (ht : tail.length < 4) :
    spiTransaction (0x02 :: a :: b :: c :: (ws.flatMap wordBytes ++ tail)) s = spiWrite (a ++ b ++ c) ws (tail ≠ []) s := by
  have hl : (ws.flatMap wordBytes ++ tail).length = 4 * ws.length + tail.length := by
    rw [List.length_append, flatMap_wordBytes_length]
  have hn : ((a :: b :: c :: (ws.flatMap wordBytes ++ tail)).length - 3) / 4 = ws.length := by
    simp only [List.length_cons, hl]
    omega
  have hr : ((a :: b :: c :: (ws.flatMap wordBytes ++ tail)).length - 3) % 4 = tail.length := by
    simp only [List.length_cons, hl]
    omega
  have hcut : (tail.length != 0) = decide (tail ≠ []) := by cases tail <;> rfl
  have h3 : ¬ (a :: b :: c :: (ws.flatMap wordBytes ++ tail)).length < 3 := by
    simp only [List.length_cons]
    omega
  simp only [spiTransaction, if_neg (show (0x02 : Byte) ≠ 0x05 by decide), if_true, if_neg h3, spiOffset_bytes, hn, hr, hcut,
    List.drop_succ_cons, List.drop_zero, bytesToWords_flatMap]

/-- A READ by its bytes: those clocked out after the dummy byte count. -/
theorem spiTransaction_read (ys : List Byte) :
    spiTransaction (0x0B :: a :: b :: c :: x :: ys) s = spiRead (a ++ b ++ c) ys.length s := by
  have h4 : ¬ (a :: b :: c :: x :: ys).length < 4 := by
    simp only [List.length_cons]
    omega
  have hn : (a :: b :: c :: x :: ys).length - 4 = ys.length := by simp only [List.length_cons]; omega
  simp only [spiTransaction, if_neg (show (0x0B : Byte) ≠ 0x05 by decide), if_neg (show (0x0B : Byte) ≠ 0x02 by decide),
    if_true, if_neg h4, spiOffset_bytes, hn]

/-- A transaction that is cut before its offset or its dummy byte, or begins with another byte. -/
theorem spiTransaction_bad {cmd : Byte} {r : List Byte} (h5 : cmd ≠ 0x05) (h2 : cmd = 0x02 → r.length < 3)
    (hB : cmd = 0x0B → r.length < 4) : spiTransaction (cmd :: r) s = spiFormat s := by
  simp only [spiTransaction, if_neg h5]
  split
  next h => rw [if_pos (h2 h)]
  · split
    next h => rw [if_pos (hB h)]
    · rfl

/-! ### The write buffer (R72) -/

theorem exec_spiWriteBufferDrained (hb : bridgeOff s = false) : exec .spiWriteBufferDrained s = .next (spiDrainAll s) := by
  have hx : exec .spiWriteBufferDrained s = execSpiWriteBufferDrained s := rfl
  simp only [hx, execSpiWriteBufferDrained, hb, Bool.false_eq_true, if_false]

theorem spiDrainAll_buffer (s : State) : (spiDrainAll s).spi.buffer = [] := by
  rw [spiDrainAll, spiDrain_buffer, List.drop_length]

/-- The buffer as the next word of a WRITE finds it. -/
def spiBefore (s : State) : State := spiDrain (takeFree 7 s).1.toNat (takeFree 7 s).2

theorem spiWord_overrun {i : Nat} {w : Word} (h : 64 ≤ (spiBefore s).spi.buffer.length) :
    spiWord i w s = { spiBefore s with spi := { (spiBefore s).spi with overrun := true } } := if_pos h

theorem spiWord_waits {i : Nat} {w : Word} (h : (spiBefore s).spi.buffer.length < 64) : spiWord i w s =
    { spiBefore s with spi := { (spiBefore s).spi with buffer := (spiBefore s).spi.buffer ++ [(i, w)] } } :=
  if_neg (Nat.not_le.2 h)

/-- Settles O13: each transaction by its fields or its bytes, and the buffer word by word. -/
theorem spiProtocol : Obligations.SpiProtocol := by
  unfold Obligations.SpiProtocol
  refine ⟨fun off ws cut s hb ho => ?write, fun off ws cut s hb ho => ?writeBad, fun off n s hb ho => ?read,
    fun off n s hb ho => ?readBad, fun s hb => exec_spiStatus hb, fun s hb => exec_spiBadTransaction [] hb,
    fun s r hb => ?status, fun s a b c ws tail hb ht => ?writeBytes, fun s a b c x n ys hb hy => ?readBytes,
    fun cmd r s hb h5 h2 hB => ?badBytes, fun s hb => ⟨spiDrainAll s, exec_spiWriteBufferDrained hb, spiDrainAll_buffer s, rfl⟩,
    fun off w s => ⟨_, spiBefore s, rfl, spiWord_overrun, spiWord_waits⟩, fun off w ws s => rfl,
    fun s off w r n hq ho hc => spiDrain_carries hq ho hc, fun s => rfl⟩
  case write => rw [exec_spiWrite cut hb, spiWrite_good cut ho]
  case writeBad => rw [exec_spiWrite cut hb, spiWrite_bad cut ho, spiFormat]
  case read => rw [exec_spiRead n hb, spiRead_good n ho]
  case readBad => rw [exec_spiRead n hb, spiRead_bad _ ho, spiFormat]
  case status =>
    rw [exec_spiBadTransaction _ hb, exec_spiStatus hb]
    rfl
  case writeBytes =>
    rw [exec_spiBadTransaction _ hb, exec_spiWrite _ hb, ← spiTransaction_write ht, List.append_assoc]
    rfl
  case readBytes =>
    rw [exec_spiBadTransaction _ hb, exec_spiRead n hb, ← hy]
    exact congrArg Host.Outcome.next (spiTransaction_read ys)
  case badBytes => rw [exec_spiBadTransaction _ hb, spiTransaction_bad h5 h2 hB, spiFormat]

end Sys2Proof.Machine
end

section
/-! SUPPORT. What Karxo does with its queues, with what the partner forwards and what Day sends, and the end of its start-up. -/
namespace Sys2Proof.Machine

set_option Elab.async false

variable {s : State}

/-! ### The mailboxes (R79) -/

theorem exec_karxoTakeCommand {m : MbNo} (hk : karxoRuns s = true) (hr : s.ready = true) (hn : nextServed s = some m) :
    exec .karxoTakeCommand s = .next (serve m s) := by
  have hx : exec .karxoTakeCommand s = execKarxoTakeCommand s := rfl
  simp only [hx, execKarxoTakeCommand, hk, hr, hn, Bool.and_self, if_true]

theorem exec_karxoTakeCommand_none (hn : nextServed s = none) : exec .karxoTakeCommand s = .next s := by
  have hx : exec .karxoTakeCommand s = execKarxoTakeCommand s := rfl
  simp only [hx, execKarxoTakeCommand, hn, ite_self]

/-! ### The partner's commands (R385) -/

section Forwarded
variable {r : Requester} {i : Nat} {w0 w1 w2 w3 : Word} {p : List Byte} (hd : dataOn s = true) (hs : inSpan s = true)
include hd hs

/-- A command that the partner forwards waits, or is refused as the seventeenth. -/
theorem exec_forwardedCommand : exec (.forwardedCommand r i w0 w1 w2 w3 p) s = .next (
    (fun t : FwdCmd => if 16 ≤ s.pair.held.length then fail t.opcode t.cmd stBusy s
      else updPair (fun x => { x with held := x.held ++ [i], fwd := x.fwd ++ [t] }) s)
      (cmdOfHeader (.forwarded (forwardedAs r) i) 0 w0 w1 (w2 &&& 0x7FFFFFFF) w3 p)) := by
  have hx : exec (.forwardedCommand r i w0 w1 w2 w3 p) s = execForwardedCommand r i w0 w1 w2 w3 p s := rfl
  rw [hx, execForwardedCommand, runCore_on hd]
  simp only [hs, Bool.not_true, Bool.false_eq_true, if_false]

theorem exec_forwardedCommand_waits (hl : s.pair.held.length < 16) :
    exec (.forwardedCommand r i w0 w1 w2 w3 p) s = .next (updPair (fun x => { x with
      held := x.held ++ [i]
      fwd := x.fwd ++ [cmdOfHeader (.forwarded (forwardedAs r) i) 0 w0 w1 (w2 &&& 0x7FFFFFFF) w3 p] }) s) := by
  rw [exec_forwardedCommand hd hs]
  simp only [Nat.not_le.2 hl, if_false]

theorem exec_forwardedCommand_busy (hl : 16 ≤ s.pair.held.length) :
    exec (.forwardedCommand r i w0 w1 w2 w3 p) s = .next (
      (fun t : FwdCmd => fail t.opcode t.cmd stBusy s)
        (cmdOfHeader (.forwarded (forwardedAs r) i) 0 w0 w1 (w2 &&& 0x7FFFFFFF) w3 p)) := by
  rw [exec_forwardedCommand hd hs]
  simp only [hl, if_true]

end Forwarded

/-! ### What Day sends (R382, R391, R393, R394) -/

/-- What a running Night does with a change that Day has sent. -/
def mirrored (s : State) : MirrorChange → State
  | .command id op c st => persistPair [1] (mirrorCommand id op c st s)
  | .displaySet o g ws frame => applyMirrorSet o g ws frame s
  | .timing o t => lockTiming o t s
  | .copy c => installCopy c s

theorem exec_mirrorStateForward (ch : MirrorChange) (hd : dataOn s = true) (hn : isNight s = true)
    (hk : karxoRuns s = true) (hr : s.ready = true) : exec (.mirrorStateForward ch) s = .next (mirrored s ch) := by
  have hx : exec (.mirrorStateForward ch) s = execMirrorStateForward ch s := rfl
  rw [hx, execMirrorStateForward, runCore_on hd]
  simp only [hn, hk, hr, Bool.not_true, Bool.or_self, Bool.false_eq_true, if_false]
  cases ch <;> rfl

/-! ### The end of start-up (R84) -/

theorem exec_karxoReady (h : canStart s = true) : exec .karxoReady s =
    .next (settleUplinks (wakeEvent (startEvents (updateInt { s with init := true, ready := true })))) := by
  have hx : exec .karxoReady s = execKarxoReady s := rfl
  simp only [hx, execKarxoReady, h, if_true]

/-- Settles O14, row by row. -/
theorem karxoTakesCommands : Obligations.KarxoTakesCommands := by
  unfold Obligations.KarxoTakesCommands
  exact ⟨fun s m hk hr hn => exec_karxoTakeCommand hk hr hn, fun s hn => exec_karxoTakeCommand_none hn,
    fun r i w0 w1 w2 w3 p s hd hs hl => exec_forwardedCommand_waits hd hs hl,
    fun r i w0 w1 w2 w3 p s hd hs hl => exec_forwardedCommand_busy hd hs hl,
    fun o t s hd hn hk hr => exec_mirrorStateForward (.timing o t) hd hn hk hr,
    fun c s hd hn hk hr => exec_mirrorStateForward (.copy c) hd hn hk hr,
    fun o g ws f s hd hn hk hr => exec_mirrorStateForward (.displaySet o g ws f) hd hn hk hr,
    fun id op c st s hd hn hk hr => exec_mirrorStateForward (.command id op c st) hd hn hk hr,
    fun s h => exec_karxoReady h⟩

end Sys2Proof.Machine
end

section
/-! SUPPORT. What the commands of the PCIe bridge do: ports, windows, the error logs, slots and the lock. -/
namespace Sys2Proof.Machine

set_option Elab.async false

variable {c : Cmd} {s : State}

/-! ### PCIE_PORT_CFG (R250, R270, R274) -/

/-- The state that operation 0 asks the admission of: the port on its new uplink at its new rate. -/
def portAfter (c : Cmd) (s : State) : State := updPort (tgPort c) (fun x => { x with
  assigned := cfgUplink c, maxRate := BitVec.ofNat 3 (byteAt c.payload 2) }) s

/-- The storage of each uplink that the operation concerns fits that state (R243). -/
def portFits (c : Cmd) (s : State) (concerned : HostNo → Bool) : Bool :=
  ([0, 1, 2, 3] : List HostNo).all (fun h => !concerned h || admitStorage (portAfter c s) s.tunnels h)

@[simp] theorem portFits_fresh (c : Cmd) (s : State) (f : HostNo → Bool) : portFits c (fresh s) f = portFits c s f := rfl

@[simp] theorem noPort_fresh (s : State) (c : Cmd) : noPort (fresh s) c = noPort s c := rfl

theorem isPortSet_of_empty (hp : c.payload = []) : isPortSet c = true := by simp [isPortSet, hp]

theorem isPortSet_of_eq (h0 : byteAt c.payload 0 = 0) : isPortSet c = true := by
  rw [isPortSet, opByte_of_eq h0, Bool.or_true]

theorem isPortSplit_of_eq (hp : c.payload ≠ []) (h0 : byteAt c.payload 0 = 1) : isPortSplit c = true := by
  simp only [isPortSplit, List.isEmpty_eq_false_iff.2 hp, opByte_of_eq h0, Bool.not_false, Bool.and_self]

theorem portSetOp_reads (hn : noPort s c = false) (hp : c.payload = []) :
    portSetOp c s = ok 0x0501 c (portReport s (tgPort c)) s := by
  simp only [portSetOp, hn, hp, List.isEmpty_nil, Bool.false_eq_true, if_false, if_true]

section Operation0
variable (hn : noPort s c = false) (hp : c.payload ≠ []) (ha : portArgsOk c = true)
  (hw : waitsFor s (.pciePort (tgPort c)) = false)
include hn hp ha hw

/-- With the port's own uplink, rate and flags are applied, where a lowered rate still carries the uplink's storage. -/
theorem portSetOp_applies (hu : cfgUplink c = s.pcie.ports[tgPort c].assigned)
    (hf : (BitVec.ofNat 3 (byteAt c.payload 2)).toNat < s.pcie.ports[tgPort c].maxRate.toNat →
      portFits c s (fun h => s.pcie.ports[tgPort c].assigned == some h) = true) :
    portSetOp c s =
      let u := storePorts (applyPort (tgPort c) (BitVec.ofNat 3 (byteAt c.payload 2)) (BitVec.ofNat 5 (byteAt c.payload 3)) s)
      ok 0x0501 c (portReport u (tgPort c)) u := by
  have hfits : (!decide ((BitVec.ofNat 3 (byteAt c.payload 2)).toNat < s.pcie.ports[tgPort c].maxRate.toNat)
      || portFits c s (fun h => s.pcie.ports[tgPort c].assigned == some h)) = true := by
    rw [Bool.or_eq_true, Bool.not_eq_true', decide_eq_false_iff_not]
    exact or_iff_not_imp_left.2 fun h => hf (not_not.1 h)
  unfold portFits portAfter at hfits
  rw [hu] at hfits
  unfold portSetOp
  simp only [hn, List.isEmpty_eq_false_iff.2 hp, ha, hw, hu, hfits, bne_self_eq_false, Bool.or_self, Bool.false_or,
    Bool.not_true, Bool.false_eq_true, if_false, if_true]

/-- With another uplink, the command waits and the port moves. -/
theorem portSetOp_moves (hu : cfgUplink c ≠ s.pcie.ports[tgPort c].assigned) (hs : cfgUplink c ≠ none)
    (hf : portFits c s (fun h => s.pcie.ports[tgPort c].assigned == some h || cfgUplink c == some h) = true)
    (hm : mayPend s c = true) :
    portSetOp c s = storePorts (movePort (tgPort c) (cfgUplink c) (settlePresence (tgPort c) (mirrorSlot (tgPort c)
      (updPort (tgPort c) (fun x => { x with
        assigned := none, maxRate := BitVec.ofNat 3 (byteAt c.payload 2), flags := BitVec.ofNat 5 (byteAt c.payload 3) })
        (leaveUplink (tgPort c) (holdPending 0x0501 c (.pciePort (tgPort c)) s)))))) := by
  unfold portFits portAfter at hf
  have hsome : (cfgUplink c).isNone = false := Option.isNone_eq_false_iff.2 (Option.isSome_iff_ne_none.2 hs)
  unfold portSetOp
  simp only [hn, List.isEmpty_eq_false_iff.2 hp, ha, hw, hf, hu, hsome, Bool.or_true, Bool.not_true, Bool.false_eq_true,
    if_false, startPending_held hm]

/-- With no uplink, a port of a host leaves it at once. -/
theorem portSetOp_unassigns (hu : s.pcie.ports[tgPort c].assigned ≠ none) (hs : cfgUplink c = none)
    (hf : portFits c s (fun h => s.pcie.ports[tgPort c].assigned == some h) = true) :
    portSetOp c s =
      let u := storePorts (movePort (tgPort c) none
        (applyPort (tgPort c) (BitVec.ofNat 3 (byteAt c.payload 2)) (BitVec.ofNat 5 (byteAt c.payload 3)) s))
      ok 0x0501 c (portReport u (tgPort c)) u := by
  unfold portFits portAfter at hf
  rw [hs] at hf
  have hno (h : HostNo) : ((none : Option HostNo) == some h) = false := rfl
  unfold portSetOp
  simp only [hn, List.isEmpty_eq_false_iff.2 hp, ha, hw, hs, hno, Bool.or_false, hf, hu.symm, Option.isNone_none,
    Bool.or_true, Bool.not_true, Bool.false_eq_true, if_false, if_true]

end Operation0

/-- Operation 1 stores the split of the next start. -/
theorem portSplitOp_stores (hn : noPort s c = false) (h4 : byteAt c.payload 4 < 2) (hz : zeroAt c.payload 5 3 = true)
    (hw : waitsFor s (.pciePort (tgPort c)) = false) :
    portSplitOp c s =
      let u := storePorts { s with pcie := { s.pcie with splitNext := byteAt c.payload 4 == 1 } }
      ok 0x0501 c (portReport u (tgPort c)) u := by
  unfold portSplitOp
  simp only [hn, hz, hw, Nat.not_le.2 h4, decide_false, Bool.not_true, Bool.or_self, Bool.false_eq_true, if_false]

/-! ### PCIE_WINDOW_SET (R275) -/

theorem pcieWindowSetBody_reads (hw : pciePresent s (windowPort (tgWindow c)) = true) (hp : c.payload = []) :
    pcieWindowSetBody c s = ok 0x0502 c (windowReport s.pcie.windows[tgWindow c]) s := by
  simp only [pcieWindowSetBody, hw, hp, List.isEmpty_nil, Bool.not_true, Bool.false_eq_true, if_false, if_true]

/-- The owner's setting of a window, whose prefetched data is discarded. -/
theorem pcieWindowSetBody_sets (hw : pciePresent s (windowPort (tgWindow c)) = true) (hp : c.payload ≠ [])
    (ha : windowArgsOk c.payload = true) (ho : permO (cmdRequester s c) = true) :
    pcieWindowSetBody c s =
      let u := dropPrefetch (windowPort (tgWindow c)) (fun e => e.window == tgWindow c) 4 (countWindow (tgWindow c) (fun x => { x with
        owner := ⟨byteAt c.payload 0 == 1, ⟨byteAt c.payload 1 % 9, Nat.mod_lt _ (by decide)⟩, holesOf c.payload (byteAt c.payload 2)⟩ }) s)
      ok 0x0502 c (windowReport u.pcie.windows[tgWindow c]) u := by
  unfold pcieWindowSetBody
  simp only [hw, List.isEmpty_eq_false_iff.2 hp, ha, ho, Bool.not_true, Bool.false_eq_true, if_false, if_true]

/-! ### PCIE_ERRLOG_READ (R261, R262) -/

/-- The header and the requester's entries that an answer carries. -/
def errlogReport (c : Cmd) (s : State) (l : BridgeLog) : List Byte :=
  (wordBytes l.written ++ wordBytes l.overwritten ++ [(match l.newest with | some i => BitVec.ofNat 8 i.val | none => 0xFF),
    BitVec.ofNat 8 (logEntries l (cmdRequester s c) (byteAt c.payload 2) (byteAt c.payload 3)).length] ++ zeros 6)
  ++ (logEntries l (cmdRequester s c) (byteAt c.payload 2) (byteAt c.payload 3)).flatMap bridgeBytes

@[simp] theorem errlogReport_fresh (c : Cmd) (s : State) (l : BridgeLog) :
    errlogReport c (fresh s) l = errlogReport c s l := by
  rw [errlogReport, cmdRequester_fresh, errlogReport]

section Errlog
variable {n : Fin 3} (h0 : byteAt c.payload 0 = n.val) (h2 : byteAt c.payload 2 < 32) (h3 : byteAt c.payload 3 < 16)
include h0 h2 h3

omit h2 h3 in
/-- The log that byte 0 names. -/
theorem errlogIndex_eq : (⟨byteAt c.payload 0 % 3, Nat.mod_lt _ (by decide)⟩ : Fin 3) = n :=
  Fin.ext ((congrArg (· % 3) h0).trans (Nat.mod_eq_of_lt n.isLt))

theorem errlogArgs_eq :
    (decide (3 ≤ byteAt c.payload 0) || decide (32 ≤ byteAt c.payload 2) || decide (16 ≤ byteAt c.payload 3)) = false := by
  rw [h0]
  simp only [Nat.not_le.2 n.isLt, Nat.not_le.2 h2, Nat.not_le.2 h3, decide_false, Bool.or_self]

theorem errlogOp_reads : errlogOp false c s = ok 0x0503 c (errlogReport c s s.pcie.logs[n]) s := by
  unfold errlogOp errlogReport
  simp only [errlogArgs_eq h0 h2 h3, errlogIndex_eq h0, Bool.false_eq_true, if_false] <;> rfl

theorem errlogOp_empties : (errlogOp true c s).pcie.logs[n] = BridgeLog.reset := by
  have hi : byteAt c.payload 0 % 3 = n.val := congrArg Fin.val (errlogIndex_eq h0)
  unfold errlogOp
  simp only [errlogArgs_eq h0 h2 h3, Bool.false_eq_true, if_false, if_true]
  exact (Vector.getElem_set _ n.isLt).trans (if_pos hi)

end Errlog

theorem length_bridgeBytes (e : BridgeEntry) : (bridgeBytes e).length = 32 := by
  simp [bridgeBytes, leBytes, zeros]

/-! ### PCIE_HOTPLUG (R267, R276) -/

/-- An operation of a slot: one that needs a power controller has it, and one that changes the slot waits for no move. -/
theorem slotOp_done {f : PciePort → State → State} {power : Bool} (hn : noPort s c = false)
    (hz : zeroAt c.payload 1 3 = true) (hf : power = true → s.pcie.ports[tgPort c].flags.getLsbD 2 = true)
    (hw : byteAt c.payload 0 = 0 ∨ waitsFor s (.pciePort (tgPort c)) = false) :
    slotOp f power c s = ok 0x0504 c (slotReport (f (tgPort c) s) (tgPort c)) (f (tgPort c) s) := by
  have hpw : (power && !s.pcie.ports[tgPort c].flags.getLsbD 2) = false := by
    rw [Bool.and_eq_false_imp, Bool.not_eq_false']
    exact hf
  have hbusy : (!opByte 0 0 c && waitsFor s (.pciePort (tgPort c))) = false := by
    rw [Bool.and_eq_false_iff, Bool.not_eq_false', opByte, beq_iff_eq]
    exact hw
  unfold slotOp
  simp only [hn, hz, hpw, hbusy, Bool.not_true, Bool.or_self, Bool.false_eq_true, if_false]

theorem slotNumberOp_stores (hn : noPort s c = false) (hk : fieldAt c.payload 1 2 < 8192) (h3 : byteAt c.payload 3 = 0)
    (hw : waitsFor s (.pciePort (tgPort c)) = false) :
    slotNumberOp c s =
      let u := storePorts (mirrorSlot (tgPort c) (updPort (tgPort c) (fun x => { x with slotNo := BitVec.ofNat 13 (fieldAt c.payload 1 2) }) s))
      ok 0x0504 c (slotReport u (tgPort c)) u := by
  unfold slotNumberOp
  simp only [hn, hw, h3, Nat.not_le.2 hk, decide_false, bne_self_eq_false, Bool.or_self, Bool.false_eq_true, if_false]

/-- Settles O29: each clause by the lemma of its operation. -/
theorem pcieCommands : Obligations.PcieCommands := by
  unfold Obligations.PcieCommands
  refine ⟨fun c s h hp hn => ?report, fun c s h hp h0 hn ha hw hu hf => ?apply, fun c s h hp h0 hn ha hw hu hs hf hm => ?move,
    fun c s h hp h0 hn ha hw hu hs hf => ?unassign, fun c s h hp h0 hn h4 hz hw => ?split, fun c s h hw hp => ?window,
    fun c s h hw hp ha ho => ?windowSet, fun c s n l h h0 hl h2 h3 h1 => ?log, fun c s h h1 => ?logEmpty,
    fun c s n h0 h2 h3 => errlogOp_empties h0 h2 h3, length_bridgeBytes, fun c s h h0 hn hz => ?slot,
    fun c s h h0 hn hz hw => ?remove, fun c s h h0 hn hz hf hw => ?off, fun c s h h0 hn hz hf hw => ?on,
    fun c s h h0 hn hk h3 hw => ?number, fun c s h hl => ?lock, fun c s h hl => ?force⟩
  case report => exact runCmd_named h (isPortSet_of_empty hp) (portSetOp_reads (s := fresh s) hn hp)
  case apply => exact runCmd_named h (isPortSet_of_eq h0) (portSetOp_applies (s := fresh s) hn hp ha hw hu hf)
  case move => exact runCmd_named h (isPortSet_of_eq h0) (portSetOp_moves (s := fresh s) hn hp ha hw hu hs hf hm)
  case unassign =>
    have hf' : portFits c s (fun h => s.pcie.ports[tgPort c].assigned == some h) = true := by
      unfold portFits portAfter
      rw [hs]
      exact hf
    exact runCmd_named h (isPortSet_of_eq h0) (portSetOp_unassigns (s := fresh s) hn hp ha hw hu hs hf')
  case split => exact runCmd_named h (isPortSplit_of_eq hp h0) (portSplitOp_stores (s := fresh s) hn h4 hz hw)
  case window => exact runCmd_carried h (pcieWindowSetBody_reads (s := fresh s) hw hp)
  case windowSet =>
    exact runCmd_carried h (pcieWindowSetBody_sets (s := fresh s) hw hp ha ((congrArg permO (cmdRequester_fresh s c)).trans ho))
  case log =>
    subst hl
    refine runCmd_named h (opByte_of_eq h1) ((errlogOp_reads (s := fresh s) h0 h2 h3).trans ?_)
    rw [errlogReport_fresh]
    rfl
  case logEmpty => exact runCmd_named h (opByte_of_eq h1) rfl
  case slot => exact runCmd_named h (opByte_of_eq h0) (slotOp_done (s := fresh s) hn hz (nofun) (.inl h0))
  case remove => exact runCmd_named h (opByte_of_eq h0) (slotOp_done (s := fresh s) hn hz (nofun) (.inr hw))
  case off => exact runCmd_named h (opByte_of_eq h0) (slotOp_done (s := fresh s) hn hz (fun _ => hf) (.inr hw))
  case on => exact runCmd_named h (opByte_of_eq h0) (slotOp_done (s := fresh s) hn hz (fun _ => hf) (.inr hw))
  case number => exact runCmd_named h (opByte_of_eq h0) (slotNumberOp_stores (s := fresh s) hn hk h3 hw)
  case lock => exact runCmd_named h hl rfl
  case force => exact runCmd_named h hl rfl

end Sys2Proof.Machine
end

section
/-! SUPPORT. What the bridge does with the TLPs of its tunnels and devices, with its timers, and with its slots and links. -/
namespace Sys2Proof.Machine

set_option Elab.async false

variable {s : State} {p : PciePort}

section Running
variable (hd : dataOn s = true)
include hd

/-! ### TLPs (R248) -/

/-- The TLP at the head of a storage tunnel that ends here goes to the bridge, or is recorded as malformed where it is broken. -/
theorem exec_pcieTlpFromHost {h : HostNo} {i : Byte} {v : Tunnel} {m : Message} {t : State}
    (hv : findTunnel s h i = some v) (h3 : v.cls = 3) (hc : v.cross = none) (ht : takeMessage h i s = some (m, t)) :
    exec (.pcieTlpFromHost h i) s =
      .next (if m.broken then aerRecord h 0 18 m.bytes t else fromHost h i m.bytes t) := by
  have hx : exec (.pcieTlpFromHost h i) s = execPcieTlpFromHost h i s := rfl
  rw [hx, execPcieTlpFromHost, runCore_on hd]
  simp only [hv, h3, hc, ht, beq_self_eq_true, Option.isNone_none, Bool.and_self, if_true]

theorem exec_pcieTlpFromDevice (b : List Byte) : exec (.pcieTlpFromDevice p b) s = .next (fromDevice p b s) := runCore_on hd

/-! ### Requests that wait (R249, R260) -/

theorem exec_pcieCompletionTimeout {d : Bool} {r : BitVec 16} {g : BitVec 10} {k : NpRequest}
    (hk : s.pcie.tracked.find? (fun q => q.port == p && q.toHost == d && q.rid == r && q.tag == g) = some k) :
    exec (.pcieCompletionTimeout p d r g) s = .next (logCompletion k.host k.tid p k.tlp 3
      (answerNp k cplCa { s with pcie := { s.pcie with tracked := s.pcie.tracked.erase k } })) := by
  have hx : exec (.pcieCompletionTimeout p d r g) s = execPcieCompletionTimeout p d r g s := rfl
  rw [hx, execPcieCompletionTimeout, runCore_on hd]
  simp only [hk]

theorem exec_pcieNpOverflowForward (d : Bool) : exec (.pcieNpOverflowForward p d) s = .next (forwardHeld p d s) :=
  runCore_on hd

/-! ### Prefetch (R256) -/

theorem exec_prefetchExpiry (k : Fin 16) : exec (.prefetchExpiry p k) s =
    .next (dropPrefetch p (fun e => e.slot == k && e.arrived && e.consumed.isEmpty) 1 s) := runCore_on hd

theorem exec_prefetchDataArrived (k : Fin 16) (d : Option (List Byte)) :
    exec (.prefetchDataArrived p k d) s = .next (prefetchArrives p k d s) := runCore_on hd

/-! ### The lock's timers (R263, R264) -/

theorem exec_lockWaitTimeout {r : NpRequest} {rs : List NpRequest} (hw : s.pcie.lock.waiting = r :: rs) :
    exec .lockWaitTimeout s = .next (logCompletion r.host r.tid r.port r.tlp 4 (answerNp r cplCa
      { s with pcie := { s.pcie with lock := { s.pcie.lock with
        waiting := rs, timeouts := satInc s.pcie.lock.timeouts } } })) := by
  have hx : exec .lockWaitTimeout s = execLockWaitTimeout s := rfl
  rw [hx, execLockWaitTimeout, runCore_on hd]
  simp only [hw]

theorem exec_lockIdleTimeout : exec .lockIdleTimeout s = .next (releaseLock false s) := runCore_on hd

/-! ### Slots and links (R251, R267, R268, R270) -/

/-- The presence ball of a port whose owner selected it. -/
theorem exec_pcieSlotInputChange_presence (b : Bool) (hp : pciePresent s p = true)
    (hf : s.pcie.ports[p].flags.getLsbD 1 = true) : exec (.pcieSlotInputChange p (.presence b)) s =
    .next (presenceChange p b (updPort p (fun x => { x with pin := b }) s)) := by
  have hx : exec (.pcieSlotInputChange p (.presence b)) s = execPcieSlotInputChange p (.presence b) s := rfl
  rw [hx, execPcieSlotInputChange, runCore_on hd]
  simp only [hp, hf, Bool.not_true, Bool.false_eq_true, if_false, if_true]

/-- Power good lets a port that waits in its reset train. -/
theorem exec_pcieSlotPowerGood (hf : s.pcie.ports[p].flags.getLsbD 2 = true) (hp : s.pcie.ports[p].pwren = true)
    (hm : mayTrain (updPort p (fun x => { x with powerGood := true }) s) p = true) : exec (.pcieSlotPowerGood p) s =
    .next (trainPort p (updPort p (fun x => { x with powerGood := true }) s)) := by
  have hx : exec (.pcieSlotPowerGood p) s = execPcieSlotPowerGood p s := rfl
  rw [hx, execPcieSlotPowerGood, runCore_on hd]
  simp only [hf, hp, hm, Bool.and_self, if_true]

theorem exec_pcieReassignPerstDone (hm : mayTrain s p = true) :
    exec (.pcieReassignPerstDone p) s = .next (trainPort p s) := by
  have hx : exec (.pcieReassignPerstDone p) s = execPcieReassignPerstDone p s := rfl
  rw [hx, execPcieReassignPerstDone, runCore_on hd]
  simp only [hm, if_true]

section Link
variable (r : BitVec 3) (w : BitVec 4)

/-- A link that trains comes up. -/
theorem exec_pcieLinkStateChange_up (h2 : s.pcie.ports[p].state = 2) :
    exec (.pcieLinkStateChange p 3 r w) s = .next (linkUp p r w s) := by
  have hx : exec (.pcieLinkStateChange p 3 r w) s = execPcieLinkStateChange p 3 r w s := rfl
  rw [hx, execPcieLinkStateChange, runCore_on hd]
  simp only [h2]
  rfl

/-- A link in L0 goes down by surprise. -/
theorem exec_pcieLinkStateChange_down (h3 : s.pcie.ports[p].state = 3) :
    exec (.pcieLinkStateChange p 8 r w) s = .next (linkDown p s) := by
  have hx : exec (.pcieLinkStateChange p 8 r w) s = execPcieLinkStateChange p 8 r w s := rfl
  rw [hx, execPcieLinkStateChange, runCore_on hd]
  simp only [h3]
  rfl

end Link

/-- Karxo gives the port back: it is presented where it may come up, and disabled otherwise (R272). -/
theorem exec_nvmeShutdownDone (hk : s.pcie.ports[p].karxo = true) (hs : s.pcie.ports[p].phase = .shutdown) :
    exec (.nvmeShutdownDone p) s = .next ((fun t => if portWanted t p then resetPort p t else disablePort p t)
      (updPort p (fun x => { x with karxo := false, phase := .idle, namespaces := 0 }) s)) := by
  have hx : exec (.nvmeShutdownDone p) s = execNvmeShutdownDone p s := rfl
  rw [hx, execNvmeShutdownDone, runCore_on hd]
  simp only [hk, hs, beq_self_eq_true, Bool.and_self, if_true]

end Running

/-! ### Configuration reads (R240) -/

/-- A Type 0 configuration read of device 0 function 0 is answered by the upstream port's register. -/
theorem fromHost_cfgRead0 {h : HostNo} {i : Byte} {b : List Byte} (hb : b ≠ []) (hw : tlpWellFormed b = true)
    (hl : tlpHasData b = true → 4 * tlpLenDw b ≤ maxPayload s h) (hk : tlpKind b = .cfgRead0) (h0 : tlpDev b = 0)
    (hf : tlpFn b = 0) : fromHost h i b s = sendToHost h
      (makeCpl false cplOk (fnId s h 0) (tlpRid b) (tlpTag b) 4 0 (wordBytes (cfgRead s h 0 (tlpReg b)))) s := by
  have hlen : (tlpHasData b && decide (maxPayload s h < 4 * tlpLenDw b)) = false := by
    rw [Bool.and_eq_false_imp, decide_eq_false_iff_not]
    exact fun h => Nat.not_lt.2 (hl h)
  simp only [fromHost, List.isEmpty_eq_false_iff.2 hb, hw, hlen, hk, h0, hf, cfgAccess, decide_true, beq_self_eq_true,
    Bool.and_self, Bool.not_true, Bool.or_self, Bool.false_eq_true, if_false, if_true]

/-! ### A link that comes up (R244, R247, R267, R270) -/

/-- A port of a host that was training: its credits, presence, event 36 and the end of PCIE_PORT_CFG, and then what waits. -/
theorem linkUp_trained (r : BitVec 3) (w : BitVec 4) (h2 : s.pcie.ports[p].state = 2)
    (hk : s.pcie.ports[p].karxo = false) :
    let st : Fin 9 := if r.toNat < s.pcie.ports[p].maxRate.toNat || w.toNat < portLanes s then 4 else 3
    let t := setPortState p st (updPort p (fun x => { x with rate := r, width := w, phase := .idle, shown := true }) s)
    let u := noteSlot p (2 ^ 24 + (if s.pcie.ports[p].shown then 0 else 2 ^ 19)) 2
      (inBand p true (emit (.pcieCredits p (64, 2048) (64, 64) (64, 2048)) t))
    linkUp p r w s = drainPort p (finish (.pciePort p) stOk (portReport u p) u) := by
  intro st t u
  simp only [linkUp, h2, hk, beq_self_eq_true, Bool.not_true, Bool.false_eq_true, if_false]
  rfl

/-- Settles O30: each clause by the lemma of its case. -/
theorem pcieTraffic : Obligations.PcieTraffic := by
  unfold Obligations.PcieTraffic
  refine ⟨fun s h i v m t hd hv h3 hc ht hb => ?whole, fun s h i v m t hd hv h3 hc ht hb => ?broken,
    fun s h i b hb hw hl hk h0 hf => fromHost_cfgRead0 hb hw hl hk h0 hf,
    fun s p b hd => exec_pcieTlpFromDevice hd b,
    fun s p d r g k hd hk => ?timeout,
    fun s p d hd => exec_pcieNpOverflowForward hd d,
    fun s p k hd => exec_prefetchExpiry hd k,
    fun s p k d hd => exec_prefetchDataArrived hd k d,
    fun s r rs hd hw => exec_lockWaitTimeout hd hw,
    fun s hd => exec_lockIdleTimeout hd,
    fun s p b hd hp hf => exec_pcieSlotInputChange_presence hd b hp hf,
    fun s p hd hf hp hm => exec_pcieSlotPowerGood hd hf hp hm,
    fun s p hd hm => exec_pcieReassignPerstDone hd hm,
    fun s p r w hd h2 => exec_pcieLinkStateChange_up hd r w h2,
    fun s p r w h2 hk => linkUp_trained r w h2 hk,
    fun s p r w hd h3 => exec_pcieLinkStateChange_down hd r w h3,
    fun s p hd hk hs hw => ?presented, fun s p hd hk hs hw => ?disabled⟩
  case whole => rw [exec_pcieTlpFromHost hd hv h3 hc ht, hb, if_neg Bool.false_ne_true]
  case broken => rw [exec_pcieTlpFromHost hd hv h3 hc ht, hb, if_pos rfl]
  case timeout => exact exec_pcieCompletionTimeout hd hk
  case presented => rw [exec_nvmeShutdownDone hd hk hs]; simp only [hw, if_true]
  case disabled => rw [exec_nvmeShutdownDone hd hk hs]; simp only [hw, Bool.false_eq_true, if_false]

end Sys2Proof.Machine
end

section
/-! SUPPORT. What the commands of the network switch do: ports, VLANs and addresses, marking, overflow, the resequencer and counters. -/
namespace Sys2Proof.Machine

set_option Elab.async false

variable {c : Cmd} {s : State}

/-! ### NET_PORT_CFG (R345, R346) -/

theorem netPortCfgBody_reads (ht : swTargetOk c = true) (hp : c.payload = []) :
    netPortCfgBody c s = ok 0x0701 c (netPortReport s (tgSw c)) s := by
  simp only [netPortCfgBody, ht, hp, List.isEmpty_nil, Bool.not_true, Bool.false_eq_true, if_false, if_true]

/-- A configuration that keeps the interface needs no more rate: it is applied where the headroom fits. -/
theorem netPortCfgBody_applies (ht : swTargetOk c = true) (hp : c.payload ≠ []) (ho : netCfgOk (tgSw c) c.payload = true)
    (hv : s.variant ≠ .qt9824 ∨ byteAt c.payload 0 ≠ 1)
    (hh : headroomOf (portsWith s (tgSw c) c.payload)[(0 : SwPort)]
      + headroomOf (portsWith s (tgSw c) c.payload)[(1 : SwPort)] ≤ 2048)
    (hi : byteAt c.payload 0 = ncIface s.net.ports[tgSw c]) :
    netPortCfgBody c s =
      ok 0x0701 c (netPortReport (applyNetCfg (tgSw c) c.payload s) (tgSw c)) (applyNetCfg (tgSw c) c.payload s) := by
  have hvar : (s.variant == .qt9824 && byteAt c.payload 0 == 1) = false := by
    rwa [Bool.and_eq_false_iff, beq_eq_false_iff_ne, beq_eq_false_iff_ne]
  have henables : (ncIface s.net.ports[tgSw c] == 0 && ncIface s.net.ports[tgSw c] != 0) = false := by
    rw [bne, Bool.and_not_self]
  unfold netPortCfgBody
  simp only [ht, List.isEmpty_eq_false_iff.2 hp, ho, hvar, Nat.not_lt.2 hh, decide_false, Bool.not_true, Bool.false_eq_true,
    if_false]
  simp only [hi, henables, Nat.lt_irrefl, decide_false, Bool.false_and, Bool.or_self, Bool.false_eq_true, if_false]

/-! ### NET_VLAN_SET (R347) -/

/-- A VLAN is set, or removed where it has no members. -/
theorem vlanSetOp_sets (hz : zeroAt c.payload 1 1 = true) (hv : vidOk (vlanVid c) = true)
    (hm : fieldAt c.payload 4 4 < 2 ^ 18) (hu : fieldAt c.payload 8 4 < 2 ^ 18)
    (hmu : fieldAt c.payload 8 4 &&& fieldAt c.payload 4 4 = fieldAt c.payload 8 4) :
    vlanSetOp c s = ok 0x0702 c [] (updNet (fun n => { n with
      vlans := sparsePut ⟨0, 0⟩ n.vlans (vlanVid c) (if fieldAt c.payload 4 4 = 0 then ⟨0, 0⟩
        else ⟨BitVec.ofNat 18 (fieldAt c.payload 4 4), BitVec.ofNat 18 (fieldAt c.payload 8 4)⟩) }) s) := by
  unfold vlanSetOp
  simp only [hz, hv, Nat.not_le.2 hm, Nat.not_le.2 hu, hmu, decide_false, bne_self_eq_false, Bool.not_true, Bool.or_self,
    Bool.false_eq_true, if_false]

@[simp] theorem findAddr_fresh (s : State) (a : BitVec 48) (v : BitVec 12) : findAddr (fresh s) a v = findAddr s a v := rfl
@[simp] theorem addrRoom_fresh (s : State) (a : BitVec 48) (v : BitVec 12) : addrRoom (fresh s) a v = addrRoom s a v := rfl

section Address
variable (hz : zeroAt c.payload 1 1 = true) (hv : vidOk (vlanVid c) = true) (hl : zeroAt c.payload 11 1 = true)
include hz hv hl

/-- An address not yet there takes a place of the table. -/
theorem vlanAddOp_adds {p : Bool} (hp : swByteOk (byteAt c.payload 10) = true)
    (hf : findAddr s (vlanAddr c) (BitVec.ofNat 12 (vlanVid c)) = none)
    (hn : (s.net.addrs.filter (fun e => e.fixed)).length < 1024)
    (hr : addrRoom s (vlanAddr c) (BitVec.ofNat 12 (vlanVid c)) = some p) :
    vlanAddOp c s = ok 0x0702 c [] (updNet (fun n => { n with addrs := n.addrs ++
      [⟨vlanAddr c, BitVec.ofNat 12 (vlanVid c), BitVec.ofNat 8 (byteAt c.payload 10), true, p, s.clock.hubTime⟩] }) s) := by
  unfold vlanAddOp
  simp only [hz, hv, hl, hp, hf, hr, Nat.not_le.2 hn, Bool.not_true, Bool.or_self, Bool.false_eq_true, if_false]

theorem vlanRemoveOp_removes
    (ha : s.net.addrs.any (fun e => sameAddr (vlanAddr c) (BitVec.ofNat 12 (vlanVid c)) e && e.fixed) = true) :
    vlanRemoveOp c s = ok 0x0702 c [] (updNet (fun n => { n with
      addrs := n.addrs.filter (fun e => !(sameAddr (vlanAddr c) (BitVec.ofNat 12 (vlanVid c)) e && e.fixed)) }) s) := by
  unfold vlanRemoveOp
  simp only [hz, hv, hl, ha, Bool.not_true, Bool.or_self, Bool.false_eq_true, if_false, if_true]

end Address

theorem vlanFlushOp_flushes (hp : swByteOk (byteAt c.payload 1) = true) (hv : vlanVid c ≤ 4094) :
    vlanFlushOp c s = ok 0x0702 c [] (updNet (fun n => { n with addrs := n.addrs.filter (fun e =>
      e.fixed || !(byteAt c.payload 1 == 255 || e.port.toNat == byteAt c.payload 1)
        || !(vlanVid c == 0 || e.vid.toNat == vlanVid c)) }) s) := by
  unfold vlanFlushOp
  simp only [hp, Nat.not_lt.2 hv, decide_false, Bool.not_true, Bool.or_self, Bool.false_eq_true, if_false]

theorem vlanAgeOp_sets (hz : zeroAt c.payload 1 3 = true) (h1 : 10 ≤ fieldAt c.payload 4 4)
    (h2 : fieldAt c.payload 4 4 ≤ 1000000) :
    vlanAgeOp c s = ok 0x0702 c [] (updNet (fun n => { n with aging := BitVec.ofNat 32 (fieldAt c.payload 4 4) }) s) := by
  unfold vlanAgeOp
  simp only [hz, Nat.not_lt.2 h1, Nat.not_lt.2 h2, decide_false, Bool.not_true, Bool.or_self, Bool.false_eq_true, if_false]

theorem vlanReadOp_reads (hz : zeroAt c.payload 1 1 = true) (hv : vidOk (vlanVid c) = true) :
    vlanReadOp c s = ok 0x0702 c (leBytes 2 (vlanVid c) ++ [0, 0] ++
      leBytes 4 (vlanOf s (BitVec.ofNat 12 (vlanVid c))).members.toNat ++
      leBytes 4 (vlanOf s (BitVec.ofNat 12 (vlanVid c))).untagged.toNat) s := by
  unfold vlanReadOp
  simp only [hz, hv, Bool.not_true, Bool.or_self, Bool.false_eq_true, if_false]

/-! ### NET_MARK_CFG (R348) -/

section Mark
variable {q : Fin 8} (ht : swTargetOk c = true) (hq : byteAt c.payload 0 = q.val)
include ht hq

omit ht in
/-- The queue that byte 0 names. -/
theorem markQueue_eq : (⟨byteAt c.payload 0 % 8, Nat.mod_lt _ (by decide)⟩ : Fin 8) = q :=
  Fin.ext ((congrArg (· % 8) hq).trans (Nat.mod_eq_of_lt q.isLt))

theorem markTarget_eq : (!swTargetOk c || decide (8 ≤ byteAt c.payload 0)) = false := by
  rw [ht, hq]
  simp only [Nat.not_le.2 q.isLt, decide_false, Bool.not_true, Bool.or_self]

theorem netMarkCfgBody_reads (hl : c.payload.length = 1) :
    netMarkCfgBody c s = ok 0x0703 c (netMarkReport s (tgSw c) q) s := by
  unfold netMarkCfgBody
  simp only [markTarget_eq ht hq, markQueue_eq hq, hl, Bool.false_eq_true, if_false, if_true]

/-- A queue of a physical port is set and stored. -/
theorem netMarkCfgBody_sets (hl : c.payload.length = 12) (h1 : byteAt c.payload 1 < 2) (hz : zeroAt c.payload 2 2 = true)
    (hk : fieldAt c.payload 4 4 ≤ 4194304) (hm : fieldAt c.payload 8 4 ≤ 8192) (he : (ethOf (tgSw c)).isSome = true) :
    netMarkCfgBody c s =
      let u := storeNetQueues (settleNet (updQueue (tgSw c) q (fun x => { x with
        mark := byteAt c.payload 1 == 1, k := fieldAt c.payload 4 4, limit := fieldAt c.payload 8 4 }) s))
      ok 0x0703 c (netMarkReport u (tgSw c) q) u := by
  have hno : (ethOf (tgSw c)).isNone = false := Option.isNone_eq_false_iff.2 he
  have hne : ¬c.payload.length = 1 := by omega
  unfold netMarkCfgBody
  simp only [markTarget_eq ht hq, markQueue_eq hq, hne, Nat.not_le.2 h1, hz, Nat.not_lt.2 hk, Nat.not_lt.2 hm, hno, he,
    decide_false, Bool.not_true, Bool.false_and, Bool.or_self, Bool.false_eq_true, if_false, if_true]

end Mark

/-! ### NET_OVERFLOW_CFG (R336, R349) -/

theorem overflowPorts_of_empty (hp : c.payload = []) : overflowPorts c = true := by simp [overflowPorts, hp]

theorem overflowPorts_of_eq (h0 : byteAt c.payload 0 = 0) : overflowPorts c = true := by simp [overflowPorts, h0]

theorem overflowPortOp_reads (ht : physicalTarget c = true) (hp : c.payload = []) :
    overflowPortOp c s = ok 0x0704 c (overflowReport s (tgEth c)) s := by
  simp only [overflowPortOp, ht, hp, List.isEmpty_nil, Bool.not_true, Bool.false_eq_true, if_false, if_true]

theorem overflowPortOp_sets (ht : physicalTarget c = true) (hp : c.payload ≠ []) (h1 : byteAt c.payload 1 < 2)
    (hz : zeroAt c.payload 2 2 = true) (hl : fieldAt c.payload 4 4 ≤ 1024) :
    overflowPortOp c s =
      let u := storeOverflow (updEth (tgEth c) (fun x => { x with
        overflow := byteAt c.payload 1 == 1, limitMiB := fieldAt c.payload 4 4 }) s)
      ok 0x0704 c (overflowReport u (tgEth c)) u := by
  unfold overflowPortOp
  simp only [ht, List.isEmpty_eq_false_iff.2 hp, hz, Nat.not_le.2 h1, Nat.not_lt.2 hl, decide_false, Bool.not_true,
    Bool.or_self, Bool.false_eq_true, if_false]

/-- A shrink of the area posts PENDING. -/
theorem overflowShrinkOp_starts (ht : c.target.toNat % 32 = 0) (hz : zeroAt c.payload 1 3 = true)
    (h64 : fieldAt c.payload 4 4 % 64 = 0) (hl : fieldAt c.payload 4 4 ≤ s.perf.overflowMiB) (hs : s.net.shrink = none)
    (hm : mayPend s c = true) : overflowShrinkOp c s =
      updNet (fun x => { x with shrink := some (fieldAt c.payload 4 4) }) (holdPending 0x0704 c .netShrink s) := by
  simp only [overflowShrinkOp, ht, hz, h64, Nat.not_lt.2 hl, hs, decide_false, bne_self_eq_false, Bool.not_true,
    Bool.or_self, Option.isSome_none, Bool.false_eq_true, if_false, startPending_held hm]

section Shrink
variable {n : Nat} (hd : dataOn s = true) (hs : s.net.shrink = some n)
include hd hs

/-- A shrink ends once what is held fits. -/
theorem exec_overflowShrinkDrained (hu : overflowUsed s ≤ 1048576 * n) :
    exec .overflowShrinkDrained s = .next (endShrink n s) := by
  have hx : exec .overflowShrinkDrained s = execOverflowShrinkDrained s := rfl
  rw [hx, execOverflowShrinkDrained, runCore_on hd]
  simp only [hs, hu, if_true]

/-- A shrink that times out gives up what is still in the area. -/
theorem exec_overflowShrinkTimeout (hn : n < s.perf.overflowMiB) : exec .overflowShrinkTimeout s =
    .next (endShrink n (settleNet (([0, 1] : List EthPort).foldl (dropArea n) s))) := by
  have hx : exec .overflowShrinkTimeout s = execOverflowShrinkTimeout s := rfl
  rw [hx, execOverflowShrinkTimeout, runCore_on hd]
  simp only [hs, hn, if_true]

end Shrink

/-! ### NET_RESEQ_CFG (R350) -/

theorem netReseqCfgBody_reads (ht : physicalTarget c = true) (hp : c.payload = []) :
    netReseqCfgBody c s = ok 0x0705 c (reseqBytes s.net.eth[tgEth c]) s := by
  simp only [netReseqCfgBody, ht, hp, List.isEmpty_nil, Bool.not_true, Bool.false_eq_true, if_false, if_true]

theorem netReseqCfgBody_sets (ht : physicalTarget c = true) (hp : c.payload ≠ []) (h0 : byteAt c.payload 0 < 2)
    (hz : zeroAt c.payload 1 1 = true) (hw : 16 ≤ fieldAt c.payload 2 2) (hw' : fieldAt c.payload 2 2 ≤ 1024)
    (hu : 1 ≤ fieldAt c.payload 4 4) (hu' : fieldAt c.payload 4 4 ≤ 10000) :
    netReseqCfgBody c s =
      let u := storeReseq ((List.finRange 8).foldl (fun s q => settleQueue (tgEth c) q s) (updEth (tgEth c) (fun x => { x with
        reseq := byteAt c.payload 0 == 1, reseqW := BitVec.ofNat 16 (fieldAt c.payload 2 2), reseqUs := BitVec.ofNat 32 (fieldAt c.payload 4 4) }) s))
      ok 0x0705 c (reseqBytes u.net.eth[tgEth c]) u := by
  unfold netReseqCfgBody
  simp only [ht, List.isEmpty_eq_false_iff.2 hp, hz, Nat.not_le.2 h0, Nat.not_lt.2 hw, Nat.not_lt.2 hw', Nat.not_lt.2 hu,
    Nat.not_lt.2 hu', decide_false, Bool.not_true, Bool.or_self, Bool.false_eq_true, if_false]

/-! ### NET_COUNTERS (R343, R351) -/

theorem netCountsClear_of_eq (hp : c.payload = [1]) : netCountsClear c = true := by rw [netCountsClear, hp]; rfl

theorem netCountsThreshold_of_eq (hl : c.payload.length = 12) (h0 : byteAt c.payload 0 = 2) :
    netCountsThreshold c = true := by rw [netCountsThreshold, hl, h0]; rfl

theorem netCountersReadOp_reads (ht : swTargetOk c = true) : netCountersReadOp c s =
    ok 0x0706 c (netCounterReport s (tgSw c)) (updSw (tgSw c) (fun x => { x with fired := 0 }) s) := by
  simp only [netCountersReadOp, ht, Bool.not_true, Bool.false_eq_true, if_false]

theorem netCountersClearOp_clears (ht : swTargetOk c = true) : netCountersClearOp c s =
    ok 0x0706 c (netCounterReport s (tgSw c))
      (updSw (tgSw c) (fun x => { x with fired := 0, counters := Vector.replicate 24 0 }) s) := by
  simp only [netCountersClearOp, ht, Bool.not_true, Bool.false_eq_true, if_false]

/-- A threshold of a counter, with its window. -/
theorem netCountersThresholdOp_sets {k : Fin 24} (ht : swTargetOk c = true) (hk : byteAt c.payload 1 = k.val)
    (hz : zeroAt c.payload 2 2 = true) (hw : 1 ≤ fieldAt c.payload 8 4) (hw' : fieldAt c.payload 8 4 ≤ 3600000) :
    netCountersThresholdOp c s = ok 0x0706 c [] (updSw (tgSw c) (fun x => { x with
      thresholds := x.thresholds.set k ⟨BitVec.ofNat 32 (fieldAt c.payload 4 4), BitVec.ofNat 32 (fieldAt c.payload 8 4), 0, false⟩ }) s) := by
  have h24 : ¬24 ≤ byteAt c.payload 1 := hk ▸ Nat.not_le.2 k.isLt
  have hi : byteAt c.payload 1 % 24 = k.val := (congrArg (· % 24) hk).trans (Nat.mod_eq_of_lt k.isLt)
  unfold netCountersThresholdOp
  simp only [ht, hz, h24, Nat.not_lt.2 hw, Nat.not_lt.2 hw', decide_false, Bool.not_true, Bool.or_self,
    Bool.false_eq_true, if_false, hi]

theorem length_netCounterReport (s : State) (p : SwPort) : (netCounterReport s p).length = 196 := by
  simp [netCounterReport, List.length_flatMap]

/-- Settles O33: each clause by the lemma of its operation. -/
theorem netCommands : Obligations.NetCommands := by
  unfold Obligations.NetCommands
  refine ⟨fun c s h ht hp => ?port, fun c s h ht hp ho hv hh hi => ?portSet, fun c s m u h hs hz hv hm hu hml hul hmu => ?vlan,
    fun c s p h hs hz hv hl hp hf hn hr => ?add, fun c s h hs hz hv hl ha => ?remove, fun c s h hs hp hv => ?flush,
    fun c s h hs hz h1 h2 => ?age, fun c s h hs hz hv => ?vlanRead, fun c s q h ht hq hl => ?mark,
    fun c s q h ht hq hl h1 hz hk hm he => ?markSet, fun c s h ht hp => ?area,
    fun c s h ht hp h0 h1 hz hl => ?areaSet, fun c s h h0 ht hz h64 hl hs hm => ?shrink,
    fun s n hd hs hu => exec_overflowShrinkDrained hd hs hu, fun s n hd hs hn => exec_overflowShrinkTimeout hd hs hn,
    fun c s h ht hp => ?reseq, fun c s h ht hp h0 hz hw hw' hu hu' => ?reseqSet, fun c s h ht hp => ?count,
    length_netCounterReport, fun c s h ht hp => ?clear, fun c s k h ht hl h0 hk hz hw hw' => ?threshold⟩
  case port => exact runCmd_carried h (netPortCfgBody_reads (s := fresh s) ht hp)
  case portSet => exact runCmd_carried h (netPortCfgBody_applies (s := fresh s) ht hp ho hv hh hi)
  case vlan =>
    subst hm hu
    exact runCmd_named h hs (vlanSetOp_sets hz hv hml hul hmu)
  case add => exact runCmd_named h hs (vlanAddOp_adds (s := fresh s) hz hv hl hp hf hn hr)
  case remove => exact runCmd_named h hs (vlanRemoveOp_removes (s := fresh s) hz hv hl ha)
  case flush => exact runCmd_named h hs (vlanFlushOp_flushes hp hv)
  case age => exact runCmd_named h hs (vlanAgeOp_sets hz h1 h2)
  case vlanRead => exact runCmd_named h hs (vlanReadOp_reads (s := fresh s) hz hv)
  case mark => exact runCmd_carried h (netMarkCfgBody_reads (s := fresh s) ht hq hl)
  case markSet => exact runCmd_carried h (netMarkCfgBody_sets (s := fresh s) ht hq hl h1 hz hk hm he)
  case area => exact runCmd_named h (overflowPorts_of_empty hp) (overflowPortOp_reads (s := fresh s) ht hp)
  case areaSet => exact runCmd_named h (overflowPorts_of_eq h0) (overflowPortOp_sets (s := fresh s) ht hp h1 hz hl)
  case shrink =>
    exact runCmd_named h (beq_iff_eq.2 h0) (overflowShrinkOp_starts (s := fresh s) ht hz h64 hl hs hm)
  case reseq => exact runCmd_carried h (netReseqCfgBody_reads (s := fresh s) ht hp)
  case reseqSet => exact runCmd_carried h (netReseqCfgBody_sets (s := fresh s) ht hp h0 hz hw hw' hu hu')
  case count => exact runCmd_named h (List.isEmpty_iff.2 hp) (netCountersReadOp_reads (s := fresh s) ht)
  case clear => exact runCmd_named h (netCountsClear_of_eq hp) (netCountersClearOp_clears (s := fresh s) ht)
  case threshold =>
    exact runCmd_named h (netCountsThreshold_of_eq hl h0) (netCountersThresholdOp_sets (s := fresh s) ht hk hz hw hw')

end Sys2Proof.Machine
end

section
/-! SUPPORT. What the switch does with frames, links, pauses, addresses and its timers. -/
namespace Sys2Proof.Machine

set_option Elab.async false

variable {s : State} {p : EthPort}

/-- Units below XON are not paused again. -/
theorem foldl_sendPause_unset (us : List Nat) (h : ∀ u ∈ us, s.net.ports[swOfEth p].xoff.getLsbD u = false) :
    us.foldl (fun s u => if s.net.ports[swOfEth p].xoff.getLsbD u then sendPause p u 0xFFFF s else s) s = s := by
  induction us with
  | nil => rfl
  | cons u us ih =>
    rw [List.foldl_cons, h u (List.mem_cons_self ..), if_neg Bool.false_ne_true]
    exact ih fun v hv => h v (List.mem_cons_of_mem u hv)

section Running
variable (hd : dataOn s = true)
include hd

/-! ### Frames (R318, R324, R329, R392) -/

theorem exec_ethFrameReceive (f : List Byte) (good : Bool) (hu : s.net.eth[p].up = true) :
    exec (.ethFrameReceive p f good) s =
      .next (receiveEth p f good (countCoding p good (replicate (.eth p f good) f.length s))) := by
  have hx : exec (.ethFrameReceive p f good) s = execEthFrameReceive p f good s := rfl
  rw [hx, execEthFrameReceive, runCore_on hd]
  simp only [hu, if_true]

/-- The message at the head of a virtual port's tunnel enters the switch, while its core is not isolated. -/
theorem exec_netMessageReceive {h : HostNo} {i : Byte} {v : Tunnel} {m : Message} {t : State}
    (hv : findTunnel s h i = some v) (hn : isNetTunnel v = true) (hc : v.cross = none)
    (ht : takeMessage h i s = some (m, t)) (he : engineOut t [9, 10] = false) : exec (.netMessageReceive h i) s =
      .next (receiveVirtual (virtualPort h v.endpoint.toNat) m.bytes m.broken (!v.guarded) t) := by
  have hx : exec (.netMessageReceive h i) s = execNetMessageReceive h i s := rfl
  rw [hx, execNetMessageReceive, runCore_on hd]
  simp only [hv, hn, hc, ht, he, Option.isNone_none, Bool.and_self, Bool.false_eq_true, if_false, if_true]

theorem exec_netEgressSelect (q : SwPort) : exec (.netEgressSelect q) s = .next (selectEgress q s) := runCore_on hd

/-! ### Links (R321) -/

theorem exec_ethLinkChange_up (v : BitVec 3) (a b : Bool) (hl : linkAllowed s p = true) (hu : s.net.eth[p].up = false) :
    exec (.ethLinkChange p true v a b) s = .next (raise .all (ethEvent p) 1 (updEth p (fun x => { x with
      up := true, speed := linkSpeed (ncIface s.net.ports[swOfEth p]) v, pauseTx := a, pauseRx := b }) s)) := by
  have hx : exec (.ethLinkChange p true v a b) s = execEthLinkChange p true v a b s := rfl
  rw [hx, execEthLinkChange, runCore_on hd]
  simp only [hl, hu, Bool.not_true, Bool.false_eq_true, if_false, if_true]

theorem exec_ethLinkChange_down (v : BitVec 3) (a b : Bool) :
    exec (.ethLinkChange p false v a b) s = .next (ethDown p s) := by
  have hx : exec (.ethLinkChange p false v a b) s = execEthLinkChange p false v a b s := rfl
  rw [hx, execEthLinkChange, runCore_on hd]
  simp only [Bool.not_false, if_true]

/-! ### Pauses (R333, R334) -/

theorem exec_pauseRefreshTimeout : exec (.pauseRefreshTimeout p) s = .next ((List.range 8).foldl (fun s u =>
    if s.net.ports[swOfEth p].xoff.getLsbD u then sendPause p u 0xFFFF s else s) s) := by
  have hx : exec (.pauseRefreshTimeout p) s = execPauseRefreshTimeout p s := rfl
  rw [hx, execPauseRefreshTimeout, runCore_on hd]

/-- No unit above XON: nothing is sent. -/
theorem exec_pauseRefreshTimeout_none (hx : s.net.ports[swOfEth p].xoff = 0) :
    exec (.pauseRefreshTimeout p) s = .next s := by
  rw [exec_pauseRefreshTimeout hd, foldl_sendPause_unset _ fun u _ => by rw [hx]; exact BitVec.getLsbD_zero]

/-- Unit 7 alone above XON: its XOFF is sent again. -/
theorem exec_pauseRefreshTimeout_last (hx : s.net.ports[swOfEth p].xoff = 0x80) :
    exec (.pauseRefreshTimeout p) s = .next (sendPause p 7 0xFFFF s) := by
  have hlow : ∀ u ∈ List.range 7, s.net.ports[swOfEth p].xoff.getLsbD u = false := by
    intro u hu
    have h7 : u < 7 := List.mem_range.1 hu
    rw [hx]
    interval_cases u <;> rfl
  rw [exec_pauseRefreshTimeout hd, List.range_succ, List.foldl_append, foldl_sendPause_unset _ hlow, List.foldl_cons,
    List.foldl_nil, hx, if_pos (by decide)]

theorem exec_pauseQuantaExpiry (m : Byte) : exec (.pauseQuantaExpiry p m) s =
    .next (updSw (swOfEth p) (fun x => { x with paused := x.paused &&& ~~~m }) s) := runCore_on hd

/-! ### Timers (R323, R337, R338, R343) -/

theorem exec_addressAgingTimeout (a : BitVec 48) (v : BitVec 12) : exec (.addressAgingTimeout a v) s =
    .next (updNet (fun n => { n with addrs := n.addrs.filter (fun e => !(sameAddr a v e && !e.fixed && aged s e)) }) s) := by
  have hx : exec (.addressAgingTimeout a v) s = execAddressAgingTimeout a v s := rfl
  rw [hx, execAddressAgingTimeout, runCore_on hd]

omit hd in
/-- The addresses that aging leaves. -/
theorem mem_filter_aged (a : BitVec 48) (v : BitVec 12) (es : List NetAddr) (e : NetAddr) :
    e ∈ es.filter (fun e => !(sameAddr a v e && !e.fixed && aged s e)) ↔
      e ∈ es ∧ ¬ (e.addr = a ∧ e.vid = v ∧ e.fixed = false ∧ aged s e = true) := by
  rw [List.mem_filter, Bool.not_eq_true', ← Bool.not_eq_true]
  simp only [sameAddr, Bool.and_eq_true, beq_iff_eq, Bool.not_eq_true', and_assoc]

theorem exec_overflowReadbackDone (q : Fin 8) (n : BitVec 16) (g : Bool) :
    exec (.overflowReadbackDone p q n g) s = .next (readbackDone p q n g s) := runCore_on hd

omit hd in
/-- A number is missing where no entry has it and one that is on-die waits for it: the oldest entry is then another. -/
theorem missingNext_of_waiting {x : NetQueue} (hn : x.entries.any (fun e => e.seq == x.nextRel) = false)
    (hw : x.entries.any (fun e => e.place == .onDie && decide ((e.seq - x.nextRel).toNat < 32768)) = true) :
    missingNext x = true := by
  match hd : x.entries.dropWhile (fun e => e.place == .onDie && decide (32768 ≤ (e.seq - x.nextRel).toNat)) with
  | [] =>
    obtain ⟨e, he, hwait⟩ := List.any_eq_true.1 hw
    have hpast := List.dropWhile_eq_nil_iff.1 hd e he
    simp only [Bool.and_eq_true, decide_eq_true_eq] at hwait hpast
    omega
  | e :: es =>
    have he : e ∈ x.entries := (List.dropWhile_sublist _).subset (hd ▸ List.mem_cons_self ..)
    rw [missingNext, oldest, hd]
    exact bne_iff_ne.2 fun h => List.any_eq_false.1 hn e he (beq_iff_eq.2 h)

/-- A missing number for which a later frame waits is given up. -/
theorem exec_reseqTimeout (q : Fin 8) (hr : s.net.eth[p].reseq = true)
    (hn : s.net.ports[swOfEth p].queues[q].entries.any (fun e => e.seq == s.net.ports[swOfEth p].queues[q].nextRel) = false)
    (hw : s.net.ports[swOfEth p].queues[q].entries.any (fun e => e.place == .onDie &&
      decide ((e.seq - s.net.ports[swOfEth p].queues[q].nextRel).toNat < 32768)) = true) :
    exec (.reseqTimeout p q) s = .next (settleQueue p q (giveUp p q s)) := by
  have hx : exec (.reseqTimeout p q) s = execReseqTimeout p q s := rfl
  rw [hx, execReseqTimeout, runCore_on hd]
  simp only [hr, missingNext_of_waiting hn hw, hw, Bool.and_self, if_true]

theorem exec_netCounterWindow (q : SwPort) (k : Fin 24) : exec (.netCounterWindow q k) s =
    .next (updSw q (fun x => { x with thresholds := upd x.thresholds k (fun t => { t with count := 0, raised := false }) }) s) :=
  runCore_on hd

end Running

/-- Settles O34: each clause by the lemma of its case. -/
theorem netTraffic : Obligations.NetTraffic := by
  unfold Obligations.NetTraffic
  exact ⟨fun s p f hd hu good => exec_ethFrameReceive hd f good hu,
    fun s h i v m t hd hv hn hc ht he => exec_netMessageReceive hd hv hn hc ht he,
    fun s p v a b hd hl hu => exec_ethLinkChange_up hd v a b hl hu,
    fun s p v a b hd => exec_ethLinkChange_down hd v a b,
    fun s p hd => exec_netEgressSelect hd p,
    fun s p hd hx => exec_pauseRefreshTimeout_none hd hx,
    fun s p hd hx => exec_pauseRefreshTimeout_last hd hx,
    fun s p m hd => exec_pauseQuantaExpiry hd m,
    fun s a v hd => ⟨_, exec_addressAgingTimeout hd a v, mem_filter_aged a v s.net.addrs⟩,
    fun s p q n g hd => exec_overflowReadbackDone hd q n g,
    fun s p q hd hr hn hw => exec_reseqTimeout hd q hr hn hw,
    fun s p k hd => exec_netCounterWindow hd p k⟩

end Sys2Proof.Machine
end
